-- ==== Sys2Proof/Word.lean ====
section
/-! DEFINITION. The word and byte types, and the plainest arithmetic on them (00 R5-R9, R15). -/

namespace Sys2Proof

/-- A set-up register, a descriptor word or any other 64-bit quantity (R15). -/
abbrev Word := BitVec 64

/-- One byte of memory or of a layout (R7). -/
abbrev Byte := BitVec 8

/-- Bits [lo + w - 1 : lo] of a number (R6). -/
def bits (v lo w : Nat) : Nat := v / 2 ^ lo % 2 ^ w

/-- Bit i of a number (R6). -/
def bit (v i : Nat) : Bool := v / 2 ^ i % 2 == 1

/-- A number with bit i set or clear. -/
def setBit (v i : Nat) (b : Bool) : Nat :=
  if bit v i then (if b then v else v - 2 ^ i) else (if b then v + 2 ^ i else v)

/-- Quotient rounded up. -/
def ceilDiv (a b : Nat) : Nat := (a + b - 1) / b

/-- A number as k bytes, low-order byte first (R7). -/
def leBytes : Nat → Nat → List Byte
  | 0, _ => []
  | k + 1, v => BitVec.ofNat 8 v :: leBytes k (v / 256)

/-- The number that a run of bytes holds, low-order byte first (R7). -/
def leNat : List Byte → Nat
  | [] => 0
  | b :: bs => b.toNat + 256 * leNat bs

/-- A run of bytes cut or zero-filled to k bytes. -/
def padTo (k : Nat) (bs : List Byte) : List Byte := (bs ++ List.replicate k 0).take k

/-- Bytes [at, at + k) of a run, zero where the run is shorter. -/
def sliceBytes (bs : List Byte) (off k : Nat) : List Byte := padTo k (bs.drop off)

end Sys2Proof
end

