-- ==== Sys2Proof/Operand.lean ====
section
/-! DEFINITION. The operands of the commands: what reaches the module from outside (levels, frames, packets, stitches,
readings) and the path that carries a set-up access. -/

namespace Sys2Proof

/-- The path of a set-up access: the SMBus, or the set-up window on a QP of one client (06 R152, R155). -/
inductive Path where
  | smb
  | rdma (client : Fin 64)
  deriving DecidableEq, Repr

/-- The levels of the strap pins at one sample (20 R457, 22 R483). -/
structure Straps where
  maintN : Bool
  slotId : BitVec 6
  deriving DecidableEq, Repr

/-- The inputs to which the chattering rule applies (22 R483, R484). -/
inductive ChatInput where
  | rstN | peerAlive | trstN
  deriving DecidableEq, Repr

/-- Why a port link goes down (04 R90): a condition of R88 stops holding, the PCS loses alignment, with the port-lanes to whose
PCS lanes it attributes the loss (R93), or a local or a remote fault has persisted for 10 ms. -/
inductive LinkCause where
  | condition | alignment (lanes : BitVec 4) | localFault | remoteFault
  deriving DecidableEq, Repr

/-- One VLAN tag of a received frame: its tag type and its control word (04 R98). -/
structure Tag where
  tpid : Nat
  tci : Nat
  deriving DecidableEq, Repr

/-- What a received frame carries above its tags (04 R98). IP addresses are 128 bits, an IPv4 address in the low 32. -/
inductive FrameBody where
  | pfc (vec : BitVec 8) (quanta : List Nat)
  | macControl (opcode : Nat)
  | arpRequest (target senderIp senderMac : Nat)
  | neighbourSolicit (target source : Nat)
  | roce (v6 : Bool) (dstIp : Nat) (ce : Bool)
  | echo (v6 : Bool) (dstIp srcIp : Nat) (data : List Byte)
  | wake (payload : List Byte)
  | other (etherType : Nat)
  deriving DecidableEq, Repr

/-- One received Ethernet frame; len counts destination address through FCS (04 R86, R98). -/
structure Frame where
  fcsOk : Bool
  len : Nat
  dst : Nat
  src : Nat
  tags : List Tag
  body : FrameBody
  deriving DecidableEq, Repr

/-- One received RoCEv2 packet, its headers as fields and its payload as bytes (05 R111, R117). -/
structure Packet where
  port : Fin 2
  icrcOk : Bool := true
  version : Nat := 0
  ipv6 : Bool := false
  srcIp : Nat := 0
  ce : Bool := false
  opcode : Nat := 0
  pkey : Nat := 0xFFFF
  destQpn : Nat := 0
  psn : Nat := 0
  ackReq : Bool := false
  va : Nat := 0
  rkey : Nat := 0
  dmaLen : Nat := 0
  swapAdd : Nat := 0
  compare : Nat := 0
  syndrome : Nat := 0
  payload : List Byte := []
  deriving DecidableEq, Repr

/-- The packet error code of an SMBus write: right, wrong, or absent (06 R156). -/
inductive Pec where
  | good | wrong | absent
  deriving DecidableEq, Repr

/-- One SMBus Block Write: its count and its bytes (06 R155, R156). -/
structure SmbBlock where
  count : Nat
  data : List Byte
  pec : Pec
  deriving DecidableEq, Repr

/-- How a doorbell reaches Shuttle: an RDMA WRITE to the doorbell of ring r, or a SEND (07 R164). -/
inductive DoorbellForm where
  | write (ring : Fin 4)
  | send
  deriving DecidableEq, Repr

/-- A codeword that is fetched on the way to a granule: a copy of its line of the map, its line of dwell records, its tag line, or the
tree node of a level above it or that node's tag (09 R232, R239, 13 R324, R336, 15 R367). -/
inductive PathWord where
  | map (copy : Fin 2)
  | dwell
  | tags
  | node (level : Fin 3)
  | nodeTag (level : Fin 3)
  deriving DecidableEq, Repr

/-- What goes wrong while one granule is read from the stack: by sector, the stored bytes that are wrong in the
ply and what is added to them (15 R359, R360), sectors 4 to 7 being those of the other copy of a metadata granule (15 R367); and for the
codewords that are fetched on the way to it the bytes that leave their ply wrong (15 R361, R366, R367). -/
structure ReadNoise where
  flips : List (Nat × Nat × Byte) := []
  path : List (PathWord × Nat × Byte) := []
  deriving DecidableEq, Repr

/-- What goes wrong while a line is read from the stack for a descriptor (07 R181). -/
structure LineNoise where
  line : BitVec 32
  what : ReadNoise
  deriving DecidableEq, Repr

/-- A granule copied for a move: its swatch, and what goes wrong while its lines are read (09 R249, R250). -/
structure CopyReport where
  swatch : BitVec 24
  noise : List LineNoise
  deriving DecidableEq, Repr

/-- A bring-up attempt given up: the port, and its lanes whose link training failed in it (04 R89, R93). -/
structure AbandonReport where
  port : Fin 2
  untrained : BitVec 4
  deriving DecidableEq, Repr

/-- A lane of a channel: pseudo-channel, and the lane coded as in CHNc.LANEMAP (0-35 DQ, 36-40 CA) or 41-48 for SV0-SV7
(14 LANEMAP, 16 CAL.SEL). -/
structure LaneId where
  pc : Fin 2
  lane : Fin 49
  deriving DecidableEq, Repr

/-- How often the fill bursts of a sweep activated the calibration row of a bank on another channel of its tier, and how many bursts they
were: the channel and the bank's number in it (16 R383). -/
structure FillActs where
  channel : Fin 32
  bank : Fin 128
  count : Nat
  bursts : Nat := 0
  deriving DecidableEq, Repr

/-- What a Boot step found and measured (20 R457): whether the ROM check passes and whether it passes without patches
(step 3), whether the stack rails come into their windows (step 4), and what training found: lanes that failed R46 and
plies whose timing failed (channel, lane or pseudo-channel), and the activates that the fill made (16 R387). -/
structure BootReport where
  romOk : Bool := true
  railsOk : Bool := true
  lanes : List (Fin 32 × LaneId) := []
  plies : List (Fin 32 × Fin 2) := []
  swaps : List (Fin 32 × Fin 16) := []
  acts : List FillActs := []
  deriving DecidableEq, Repr

/-- Counts of one 10.24 us comparison window (03 R62, R71, R73): REFCLK edges, the scaled counts of the eight PLLs, the
replica rate, and the backup oscillator's error. -/
structure ClockWindow where
  refCount : Nat
  pllCounts : List Nat
  speed : Nat
  bkpErr : BitVec 12
  deriving DecidableEq, Repr

/-- A command that failed its parity (14 R357): the CA lanes that mismatched, whether it reads, the line and sector it
serves, and on how many reissues in a row it failed again. -/
structure CaReport where
  lanes : BitVec 5
  isRead : Bool
  line : BitVec 32
  sector : Fin 4
  failures : Nat
  deriving DecidableEq, Repr

/-- The memory in which the Thimble met an uncorrectable word (15 R369). -/
inductive ThimbleMem where
  | firmware | data | rom
  deriving DecidableEq, Repr

/-- Readings of one housekeeping round (17 R388): the 80 temperature sensors in quarter degrees, none where the
conversion failed; the 28 stack
rail sense points in mV; VIN in mV, input current in mA, the intermediate rail in mV and mA, the six phase currents in mA and the two
stage temperatures in degrees; the ratios of the 32
band oscillators in units of 2^-20 (02 R49); the energy in pJ that the base-die blocks charged to each panel position (R389); busy bus cycles of each tier in percent (16 R385); and uncorrectable RS-FEC codewords and corrected ones
by port (04 R109), those of the Tack link third (12 R306), and the bit errors that each lane's pattern checker has found since the last round (04
R108). -/
structure RoundReadings where
  sensors : List (Option Int)
  rails : List Nat
  vin : Nat
  iin : Nat
  busMv : Nat
  busMa : Nat
  phases : List Nat
  stage : List Int
  ratios : List Nat
  baseDie : List Nat
  busy : List Nat
  fecCorrected : List Nat
  fecUncorrectable : List Nat
  prbsErrors : List Nat
  deriving DecidableEq, Repr

/-- What one sweep measured (16 R379, R382, R383): passing trim codes by ply and direction as 64-bit masks (2 * ply +
direction, write first), the step size in fs, whether ladder A and ladder B rise monotonically for the base-die and the
ply reference, passing taps of each reference, passing strobe and clock-phase codes, the narrowest eye in ps, the lowest
fill level in sixteenths, and the activates that the fill made. -/
structure SweepReport where
  runs : List Nat
  stepFs : Nat
  ladders : List (Bool × Bool)
  taps : List Nat
  strobe : Nat
  phase : Nat
  eyeMin : Nat
  fill : Nat
  acts : List FillActs
  deriving DecidableEq, Repr

/-- A HEARTBEAT stitch (18 R415). -/
structure Heartbeat where
  epoch : BitVec 32
  role : BitVec 2
  pair : BitVec 3
  tick : BitVec 32
  deriving DecidableEq, Repr

/-- An IDENT stitch (18 R414, R421). -/
structure Ident where
  kcv : BitVec 24
  nonce : BitVec 128
  epoch : BitVec 32
  role : BitVec 2
  pair : BitVec 3
  fullDue : Bool
  deriving DecidableEq, Repr

/-- A TRAIN stitch's flags (18 R414, R418). -/
structure TrainFlags where
  aligned : Bool
  halfEn : Bool
  failed : BitVec 8
  deriving DecidableEq, Repr

/-- A row that failed BIST (20 R459): its place, whether it is a spare or a metadata row, and its first failing bit. -/
structure RowFail where
  channel : Fin 32
  pc : Fin 2
  ply : Fin 4
  bank : Fin 16
  row : Fin 32768
  spare : Bool
  granule : Fin 4
  codeword : Fin 4
  bitIx : Fin 576
  deriving DecidableEq, Repr

/-- An uncorrectable word of an on-die memory, by what it holds (15 R369): a sector of the Lining; a pool buffer of a request that a
QP holds, by its place, of a no-allocate write held for a line, of a ring's descriptor by its place, of a frame held on a port, oldest
first, of a slot at a channel, those waiting first, or of a mirror frame, oldest first; a node of the counter cache or of level 3; one copy of a node of level 4 (0) or the root (1); a line of the map cache; one
copy of a key slot, or both; a QP's context. -/
inductive SramWord where
  | lining (line : BitVec 32) (sector : Fin 4)
  | request (qp : Fin 1024) (place : Nat)
  | heldWrite (line : BitVec 32)
  | descriptor (ring : Fin 256) (place : Nat)
  | frame (port : Fin 2) (place : Nat)
  | slot (channel : Fin 32) (place : Nat)
  | mirrorFrame (place : Nat)
  | counter (level : Fin 3) (index : BitVec 25)
  | level3 (index : Fin 128)
  | treeCopy (root : Bool) (index : Fin 2) (copy : Fin 3)
  | mapLine (line : BitVec 20)
  | key (slot : Fin 4096) (copy : Option (Fin 2))
  | qpContext (qp : Fin 1024)
  deriving DecidableEq, Repr

/-- A walk of the SRAM arrays: the words corrected in it, and those found uncorrectable (15 R369). -/
structure SramReport where
  corrected : Nat
  bad : List SramWord
  deriving DecidableEq, Repr

/-- A JTAG debug access to logical memory (13 R338): a write of bytes or a read of a length, at a Fabric Address. -/
structure DebugAccess where
  write : Bool
  va : BitVec 64
  len : Nat
  data : List Byte
  deriving DecidableEq, Repr

end Sys2Proof
end

