-- ==== Sys2Proof/Syntax.lean ====
section
/-! DEFINITION. The commands of the block: one constructor for each row of the table of operations and events. -/

namespace Sys2Proof

/-- A command: an input from outside, a step of one of the module's own engines, or a set-up write with a row of its
own. -/
inductive Instr where
  /-- POWER_GOOD (R457): Power-good asserts; the time base starts at zero and Boot begins with strap sampling and the OTP margin read. -/
  | powerGood (straps : Straps) (rstN : Bool)
  /-- POWER_LOSS (R408): Power-good falls because VIN drops to 8.5 V or rises to 62 V; all volatile state is lost. -/
  | powerLoss
  /-- RST_N_LOW (R485): The filtered RST_N goes low; ALIVE is driven low, ports and the Tack link are squelched, and the reset is held once any commit in progress ends. -/
  | rstNLow
  /-- RST_N_RELEASE (R457): The filtered RST_N goes high and Boot starts. -/
  | rstNRelease
  /-- STRAP_SAMPLE (R483): A 100 µs strap sample falls due; the seventh sample fixes MAINT_N and SLOT_ID by majority. -/
  | strapSample (straps : Straps)
  /-- CHATTER_RELEASE (R484): 10 ms pass with no filtered edge on a chattering input; it is released at its present level. -/
  | chatterRelease (inp : ChatInput)
  /-- BOOT_STEP_DONE (R457): A Boot step completes and the next step of the Boot sequence starts, or Boot records a failure. -/
  | bootStepDone (r : BootReport)
  /-- BOOT_REFCLK_TIMEOUT (R72): REFCLK is not judged good within 50 ms of power-good; Boot continues on the backup oscillator with ports and Tack link down. -/
  | bootRefclkTimeout
  /-- S32_GENERATION_FORMED (R227): A due S32 generation is formed in the entry that has just freed and becomes CURRENT. -/
  | s32GenerationFormed
  /-- REF_WINDOW_END (R71): A 10.24 µs comparison window ends; REFCLK and PLL counts are judged in or out of range and WEAVE_SPEED is updated. -/
  | refWindowEnd (w : ClockWindow)
  /-- PLL_HOLDOVER (R77): A PLL reference shows no edge for 160 ns and the PLL freezes its loop in holdover. -/
  | pllHoldover (pll : Fin 8)
  /-- REF_MUX_FORCED_SWITCH (R76): The clock being left shows no edge for 640 ns; the reference mux switches without handshake and sets FORCED. -/
  | refMuxForcedSwitch
  /-- REF_MUX_SWITCH_DONE (R76): A handshake switch of the reference mux completes on the edges it waited for. -/
  | refMuxSwitchDone
  /-- CLK_BACKUP_LOST (R80): No backup oscillator edge for 64 REFCLK periods; CLK_BACKUP_LOST is raised and reference-loss detection stops. -/
  | clkBackupLost
  /-- RETURN_NOW (R78): Steward writes CLK.CTRL.RETURN_NOW; the module returns to REFCLK if it is judged good. -/
  | returnNow (path : Path)
  /-- PORT_BRINGUP_START (R88): All bring-up conditions hold for a port and auto-negotiation, training and alignment begin. -/
  | portBringupStart (p : Fin 2)
  /-- LINK_UP (R88): A port completes bring-up with no fault signalled and starts passing frames; a link-up event is posted. -/
  | linkUp (p : Fin 2)
  /-- BRINGUP_ABANDON (R89): A bring-up attempt has not brought the link up within 15 s and is abandoned; ETH_LINK_DOWN may be raised. -/
  | bringupAbandon (p : AbandonReport)
  /-- BRINGUP_RETRY (R89): The 1 s wait after an abandoned attempt expires and a new bring-up attempt starts. -/
  | bringupRetry (p : Fin 2)
  /-- LINK_DOWN (R90): A port link goes down; queued transmit frames are discarded, LINK_EVT counts it and a link-down event is posted. -/
  | linkDown (p : Fin 2) (cause : LinkCause)
  /-- ADMIN_UP_WRITE (R91): Steward writes ETHn.CTRL; ADMIN_UP takes effect at once and other fields at the next bring-up. -/
  | adminUpWrite (p : Fin 2) (v : BitVec 64) (path : Path)
  /-- RESTORE_FULL (R96): Steward writes RESTORE_FULL; the link is taken down and a 400 Gb/s bring-up on all four lanes starts. -/
  | restoreFull (p : Fin 2) (v : BitVec 64) (path : Path)
  /-- LOS_ASSERT (R92): A lane input stays below 50 mV for 1 µs; LOS asserts and SDS_LOS is raised. -/
  | losAssert (lane : Fin 16)
  /-- LOS_DEASSERT (R92): A lane input stays above 80 mV for 10 µs and LOS deasserts. -/
  | losDeassert (lane : Fin 16)
  /-- LOL_ASSERT (R92): Clock and data recovery loses phase lock; LOL asserts and SDS_LOL is raised. -/
  | lolAssert (lane : Fin 16)
  /-- LOL_DEASSERT (R92): Lock has held for 100 µs and LOL deasserts. -/
  | lolDeassert (lane : Fin 16)
  /-- LANE_DECLARED_FAILED (R93): A port-lane meets a failure condition and is declared failed; the port falls back or stays down. -/
  | laneDeclaredFailed (lane : Fin 16)
  /-- FRAME_RECEIVED (R98): A port receives a whole Ethernet frame and applies the receive filter, delivering, answering or discarding it. -/
  | frameReceived (p : Fin 2) (f : Frame)
  /-- PFC_FRAME_RECEIVED (R103): A PFC frame is received and new frames of each paused priority stop within 1 µs, or resume on zero quanta. -/
  | pfcFrameReceived (p : Fin 2) (vec : BitVec 8) (quanta : List Nat)
  /-- PAUSE_EXPIRY (R103): The pause time of a paused priority expires and transmission of that priority resumes. -/
  | pauseExpiry (p : Fin 2) (prio : Fin 8)
  /-- PFC_XOFF (R101): Buffers held for a lossless priority reach XOFF and the port sends a PFC frame pausing it. -/
  | pfcXoff (p : Fin 2) (prio : Fin 8)
  /-- PFC_REPEAT (R101): QUANTA × 256 bit times pass while the count is at or above XON and the PFC frame is sent again. -/
  | pfcRepeat (p : Fin 2) (prio : Fin 8)
  /-- PFC_XON (R101): Buffers held for a lossless priority fall below XON and a zero-quanta PFC frame is sent. -/
  | pfcXon (p : Fin 2) (prio : Fin 8)
  /-- WAKE_FRAME (R105): The wake port in Hold receives a valid wake frame, which requests Serve. -/
  | wakeFrame (p : Fin 2) (f : Frame)
  /-- BITSLIP (R108): Steward writes SDS.CTRL.BITSLIP on an unaligned Tack lane and the deserializer boundary shifts one bit. -/
  | bitslip (lane : Fin 16) (path : Path)
  /-- PRBS_CHECKER_LOCK (R108): The pattern checker sees 64 error-free symbols and locks, then counts bit errors. -/
  | prbsCheckerLock (lane : Fin 16)
  /-- SEND_ONLY (R164): A SEND Only packet arrives on a QP; after the inbound checks its 8 bytes are taken as a doorbell. -/
  | sendOnly (pkt : Packet)
  /-- RDMA_WRITE (R122): An RDMA WRITE packet arrives; it passes the inbound checks, admission and rights checks and its lines are written in PSN order. -/
  | rdmaWrite (pkt : Packet)
  /-- RDMA_READ_REQUEST (R122): An RDMA READ Request arrives; after checks its data is read and READ Response packets are sent. -/
  | rdmaReadRequest (pkt : Packet)
  /-- ATOMIC_COMPARE_SWAP (R122): An ATOMIC CompareSwap arrives and is executed atomically on 8 aligned bytes, answered with the original value. -/
  | atomicCompareSwap (pkt : Packet)
  /-- ATOMIC_FETCH_ADD (R122): An ATOMIC FetchAdd arrives and is executed atomically on 8 aligned bytes, answered with the original value. -/
  | atomicFetchAdd (pkt : Packet)
  /-- ACK_DELAY_EXPIRY (R123): ACK_DELAY passes since the oldest unacknowledged accepted packet and an ACK is sent. -/
  | ackDelayExpiry (qp : Fin 1024)
  /-- READ_RESPONSE_RECEIVED (R128): A READ response for one of the module's own requests arrives and its data is delivered to Shuttle. -/
  | readResponseReceived (pkt : Packet)
  /-- ACK_RECEIVED (R128): An acknowledgement for the module's own requests arrives and the acknowledged packets are retired. -/
  | ackReceived (pkt : Packet)
  /-- NAK_RECEIVED (R128): A NAK arrives for the module's own requests; on 0x60 it retransmits, on a fatal NAK the QP enters ERROR. -/
  | nakReceived (pkt : Packet)
  /-- RNR_NAK_RECEIVED (R128): An RNR NAK arrives; the module uses up an RNR retry and waits the coded time, or enters ERROR. -/
  | rnrNakReceived (pkt : Packet)
  /-- RNR_WAIT_EXPIRY (R128): The RNR wait expires and the module retransmits. -/
  | rnrWaitExpiry (qp : Fin 1024)
  /-- ACK_TIMEOUT (R128): The requester acknowledgement timer expires; the module retransmits go-back-N or enters ERROR when no retry is left. -/
  | ackTimeout (qp : Fin 1024)
  /-- CNP_RECEIVED (R131): A CNP arrives for a QP; its rate is halved if the interval since the last cut has passed, and the increase period restarts. -/
  | cnpReceived (pkt : Packet)
  /-- RATE_STEP (R131): STEP_PERIOD passes with no CNP and the QP rate rises by RATE_STEP up to line rate. -/
  | rateStep (qp : Fin 1024)
  /-- QP_STATE_WRITE (R114): Steward writes XPT.QP_STATE; the requested QP transition is applied or refused. -/
  | qpStateWrite (v : BitVec 64) (path : Path)
  /-- QP_BIND (R136): Steward writes BLT.QP_BIND with UNBIND clear and the QP is bound to a valid client. -/
  | qpBind (v : BitVec 64) (path : Path)
  /-- QP_UNBIND (R136): Steward writes BLT.QP_BIND with UNBIND set and the QP binding is removed. -/
  | qpUnbind (v : BitVec 64) (path : Path)
  /-- BOLT_CREATE (R141): Steward writes CMD CREATE; the checks run and an accepted bolt enters CREATING with its map set to zero. -/
  | boltCreate (v : BitVec 64) (path : Path)
  /-- BOLT_CREATE_DONE (R141): A creating bolt is ready and enters ACTIVE. -/
  | boltCreateDone (bolt : Fin 1024)
  /-- BOLT_DELETE (R142): Steward writes CMD DELETE; an accepted bolt enters DELETING, its Lining lines are discarded and its moves end. -/
  | boltDelete (v : BitVec 64) (path : Path)
  /-- BOLT_DELETE_DONE (R142): A deleting bolt is drained; its frames, leaves and charge return and it enters FREE. -/
  | boltDeleteDone (bolt : Fin 1024)
  /-- GRANT_ISSUE (R145): Steward writes CMD ISSUE; the grant is checked and issued with a new generation. -/
  | grantIssue (v : BitVec 64) (path : Path)
  /-- GRANT_REVOKE (R145): Steward writes CMD REVOKE and the grant returns to FREE. -/
  | grantRevoke (v : BitVec 64) (path : Path)
  /-- SMB_SET_ADDR (R155): An SMBus SET_ADDR block write sets the indirect address and AUTO_INC. -/
  | smbSetAddr (w : SmbBlock)
  /-- SMB_DATA_WRITE (R156): An SMBus DATA block write with valid PEC writes the register at the indirect address. -/
  | smbDataWrite (w : SmbBlock)
  /-- SMB_DATA_READ (R155): An SMBus DATA block read returns the register at the indirect address with PEC. -/
  | smbDataRead
  /-- SMB_RESP_READ (R155): An SMBus RESP block read returns GLB.SETUP_RESP_SMB. -/
  | smbRespRead
  /-- SMB_TIMEOUT (R156): SCL is held low for more than 35 ms and the transaction is abandoned. -/
  | smbTimeout
  /-- SMB_ALERT_RESPONSE (R455): A read of the Alert Response Address is answered with the module's SMBus address. -/
  | smbAlertResponse
  /-- SETUP_WRITE (R157): A set-up write to a register with no row of its own is applied or refused and the response register is set. -/
  | setupWrite (off : BitVec 20) (v : BitVec 64) (path : Path)
  /-- RC_READ (R16): A read of a register with RC fields returns them and clears them in the same access. -/
  | rcRead (off : BitVec 20) (path : Path)
  /-- DOORBELL (R166): A doorbell reaches Shuttle; heads are applied, RESUME is applied and the tail is set, or it is ignored. -/
  | doorbell (client : Fin 64) (form : DoorbellForm) (v : BitVec 64)
  /-- RING_ENABLE (R162): Steward writes RING_CTRL CMD ENABLE; the ring is checked and put in ACTIVE with indices reset. -/
  | ringEnable (v : BitVec 64) (path : Path)
  /-- RING_RESET (R186): Steward writes RING_CTRL CMD RESET and the ring enters DRAINING. -/
  | ringReset (v : BitVec 64) (path : Path)
  /-- RING_DRAINED (R186): A draining ring has completed its started descriptors and becomes DISABLED. -/
  | ringDrained (ring : Fin 256)
  /-- RING_HALT (R183): Steward writes RING_CTRL CMD HALT and the ring halts. -/
  | ringHalt (v : BitVec 64) (path : Path)
  /-- EQ_ENABLE (R192): Steward sets SHU.EQ_CTRL.EN; the event queue is checked and posts from index 0 with phase 1. -/
  | eqEnable (v : BitVec 64) (path : Path)
  /-- DESCRIPTOR_FETCH (R168): An ACTIVE ring with head ≠ tail and room issues an RDMA READ fetch of descriptors. -/
  | descriptorFetch (ring : Fin 256)
  /-- DESCRIPTORS_FETCHED (R169): Fetched descriptors arrive and are accepted up to the first with OWN = 0. -/
  | descriptorsFetched (ring : Fin 256)
  /-- DESCRIPTOR_START (R172): A consumed descriptor passes its checks, ordering and first buffer, and starts. -/
  | descriptorStart (ring : Fin 256)
  /-- DESCRIPTOR_COMPLETE (R178): A descriptor completes; its record is posted when required, in order and within CQ space. -/
  | descriptorComplete (ring : Fin 256)
  /-- COPY (R189): A COPY descriptor copies bytes from SRC_A to DST inside the module. -/
  | copy (ring : Fin 256) (noise : List LineNoise)
  /-- FILL (R189): A FILL descriptor writes the repeated IMM0 pattern over DST. -/
  | fill (ring : Fin 256) (noise : List LineNoise)
  /-- READ_OUT (R190): A READ_OUT descriptor sends module data to client memory in RDMA WRITE messages. -/
  | readOut (ring : Fin 256) (noise : List LineNoise)
  /-- WRITE_IN (R190): A WRITE_IN descriptor fetches client data by RDMA READ and writes it into a bolt. -/
  | writeIn (ring : Fin 256) (noise : List LineNoise)
  /-- FENCE (R174): A FENCE descriptor holds later descriptors until earlier work and records have completed. -/
  | fence (ring : Fin 256)
  /-- NOP (R191): A NOP descriptor completes OK when it starts. -/
  | nop (ring : Fin 256)
  /-- HINT (R247): A HINT descriptor writes SW_HINT and URGENT into the dwell records of the swatches it touches. -/
  | hint (ring : Fin 256)
  /-- FLUSH (R275): A FLUSH descriptor writes back dirty sectors in its range and optionally invalidates the lines. -/
  | flush (ring : Fin 256)
  /-- REDUCE (R207): A REDUCE descriptor combines elements per segment by the fixed tree. -/
  | reduce (ring : Fin 256) (noise : List LineNoise)
  /-- SELECT (R209): A SELECT descriptor evaluates a predicate on each element and outputs values, indices or a bitmap. -/
  | select (ring : Fin 256) (noise : List LineNoise)
  /-- GATHER (R211): A GATHER descriptor writes table elements named by an index list in list order. -/
  | gather (ring : Fin 256) (noise : List LineNoise)
  /-- SCATTER (R211): A SCATTER descriptor writes values to table elements named by an index list. -/
  | scatter (ring : Fin 256) (noise : List LineNoise)
  /-- MATCH (R213): A MATCH descriptor reports every offset where the masked pattern matches. -/
  | matchOp (ring : Fin 256) (noise : List LineNoise)
  /-- HISTOGRAM (R214): A HISTOGRAM descriptor counts elements into 256 bins by key byte and writes or accumulates them. -/
  | histogram (ring : Fin 256) (noise : List LineNoise)
  /-- ATOMIC_BATCH (R216): An ATOMIC_BATCH descriptor applies each entry atomically to the target region. -/
  | atomicBatch (ring : Fin 256) (noise : List LineNoise)
  /-- FILL_COMPLETE (R264): A channel read for a Lining fill returns; each sector is corrected, checked and decrypted and waiting requests are served or failed. -/
  | fillComplete (line : BitVec 32) (noise : ReadNoise)
  /-- WRITE_BACK_ACCEPTED (R267): The channel controller accepts a sector write-back and the sector's DIRTY bit clears. -/
  | writeBackAccepted (line : BitVec 32) (sector : Fin 4)
  /-- WRITE_BACK_RETRY (R268): 10 µs after a write-back failed a command error, it is retried; after four failures LINING_WB_FAIL is raised. -/
  | writeBackRetry (line : BitVec 32) (sector : Fin 4) (commandError : Option (BitVec 5))
  /-- CLEANER_START (R270): Dirty lines exceed DIRTY_HIGH and the cleaner starts writing back lines in every slice until DIRTY_LOW. -/
  | cleanerStart
  /-- CLEAN_ALL (R270): Steward writes LNG.CMD.CLEAN_ALL and every dirty line is written back once. -/
  | cleanAll (v : BitVec 64) (path : Path)
  /-- BOBBIN_BUFFER_FREED (R297): A Bobbin pool buffer frees and goes to the waiting request of the highest class. -/
  | bobbinBufferFreed
  /-- SLOT_ISSUE (R344): A channel controller with credit admits a waiting slot and issues its DRAM commands. -/
  | slotIssue (c : Fin 32)
  /-- ROW_IDLE_PRECHARGE (R345): An open row is idle for PAGE_IDLE and is precharged. -/
  | rowIdlePrecharge (c : Fin 32) (bank : Fin 128)
  /-- REF_DUE (R348): tREFI passes for a ply and a REF is issued, postponed or forced. -/
  | refDue (c : Fin 32) (pc : Fin 2) (ply : Fin 4) (blocked : Bool)
  /-- RH_WINDOW_BOUNDARY (R352): A 32 ms window boundary is reached and every activate table is cleared. -/
  | rhWindowBoundary
  /-- CA_PARITY_ERROR (R357): A command fails CA parity; CA lanes are recalibrated and the command reissued, or an uncorrectable command error is logged. -/
  | caParityError (c : Fin 32) (pc : Fin 2) (r : CaReport)
  /-- ERRLOG_POP (R358): Steward writes CHNc.ERRLOG_CTRL.POP and the head entry of the error log is removed. -/
  | errlogPop (c : Fin 32) (path : Path)
  /-- BUCKET_LEAK (R366): A leak period ends and every nonzero bucket level falls by one, rearming at REARM. -/
  | bucketLeak
  /-- SCRUB_READ_DONE (R372): A scrubber granule read returns; corrected codewords are written back at once and uncorrectables handled. -/
  | scrubReadDone (c : Fin 32) (noise : ReadNoise)
  /-- SCRUB_LAP_WARN (R373): The lap in progress exceeds LAP_WARN_S and SCRUB_SLOW is raised once. -/
  | scrubLapWarn
  /-- SRAM_WALK (R369): The Thimble's hardware walks its SRAM and mask ROM once per second, correcting words. -/
  | sramWalk (corrected : SramReport)
  /-- THIMBLE_FETCH_UC (R369): A Thimble fetch or load meets an uncorrectable word; a trap reloads the page. -/
  | thimbleFetchUc (kind : ThimbleMem)
  /-- EPOCH_START (R243): A placement epoch begins; a snapshot is taken, moves are planned and started, and heat and sweep are advanced. -/
  | epochStart
  /-- MOVE_COPY_DONE (R250): Every granule is copied and the swatch's dirty lines are written back; the map entry flips to the target. -/
  | moveCopyDone (swatch : CopyReport)
  /-- OLD_FRAME_FREE (R248): Every request that looked up the old entry has ended and the old frame and move record are freed. -/
  | oldFrameFree (swatch : BitVec 24)
  /-- RESTITCH_GO (R256): Steward writes PLC.RESTITCH.GO and restitch of the named range starts in ZERO or PARTNER mode. -/
  | restitchGo (v : BitVec 64) (path : Path)
  /-- RESTITCH_END (R257): The last swatch of a restitch is processed or it stops, and its state reads done or stopped. -/
  | restitchEnd
  /-- METADATA_REBUILT (R231): The rebuild of a torn map or two-copy metadata part from its other copy completes. -/
  | metadataRebuilt
  /-- WINDOW_BOUNDARY (R285): A 100 µs regulation window ends; a new F takes effect, misses are judged and events posted. -/
  | windowBoundary
  /-- DEMOTED_SLOT_AGED (R289): A DEMOTED slot has waited AGE_US and is promoted to NORMAL. -/
  | demotedSlotAged (c : Fin 32) (master : Fin 80)
  /-- GUARANTEE_WRITE (R290): Steward writes QOS.MASTER; the budget and guarantee are checked against the admission limit. -/
  | guaranteeWrite (v : BitVec 64) (path : Path)
  /-- CREDIT_PERIOD (R400): A 10 µs credit period starts and every cell receives fresh credit, scaled to the module cap. -/
  | creditPeriod
  /-- DUMP_LATCH (R307): A dump period tick arrives; all counters are latched and a dump record starts, or the latch is skipped. -/
  | dumpLatch
  /-- DUMP_RECORD_DONE (R310): The dumper's record writes are all accepted and the record is complete. -/
  | dumpRecordDone
  /-- KEY_LOAD (R314): Steward writes KEY_CTRL CMD LOAD; the blob is unwrapped into the selected slot and working keys derived. -/
  | keyLoad (v : BitVec 64) (path : Path)
  /-- KEY_CLEAR (R316): Steward writes KEY_CTRL CMD CLEAR and an unused slot is zeroed and set EMPTY. -/
  | keyClear (v : BitVec 64) (path : Path)
  /-- KEY_LIMIT_WRITE (R329): Steward writes PRT.CFG; a lowered KEY_LIMIT_LOG2 moves slots at their limit to KEY_EXHAUSTED. -/
  | keyLimitWrite (v : BitVec 64) (path : Path)
  /-- REKEY_GO (R331): Steward writes PRT.REKEY.GO; the staging slot becomes STAGED and the bolts of K enter REKEYING. -/
  | rekeyGo (v : BitVec 64) (path : Path)
  /-- REKEY_CONVERSION_DONE (R332): Every leaf group is converted; K takes K′'s material, K′ is cleared and the bolts return to ACTIVE. -/
  | rekeyConversionDone
  /-- SCAN_ENTER (R464): The JTAG SCAN_ENTER instruction is accepted in Maintenance; state is cleared and verified before scan is enabled. -/
  | scanEnter (readback : List Bool)
  /-- WAVE_START (R355): An operating-point wave starts for a tier and its channels enter their window. -/
  | waveStart
  /-- WAVE_END (R354): A tier's window ends; its channels leave self-refresh and resume admission at the new point. -/
  | waveEnd
  /-- HOUSEKEEPING_ROUND (R388): A housekeeping round ends; sensors are cross-checked, governing temperatures, thresholds, rails, shares and the energy budget take effect. -/
  | housekeepingRound (r : RoundReadings)
  /-- SWEEP_START (R378): A channel starts its next pending calibration sweep once Hem grants the fill credit it needs. -/
  | sweepStart (c : Fin 32)
  /-- CAL_DEFER_TIMEOUT (R384): A sweep has waited DEFER_MS for full fill credit; CAL_DEFERRED is raised and it starts at the credit allowed. -/
  | calDeferTimeout (c : Fin 32)
  /-- LANE_ROTATION_POINT (R375): A bus turnaround or inserted gap is reached and pending lane or selvedge choices take effect. -/
  | laneRotationPoint (c : Fin 32) (pc : Fin 2)
  /-- SWEEP_COMPLETE (R379): A lane or ply sweep ends; codes are committed, or the lane is declared failed and repaired or narrowed. -/
  | sweepComplete (c : Fin 32) (r : SweepReport)
  /-- CAL_CMD (R377): Steward writes CAL.CMD and steward-class full calibrations are scheduled for the named channels. -/
  | calCmd (v : BitVec 64) (path : Path)
  /-- TACK_BRINGUP_START (R416): The Tack link conditions hold and link bring-up starts. -/
  | tackBringupStart
  /-- TACK_BRINGUP_TIMEOUT (R416): A Tack bring-up attempt exceeds 100 ms; TACK_LINK_DOWN is raised and a new attempt follows 10 ms later. -/
  | tackBringupTimeout
  /-- ALIGN_START (R417): Firmware writes TCK.ALIGN.START and the selected lane counts sync words. -/
  | alignStart (v : BitVec 64)
  /-- ALIGN_COUNT_DONE (R417): 1024 stitch times pass and the alignment count is complete with DONE set. -/
  | alignCountDone (lane : Fin 8) (matched : Nat)
  /-- TACK_LINK_UP (R419): Deskew completes, IDENT stitches are exchanged and the Tack link is up. -/
  | tackLinkUp
  /-- TACK_LINK_DOWN (R419): The Tack link loses alignment, a marker or a bring-up condition and goes down. -/
  | tackLinkDown
  /-- TACK_FRAME_RECEIVED (R427): A whole mirror frame arrives; if authentic and in sequence its records are applied and it is committed. -/
  | tackFrameReceived (f : List (BitVec 8)) (clean : Bool)
  /-- STITCH_ACK (R427): An ACK stitch arrives and frames up to its sequence are retired, releasing held writes. -/
  | stitchAck (seq : BitVec 64)
  /-- STITCH_RESEND (R427): A RESEND stitch arrives and the sender goes back to the frame it names. -/
  | stitchResend (seq : BitVec 64)
  /-- STITCH_HEARTBEAT (R415): A HEARTBEAT stitch arrives from the partner. -/
  | stitchHeartbeat (h : Heartbeat)
  /-- STITCH_IDENT (R441): An IDENT stitch arrives; link keys are derived and the roles are settled. -/
  | stitchIdent (d : Ident)
  /-- STITCH_HANDOVER (R442): A HANDOVER stitch arrives and this module becomes primary. -/
  | stitchHandover (epoch : BitVec 32)
  /-- STITCH_MARKER (R419): A MARKER stitch arrives on each lane in use and the deskew releases in step. -/
  | stitchMarker (waits : List Nat)
  /-- MARKER_SEND (R415): 4095 stitches pass per lane and a MARKER is sent on all lanes in one slot. -/
  | markerSend
  /-- HEARTBEAT_SEND (R415): 100 µs pass and a HEARTBEAT stitch is sent. -/
  | heartbeatSend
  /-- FRAME_CLOSE (R426): 1 µs passes since a frame took its first record and the frame closes and is sent. -/
  | frameClose
  /-- RESEND_TIMEOUT (R427): 20 µs pass without an ACK and the sender goes back to its oldest unacknowledged frame. -/
  | resendTimeout
  /-- PAIR (R422): Steward writes TCK.CTRL CMD PAIR on the primary. -/
  | pair (v : BitVec 64) (path : Path)
  /-- JOIN (R422): Steward writes TCK.CTRL CMD JOIN on the secondary. -/
  | join (v : BitVec 64) (path : Path)
  /-- UNPAIR (R442): Steward writes CMD UNPAIR and the pair is dissolved. -/
  | unpair (v : BitVec 64) (path : Path)
  /-- HANDOVER (R442): Steward writes CMD HANDOVER on a paired primary, which drains and hands the primary role over. -/
  | handover (v : BitVec 64) (path : Path)
  /-- TAKEOVER (R436): Steward writes CMD TAKEOVER on a BROKEN secondary and it takes over. -/
  | takeover (v : BitVec 64) (path : Path)
  /-- CLAIM (R438): Steward writes CMD CLAIM on a fenced module, which unfences. -/
  | claim (v : BitVec 64) (path : Path)
  /-- PKEY_LOAD (R420): Steward writes CMD PKEY_LOAD and the pair key is unwrapped and loaded. -/
  | pkeyLoad (v : BitVec 64) (path : Path)
  /-- SYNC_COMPLETE (R422): The copy has ended and every frame sent is committed; the pair state becomes PAIRED. -/
  | syncComplete
  /-- BREAK_TIMEOUT (R434): The link stays down for BREAK_MS; the primary enters BROKEN and records changes in the resync map. -/
  | breakTimeout
  /-- DECIDE_TIMEOUT (R435): DECIDE_MS passes without the takeover conditions; the secondary enters BROKEN. -/
  | decideTimeout
  /-- PEER_ALIVE_EDGE (R483): A filtered edge arrives on PEER_ALIVE. -/
  | peerAliveEdge
  /-- PEER_ALIVE_STOPPED (R435): PEER_ALIVE shows no edge for 2 ms and is counted as stopped. -/
  | peerAliveStopped
  /-- HEARTBEAT_LOST (R435): No HEARTBEAT has arrived for 3 ms. -/
  | heartbeatLost
  /-- ADDRESS_CLAIM_REPEAT (R436): 1 ms or 2 ms after a takeover the gratuitous ARP and neighbour advertisement are sent again. -/
  | addressClaimRepeat
  /-- PAIR_FENCED (R438): A primary's ALIVE shows no edge for 1.5 ms and it fences itself. -/
  | pairFenced
  /-- FAULT_INJECT (R456): Steward writes FLT.INJECT.GO in Maintenance and the source is raised with its reaction. -/
  | faultInject (v : BitVec 64) (path : Path)
  /-- KICK (R450): Firmware writes FLT.WDT.KICK, arming the watchdog and restarting its period. -/
  | kick (v : BitVec 64)
  /-- WATCHDOG_EXPIRY (R450): PERIOD_MS passes without a KICK; THIMBLE_WDT is raised and ALIVE is held low. -/
  | watchdogExpiry
  /-- THIMBLE_RESET_DONE (R451): A Thimble block reset completes and the watchdog hold on ALIVE ends. -/
  | thimbleResetDone
  /-- ALIVE_TOGGLE (R453): 2^19 ticks pass with no hold and ALIVE toggles. -/
  | aliveToggle
  /-- MODE_REQ_SERVE (R462): A MOD.REQ for Serve is judged and the transition started or refused. -/
  | modeReqServe (v : BitVec 64) (path : Path)
  /-- MODE_REQ_EASE (R462): A MOD.REQ for Ease at a point is judged and the transition started or refused. -/
  | modeReqEase (v : BitVec 64) (path : Path)
  /-- MODE_REQ_HOLD (R462): A MOD.REQ for Hold is judged and client service ends before Hold is entered. -/
  | modeReqHold (v : BitVec 64) (path : Path)
  /-- MODE_REQ_MAINTENANCE (R462): A MOD.REQ for Maintenance is judged and client service ends before Maintenance is entered. -/
  | modeReqMaintenance (v : BitVec 64) (path : Path)
  /-- MODE_REQ_RESET (R462): A MOD.REQ for module reset with CONFIRM 0xA5 starts a module reset ending as END_MAINT says. -/
  | modeReqReset (v : BitVec 64) (path : Path)
  /-- SERVICE_DRAINED (R27): Accepted work has completed and dirty lines are written back; the target mode is entered. -/
  | serviceDrained
  /-- MODE_ENTERED (R463): The target mode of an accepted transition is reached and BUSY clears. -/
  | modeEntered
  /-- BIST_START (R460): Steward writes BST.CTRL.START in Maintenance and BIST waves run over free slots and spares. -/
  | bistStart (v : BitVec 64) (path : Path)
  /-- BIST_WAVE_DONE (R458): A BIST wave finishes testing its channels and failing rows are repaired, withheld or reported. -/
  | bistWaveDone (fails : List RowFail)
  /-- BIST_POP (R459): Steward writes BST.CTRL.POP and the head of the BIST result FIFO is removed. -/
  | bistPop (v : BitVec 64) (path : Path)
  /-- OTP_PROG (R467): OTP command PROG programs one ROM patch table word. -/
  | otpProg (supplyOk : Bool) (v : BitVec 64) (path : Path)
  /-- OTP_PROVISION (R467): OTP command PROVISION programs the owner value into a free bank and the PROVISIONED flag. -/
  | otpProvision (supplyOk : Bool) (v : BitVec 64) (path : Path)
  /-- OTP_EXPORT_KEK (R467): OTP command EXPORT_KEK wraps the KEK under the transport key into KEK_OUT. -/
  | otpExportKek (supplyOk : Bool) (v : BitVec 64) (path : Path)
  /-- OTP_DEPLOY (R467): OTP command DEPLOY programs the DEPLOYED flag. -/
  | otpDeploy (supplyOk : Bool) (v : BitVec 64) (path : Path)
  /-- OTP_RETURN (R467): OTP command RETURN programs the RETURNED flag and clears the key store and secret shadow at once. -/
  | otpReturn (supplyOk : Bool) (v : BitVec 64) (path : Path)
  /-- OTP_LOCK (R467): OTP command LOCK programs the DEBUG_LOCK, COMPAT_LOCK or PATCH_LOCK flag. -/
  | otpLock (supplyOk : Bool) (v : BitVec 64) (path : Path)
  /-- OTP_RAISE_SVN (R467): OTP command RAISE_SVN programs step words so the minimum SVN equals the running SVN. -/
  | otpRaiseSvn (supplyOk : Bool) (v : BitVec 64) (path : Path)
  /-- OTP_WORD_PROGRAMMED (R467): An OTP word finishes programming and is verified; the command continues or stops. -/
  | otpWordProgrammed (verified : Bool) (supplyOk : Bool)
  /-- FW_BEGIN (R470): MOD.FW_CTRL CMD BEGIN clears a staging area for an image of LENGTH bytes. -/
  | fwBegin (v : BitVec 64) (path : Path)
  /-- FW_DATA (R470): A write of MOD.FW_DATA appends 8 image bytes to the staging area. -/
  | fwData (v : BitVec 64) (path : Path)
  /-- FW_VERIFY (R470): MOD.FW_CTRL CMD VERIFY checks the staged image's identity, digest, signature and SVN. -/
  | fwVerify (v : BitVec 64) (path : Path)
  /-- FW_ACTIVATE (R470): MOD.FW_CTRL CMD ACTIVATE copies the verified image and block-resets the Thimble into it. -/
  | fwActivate (v : BitVec 64) (path : Path)
  /-- NOTE_WRITE (R473): Steward writes TIM.NOTE and its tick is recorded in NOTE_TICK. -/
  | noteWrite (v : BitVec 64) (path : Path)
  /-- NARROW_WINDOW_END (R55): A channel's own narrow-mode window ends after at most 18 µs; the channel exits self-refresh on its new lane map and any wave waiting on it may start. -/
  | narrowWindowEnd (c : Fin 32)
  /-- WATCHDOG_HOLD_TIMEOUT (R451): 900 µs pass after a watchdog expiry whose reaction is not block reset, with no KICK, and the watchdog hold on ALIVE ends. -/
  | watchdogHoldTimeout
  /-- ENTROPY_HEALTH_TEST (R452): An entropy-source health test completes; a failure raises ENTROPY_FAIL and blocks key loads and Tack link-up, and 1024 consecutive passes end that condition. -/
  | entropyHealthTest (pass : Bool)
  /-- TRAIN_STITCH_RECEIVED (R418): A TRAIN stitch arrives from the partner carrying its alignment flag, HALF_EN and failed-lane mask, deciding the lanes in use and the switch to coded stitches. -/
  | trainStitchReceived (t : TrainFlags)
  /-- JTAG_DEBUG_ACCESS (R338): A JTAG debug access reaches module memory as master 68 and is checked against that master's rights entry. -/
  | jtagDebugAccess (a : DebugAccess)
  /-- TRST_N_EDGE (R483): A filtered edge arrives on TRST_N; while it is low the test access port is held in Test-Logic-Reset, and its edges count toward chattering. -/
  | trstNEdge
  deriving DecidableEq, Repr

end Sys2Proof
end

