-- ==== Sys2Proof/Config.lean ====
section
/-! DEFINITION. What one implementation fixes and the spec leaves open: every constant here is opaque, so no
statement can rest on its value. -/

namespace Sys2Proof

/-- The security version number of the running ROM or firmware image, MOD.FW_STATUS.RUN_SVN (20 R470). -/
opaque Config.romSvn : BitVec 6

/-- The version of the running image, MOD.FW_STATUS.RUN_VERSION (20 R470). -/
opaque Config.romVersion : BitVec 30

/-- What the firmware uses for an OTP calibration word w, 0-31, whose normal read is uncorrectable (20 R466). -/
opaque Config.otpDefault : Nat → BitVec 64

/-- The activates of the calibration rows and the fill bursts that the fill of an abandoned sweep had made, by occasion: channel, bank, activates,
bursts (16 R383, R386). -/
opaque Config.abandonedFill : Nat → List (Fin 32 × Fin 128 × Nat × Nat)

/-- The n-th value that the module's random source draws: load nonces and link nonces (13 R315, 18 R421). -/
opaque Config.draw : Nat → BitVec 128

/-- What goes wrong in the reads of a re-encryption that no command reports, by occasion: the sector of the group, the byte and what is
added to it (13 R327, R334, 15 R366, R367). -/
opaque Config.groupNoise : Nat → List (Nat × Nat × BitVec 8)

/-- What a channel does that deposits energy in its plies (17 R389): an activate, a read or a write burst, a REF command, a fill burst,
and a refresh by a ply's own timer (R406). -/
inductive Charge where
  | activate | read | write | refresh | fill | selfRefresh
  deriving DecidableEq, Repr

/-- The energy in pJ that a charge at an operating point deposits in ply j of the cell, 0-3, while it acts on ply k: the weights of the
firmware operating-point table (17 R389). -/
opaque Config.energyWeight : Charge → Nat → Nat → Nat → Nat

/-- The thermal network over one round, by the calibration words of OTP: what the rise of node m leaves of it at node n, in units of
2^-16 (17 R390). -/
opaque Config.thermalKeep : List Nat → Nat → Nat → Int

/-- The thermal network over one round, by the calibration words of OTP: what 1 pJ at node m raises node n by, in units of 2^-32 quarter
degrees (17 R390). -/
opaque Config.thermalHeat : List Nat → Nat → Nat → Int

/-- The key in mask ROM that signs firmware images: the affine coordinates x and y of a point of P-384 (20 R470). -/
opaque Config.signingKey : BitVec 384 × BitVec 384

/-- The seed of BIST's pattern for a stored byte, by its address (20 R458). -/
opaque Config.patternSeed : Nat → BitVec 31

/-- How an OTP word reads whose programming power loss interrupted, by occasion: 0 unprogrammed, 1 programmed, otherwise
marginal (20 R467). -/
opaque Config.halfWritten : Nat → Nat

/-- The normal-reference read of a marginal word, by occasion; none where it is uncorrectable (20 R466, R467). -/
opaque Config.marginalRead : Nat → Option (BitVec 64)

/-- Doubleword i of mask ROM as made, the byte address / 8 (20 R468). -/
opaque Config.maskRom : Nat → BitVec 64

/-- The number of the 4 KiB region of mask ROM that holds the image-signing key (20 R468). -/
opaque Config.keyRegion : Nat

/-- The codes and runs that training at Boot finds for a lane, by the key of its entry, laid out as CAL.TRIM (16 R387). -/
opaque Config.bootTrim : Nat → BitVec 28

/-- The ply timing that training at Boot finds, by the key of its entry, laid out as CAL.PLY_TIMING (16 R387). -/
opaque Config.bootTiming : Nat → BitVec 32

/-- What a lane's receiver has adapted to when its link comes up, by occasion, laid out as SDS.RX_EQ (04). -/
opaque Config.rxAdapted : Nat → BitVec 21

/-- The transmit taps that training leaves a lane with, by occasion, laid out as SDS.TX_EQ (04 R110). -/
opaque Config.trainedTaps : Nat → BitVec 24

/-- The eye margin of a lane when its link comes up, by occasion, laid out as SDS.EYE (04). -/
opaque Config.eyeMargin : Nat → BitVec 18

/-- Needle's steps per microsecond over a housekeeping round in which it took steps, by occasion (08 NDL.STATUS). -/
opaque Config.stepRate : Nat → BitVec 16

end Sys2Proof
end

