-- ==== Sys2Proof/Machine/Store.lean ====
section
/-! DEFINITION. Sparse maps in canonical form, and the store that holds every set-up register field
(00 R15-R18, 21 R475). -/

namespace Sys2Proof.Machine

/-- A sparse map: entries by strictly rising key; a key without an entry reads as the map's default. -/
structure SMap (α : Type) where
  entries : List (Nat × α) := []
  deriving DecidableEq, Repr

/-- The value under key k, if the list has one. -/
def findKey {α : Type} (k : Nat) : List (Nat × α) → Option α
  | [] => none
  | (j, v) :: m => if j = k then some v else findKey k m

/-- The list with key k set to v, in rising order of keys. -/
def insertKey {α : Type} (k : Nat) (v : α) : List (Nat × α) → List (Nat × α)
  | [] => [(k, v)]
  | (j, w) :: m =>
    if j < k then (j, w) :: insertKey k v m
    else if j = k then (k, v) :: m
    else (k, v) :: (j, w) :: m

/-- The list without key k. -/
def eraseKey {α : Type} (k : Nat) (m : List (Nat × α)) : List (Nat × α) :=
  m.filter (fun e => e.1 ≠ k)

/-- The entry under key k, if there is one. -/
def SMap.find {α : Type} (m : SMap α) (k : Nat) : Option α := findKey k m.entries

/-- The value under key k, or the default d. -/
def SMap.get {α : Type} (m : SMap α) (d : α) (k : Nat) : α := (m.find k).getD d

/-- The map with key k holding v, whatever the default. -/
def SMap.put {α : Type} (m : SMap α) (k : Nat) (v : α) : SMap α := ⟨insertKey k v m.entries⟩

/-- The map with no entry under key k. -/
def SMap.del {α : Type} (m : SMap α) (k : Nat) : SMap α := ⟨eraseKey k m.entries⟩

/-- The map with key k reading v: no entry is kept that equals the default d. -/
def SMap.set {α : Type} [DecidableEq α] (m : SMap α) (d : α) (k : Nat) (v : α) : SMap α :=
  if v = d then m.del k else m.put k v

/-- The keys that have an entry, rising. -/
def SMap.keys {α : Type} (m : SMap α) : List Nat := m.entries.map (·.1)

/-- The map with every entry whose key fails the test removed. -/
def SMap.keepKeys {α : Type} (m : SMap α) (p : Nat → Bool) : SMap α := ⟨m.entries.filter (fun e => p e.1)⟩

/-- The map with every value changed by f. -/
def SMap.mapVals {α : Type} (m : SMap α) (f : Nat → α → α) : SMap α :=
  ⟨m.entries.map (fun e => (e.1, f e.1 e.2))⟩

/-- Keys strictly rising. -/
def risingKeys {α : Type} : List (Nat × α) → Bool
  | [] => true
  | [_] => true
  | (j, _) :: (k, w) :: m => decide (j < k) && risingKeys ((k, w) :: m)

/-- The canonical form of a map with default d: keys rise, and no entry equals the default. -/
def SMap.wf {α : Type} [DecidableEq α] (m : SMap α) (d : α) : Bool :=
  risingKeys m.entries && m.entries.all (fun e => decide (e.2 ≠ d))

/-- Access codes of set-up fields (R16). -/
inductive Acc where
  | ro | rw | w1c | wo | rc | rwp
  deriving DecidableEq, Repr

/-- One field of a set-up register: the offset of its register (of the first one, for a register that repeats), its
lowest bit, width, access code and reset value by entry (R15-R18). -/
structure Fld where
  addr : Nat
  lo : Nat
  width : Nat
  acc : Acc
  rst : Nat → Nat

/-- The number of a field: one per offset and lowest bit. -/
def Fld.id (f : Fld) : Nat := f.addr % 2 ^ 20 * 64 + f.lo % 64

/-- The key of a field's entry in the store. -/
def Fld.key (f : Fld) (e : Nat) : Nat := e * 2 ^ 26 + f.id

/-- The store of all register fields: a field and entry without a stored value reads as its reset value (R475). -/
abbrev FStore := SMap Nat

/-- The value of field f, entry e. -/
def fget (m : FStore) (f : Fld) (e : Nat) : Nat := m.get (f.rst e) (f.key e) % 2 ^ f.width

/-- The store with field f, entry e holding v cut to the field's width. -/
def fset (m : FStore) (f : Fld) (e v : Nat) : FStore := m.set (f.rst e) (f.key e) (v % 2 ^ f.width)

/-- How an access finds the entry of a register: one entry, a window under a select field (R133, R476), or the
calibration trim window with its four-part select (R476). -/
inductive RegIx where
  | one
  | win (sel : Fld) (bias : Nat)
  | calTrim

/-- A field at its place in a register; entry e of the register holds entry e * mul + add of the field. -/
structure Place where
  fld : Fld
  lo : Nat
  mul : Nat
  add : Nat

/-- One register, or one run of like registers, of the set-up space (R474, R475). -/
structure RegDef where
  name : String
  base : Nat
  dims : List (Nat × Nat)
  ix : RegIx
  places : List Place

end Sys2Proof.Machine
end

