-- ==== Sys2Proof/Machine/Tables.lean ====
section
/-! DEFINITION. Reset values that depend on the entry: fault sources (19 R448), counters (12 R306), masters (11
Table of reset values, 13 R338, R339), DRAM times (14 R347), mirror modes (18) and lane owners (04). -/

namespace Sys2Proof.Machine

/-- The block that owns a fault source (R446, R448). -/
inductive FaultOwner where
  | port | portOrTack | tack | thimble | other
  deriving DecidableEq, Repr

/-- The fault sources of R448 that are not reserved: number, owner, default reaction, default pin. -/
def faultTable : List (Nat × FaultOwner × Nat × Nat) :=
  [ (0, .other, 1, 0), (1, .other, 1, 0), (2, .other, 1, 0), (3, .other, 2, 0), (4, .other, 1, 0), (5, .other, 2, 0),
    (6, .other, 1, 0), (7, .other, 2, 0), (16, .other, 1, 0), (17, .other, 1, 0), (18, .other, 1, 1),
    (19, .other, 1, 0), (20, .other, 1, 0), (32, .other, 1, 0), (33, .other, 1, 0), (34, .other, 1, 0),
    (35, .other, 1, 0), (36, .other, 1, 0), (37, .other, 1, 0), (38, .other, 1, 0), (39, .other, 1, 0),
    (40, .other, 1, 0), (41, .other, 1, 0), (42, .other, 1, 0), (43, .other, 1, 0), (44, .other, 0, 0),
    (45, .other, 1, 0), (46, .other, 0, 0), (47, .other, 1, 0), (48, .other, 1, 0), (49, .other, 1, 0),
    (64, .other, 1, 0), (65, .other, 1, 0), (66, .other, 1, 0), (67, .other, 2, 0), (68, .other, 2, 0),
    (80, .port, 1, 0), (81, .port, 1, 0), (82, .port, 1, 0), (83, .port, 1, 0), (84, .portOrTack, 0, 0),
    (85, .portOrTack, 0, 0), (86, .tack, 1, 0), (87, .tack, 1, 0), (96, .thimble, 1, 0), (97, .thimble, 3, 0),
    (98, .thimble, 4, 1), (99, .other, 1, 0), (100, .other, 1, 0), (101, .other, 1, 0), (102, .other, 0, 0),
    (103, .other, 1, 0), (112, .other, 1, 0), (113, .other, 1, 0), (114, .other, 1, 0), (115, .other, 1, 0),
    (116, .other, 1, 0), (117, .other, 1, 0), (118, .other, 1, 0) ]

/-- VIN_LOW (R448). -/
abbrev Src.vinLow : Nat := 0
/-- STAGE_HOT (R448). -/
abbrev Src.stageHot : Nat := 1
/-- SUPPLY_WINDOW (R448). -/
abbrev Src.supplyWindow : Nat := 2
/-- CLK_REF_LOST (R448). -/
abbrev Src.clkRefLost : Nat := 3
/-- CLK_BACKUP_LOST (R448). -/
abbrev Src.clkBackupLost : Nat := 4
/-- PLL_UNLOCK (R448). -/
abbrev Src.pllUnlock : Nat := 5
/-- INPUT_CHATTER (R448). -/
abbrev Src.inputChatter : Nat := 6
/-- BASE_RAIL_WINDOW (R448). -/
abbrev Src.baseRailWindow : Nat := 7
/-- THM_WARN (R448). -/
abbrev Src.thmWarn : Nat := 16
/-- THM_THROTTLE (R448). -/
abbrev Src.thmThrottle : Nat := 17
/-- THM_SHUTDOWN (R448). -/
abbrev Src.thmShutdown : Nat := 18
/-- THM_SENSOR_SUSPECT (R448). -/
abbrev Src.thmSensorSuspect : Nat := 19
/-- THM_GUARD_APPLIED (R448). -/
abbrev Src.thmGuardApplied : Nat := 20
/-- LANE_REPAIRED (R448). -/
abbrev Src.laneRepaired : Nat := 32
/-- CHANNEL_NARROWED (R448). -/
abbrev Src.channelNarrowed : Nat := 33
/-- PC_TORN (R448). -/
abbrev Src.pcTorn : Nat := 34
/-- CHN_UNCORRECTABLE (R448). -/
abbrev Src.chnUncorrectable : Nat := 35
/-- CE_BUCKET_OVF (R448). -/
abbrev Src.ceBucketOvf : Nat := 36
/-- MAP_LOST (R448). -/
abbrev Src.mapLost : Nat := 37
/-- SRAM_UC (R448). -/
abbrev Src.sramUc : Nat := 38
/-- LINING_WB_FAIL (R448). -/
abbrev Src.liningWbFail : Nat := 39
/-- SCRUB_SLOW (R448). -/
abbrev Src.scrubSlow : Nat := 40
/-- FRAME_EXHAUSTED (R448). -/
abbrev Src.frameExhausted : Nat := 41
/-- SEAM_LOW (R448). -/
abbrev Src.seamLow : Nat := 42
/-- CAPACITY_OVERCOMMIT (R448). -/
abbrev Src.capacityOvercommit : Nat := 43
/-- CAL_LADDER_SWAPPED (R448). -/
abbrev Src.calLadderSwapped : Nat := 44
/-- CAL_PLY_FAIL (R448). -/
abbrev Src.calPlyFail : Nat := 45
/-- CAL_DEFERRED (R448). -/
abbrev Src.calDeferred : Nat := 46
/-- QOS_GUARANTEE_MISSED (R448). -/
abbrev Src.qosGuaranteeMissed : Nat := 47
/-- BIST_FAIL (R448). -/
abbrev Src.bistFail : Nat := 48
/-- SPARE_ROWS_FULL (R448). -/
abbrev Src.spareRowsFull : Nat := 49
/-- KEY_EXHAUSTED (R448). -/
abbrev Src.keyExhausted : Nat := 64
/-- TREE_NODE_LOST (R448). -/
abbrev Src.treeNodeLost : Nat := 65
/-- TREE_VOTE_REPAIRED (R448). -/
abbrev Src.treeVoteRepaired : Nat := 66
/-- SCAN_CLEAR_FAIL (R448). -/
abbrev Src.scanClearFail : Nat := 67
/-- ENTROPY_FAIL (R448). -/
abbrev Src.entropyFail : Nat := 68
/-- ETH_LINK_DOWN (R448). -/
abbrev Src.ethLinkDown : Nat := 80
/-- ETH_PORT_FAILED (R448). -/
abbrev Src.ethPortFailed : Nat := 81
/-- ETH_FALLBACK (R448). -/
abbrev Src.ethFallback : Nat := 82
/-- ETH_FEC_DEGRADED (R448). -/
abbrev Src.ethFecDegraded : Nat := 83
/-- SDS_LOS (R448). -/
abbrev Src.sdsLos : Nat := 84
/-- SDS_LOL (R448). -/
abbrev Src.sdsLol : Nat := 85
/-- TACK_LINK_DOWN (R448). -/
abbrev Src.tackLinkDown : Nat := 86
/-- TACK_DESKEW_FAIL (R448). -/
abbrev Src.tackDeskewFail : Nat := 87
/-- THIMBLE_FETCH_UC (R448). -/
abbrev Src.thimbleFetchUc : Nat := 96
/-- THIMBLE_WDT (R448). -/
abbrev Src.thimbleWdt : Nat := 97
/-- THIMBLE_LOCKUP (R448). -/
abbrev Src.thimbleLockup : Nat := 98
/-- PAT_WORD_FROZEN (R448). -/
abbrev Src.patWordFrozen : Nat := 99
/-- OTP_MARGINAL (R448). -/
abbrev Src.otpMarginal : Nat := 100
/-- PATCH_SKIPPED (R448). -/
abbrev Src.patchSkipped : Nat := 101
/-- OTP_PROG_BLOCKED (R448). -/
abbrev Src.otpProgBlocked : Nat := 102
/-- FW_IMAGE_BAD (R448). -/
abbrev Src.fwImageBad : Nat := 103
/-- PAIR_KEY_MISMATCH (R448). -/
abbrev Src.pairKeyMismatch : Nat := 112
/-- PAIR_SPLIT (R448). -/
abbrev Src.pairSplit : Nat := 113
/-- PAIR_SECONDARY_TORN (R448). -/
abbrev Src.pairSecondaryTorn : Nat := 114
/-- PAIR_BROKEN (R448). -/
abbrev Src.pairBroken : Nat := 115
/-- PAIR_LOST_UNSYNCED (R448). -/
abbrev Src.pairLostUnsynced : Nat := 116
/-- PAIR_TAKEOVER (R448). -/
abbrev Src.pairTakeover : Nat := 117
/-- PAIR_FENCED (R448). -/
abbrev Src.pairFenced : Nat := 118

/-- The row of a fault source; none for a reserved source (R448). -/
def faultRow (i : Nat) : Option (FaultOwner × Nat × Nat) := findKey i faultTable

/-- A source that R448 reserves. -/
def faultReserved (i : Nat) : Bool := (faultRow i).isNone

/-- Default FLT.SRC.REACTION (R448). -/
def faultReaction (i : Nat) : Nat := match faultRow i with | some (_, r, _) => r | none => 0

/-- Default FLT.SRC.PIN (R448). -/
def faultPin (i : Nat) : Nat := match faultRow i with | some (_, _, p) => p | none => 0

/-- Default FLT.SRC.CLIENT: 1 outside 64-79, 0 for 64-79 and for reserved sources (R448). -/
def faultClient (i : Nat) : Nat := if faultReserved i || (64 ≤ i && i ≤ 79) then 0 else 1

/-- Default FLT.SRC.ALERT: 1 where the default reaction is 1 or higher (R448). -/
def faultAlert (i : Nat) : Nat := if faultReaction i = 0 then 0 else 1

/-- The block and event number k of a counter (R306). -/
def pmcPlace (n : Nat) : Nat × Nat :=
  if n < 16 then (0, n) else if n < 48 then (1, (n - 16) % 16) else if n < 64 then (2, n - 48)
  else if n < 80 then (3, n - 64) else if n < 96 then (4, n - 80) else if n < 128 then (5, n - 96)
  else if n < 160 then (6, n - 128) else if n < 192 then (7, n - 160) else if n < 224 then (8, n - 192)
  else if n < 256 then (9, n - 224) else if n < 768 then (10, (n - 256) % 16) else if n < 848 then (11, n - 768)
  else if n < 928 then (12, n - 848) else if n < 960 then (13, n - 928) else (14, n)

/-- A counter that has an event (R306). -/
def pmcAssigned (n : Nat) : Bool :=
  match pmcPlace n with
  | (0, k) => k == 0 || (2 ≤ k && k ≤ 10) || k == 12
  | (1, k) => k ≤ 11
  | (2, k) => k ≤ 12
  | (3, k) => k ≤ 10
  | (4, k) => k ≤ 9
  | (5, k) => k ≤ 15
  | (6, k) => k ≤ 9
  | (7, k) => k ≤ 12
  | (8, k) => k ≤ 12
  | (9, k) => k ≤ 11
  | (10, k) => k ≤ 10
  | (11, k) => k < 80
  | (12, k) => k < 80
  | (13, k) => k ≤ 7
  | _ => false

/-- A counter whose event is an occupancy event (R302, R306). -/
def pmcOcc (n : Nat) : Bool :=
  match pmcPlace n with
  | (1, k) => k == 10
  | (2, k) => k == 11 || k == 12
  | (3, k) => k == 9 || k == 10
  | (4, k) => k == 5 || k == 6
  | (5, k) => 12 ≤ k && k ≤ 14
  | (6, k) => k == 4 || k == 5
  | (7, k) => k == 9
  | (10, k) => k == 5
  | (12, k) => k < 80
  | (13, k) => k == 5
  | _ => false

/-- QOS.MASTER.BUDGET at reset (Table, master reset values). -/
def masterBudget (i : Nat) : Nat :=
  if i < 64 then 128 else
  match i with | 64 => 256 | 65 => 32 | 66 => 16 | 67 => 512 | 68 => 16 | 69 => 128 | 70 => 1024 | _ => 0

/-- QOS.MASTER.GUAR at reset (Table, master reset values). -/
def masterGuar (i : Nat) : Nat := match i with | 64 => 32 | 69 => 8 | _ => 0

/-- PRT.MRIGHTS.READ at reset, by master number (R338). -/
def mrRead (i : Nat) : Nat := match i with | 64 | 65 | 67 | 68 | 69 | 70 => 1 | _ => 0

/-- PRT.MRIGHTS.WRITE at reset, by master number (R338). -/
def mrWrite (i : Nat) : Nat := match i with | 64 | 65 | 66 | 67 | 68 | 69 | 70 => 1 | _ => 0

/-- PRT.MRIGHTS.SCOPE at reset, by master number: master 68 as R339 sets it in lifecycle BLANK. -/
def mrScope (i : Nat) : Nat := match i with | 64 | 65 | 67 | 68 | 69 => 2 | 66 => 1 | _ => 0

/-- PRT.MRIGHTS.VIEW at reset, by master number (R338). -/
def mrView (i : Nat) : Nat := match i with | 64 | 65 => 1 | 70 => 2 | _ => 0

/-- TCK.MIRMODEn at reset: bit 0 of word 0, the system bolt, clear; all others set (21, TCK index). -/
def mirModeReset (n : Nat) : Nat := if n = 0 then 0xFFFF_FFFF_FFFF_FFFE else 0xFFFF_FFFF_FFFF_FFFF

/-- SDS.STATUS.OWNER of a lane: 0 and 1 the ports, 2 the Tack link (21, SDS index). -/
def laneOwner (n : Nat) : Nat := if n < 4 then 0 else if n < 8 then 1 else 2

/-- The controller clock of an operating point, in tenths of a GHz (R347). -/
def pointClock (p : Nat) : Nat := match p with | 0 => 12 | 1 => 10 | 2 => 8 | _ => 6

/-- The DRAM times of R347 in ns: tRCD, tRP, tCL, tWR, tRAS, tRC, tFAW, tRFC. -/
def dramNs (i : Nat) : Nat := match i with | 0 | 1 | 2 => 14 | 3 => 15 | 4 => 28 | 5 => 42 | 6 => 16 | _ => 350

/-- A DRAM time in controller cycles at a clock given in units of 1/d GHz: ceiling(time × clock) (R347). -/
def dramCyclesAt (i clk d : Nat) : Nat := ceilDiv (dramNs i * clk) d

/-- A DRAM time in controller cycles at operating point p (R347). -/
def dramCycles (i p : Nat) : Nat := dramCyclesAt i (pointClock p) 10

end Sys2Proof.Machine
end

