-- ==== Sys2Proof/Machine/Regs.lean ====
section
/-! DEFINITION. The set-up registers: one constant per field (its place, access code and reset value, from the
field tables of the chapters) and the table of all registers by offset (21 R474-R476). -/

namespace Sys2Proof.Machine

/-- CLK.STATUS.REF_SEL, 03: 0: PLLs referenced to REFCLK; 1: backup oscillator. -/
def R.CLK.STATUS.REF_SEL : Fld := ⟨0x2000, 0, 1, .ro, fun _ => 0⟩
/-- CLK.STATUS.REF_OK, 03: REFCLK judged good (R72) and not since lost. -/
def R.CLK.STATUS.REF_OK : Fld := ⟨0x2000, 1, 1, .ro, fun _ => 0⟩
/-- CLK.STATUS.BKP_OK, 03: Backup oscillator edges seen (R80). -/
def R.CLK.STATUS.BKP_OK : Fld := ⟨0x2000, 2, 1, .ro, fun _ => 1⟩
/-- CLK.STATUS.FORCED, 03: Last reference switch was forced (R76). -/
def R.CLK.STATUS.FORCED : Fld := ⟨0x2000, 3, 1, .ro, fun _ => 0⟩
/-- CLK.STATUS.PLL_LOCK, 03: One bit per PLL, numbered as in R73. -/
def R.CLK.STATUS.PLL_LOCK : Fld := ⟨0x2000, 4, 8, .ro, fun _ => 0⟩
/-- CLK.STATUS.PLL_HOLDOVER, 03: One bit per PLL in holdover. -/
def R.CLK.STATUS.PLL_HOLDOVER : Fld := ⟨0x2000, 12, 8, .ro, fun _ => 0⟩
/-- CLK.STATUS.GOOD_RUN, 03: Consecutive in-range windows, saturating at 64. -/
def R.CLK.STATUS.GOOD_RUN : Fld := ⟨0x2000, 20, 7, .ro, fun _ => 0⟩
/-- CLK.STATUS.BAD_RUN, 03: Consecutive out-of-range windows, saturating at 4. -/
def R.CLK.STATUS.BAD_RUN : Fld := ⟨0x2000, 27, 3, .ro, fun _ => 0⟩
/-- CLK.REF_COUNT.LAST, 03: REFCLK edges in the last complete window; 1600 expected. -/
def R.CLK.REF_COUNT.LAST : Fld := ⟨0x2008, 0, 16, .ro, fun _ => 0⟩
/-- CLK.REF_COUNT.MIN, 03: Lowest count since power-good. -/
def R.CLK.REF_COUNT.MIN : Fld := ⟨0x2008, 16, 16, .ro, fun _ => 65535⟩
/-- CLK.REF_COUNT.MAX, 03: Highest count since power-good. -/
def R.CLK.REF_COUNT.MAX : Fld := ⟨0x2008, 32, 16, .ro, fun _ => 0⟩
/-- CLK.SWITCH_TICK.TICK, 03: Tick of the last reference switch in either direction. -/
def R.CLK.SWITCH_TICK.TICK : Fld := ⟨0x2010, 0, 64, .ro, fun _ => 0⟩
/-- CLK.EVENTS.TO_BACKUP, 03: Switches to the backup oscillator, saturating. -/
def R.CLK.EVENTS.TO_BACKUP : Fld := ⟨0x2018, 0, 16, .ro, fun _ => 0⟩
/-- CLK.EVENTS.RETURNS, 03: Switches back to REFCLK, saturating. -/
def R.CLK.EVENTS.RETURNS : Fld := ⟨0x2018, 16, 16, .ro, fun _ => 0⟩
/-- CLK.EVENTS.FORCED_COUNT, 03: Forced switches, saturating. -/
def R.CLK.EVENTS.FORCED_COUNT : Fld := ⟨0x2018, 32, 16, .ro, fun _ => 0⟩
/-- CLK.BKP.TRIM, 03: Trim code loaded from OTP at power-good. -/
def R.CLK.BKP.TRIM : Fld := ⟨0x2020, 0, 10, .ro, fun _ => 0⟩
/-- CLK.BKP.ERR, 03: Signed error against REFCLK in units of 0.01 %; valid while REF_OK = 1. -/
def R.CLK.BKP.ERR : Fld := ⟨0x2020, 16, 12, .ro, fun _ => 0⟩
/-- CLK.CTRL.AUTO_RETURN, 03: Return to REFCLK automatically (R78). -/
def R.CLK.CTRL.AUTO_RETURN : Fld := ⟨0x2028, 0, 1, .rw, fun _ => 1⟩
/-- CLK.CTRL.RETURN_NOW, 03: Writing 1 returns to REFCLK if REF_OK = 1. -/
def R.CLK.CTRL.RETURN_NOW : Fld := ⟨0x2028, 1, 1, .wo, fun _ => 0⟩
/-- CLK.CTRL.WAKE_PORT, 03: Port kept listening in Hold: 0 = port 0, 1 = port 1. -/
def R.CLK.CTRL.WAKE_PORT : Fld := ⟨0x2028, 2, 1, .rw, fun _ => 0⟩
/-- CLK.WEAVE_SPEED.SPEED, 03: Replica-path handshake rate in units of 1/1024 of the slow-corner rate (R62); 1024 until the first measurement after power-good; at least 1024 inside the operating ratings, about 1365 at nominal, about 1580 at fast. -/
def R.CLK.WEAVE_SPEED.SPEED : Fld := ⟨0x2030, 0, 12, .ro, fun _ => 1024⟩
/-- CLK.ISL_RUN.RUN, 03: One bit per island, positions as in R67; 1 = clock running. -/
def R.CLK.ISL_RUN.RUN : Fld := ⟨0x2038, 0, 52, .ro, fun _ => 0⟩
/-- CLK.ISL_RET.RET, 03: One bit per island; 1 = clock off with state retained. -/
def R.CLK.ISL_RET.RET : Fld := ⟨0x2040, 0, 52, .ro, fun _ => 0⟩
/-- CLK.CUSTOM_OP.PIN_RATE, 03: TSV pin rate in units of 0.1 Gb/s, 48–96. -/
def R.CLK.CUSTOM_OP.PIN_RATE : Fld := ⟨0x2048, 0, 7, .rw, fun _ => 0⟩
/-- CLK.CUSTOM_OP.CC_CLK, 03: Channel controller clock in MHz. -/
def R.CLK.CUSTOM_OP.CC_CLK : Fld := ⟨0x2048, 8, 10, .rw, fun _ => 0⟩
/-- CLK.CUSTOM_OP.MAC_CLK, 03: MAC/PCS clock in MHz. -/
def R.CLK.CUSTOM_OP.MAC_CLK : Fld := ⟨0x2048, 18, 10, .rw, fun _ => 0⟩
/-- CLK.CUSTOM_OP.TPCS_CLK, 03: Tack PCS clock in MHz. -/
def R.CLK.CUSTOM_OP.TPCS_CLK : Fld := ⟨0x2048, 28, 10, .rw, fun _ => 0⟩
/-- CLK.CUSTOM_OP.SLOT, 03: Point replaced: 1 = P1, 2 = P2, 3 = P3; 0 = none. -/
def R.CLK.CUSTOM_OP.SLOT : Fld := ⟨0x2048, 38, 2, .rw, fun _ => 0⟩
/-- CLK.CUSTOM_OP.EN, 03: Custom point in use. -/
def R.CLK.CUSTOM_OP.EN : Fld := ⟨0x2048, 40, 1, .rw, fun _ => 0⟩
/-- ETH.CTRL.ADMIN_UP, 04: Port enabled for bring-up (R88, R91). -/
def R.ETH.CTRL.ADMIN_UP : Fld := ⟨0x3000, 0, 1, .rw, fun _ => 0⟩
/-- ETH.CTRL.MEDIA, 04: 0: 400GAUI-4 C2M; 1: KR4; 2: CR4; 3: refused. -/
def R.ETH.CTRL.MEDIA : Fld := ⟨0x3000, 1, 2, .rw, fun _ => 0⟩
/-- ETH.CTRL.AN_EN, 04: Auto-negotiation and training on KR and CR (R87). -/
def R.ETH.CTRL.AN_EN : Fld := ⟨0x3000, 3, 1, .rw, fun _ => 1⟩
/-- ETH.CTRL.FALLBACK_EN, 04: Permit 200 Gb/s fallback (R94). -/
def R.ETH.CTRL.FALLBACK_EN : Fld := ⟨0x3000, 4, 1, .rw, fun _ => 1⟩
/-- ETH.CTRL.RESTORE_FULL, 04: Writing 1 retries 400 Gb/s (R96). -/
def R.ETH.CTRL.RESTORE_FULL : Fld := ⟨0x3000, 5, 1, .wo, fun _ => 0⟩
/-- ETH.CTRL.ECT_EN, 04: Send RoCEv2 packets with ECT(0). -/
def R.ETH.CTRL.ECT_EN : Fld := ⟨0x3000, 6, 1, .rw, fun _ => 1⟩
/-- ETH.CTRL.ICMP_ECHO, 04: Answer echo requests. -/
def R.ETH.CTRL.ICMP_ECHO : Fld := ⟨0x3000, 7, 1, .rw, fun _ => 0⟩
/-- ETH.STATUS.LINK, 04: Link up. -/
def R.ETH.STATUS.LINK : Fld := ⟨0x3008, 0, 1, .ro, fun _ => 0⟩
/-- ETH.STATUS.SPEED, 04: 0: down; 1: 200 Gb/s; 2: 400 Gb/s. -/
def R.ETH.STATUS.SPEED : Fld := ⟨0x3008, 1, 2, .ro, fun _ => 0⟩
/-- ETH.STATUS.ACTIVE_LANES, 04: One bit per port-lane in use. -/
def R.ETH.STATUS.ACTIVE_LANES : Fld := ⟨0x3008, 3, 4, .ro, fun _ => 0⟩
/-- ETH.STATUS.BRINGUP, 04: Bring-up attempt in progress. -/
def R.ETH.STATUS.BRINGUP : Fld := ⟨0x3008, 7, 1, .ro, fun _ => 0⟩
/-- ETH.STATUS.LOCAL_FAULT, 04: Local fault signalled. -/
def R.ETH.STATUS.LOCAL_FAULT : Fld := ⟨0x3008, 8, 1, .ro, fun _ => 0⟩
/-- ETH.STATUS.REMOTE_FAULT, 04: Remote fault received. -/
def R.ETH.STATUS.REMOTE_FAULT : Fld := ⟨0x3008, 9, 1, .ro, fun _ => 0⟩
/-- ETH.STATUS.LOOPBACK, 04: A lane of the port is in loopback or generating. -/
def R.ETH.STATUS.LOOPBACK : Fld := ⟨0x3008, 10, 1, .ro, fun _ => 0⟩
/-- ETH.STATUS.PFC_TX_XOFF, 04: Per priority: pause being sent. -/
def R.ETH.STATUS.PFC_TX_XOFF : Fld := ⟨0x3008, 16, 8, .ro, fun _ => 0⟩
/-- ETH.STATUS.PFC_RX_PAUSED, 04: Per priority: transmission paused by partner. -/
def R.ETH.STATUS.PFC_RX_PAUSED : Fld := ⟨0x3008, 24, 8, .ro, fun _ => 0⟩
/-- ETH.STATUS.RX_BUFFERS, 04: Buffers held by received frames. -/
def R.ETH.STATUS.RX_BUFFERS : Fld := ⟨0x3008, 32, 12, .ro, fun _ => 0⟩
/-- ETH.MAC.ADDR, 04: OTP MAC base + port number. -/
def R.ETH.MAC.ADDR : Fld := ⟨0x3010, 0, 48, .ro, fun e => e⟩
/-- ETH.VLAN.VID, 04: VLAN accepted and sent. -/
def R.ETH.VLAN.VID : Fld := ⟨0x3018, 0, 12, .rw, fun _ => 0⟩
/-- ETH.VLAN.TAG_TX, 04: Send C-tagged frames (R99). -/
def R.ETH.VLAN.TAG_TX : Fld := ⟨0x3018, 12, 1, .rw, fun _ => 0⟩
/-- ETH.VLAN.UNTAGGED_OK, 04: Accept untagged frames (R98). -/
def R.ETH.VLAN.UNTAGGED_OK : Fld := ⟨0x3018, 13, 1, .rw, fun _ => 1⟩
/-- ETH.IP4.ADDR, 04: Port IPv4 address; 0 = none. -/
def R.ETH.IP4.ADDR : Fld := ⟨0x3020, 0, 32, .rw, fun _ => 0⟩
/-- ETH.IP6_HI.ADDR_HI, 04: Address bits [127:64]. -/
def R.ETH.IP6_HI.ADDR_HI : Fld := ⟨0x3028, 0, 64, .rw, fun _ => 0⟩
/-- ETH.IP6_LO.ADDR_LO, 04: Address bits [63:0]; whole address 0 = none. -/
def R.ETH.IP6_LO.ADDR_LO : Fld := ⟨0x3030, 0, 64, .rw, fun _ => 0⟩
/-- ETH.QOS_MAP.ROCE_PRIO, 04: Priority of RoCEv2 traffic. -/
def R.ETH.QOS_MAP.ROCE_PRIO : Fld := ⟨0x3038, 0, 3, .rw, fun _ => 3⟩
/-- ETH.QOS_MAP.DSCP, 04: DSCP sent on RoCEv2 packets. -/
def R.ETH.QOS_MAP.DSCP : Fld := ⟨0x3038, 3, 6, .rw, fun _ => 26⟩
/-- ETH.QOS_MAP.LOSSLESS, 04: Priorities under PFC (R101). -/
def R.ETH.QOS_MAP.LOSSLESS : Fld := ⟨0x3038, 16, 8, .rw, fun _ => 8⟩
/-- ETH.PFC.RX_LIMIT, 04: Buffers for received frames (R102). -/
def R.ETH.PFC.RX_LIMIT : Fld := ⟨0x3040, 0, 12, .rw, fun _ => 1024⟩
/-- ETH.PFC.XOFF, 04: Pause threshold in buffers. -/
def R.ETH.PFC.XOFF : Fld := ⟨0x3040, 12, 12, .rw, fun _ => 828⟩
/-- ETH.PFC.XON, 04: Resume threshold in buffers. -/
def R.ETH.PFC.XON : Fld := ⟨0x3040, 24, 12, .rw, fun _ => 764⟩
/-- ETH.PFC.QUANTA, 04: Pause quanta sent. -/
def R.ETH.PFC.QUANTA : Fld := ⟨0x3040, 36, 16, .rw, fun _ => 65535⟩
/-- ETH.WAKE.CODE, 04: Wake code (R105). -/
def R.ETH.WAKE.CODE : Fld := ⟨0x3048, 0, 48, .rw, fun _ => 0⟩
/-- ETH.WAKE.EN, 04: Wake frames accepted in Hold. -/
def R.ETH.WAKE.EN : Fld := ⟨0x3048, 48, 1, .rw, fun _ => 0⟩
/-- ETH.FEC.CORRECTED, 04: Codewords corrected, saturating. -/
def R.ETH.FEC.CORRECTED : Fld := ⟨0x3050, 0, 32, .rc, fun _ => 0⟩
/-- ETH.FEC.UNCORRECTABLE, 04: Codewords uncorrectable, saturating. -/
def R.ETH.FEC.UNCORRECTABLE : Fld := ⟨0x3050, 32, 32, .rc, fun _ => 0⟩
/-- ETH.RX_DROP.BAD_FCS, 04: FCS errors and runts, saturating. -/
def R.ETH.RX_DROP.BAD_FCS : Fld := ⟨0x3058, 0, 16, .rc, fun _ => 0⟩
/-- ETH.RX_DROP.OVERSIZE, 04: Frames above 9216 bytes, saturating. -/
def R.ETH.RX_DROP.OVERSIZE : Fld := ⟨0x3058, 16, 16, .rc, fun _ => 0⟩
/-- ETH.RX_DROP.FILTERED, 04: Frames filtered under R98, saturating. -/
def R.ETH.RX_DROP.FILTERED : Fld := ⟨0x3058, 32, 16, .rc, fun _ => 0⟩
/-- ETH.RX_DROP.OVERRUN, 04: Frames discarded under R102, saturating. -/
def R.ETH.RX_DROP.OVERRUN : Fld := ⟨0x3058, 48, 16, .rc, fun _ => 0⟩
/-- ETH.LINK_EVT.DOWNS, 04: Link-down events, saturating. -/
def R.ETH.LINK_EVT.DOWNS : Fld := ⟨0x3060, 0, 16, .ro, fun _ => 0⟩
/-- ETH.LINK_EVT.FALLBACKS, 04: Fallbacks to 200 Gb/s, saturating. -/
def R.ETH.LINK_EVT.FALLBACKS : Fld := ⟨0x3060, 16, 16, .ro, fun _ => 0⟩
/-- ETH.LINK_TICK.TICK, 04: Tick of the last link-up or link-down. -/
def R.ETH.LINK_TICK.TICK : Fld := ⟨0x3068, 0, 64, .ro, fun _ => 0⟩
/-- SDS.CTRL.TX_INV, 04: Invert transmit polarity. -/
def R.SDS.CTRL.TX_INV : Fld := ⟨0x40000, 0, 1, .rw, fun _ => 0⟩
/-- SDS.CTRL.RX_INV, 04: Invert receive polarity. -/
def R.SDS.CTRL.RX_INV : Fld := ⟨0x40000, 1, 1, .rw, fun _ => 0⟩
/-- SDS.CTRL.TX_SQUELCH, 04: Transmitter idle. -/
def R.SDS.CTRL.TX_SQUELCH : Fld := ⟨0x40000, 2, 1, .rw, fun _ => 0⟩
/-- SDS.CTRL.LOOPBACK, 04: Loopback code (R106); 4–7 refused. -/
def R.SDS.CTRL.LOOPBACK : Fld := ⟨0x40000, 3, 3, .rw, fun _ => 0⟩
/-- SDS.CTRL.PRBS_GEN, 04: 0: off; 1: PRBS31; 2: PRBS13Q; 3: refused. -/
def R.SDS.CTRL.PRBS_GEN : Fld := ⟨0x40000, 6, 2, .rw, fun _ => 0⟩
/-- SDS.CTRL.PRBS_CHK, 04: Checker, same coding. -/
def R.SDS.CTRL.PRBS_CHK : Fld := ⟨0x40000, 8, 2, .rw, fun _ => 0⟩
/-- SDS.CTRL.BITSLIP, 04: Writing 1 slips one bit (R108). -/
def R.SDS.CTRL.BITSLIP : Fld := ⟨0x40000, 10, 1, .wo, fun _ => 0⟩
/-- SDS.STATUS.LOS, 04: Loss of signal now (R92). -/
def R.SDS.STATUS.LOS : Fld := ⟨0x40008, 0, 1, .ro, fun _ => 1⟩
/-- SDS.STATUS.LOL, 04: Loss of lock now. -/
def R.SDS.STATUS.LOL : Fld := ⟨0x40008, 1, 1, .ro, fun _ => 1⟩
/-- SDS.STATUS.LOS_STICKY, 04: LOS asserted since last clear. -/
def R.SDS.STATUS.LOS_STICKY : Fld := ⟨0x40008, 2, 1, .w1c, fun _ => 0⟩
/-- SDS.STATUS.LOL_STICKY, 04: LOL asserted since last clear. -/
def R.SDS.STATUS.LOL_STICKY : Fld := ⟨0x40008, 3, 1, .w1c, fun _ => 0⟩
/-- SDS.STATUS.FAILED, 04: Lane declared failed (R93). -/
def R.SDS.STATUS.FAILED : Fld := ⟨0x40008, 4, 1, .w1c, fun _ => 0⟩
/-- SDS.STATUS.TRAINED, 04: Training completed at last bring-up. -/
def R.SDS.STATUS.TRAINED : Fld := ⟨0x40008, 5, 1, .ro, fun _ => 0⟩
/-- SDS.STATUS.OWNER, 04: 0: port 0; 1: port 1; 2: Tack link. -/
def R.SDS.STATUS.OWNER : Fld := ⟨0x40008, 6, 2, .ro, laneOwner⟩
/-- SDS.STATUS.SLIP_POS, 04: Word boundary offset, 0–63. -/
def R.SDS.STATUS.SLIP_POS : Fld := ⟨0x40008, 8, 6, .ro, fun _ => 0⟩
/-- SDS.TX_EQ.C_M2, 04: Second pre-cursor, signed, 1/64 of full swing. -/
def R.SDS.TX_EQ.C_M2 : Fld := ⟨0x40010, 0, 6, .rw, fun _ => 0⟩
/-- SDS.TX_EQ.C_M1, 04: First pre-cursor, signed. -/
def R.SDS.TX_EQ.C_M1 : Fld := ⟨0x40010, 6, 6, .rw, fun _ => 58⟩
/-- SDS.TX_EQ.C0, 04: Main cursor, unsigned. -/
def R.SDS.TX_EQ.C0 : Fld := ⟨0x40010, 12, 6, .rw, fun _ => 48⟩
/-- SDS.TX_EQ.C_P1, 04: Post-cursor, signed. -/
def R.SDS.TX_EQ.C_P1 : Fld := ⟨0x40010, 18, 6, .rw, fun _ => 0⟩
/-- SDS.RX_EQ.CTLE, 04: Peaking code. -/
def R.SDS.RX_EQ.CTLE : Fld := ⟨0x40018, 0, 5, .ro, fun _ => 0⟩
/-- SDS.RX_EQ.VGA, 04: Gain code. -/
def R.SDS.RX_EQ.VGA : Fld := ⟨0x40018, 5, 8, .ro, fun _ => 0⟩
/-- SDS.RX_EQ.DFE1, 04: First feedback tap, signed. -/
def R.SDS.RX_EQ.DFE1 : Fld := ⟨0x40018, 13, 8, .ro, fun _ => 0⟩
/-- SDS.PRBS_ERR.ERRORS, 04: Bit errors since checker lock, saturating. -/
def R.SDS.PRBS_ERR.ERRORS : Fld := ⟨0x40020, 0, 48, .rc, fun _ => 0⟩
/-- SDS.PRBS_ERR.LOCKED, 04: Checker locked. -/
def R.SDS.PRBS_ERR.LOCKED : Fld := ⟨0x40020, 48, 1, .ro, fun _ => 0⟩
/-- SDS.EYE.HEIGHT, 04: Smallest of the three PAM4 eye heights, mV. -/
def R.SDS.EYE.HEIGHT : Fld := ⟨0x40028, 0, 8, .ro, fun _ => 0⟩
/-- SDS.EYE.WIDTH, 04: Smallest eye width, thousandths of a unit interval. -/
def R.SDS.EYE.WIDTH : Fld := ⟨0x40028, 8, 10, .ro, fun _ => 0⟩
/-- XPT.CFG.ACK_PKTS, 05: Unacknowledged request packets before an ACK is sent, 1–31 (R123); 0 refused. -/
def R.XPT.CFG.ACK_PKTS : Fld := ⟨0x5000, 0, 5, .rw, fun _ => 16⟩
/-- XPT.CFG.ACK_DELAY, 05: Acknowledgement delay in units of 0.1 µs, 1–255 (R123); 0 refused. -/
def R.XPT.CFG.ACK_DELAY : Fld := ⟨0x5000, 8, 8, .rw, fun _ => 10⟩
/-- XPT.CFG.RNR_MODE, 05: 0: RNR NAK for all opcodes; 1: for SEND only, others dropped (R126). -/
def R.XPT.CFG.RNR_MODE : Fld := ⟨0x5000, 16, 1, .rw, fun _ => 0⟩
/-- XPT.CFG.RNR_TIMER, 05: RNR NAK timer code; 1 = 0.01 ms. -/
def R.XPT.CFG.RNR_TIMER : Fld := ⟨0x5000, 17, 5, .rw, fun _ => 1⟩
/-- XPT.CFG.RNR_RESERVE, 05: Free Bobbin pool buffers kept after admission, 0–4095. -/
def R.XPT.CFG.RNR_RESERVE : Fld := ⟨0x5000, 22, 12, .rw, fun _ => 512⟩
/-- XPT.CC.CNP_INTERVAL, 05: Minimum µs between CNPs sent and between cuts, per QP, 1–255. -/
def R.XPT.CC.CNP_INTERVAL : Fld := ⟨0x5008, 0, 8, .rw, fun _ => 50⟩
/-- XPT.CC.RATE_STEP, 05: Increase per period in Gb/s, 1–255. -/
def R.XPT.CC.RATE_STEP : Fld := ⟨0x5008, 8, 8, .rw, fun _ => 5⟩
/-- XPT.CC.STEP_PERIOD, 05: Increase period in µs, 1–255. -/
def R.XPT.CC.STEP_PERIOD : Fld := ⟨0x5008, 16, 8, .rw, fun _ => 50⟩
/-- XPT.CC.MIN_RATE, 05: Lowest rate in Gb/s, 1–100. -/
def R.XPT.CC.MIN_RATE : Fld := ⟨0x5008, 24, 8, .rw, fun _ => 1⟩
/-- XPT.CC.CC_EN, 05: Rate reaction enabled (R131). -/
def R.XPT.CC.CC_EN : Fld := ⟨0x5008, 32, 1, .rw, fun _ => 1⟩
/-- XPT.QP_SEL.INDEX, 05: QP index (QPN − 0x100) shown at 0x0_5100–0x0_5130. -/
def R.XPT.QP_SEL.INDEX : Fld := ⟨0x5010, 0, 10, .rw, fun _ => 0⟩
/-- XPT.QP_STATE.STATE, 05: 0 RESET, 1 INIT, 2 RTR, 3 RTS, 4 ERROR; write requests a transition (R114); 5–7 refused. -/
def R.XPT.QP_STATE.STATE : Fld := ⟨0x5100, 0, 3, .rw, fun _ => 0⟩
/-- XPT.QP_STATE.ROLE, 05: 0 DATA, 1 CMD (R113). -/
def R.XPT.QP_STATE.ROLE : Fld := ⟨0x5100, 3, 1, .rw, fun _ => 0⟩
/-- XPT.QP_STATE.PORT, 05: Port the QP is bound to. -/
def R.XPT.QP_STATE.PORT : Fld := ⟨0x5100, 4, 1, .rw, fun _ => 0⟩
/-- XPT.QP_STATE.CLIENT, 05: Client identity the QP is bound to. -/
def R.XPT.QP_STATE.CLIENT : Fld := ⟨0x5100, 5, 6, .ro, fun _ => 0⟩
/-- XPT.QP_STATE.BOUND, 05: QP bound to a client identity. -/
def R.XPT.QP_STATE.BOUND : Fld := ⟨0x5100, 11, 1, .ro, fun _ => 0⟩
/-- XPT.QP_STATE.MTU, 05: 1: 1024; 2: 2048; 3: 4096; 0 refused at INIT→RTR. -/
def R.XPT.QP_STATE.MTU : Fld := ⟨0x5100, 12, 2, .rw, fun _ => 0⟩
/-- XPT.QP_STATE.ACK_TIMEOUT, 05: Requester timeout 4.096 µs × 2^value; 0 refused at RTR→RTS. -/
def R.XPT.QP_STATE.ACK_TIMEOUT : Fld := ⟨0x5100, 14, 5, .rw, fun _ => 14⟩
/-- XPT.QP_STATE.RETRY_CNT, 05: Timeout retries, 0–7. -/
def R.XPT.QP_STATE.RETRY_CNT : Fld := ⟨0x5100, 19, 3, .rw, fun _ => 7⟩
/-- XPT.QP_STATE.RNR_RETRY, 05: RNR retries; 7 = unlimited. -/
def R.XPT.QP_STATE.RNR_RETRY : Fld := ⟨0x5100, 22, 3, .rw, fun _ => 7⟩
/-- XPT.QP_STATE.ORD, 05: Outstanding READs as requester, 1–64. -/
def R.XPT.QP_STATE.ORD : Fld := ⟨0x5100, 25, 7, .rw, fun _ => 16⟩
/-- XPT.QP_STATE.ERR_SYNDROME, 05: Cause of the last entry to ERROR (R116). -/
def R.XPT.QP_STATE.ERR_SYNDROME : Fld := ⟨0x5100, 32, 8, .ro, fun _ => 0⟩
/-- XPT.QP_STATE.ERR_SIDE, 05: 0: NAK sent; 1: NAK received. -/
def R.XPT.QP_STATE.ERR_SIDE : Fld := ⟨0x5100, 40, 1, .ro, fun _ => 0⟩
/-- XPT.QP_DEST.DEST_QPN, 05: Client-side QPN. -/
def R.XPT.QP_DEST.DEST_QPN : Fld := ⟨0x5108, 0, 24, .rw, fun _ => 0⟩
/-- XPT.QP_DEST.PKEY, 05: P_Key sent and required. -/
def R.XPT.QP_DEST.PKEY : Fld := ⟨0x5108, 24, 16, .rw, fun _ => 65535⟩
/-- XPT.QP_DEST.HOP_LIMIT, 05: IPv4 TTL or IPv6 hop limit. -/
def R.XPT.QP_DEST.HOP_LIMIT : Fld := ⟨0x5108, 40, 8, .rw, fun _ => 64⟩
/-- XPT.QP_DEST.IPV6, 05: 0: IPv4; 1: IPv6. -/
def R.XPT.QP_DEST.IPV6 : Fld := ⟨0x5108, 48, 1, .rw, fun _ => 0⟩
/-- XPT.QP_DMAC.DMAC, 05: Destination MAC of every frame sent on the QP (R99). -/
def R.XPT.QP_DMAC.DMAC : Fld := ⟨0x5110, 0, 48, .rw, fun _ => 0⟩
/-- XPT.QP_DIP_HI.ADDR_HI, 05: IPv6 bits [127:64]; ignored for IPv4. -/
def R.XPT.QP_DIP_HI.ADDR_HI : Fld := ⟨0x5118, 0, 64, .rw, fun _ => 0⟩
/-- XPT.QP_DIP_LO.ADDR_LO, 05: IPv6 bits [63:0], or IPv4 address in [31:0] with [63:32] zero. -/
def R.XPT.QP_DIP_LO.ADDR_LO : Fld := ⟨0x5120, 0, 64, .rw, fun _ => 0⟩
/-- XPT.QP_PSN.SQ_PSN, 05: Next PSN the module sends; writable in RTR. -/
def R.XPT.QP_PSN.SQ_PSN : Fld := ⟨0x5128, 0, 24, .rw, fun _ => 0⟩
/-- XPT.QP_PSN.RQ_PSN, 05: Next PSN expected from the client; writable in INIT. -/
def R.XPT.QP_PSN.RQ_PSN : Fld := ⟨0x5128, 24, 24, .rw, fun _ => 0⟩
/-- XPT.QP_RATE.RATE, 05: Current transmit rate in Gb/s (R131). -/
def R.XPT.QP_RATE.RATE : Fld := ⟨0x5130, 0, 9, .ro, fun _ => 0⟩
/-- XPT.QP_RATE.CNP_RX, 05: CNPs received, saturating. -/
def R.XPT.QP_RATE.CNP_RX : Fld := ⟨0x5130, 16, 24, .ro, fun _ => 0⟩
/-- XPT.QP_RATE.CNP_TX, 05: CNPs sent, saturating. -/
def R.XPT.QP_RATE.CNP_TX : Fld := ⟨0x5130, 40, 24, .ro, fun _ => 0⟩
/-- XPT.DROP.ICRC, 05: ICRC failures, saturating. -/
def R.XPT.DROP.ICRC : Fld := ⟨0x5200, 0, 16, .rc, fun _ => 0⟩
/-- XPT.DROP.BAD_QP, 05: Unknown QPN, QP not ready or in ERROR, QP1 traffic, saturating. -/
def R.XPT.DROP.BAD_QP : Fld := ⟨0x5200, 16, 16, .rc, fun _ => 0⟩
/-- XPT.DROP.PKEY_GID, 05: Wrong port, source IP or P_Key, saturating. -/
def R.XPT.DROP.PKEY_GID : Fld := ⟨0x5200, 32, 16, .rc, fun _ => 0⟩
/-- XPT.NAK_TX.SEQ, 05: Syndrome 0x60, saturating. -/
def R.XPT.NAK_TX.SEQ : Fld := ⟨0x5208, 0, 16, .rc, fun _ => 0⟩
/-- XPT.NAK_TX.INV_REQ, 05: Syndrome 0x61, saturating. -/
def R.XPT.NAK_TX.INV_REQ : Fld := ⟨0x5208, 16, 16, .rc, fun _ => 0⟩
/-- XPT.NAK_TX.ACCESS, 05: Syndrome 0x62, saturating. -/
def R.XPT.NAK_TX.ACCESS : Fld := ⟨0x5208, 32, 16, .rc, fun _ => 0⟩
/-- XPT.NAK_TX.OPER, 05: Syndrome 0x63, saturating. -/
def R.XPT.NAK_TX.OPER : Fld := ⟨0x5208, 48, 16, .rc, fun _ => 0⟩
/-- XPT.RNR.RNR_TX, 05: RNR NAKs sent, saturating. -/
def R.XPT.RNR.RNR_TX : Fld := ⟨0x5210, 0, 32, .rc, fun _ => 0⟩
/-- XPT.RNR.RNR_DROP, 05: Requests dropped under RNR_MODE = 1, saturating. -/
def R.XPT.RNR.RNR_DROP : Fld := ⟨0x5210, 32, 32, .rc, fun _ => 0⟩
/-- XPT.RETRY.TIMEOUTS, 05: Acknowledgement timeouts, all QPs, saturating. -/
def R.XPT.RETRY.TIMEOUTS : Fld := ⟨0x5218, 0, 32, .rc, fun _ => 0⟩
/-- XPT.RETRY.RNR_RX, 05: RNR NAKs received, all QPs, saturating. -/
def R.XPT.RETRY.RNR_RX : Fld := ⟨0x5218, 32, 32, .rc, fun _ => 0⟩
/-- GLB.SETUP_RESP_SMB.STATUS, 06: Status of the last SMBus write (R157). -/
def R.GLB.SETUP_RESP_SMB.STATUS : Fld := ⟨0x100, 0, 8, .ro, fun _ => 0⟩
/-- GLB.SETUP_RESP_SMB.OFFSET, 06: Set-up offset of the last refused write. -/
def R.GLB.SETUP_RESP_SMB.OFFSET : Fld := ⟨0x100, 8, 20, .ro, fun _ => 0⟩
/-- GLB.SETUP_RESP_SMB.REFUSED, 06: Refused writes, saturating. -/
def R.GLB.SETUP_RESP_SMB.REFUSED : Fld := ⟨0x100, 32, 16, .rc, fun _ => 0⟩
/-- GLB.SETUP_RESP_SMB.PEC_ERR, 06: Writes discarded for PEC (R156), saturating. -/
def R.GLB.SETUP_RESP_SMB.PEC_ERR : Fld := ⟨0x100, 48, 16, .rc, fun _ => 0⟩
/-- GLB.SETUP_RESP_RDMA.STATUS, 06: Status of the last register written through the window. -/
def R.GLB.SETUP_RESP_RDMA.STATUS : Fld := ⟨0x108, 0, 8, .ro, fun _ => 0⟩
/-- GLB.SETUP_RESP_RDMA.OFFSET, 06: Set-up offset of the last refused write. -/
def R.GLB.SETUP_RESP_RDMA.OFFSET : Fld := ⟨0x108, 8, 20, .ro, fun _ => 0⟩
/-- GLB.SETUP_RESP_RDMA.CLIENT, 06: Client whose write was refused. -/
def R.GLB.SETUP_RESP_RDMA.CLIENT : Fld := ⟨0x108, 28, 6, .ro, fun _ => 0⟩
/-- GLB.SETUP_RESP_RDMA.REFUSED, 06: Refused writes, saturating. -/
def R.GLB.SETUP_RESP_RDMA.REFUSED : Fld := ⟨0x108, 48, 16, .rc, fun _ => 0⟩
/-- BLT.CLIENT_SEL.INDEX, 06: Client identity shown at 0x0_6008–0x0_6020. -/
def R.BLT.CLIENT_SEL.INDEX : Fld := ⟨0x6000, 0, 6, .rw, fun _ => 0⟩
/-- BLT.CLIENT.VALID, 06: Client usable; clearing subject to R137. -/
def R.BLT.CLIENT.VALID : Fld := ⟨0x6008, 0, 1, .rw, fun _ => 0⟩
/-- BLT.CLIENT.STEWARD, 06: Client holds set-up rights. -/
def R.BLT.CLIENT.STEWARD : Fld := ⟨0x6008, 1, 1, .rw, fun _ => 0⟩
/-- BLT.CLIENT.QPS, 06: Number of QPs bound, 0–1024. -/
def R.BLT.CLIENT.QPS : Fld := ⟨0x6008, 2, 11, .ro, fun _ => 0⟩
/-- BLT.CLIENT.GRANTS, 06: Number of ISSUED grants to the client, 0–4096. -/
def R.BLT.CLIENT.GRANTS : Fld := ⟨0x6008, 13, 13, .ro, fun _ => 0⟩
/-- BLT.CLIENT_GID_HI.GID_HI, 06: GID bits [127:64]; writable only while VALID = 0. -/
def R.BLT.CLIENT_GID_HI.GID_HI : Fld := ⟨0x6010, 0, 64, .rw, fun _ => 0⟩
/-- BLT.CLIENT_GID_LO.GID_LO, 06: GID bits [63:0]; IPv4 as ::FFFF:a.b.c.d; writable only while VALID = 0. -/
def R.BLT.CLIENT_GID_LO.GID_LO : Fld := ⟨0x6018, 0, 64, .rw, fun _ => 0⟩
/-- BLT.CLIENT_STAT.DENIED, 06: ACCESS_DENIED, saturating. -/
def R.BLT.CLIENT_STAT.DENIED : Fld := ⟨0x6020, 0, 16, .rc, fun _ => 0⟩
/-- BLT.CLIENT_STAT.BAD_ADDR, 06: BAD_ADDRESS, saturating. -/
def R.BLT.CLIENT_STAT.BAD_ADDR : Fld := ⟨0x6020, 16, 16, .rc, fun _ => 0⟩
/-- BLT.CLIENT_STAT.KEY_MISMATCH, 06: KEY_MISMATCH, saturating. -/
def R.BLT.CLIENT_STAT.KEY_MISMATCH : Fld := ⟨0x6020, 32, 16, .rc, fun _ => 0⟩
/-- BLT.CLIENT_STAT.KEY_EXHAUSTED, 06: KEY_EXHAUSTED, saturating. -/
def R.BLT.CLIENT_STAT.KEY_EXHAUSTED : Fld := ⟨0x6020, 48, 16, .rc, fun _ => 0⟩
/-- BLT.QP_BIND.QP, 06: QP index. -/
def R.BLT.QP_BIND.QP : Fld := ⟨0x6028, 0, 10, .wo, fun _ => 0⟩
/-- BLT.QP_BIND.CLIENT, 06: Client identity to bind. -/
def R.BLT.QP_BIND.CLIENT : Fld := ⟨0x6028, 16, 6, .wo, fun _ => 0⟩
/-- BLT.QP_BIND.UNBIND, 06: 1: remove the binding instead. -/
def R.BLT.QP_BIND.UNBIND : Fld := ⟨0x6028, 22, 1, .wo, fun _ => 0⟩
/-- BLT.BOLT_SEL.INDEX, 06: Bolt entry shown at 0x0_6108–0x0_6118. -/
def R.BLT.BOLT_SEL.INDEX : Fld := ⟨0x6100, 0, 10, .rw, fun _ => 0⟩
/-- BLT.BOLT_BASE.BASE_SW, 06: Base offset / 64 KiB; writable only while FREE. -/
def R.BLT.BOLT_BASE.BASE_SW : Fld := ⟨0x6108, 0, 24, .rw, fun _ => 0⟩
/-- BLT.BOLT_BASE.LEN_SW, 06: Length / 64 KiB; writable only while FREE. -/
def R.BLT.BOLT_BASE.LEN_SW : Fld := ⟨0x6108, 24, 24, .rw, fun _ => 0⟩
/-- BLT.BOLT_ATTR.KEY_ID, 06: Key ID; writable only while FREE. -/
def R.BLT.BOLT_ATTR.KEY_ID : Fld := ⟨0x6110, 0, 12, .rw, fun _ => 0⟩
/-- BLT.BOLT_ATTR.MODE, 06: 0 None, 1 Compat, 2 Native, 3 refused; writable only while FREE. -/
def R.BLT.BOLT_ATTR.MODE : Fld := ⟨0x6110, 12, 2, .rw, fun _ => 0⟩
/-- BLT.BOLT_ATTR.HINT, 06: 0 AUTO, 1 STREAM, 2 RANDOM, 3 COLD, 4 PINNED; 5–7 refused; writable while FREE, ACTIVE, KEY_EXHAUSTED or REKEYING (R139). -/
def R.BLT.BOLT_ATTR.HINT : Fld := ⟨0x6110, 14, 3, .rw, fun _ => 0⟩
/-- BLT.BOLT_ATTR.LPOL, 06: 0 normal, 1 no-allocate, 2 sticky; 3 refused; writable as HINT. -/
def R.BLT.BOLT_ATTR.LPOL : Fld := ⟨0x6110, 17, 2, .rw, fun _ => 0⟩
/-- BLT.BOLT_ATTR.PIN_SET, 06: Pin mask index in Placement of Data; writable as HINT. -/
def R.BLT.BOLT_ATTR.PIN_SET : Fld := ⟨0x6110, 19, 3, .rw, fun _ => 0⟩
/-- BLT.BOLT_ATTR.STATE, 06: Bolt state (R140). -/
def R.BLT.BOLT_ATTR.STATE : Fld := ⟨0x6110, 24, 3, .ro, fun _ => 0⟩
/-- BLT.BOLT_ATTR.CMD, 06: 1 CREATE (R141), 2 DELETE (R142); 0 no action; 3 refused. -/
def R.BLT.BOLT_ATTR.CMD : Fld := ⟨0x6110, 28, 2, .wo, fun _ => 0⟩
/-- BLT.BOLT_CHARGE.CHARGE_KIB, 06: Charge of the bolt in KiB (R149); 0 while FREE. -/
def R.BLT.BOLT_CHARGE.CHARGE_KIB : Fld := ⟨0x6118, 0, 32, .ro, fun _ => 0⟩
/-- BLT.GRANT_SEL.INDEX, 06: Grant entry shown at 0x0_6208–0x0_6210. -/
def R.BLT.GRANT_SEL.INDEX : Fld := ⟨0x6200, 0, 12, .rw, fun _ => 0⟩
/-- BLT.GRANT.CLIENT, 06: Client; writable only while FREE. -/
def R.BLT.GRANT.CLIENT : Fld := ⟨0x6208, 0, 6, .rw, fun _ => 0⟩
/-- BLT.GRANT.BOLT, 06: Bolt entry; writable only while FREE. -/
def R.BLT.GRANT.BOLT : Fld := ⟨0x6208, 6, 10, .rw, fun _ => 0⟩
/-- BLT.GRANT.RIGHTS, 06: [16] READ, [17] WRITE, [18] ATOMIC, [19] NEEDLE; writable only while FREE. -/
def R.BLT.GRANT.RIGHTS : Fld := ⟨0x6208, 16, 4, .rw, fun _ => 0⟩
/-- BLT.GRANT.ISSUED, 06: 0 FREE, 1 ISSUED. -/
def R.BLT.GRANT.ISSUED : Fld := ⟨0x6208, 20, 1, .ro, fun _ => 0⟩
/-- BLT.GRANT.GEN, 06: Generation (R144). -/
def R.BLT.GRANT.GEN : Fld := ⟨0x6208, 21, 20, .ro, fun _ => 0⟩
/-- BLT.GRANT.CMD, 06: 1 ISSUE, 2 REVOKE; 0 no action; 3 refused. -/
def R.BLT.GRANT.CMD : Fld := ⟨0x6208, 41, 2, .wo, fun _ => 0⟩
/-- BLT.GRANT.INFLIGHT, 06: Accesses checked under this grant and not yet ended, saturating at 4095. -/
def R.BLT.GRANT.INFLIGHT : Fld := ⟨0x6208, 43, 12, .ro, fun _ => 0⟩
/-- BLT.GRANT_RANGE.START_SW, 06: First swatch of the range, counted from the bolt's base; writable only while FREE. -/
def R.BLT.GRANT_RANGE.START_SW : Fld := ⟨0x6210, 0, 24, .rw, fun _ => 0⟩
/-- BLT.GRANT_RANGE.LEN_SW, 06: Swatches in the range; writable only while FREE. -/
def R.BLT.GRANT_RANGE.LEN_SW : Fld := ⟨0x6210, 24, 24, .rw, fun _ => 0⟩
/-- BLT.CAP.LIMIT_KIB, 06: Allocation limit (R149). -/
def R.BLT.CAP.LIMIT_KIB : Fld := ⟨0x6300, 0, 32, .ro, fun _ => 131072000⟩
/-- BLT.CAP.CHARGED_KIB, 06: Sum of bolt charges. -/
def R.BLT.CAP.CHARGED_KIB : Fld := ⟨0x6300, 32, 32, .ro, fun _ => 0⟩
/-- BLT.ACC_FAULT.DENIED, 06: ACCESS_DENIED, all clients, saturating. -/
def R.BLT.ACC_FAULT.DENIED : Fld := ⟨0x6308, 0, 16, .rc, fun _ => 0⟩
/-- BLT.ACC_FAULT.BAD_ADDR, 06: BAD_ADDRESS, saturating. -/
def R.BLT.ACC_FAULT.BAD_ADDR : Fld := ⟨0x6308, 16, 16, .rc, fun _ => 0⟩
/-- BLT.ACC_FAULT.KEY_MISMATCH, 06: KEY_MISMATCH, saturating. -/
def R.BLT.ACC_FAULT.KEY_MISMATCH : Fld := ⟨0x6308, 32, 16, .rc, fun _ => 0⟩
/-- BLT.ACC_FAULT.MASTER, 06: Refusals of internal masters 64–79, saturating. -/
def R.BLT.ACC_FAULT.MASTER : Fld := ⟨0x6308, 48, 16, .rc, fun _ => 0⟩
/-- SHU.CFG.HELD_LIMIT, 07: Bobbin pool buffers for fetched descriptors, all rings, 64–2048. -/
def R.SHU.CFG.HELD_LIMIT : Fld := ⟨0xA000, 0, 12, .rw, fun _ => 1024⟩
/-- SHU.CFG.FETCH_BATCH, 07: Descriptors per fetch, 1–32 (R168). -/
def R.SHU.CFG.FETCH_BATCH : Fld := ⟨0xA000, 12, 6, .rw, fun _ => 32⟩
/-- SHU.CFG.RELEASE_RUN, 07: Consumed descriptors per release, 1–16 (R170). -/
def R.SHU.CFG.RELEASE_RUN : Fld := ⟨0xA000, 18, 5, .rw, fun _ => 16⟩
/-- SHU.RING_SEL.INDEX, 07: Global ring index 4 × client + ring. -/
def R.SHU.RING_SEL.INDEX : Fld := ⟨0xA008, 0, 8, .rw, fun _ => 0⟩
/-- SHU.RING_CTRL.QP, 07: Command QP index (R161); writable only while DISABLED. -/
def R.SHU.RING_CTRL.QP : Fld := ⟨0xA100, 0, 10, .rw, fun _ => 0⟩
/-- SHU.RING_CTRL.RING_LOG2, 07: Ring entries = 2^value, 6–16; writable only while DISABLED. -/
def R.SHU.RING_CTRL.RING_LOG2 : Fld := ⟨0xA100, 10, 5, .rw, fun _ => 6⟩
/-- SHU.RING_CTRL.CQ_LOG2, 07: CQ records = 2^value, 6–16; writable only while DISABLED. -/
def R.SHU.RING_CTRL.CQ_LOG2 : Fld := ⟨0xA100, 15, 5, .rw, fun _ => 6⟩
/-- SHU.RING_CTRL.CMD, 07: 1 ENABLE (R162), 2 RESET (R186), 3 HALT (R183); 0 no action. -/
def R.SHU.RING_CTRL.CMD : Fld := ⟨0xA100, 20, 2, .wo, fun _ => 0⟩
/-- SHU.RING_CTRL.STATE, 07: Ring state (R182). -/
def R.SHU.RING_CTRL.STATE : Fld := ⟨0xA100, 22, 3, .ro, fun _ => 0⟩
/-- SHU.RING_BASE.VA, 07: Ring base VA; [5:0] zero at ENABLE; writable only while DISABLED. -/
def R.SHU.RING_BASE.VA : Fld := ⟨0xA108, 0, 64, .rw, fun _ => 0⟩
/-- SHU.RING_CQ.VA, 07: CQ base VA; [4:0] zero at ENABLE; writable only while DISABLED. -/
def R.SHU.RING_CQ.VA : Fld := ⟨0xA110, 0, 64, .rw, fun _ => 0⟩
/-- SHU.RING_RKEY.WIN_RKEY, 07: Client rkey for ring, CQ and default data (R161); writable only while DISABLED. -/
def R.SHU.RING_RKEY.WIN_RKEY : Fld := ⟨0xA118, 0, 32, .rw, fun _ => 0⟩
/-- SHU.RING_STATUS.HEAD, 07: Next descriptor to be fetched. -/
def R.SHU.RING_STATUS.HEAD : Fld := ⟨0xA120, 0, 16, .ro, fun _ => 0⟩
/-- SHU.RING_STATUS.TAIL, 07: Tail from the last processed doorbell. -/
def R.SHU.RING_STATUS.TAIL : Fld := ⟨0xA120, 16, 16, .ro, fun _ => 0⟩
/-- SHU.RING_STATUS.CQ_POSTED, 07: Next CQ index to be written. -/
def R.SHU.RING_STATUS.CQ_POSTED : Fld := ⟨0xA120, 32, 16, .ro, fun _ => 0⟩
/-- SHU.RING_STATUS.CQ_PHASE, 07: Phase of the next record. -/
def R.SHU.RING_STATUS.CQ_PHASE : Fld := ⟨0xA120, 48, 1, .ro, fun _ => 1⟩
/-- SHU.RING_STATUS.CQ_FULL, 07: Records waiting for CQ space (R179). -/
def R.SHU.RING_STATUS.CQ_FULL : Fld := ⟨0xA120, 49, 1, .ro, fun _ => 0⟩
/-- SHU.RING_STATUS.LAST_STATUS, 07: Status of the last halt or detach. -/
def R.SHU.RING_STATUS.LAST_STATUS : Fld := ⟨0xA120, 50, 8, .ro, fun _ => 0⟩
/-- SHU.RING_STAT.BAD_DB, 07: Doorbells ignored (R165), saturating. -/
def R.SHU.RING_STAT.BAD_DB : Fld := ⟨0xA128, 0, 16, .rc, fun _ => 0⟩
/-- SHU.RING_STAT.OWN_STALLS, 07: Fetches stopped at OWN = 0 (R169), saturating. -/
def R.SHU.RING_STAT.OWN_STALLS : Fld := ⟨0xA128, 16, 16, .rc, fun _ => 0⟩
/-- SHU.RING_STAT.ERRORS, 07: Records with status other than OK, saturating. -/
def R.SHU.RING_STAT.ERRORS : Fld := ⟨0xA128, 32, 16, .rc, fun _ => 0⟩
/-- SHU.RING_STAT.CQ_STALLS, 07: Entries into CQ_FULL, saturating. -/
def R.SHU.RING_STAT.CQ_STALLS : Fld := ⟨0xA128, 48, 16, .rc, fun _ => 0⟩
/-- SHU.EQ_SEL.CLIENT, 07: Client whose event queue is shown. -/
def R.SHU.EQ_SEL.CLIENT : Fld := ⟨0xA200, 0, 6, .rw, fun _ => 0⟩
/-- SHU.EQ_BASE.VA, 07: Event queue base VA; [4:0] zero; writable only while EN = 0. -/
def R.SHU.EQ_BASE.VA : Fld := ⟨0xA208, 0, 64, .rw, fun _ => 0⟩
/-- SHU.EQ_CTRL.QP, 07: CMD QP bound to the client; writable only while EN = 0. -/
def R.SHU.EQ_CTRL.QP : Fld := ⟨0xA210, 0, 10, .rw, fun _ => 0⟩
/-- SHU.EQ_CTRL.LOG2, 07: Records = 2^value, 6–12; writable only while EN = 0. -/
def R.SHU.EQ_CTRL.LOG2 : Fld := ⟨0xA210, 10, 4, .rw, fun _ => 6⟩
/-- SHU.EQ_CTRL.EN, 07: Queue enabled; setting it posts from index 0, phase 1. -/
def R.SHU.EQ_CTRL.EN : Fld := ⟨0xA210, 14, 1, .rw, fun _ => 0⟩
/-- SHU.EQ_CTRL.MASK, 07: Subscribed classes, bit n of the field = class n of the event type table. -/
def R.SHU.EQ_CTRL.MASK : Fld := ⟨0xA210, 16, 6, .rw, fun _ => 0⟩
/-- SHU.EQ_CTRL.RKEY, 07: Client rkey for the queue; writable only while EN = 0. -/
def R.SHU.EQ_CTRL.RKEY : Fld := ⟨0xA210, 32, 32, .rw, fun _ => 0⟩
/-- SHU.EQ_STATUS.POSTED, 07: Next event index to be written. -/
def R.SHU.EQ_STATUS.POSTED : Fld := ⟨0xA218, 0, 12, .ro, fun _ => 0⟩
/-- SHU.EQ_STATUS.PHASE, 07: Phase of the next record. -/
def R.SHU.EQ_STATUS.PHASE : Fld := ⟨0xA218, 12, 1, .ro, fun _ => 1⟩
/-- SHU.EQ_STATUS.FULL, 07: Queue full. -/
def R.SHU.EQ_STATUS.FULL : Fld := ⟨0xA218, 13, 1, .ro, fun _ => 0⟩
/-- SHU.EQ_STATUS.LOST, 07: Events discarded (R193), saturating. -/
def R.SHU.EQ_STATUS.LOST : Fld := ⟨0xA218, 16, 32, .rc, fun _ => 0⟩
/-- NDL.CFG.MAX_ACTIVE, 08: Needle descriptors executing at once, 1–128 (R222). -/
def R.NDL.CFG.MAX_ACTIVE : Fld := ⟨0xB000, 0, 8, .rw, fun _ => 64⟩
/-- NDL.CFG.QUANTUM, 08: Steps per round-robin turn, 1–63. -/
def R.NDL.CFG.QUANTUM : Fld := ⟨0xB000, 8, 6, .rw, fun _ => 4⟩
/-- NDL.STATUS.ACTIVE, 08: Descriptors executing. -/
def R.NDL.STATUS.ACTIVE : Fld := ⟨0xB008, 0, 8, .ro, fun _ => 0⟩
/-- NDL.STATUS.WAITING, 08: Started descriptors waiting for a slot. -/
def R.NDL.STATUS.WAITING : Fld := ⟨0xB008, 8, 10, .ro, fun _ => 0⟩
/-- NDL.STATUS.STEP_RATE, 08: Steps per µs over the last housekeeping round while any descriptor executed. -/
def R.NDL.STATUS.STEP_RATE : Fld := ⟨0xB008, 32, 16, .ro, fun _ => 0⟩
/-- NDL.STEPS.STEPS, 08: Steps taken since last read, saturating. -/
def R.NDL.STEPS.STEPS : Fld := ⟨0xB010, 0, 64, .rc, fun _ => 0⟩
/-- NDL.OPS.COMPLETED, 08: Ended with OK or PARTIAL, saturating. -/
def R.NDL.OPS.COMPLETED : Fld := ⟨0xB018, 0, 32, .rc, fun _ => 0⟩
/-- NDL.OPS.FAILED, 08: Ended with any other status after starting, saturating. -/
def R.NDL.OPS.FAILED : Fld := ⟨0xB018, 32, 32, .rc, fun _ => 0⟩
/-- NDL.SKIPPED.OUT_OF_RANGE, 08: Out-of-range indices and entries (R211, R215), saturating. -/
def R.NDL.SKIPPED.OUT_OF_RANGE : Fld := ⟨0xB020, 0, 32, .rc, fun _ => 0⟩
/-- NDL.SKIPPED.BAD_ENTRY, 08: Bad ATOMIC_BATCH entries (R215), saturating. -/
def R.NDL.SKIPPED.BAD_ENTRY : Fld := ⟨0xB020, 32, 32, .rc, fun _ => 0⟩
/-- NDL.FP.NAN_RESULTS, 08: Segment results returned as canonical NaN (R205), saturating. -/
def R.NDL.FP.NAN_RESULTS : Fld := ⟨0xB028, 0, 32, .rc, fun _ => 0⟩
/-- NDL.FP.INF_RESULTS, 08: Segment results returned as an infinity, saturating. -/
def R.NDL.FP.INF_RESULTS : Fld := ⟨0xB028, 32, 32, .rc, fun _ => 0⟩
/-- PLC.CFG.EN, 09: Planning enabled (R245). -/
def R.PLC.CFG.EN : Fld := ⟨0x8000, 0, 1, .rw, fun _ => 1⟩
/-- PLC.CFG.SAMPLE_SHIFT, 09: One lookup in 2^value sampled, 0–12 (R239). -/
def R.PLC.CFG.SAMPLE_SHIFT : Fld := ⟨0x8000, 4, 4, .rw, fun _ => 6⟩
/-- PLC.CFG.HOLDOFF, 09: Epochs before a moved swatch may move again (R244). -/
def R.PLC.CFG.HOLDOFF : Fld := ⟨0x8000, 8, 4, .rw, fun _ => 8⟩
/-- PLC.CFG.EPOCH_US, 09: Epoch length in µs, 100–10 000. -/
def R.PLC.CFG.EPOCH_US : Fld := ⟨0x8000, 16, 16, .rw, fun _ => 1000⟩
/-- PLC.CFG.MAX_MOVES, 09: Moves started per epoch, 0–2048. -/
def R.PLC.CFG.MAX_MOVES : Fld := ⟨0x8000, 32, 12, .rw, fun _ => 256⟩
/-- PLC.THRESH.HOT, 09: Heat for hot, 1–4095. -/
def R.PLC.THRESH.HOT : Fld := ⟨0x8008, 0, 12, .rw, fun _ => 16⟩
/-- PLC.THRESH.COLD_AGE, 09: Idle sweeps for cold, 1–15. -/
def R.PLC.THRESH.COLD_AGE : Fld := ⟨0x8008, 12, 4, .rw, fun _ => 8⟩
/-- PLC.THRESH.SEQ_FRAC, 09: Sequential fraction in sixteenths, 1–16. -/
def R.PLC.THRESH.SEQ_FRAC : Fld := ⟨0x8008, 16, 4, .rw, fun _ => 12⟩
/-- PLC.THRESH.WRITE_FRAC, 09: Write-heavy fraction in sixteenths, 1–16. -/
def R.PLC.THRESH.WRITE_FRAC : Fld := ⟨0x8008, 20, 4, .rw, fun _ => 8⟩
/-- PLC.STATUS.EPOCH, 09: Epochs since power-good, wrapping. -/
def R.PLC.STATUS.EPOCH : Fld := ⟨0x8010, 0, 32, .ro, fun _ => 0⟩
/-- PLC.STATUS.MOVES_ACTIVE, 09: Move records in use, 0–512. -/
def R.PLC.STATUS.MOVES_ACTIVE : Fld := ⟨0x8010, 32, 10, .ro, fun _ => 0⟩
/-- PLC.STATUS.S32_GEN, 09: CURRENT generation. -/
def R.PLC.STATUS.S32_GEN : Fld := ⟨0x8010, 42, 3, .ro, fun _ => 0⟩
/-- PLC.STATUS.SEAM_LOW, 09: Free frames below the floor (R258). -/
def R.PLC.STATUS.SEAM_LOW : Fld := ⟨0x8010, 45, 1, .ro, fun _ => 0⟩
/-- PLC.STATUS.PLANNING, 09: Planning running in the current mode. -/
def R.PLC.STATUS.PLANNING : Fld := ⟨0x8010, 46, 1, .ro, fun _ => 0⟩
/-- PLC.FREE.FREE_FRAMES, 09: Free members and free slots (R234). -/
def R.PLC.FREE.FREE_FRAMES : Fld := ⟨0x8018, 0, 22, .ro, fun _ => 0⟩
/-- PLC.FREE.MAPPED, 09: Frames holding swatches, tags or counters. -/
def R.PLC.FREE.MAPPED : Fld := ⟨0x8018, 22, 22, .ro, fun _ => 0⟩
/-- PLC.FREE.TORN_PC, 09: Pseudo-channels withdrawn. -/
def R.PLC.FREE.TORN_PC : Fld := ⟨0x8018, 44, 7, .ro, fun _ => 0⟩
/-- PLC.MOVES.STARTED, 09: Moves started, saturating. -/
def R.PLC.MOVES.STARTED : Fld := ⟨0x8020, 0, 24, .rc, fun _ => 0⟩
/-- PLC.MOVES.FLIPPED, 09: Moves flipped, saturating. -/
def R.PLC.MOVES.FLIPPED : Fld := ⟨0x8020, 24, 24, .rc, fun _ => 0⟩
/-- PLC.MOVES.CANCELLED, 09: Moves ended without flip (R251), saturating. -/
def R.PLC.MOVES.CANCELLED : Fld := ⟨0x8020, 48, 16, .rc, fun _ => 0⟩
/-- PLC.FORCED.FORCED_FLIPS, 09: Flips that held writes (R250), saturating. -/
def R.PLC.FORCED.FORCED_FLIPS : Fld := ⟨0x8028, 0, 32, .rc, fun _ => 0⟩
/-- PLC.FORCED.EXHAUSTED, 09: First writes failed for lack of a frame (R237), saturating. -/
def R.PLC.FORCED.EXHAUSTED : Fld := ⟨0x8028, 32, 32, .rc, fun _ => 0⟩
/-- PLC.PIN_MASK.MASK, 09: Channels of pin set n; RO and 0 for n = 0; writable only while FRAMES = 0. -/
def R.PLC.PIN_MASK.MASK : Fld := ⟨0x8040, 0, 32, .rw, fun _ => 0⟩
/-- PLC.PIN_MASK.FRAMES, 09: Frames in use by the pin set. -/
def R.PLC.PIN_MASK.FRAMES : Fld := ⟨0x8040, 32, 22, .ro, fun _ => 0⟩
/-- PLC.S32_GEN.MASK, 09: Channels of the generation (R227). -/
def R.PLC.S32_GEN.MASK : Fld := ⟨0x8080, 0, 32, .ro, fun _ => 0⟩
/-- PLC.S32_GEN.FRAMES, 09: Frames in use. -/
def R.PLC.S32_GEN.FRAMES : Fld := ⟨0x8080, 32, 22, .ro, fun _ => 0⟩
/-- PLC.S32_GEN.CURRENT, 09: New S32 groups formed here. -/
def R.PLC.S32_GEN.CURRENT : Fld := ⟨0x8080, 54, 1, .ro, fun _ => 0⟩
/-- PLC.S32_GEN.VALID, 09: Entry in use. -/
def R.PLC.S32_GEN.VALID : Fld := ⟨0x8080, 55, 1, .ro, fun _ => 0⟩
/-- PLC.RESTITCH.START_SW, 09: First logical swatch. -/
def R.PLC.RESTITCH.START_SW : Fld := ⟨0x8100, 0, 24, .rw, fun _ => 0⟩
/-- PLC.RESTITCH.COUNT, 09: Swatches, 1 to 2^24 − START_SW. -/
def R.PLC.RESTITCH.COUNT : Fld := ⟨0x8100, 24, 24, .rw, fun _ => 0⟩
/-- PLC.RESTITCH.MODE, 09: 1 ZERO, 2 PARTNER (R256). -/
def R.PLC.RESTITCH.MODE : Fld := ⟨0x8100, 48, 2, .rw, fun _ => 0⟩
/-- PLC.RESTITCH.GO, 09: Writing 1 starts the restitch. -/
def R.PLC.RESTITCH.GO : Fld := ⟨0x8100, 50, 1, .wo, fun _ => 0⟩
/-- PLC.RESTITCH_STATUS.STATE, 09: 0 idle, 1 running, 2 done, 3 stopped. -/
def R.PLC.RESTITCH_STATUS.STATE : Fld := ⟨0x8108, 0, 2, .ro, fun _ => 0⟩
/-- PLC.RESTITCH_STATUS.STATUS, 09: OK, or the stopping status (R257). -/
def R.PLC.RESTITCH_STATUS.STATUS : Fld := ⟨0x8108, 2, 8, .ro, fun _ => 0⟩
/-- PLC.RESTITCH_STATUS.DONE, 09: Swatches restitched. -/
def R.PLC.RESTITCH_STATUS.DONE : Fld := ⟨0x8108, 10, 24, .ro, fun _ => 0⟩
/-- PLC.RESTITCH_STATUS.SKIPPED, 09: Swatches not torn. -/
def R.PLC.RESTITCH_STATUS.SKIPPED : Fld := ⟨0x8108, 34, 24, .ro, fun _ => 0⟩
/-- PLC.PROBE_SEL.SWATCH, 09: Logical swatch shown in PLC.PROBE. -/
def R.PLC.PROBE_SEL.SWATCH : Fld := ⟨0x8110, 0, 24, .rw, fun _ => 0⟩
/-- PLC.PROBE.ENTRY, 09: Map entry of the selected swatch (R230). -/
def R.PLC.PROBE.ENTRY : Fld := ⟨0x8118, 0, 32, .ro, fun _ => 0⟩
/-- PLC.PROBE.DWELL, 09: Dwell record (R233). -/
def R.PLC.PROBE.DWELL : Fld := ⟨0x8118, 32, 16, .ro, fun _ => 0⟩
/-- PLC.PROBE.IN_HEAT, 09: Swatch holds a heat-table entry. -/
def R.PLC.PROBE.IN_HEAT : Fld := ⟨0x8118, 48, 1, .ro, fun _ => 0⟩
/-- LNG.CFG.STICKY_MIB, 10: Sticky cap in MiB, 0–16 (R272). -/
def R.LNG.CFG.STICKY_MIB : Fld := ⟨0x9000, 0, 5, .rw, fun _ => 16⟩
/-- LNG.CFG.DIRTY_HIGH, 10: Cleaner start, in 1/256 of all lines (R270). -/
def R.LNG.CFG.DIRTY_HIGH : Fld := ⟨0x9000, 8, 8, .rw, fun _ => 128⟩
/-- LNG.CFG.DIRTY_LOW, 10: Cleaner stop, in 1/256 of all lines. -/
def R.LNG.CFG.DIRTY_LOW : Fld := ⟨0x9000, 16, 8, .rw, fun _ => 96⟩
/-- LNG.STATUS.VALID_LINES, 10: Lines with any VALID sector. -/
def R.LNG.STATUS.VALID_LINES : Fld := ⟨0x9008, 0, 19, .ro, fun _ => 0⟩
/-- LNG.STATUS.DIRTY_LINES, 10: Lines with any DIRTY sector. -/
def R.LNG.STATUS.DIRTY_LINES : Fld := ⟨0x9008, 19, 19, .ro, fun _ => 0⟩
/-- LNG.STATUS.STICKY_LINES, 10: Lines with a sticky mark. -/
def R.LNG.STATUS.STICKY_LINES : Fld := ⟨0x9008, 38, 17, .ro, fun _ => 0⟩
/-- LNG.STATUS.CLEANING, 10: Cleaner or CLEAN_ALL running. -/
def R.LNG.STATUS.CLEANING : Fld := ⟨0x9008, 55, 1, .ro, fun _ => 0⟩
/-- LNG.READS.HITS, 10: Read lookups served in the Lining, saturating. -/
def R.LNG.READS.HITS : Fld := ⟨0x9010, 0, 32, .rc, fun _ => 0⟩
/-- LNG.READS.MISSES, 10: Read lookups that missed, saturating. -/
def R.LNG.READS.MISSES : Fld := ⟨0x9010, 32, 32, .rc, fun _ => 0⟩
/-- LNG.WRITES.HITS, 10: Write lookups served in the Lining, saturating. -/
def R.LNG.WRITES.HITS : Fld := ⟨0x9018, 0, 32, .rc, fun _ => 0⟩
/-- LNG.WRITES.MISSES, 10: Write lookups that missed, including writes around, saturating. -/
def R.LNG.WRITES.MISSES : Fld := ⟨0x9018, 32, 32, .rc, fun _ => 0⟩
/-- LNG.EVICT.WRITEBACKS, 10: Sectors written back, saturating. -/
def R.LNG.EVICT.WRITEBACKS : Fld := ⟨0x9020, 0, 32, .rc, fun _ => 0⟩
/-- LNG.EVICT.FILL_FAILS, 10: Sectors that failed a fill (R264), saturating. -/
def R.LNG.EVICT.FILL_FAILS : Fld := ⟨0x9020, 32, 16, .rc, fun _ => 0⟩
/-- LNG.EVICT.WB_RETRIES, 10: Write-back retries (R268), saturating. -/
def R.LNG.EVICT.WB_RETRIES : Fld := ⟨0x9020, 48, 16, .rc, fun _ => 0⟩
/-- LNG.CMD.CLEAN_ALL, 10: Writing 1 writes back every dirty line once, leaving lines resident; CLEANING is set until done. -/
def R.LNG.CMD.CLEAN_ALL : Fld := ⟨0x9028, 0, 1, .wo, fun _ => 0⟩
/-- QOS.CFG.MISS_EN, 11: Miss detection enabled (R295). -/
def R.QOS.CFG.MISS_EN : Fld := ⟨0xC000, 0, 1, .rw, fun _ => 1⟩
/-- QOS.CFG.AGE_US, 11: Wait in µs before a DEMOTED slot is promoted, 1–255 (R289); 0 refused. -/
def R.QOS.CFG.AGE_US : Fld := ⟨0xC000, 8, 8, .rw, fun _ => 20⟩
/-- QOS.DELIVER.REF, 11: D_REF, slots per µs. -/
def R.QOS.DELIVER.REF : Fld := ⟨0xC008, 0, 13, .ro, fun _ => 5000⟩
/-- QOS.DELIVER.NOW, 11: D_NOW, slots per µs (R284). -/
def R.QOS.DELIVER.NOW : Fld := ⟨0xC008, 13, 13, .ro, fun _ => 0⟩
/-- QOS.DELIVER.FACTOR, 11: F in effect, 1/1024 units (R285). -/
def R.QOS.DELIVER.FACTOR : Fld := ⟨0xC008, 26, 11, .ro, fun _ => 1024⟩
/-- QOS.DELIVER.GUAR_SUM, 11: Sum of GUAR over all masters, ‰. -/
def R.QOS.DELIVER.GUAR_SUM : Fld := ⟨0xC008, 37, 10, .ro, fun _ => 40⟩
/-- QOS.DELIVER.LIMIT, 11: Smallest term: 0 Hem, 1 channels, 2 crypto; on a tie, the first in this order (R284). -/
def R.QOS.DELIVER.LIMIT : Fld := ⟨0xC008, 47, 2, .ro, fun _ => 0⟩
/-- QOS.PORT.PORT0, 11: Port 0 line rate in Gb/s; 0 while down. -/
def R.QOS.PORT.PORT0 : Fld := ⟨0xC010, 0, 9, .ro, fun _ => 0⟩
/-- QOS.PORT.PORT1, 11: Port 1 line rate in Gb/s; 0 while down. -/
def R.QOS.PORT.PORT1 : Fld := ⟨0xC010, 9, 9, .ro, fun _ => 0⟩
/-- QOS.POOL.FREE, 11: Free buffers. -/
def R.QOS.POOL.FREE : Fld := ⟨0xC018, 0, 14, .ro, fun _ => 8192⟩
/-- QOS.POOL.RX, 11: Held by received frames, both ports. -/
def R.QOS.POOL.RX : Fld := ⟨0xC018, 14, 14, .ro, fun _ => 0⟩
/-- QOS.POOL.SHUTTLE, 11: Held by fetched descriptors. -/
def R.QOS.POOL.SHUTTLE : Fld := ⟨0xC018, 28, 14, .ro, fun _ => 0⟩
/-- QOS.POOL.CHANNEL, 11: Held by slots in flight, held writes and waiting requests. -/
def R.QOS.POOL.CHANNEL : Fld := ⟨0xC018, 42, 14, .ro, fun _ => 0⟩
/-- QOS.POOL_CFG.GUAR_RESERVE, 11: Buffers kept for GUARANTEED slots and masters 64–70 (R297, R298). -/
def R.QOS.POOL_CFG.GUAR_RESERVE : Fld := ⟨0xC020, 0, 14, .rw, fun _ => 512⟩
/-- QOS.MASTER_SEL.INDEX, 11: Master 0–79 shown at 0x0_C108–0x0_C118; 80–127 refused with MALFORMED. -/
def R.QOS.MASTER_SEL.INDEX : Fld := ⟨0xC100, 0, 7, .rw, fun _ => 0⟩
/-- QOS.MASTER.BUDGET, 11: Slots in flight before demotion, 1–4095; 0 refused; a write that changes it for a reserved master refused (R290, R157). -/
def R.QOS.MASTER.BUDGET : Fld := ⟨0xC108, 0, 12, .rw, masterBudget⟩
/-- QOS.MASTER.GUAR, 11: Guarantee in ‰ of D_REF, 0–850 (R290). -/
def R.QOS.MASTER.GUAR : Fld := ⟨0xC108, 12, 10, .rw, masterGuar⟩
/-- QOS.MASTER.INFLIGHT, 11: Slots in flight now, saturating at 4095. -/
def R.QOS.MASTER.INFLIGHT : Fld := ⟨0xC108, 22, 12, .ro, fun _ => 0⟩
/-- QOS.MASTER_STAT.EFF_GUAR, 11: g_win for the current window (R291). -/
def R.QOS.MASTER_STAT.EFF_GUAR : Fld := ⟨0xC110, 0, 32, .ro, fun _ => 0⟩
/-- QOS.MASTER_STAT.LAST_SERVED, 11: Slots served in the last complete window. -/
def R.QOS.MASTER_STAT.LAST_SERVED : Fld := ⟨0xC110, 32, 32, .ro, fun _ => 0⟩
/-- QOS.MASTER_CNT.DEMOTED, 11: Slots issued DEMOTED under rule 3 of R287, saturating. -/
def R.QOS.MASTER_CNT.DEMOTED : Fld := ⟨0xC118, 0, 32, .rc, fun _ => 0⟩
/-- QOS.MASTER_CNT.AGED, 11: Slots promoted under R289, saturating. -/
def R.QOS.MASTER_CNT.AGED : Fld := ⟨0xC118, 32, 32, .rc, fun _ => 0⟩
/-- QOS.MISS_LO.MISS, 11: Bit i: master i missed a guarantee since last cleared (R296). -/
def R.QOS.MISS_LO.MISS : Fld := ⟨0xC200, 0, 64, .w1c, fun _ => 0⟩
/-- QOS.MISS_HI.MISS, 11: Bit i: master 64 + i missed a guarantee; bits 7–15 always 0. -/
def R.QOS.MISS_HI.MISS : Fld := ⟨0xC208, 0, 16, .w1c, fun _ => 0⟩
/-- QOS.REVISE.CHANGES, 11: Changes of F taken into effect, saturating. -/
def R.QOS.REVISE.CHANGES : Fld := ⟨0xC210, 0, 32, .rc, fun _ => 0⟩
/-- QOS.REVISE.EXCLUDED, 11: Windows excluded under R295, saturating. -/
def R.QOS.REVISE.EXCLUDED : Fld := ⟨0xC210, 32, 32, .rc, fun _ => 0⟩
/-- PMC.VAL.LOW, 12: Counter 2m. -/
def R.PMC.VAL.LOW : Fld := ⟨0x26000, 0, 32, .ro, fun _ => 0⟩
/-- PMC.VAL.HIGH, 12: Counter 2m + 1; high half of counter 2m when chained (R303, R305). -/
def R.PMC.VAL.HIGH : Fld := ⟨0x26000, 32, 32, .ro, fun _ => 0⟩
/-- PMC.CTRL.DUMP_EN, 12: Periodic dumps enabled (R307). -/
def R.PMC.CTRL.DUMP_EN : Fld := ⟨0x27000, 0, 1, .rw, fun _ => 1⟩
/-- PMC.CTRL.PERIOD_MS, 12: Dump period in ms, 1–10 000; other values refused with MALFORMED. -/
def R.PMC.CTRL.PERIOD_MS : Fld := ⟨0x27000, 16, 14, .rw, fun _ => 100⟩
/-- PMC.DUMP.SEQ, 12: Sequence of the last complete record; 0 = none. -/
def R.PMC.DUMP.SEQ : Fld := ⟨0x27008, 0, 32, .ro, fun _ => 0⟩
/-- PMC.DUMP.SLOT, 12: Slot the next record will use. -/
def R.PMC.DUMP.SLOT : Fld := ⟨0x27008, 32, 11, .ro, fun _ => 0⟩
/-- PMC.DUMP.BUSY, 12: A record is being written. -/
def R.PMC.DUMP.BUSY : Fld := ⟨0x27008, 43, 1, .ro, fun _ => 0⟩
/-- PMC.DUMP.SKIPPED, 12: Latches skipped since last read, saturating. -/
def R.PMC.DUMP.SKIPPED : Fld := ⟨0x27008, 48, 16, .rc, fun _ => 0⟩
/-- PMC.DUMP_TICK.TICK, 12: Latch tick of the last complete record. -/
def R.PMC.DUMP_TICK.TICK : Fld := ⟨0x27010, 0, 64, .ro, fun _ => 0⟩
/-- PMC.SEL.INDEX, 12: Counter shown in PMC.CFG. -/
def R.PMC.SEL.INDEX : Fld := ⟨0x27018, 0, 10, .rw, fun _ => 0⟩
/-- PMC.CFG.CHAIN, 12: High half of the counter below (R303); odd counters only. -/
def R.PMC.CFG.CHAIN : Fld := ⟨0x27020, 0, 1, .rw, fun _ => 0⟩
/-- PMC.CFG.OCC, 12: Event is an occupancy event. -/
def R.PMC.CFG.OCC : Fld := ⟨0x27020, 1, 1, .ro, fun e => (pmcOcc e).toNat⟩
/-- PMC.CFG.THRESH, 12: Occupancy threshold N (R302). -/
def R.PMC.CFG.THRESH : Fld := ⟨0x27020, 2, 20, .rw, fun _ => 0⟩
/-- PMC.CFG.ASSIGNED, 12: Counter has an event (R306). -/
def R.PMC.CFG.ASSIGNED : Fld := ⟨0x27020, 22, 1, .ro, fun e => (pmcAssigned e).toNat⟩
/-- PMC.OVF.OVF, 12: Bit i: counter 64m + i wrapped (R304). -/
def R.PMC.OVF.OVF : Fld := ⟨0x27100, 0, 64, .w1c, fun _ => 0⟩
/-- PRT.CFG.COMPAT_EN, 13: Compat bolts may be created; setting it is refused with UNSUPPORTED under COMPAT_LOCK. -/
def R.PRT.CFG.COMPAT_EN : Fld := ⟨0xD000, 0, 1, .rw, fun _ => 1⟩
/-- PRT.CFG.KEY_LIMIT_LOG2, 13: Sector encryptions per slot before exhaustion, 2^value, 32–63 (R329); others refused with MALFORMED. -/
def R.PRT.CFG.KEY_LIMIT_LOG2 : Fld := ⟨0xD000, 8, 6, .rw, fun _ => 48⟩
/-- PRT.LIFE.LIFECYCLE, 13: 0 BLANK, 1 PROVISIONED, 2 DEPLOYED, 3 RETURNED. -/
def R.PRT.LIFE.LIFECYCLE : Fld := ⟨0xD008, 0, 2, .ro, fun _ => 0⟩
/-- PRT.LIFE.OWNER_SET, 13: Owner value programmed. -/
def R.PRT.LIFE.OWNER_SET : Fld := ⟨0xD008, 2, 1, .ro, fun _ => 0⟩
/-- PRT.LIFE.DEBUG_LOCK, 13: Debug keys locked (R339). -/
def R.PRT.LIFE.DEBUG_LOCK : Fld := ⟨0xD008, 3, 1, .ro, fun _ => 0⟩
/-- PRT.LIFE.COMPAT_LOCK, 13: Compat disabled permanently. -/
def R.PRT.LIFE.COMPAT_LOCK : Fld := ⟨0xD008, 4, 1, .ro, fun _ => 0⟩
/-- PRT.LIFE.KEK_OK, 13: KEK derived (R313). -/
def R.PRT.LIFE.KEK_OK : Fld := ⟨0xD008, 5, 1, .ro, fun _ => 0⟩
/-- PRT.KEY_SEL.SLOT, 13: Key ID whose slot is shown at 0x0_D060–0x0_D070, and on which LOAD and CLEAR act. -/
def R.PRT.KEY_SEL.SLOT : Fld := ⟨0xD010, 0, 12, .rw, fun _ => 0⟩
/-- PRT.KEY_WRAP.DATA, 13: Bytes 8n to 8n + 7 of the RFC 3394 blob (R314); one set for all slots, not selected by KEY_SEL; cleared by every LOAD. -/
def R.PRT.KEY_WRAP.DATA : Fld := ⟨0xD018, 0, 64, .wo, fun _ => 0⟩
/-- PRT.KEY_CTRL.CMD, 13: 1 LOAD (R314), 2 CLEAR (R316); 0 no action; 3 refused. -/
def R.PRT.KEY_CTRL.CMD : Fld := ⟨0xD060, 0, 2, .wo, fun _ => 0⟩
/-- PRT.KEY_CTRL.STATE, 13: Slot state (R312). -/
def R.PRT.KEY_CTRL.STATE : Fld := ⟨0xD060, 2, 2, .ro, fun _ => 0⟩
/-- PRT.KEY_CTRL.BOLTS, 13: Bolts not FREE holding this key ID. -/
def R.PRT.KEY_CTRL.BOLTS : Fld := ⟨0xD060, 4, 10, .ro, fun _ => 0⟩
/-- PRT.KEY_CTRL.KCV, 13: Key check value (R315); 0 while EMPTY. -/
def R.PRT.KEY_CTRL.KCV : Fld := ⟨0xD060, 16, 24, .ro, fun _ => 0⟩
/-- PRT.KEY_CTRL.EXHAUSTED, 13: Encryption limit reached (R329). -/
def R.PRT.KEY_CTRL.EXHAUSTED : Fld := ⟨0xD060, 40, 1, .ro, fun _ => 0⟩
/-- PRT.KEY_USE.COUNT, 13: Sector encryptions under the slot since LOAD, saturating. -/
def R.PRT.KEY_USE.COUNT : Fld := ⟨0xD068, 0, 64, .ro, fun _ => 0⟩
/-- PRT.KEY_HWM.M, 13: Highest leaf major issued under the slot (R328). -/
def R.PRT.KEY_HWM.M : Fld := ⟨0xD070, 0, 64, .ro, fun _ => 0⟩
/-- PRT.REKEY.TARGET, 13: Key ID K (R331). -/
def R.PRT.REKEY.TARGET : Fld := ⟨0xD078, 0, 12, .rw, fun _ => 0⟩
/-- PRT.REKEY.STAGING, 13: Key ID K′. -/
def R.PRT.REKEY.STAGING : Fld := ⟨0xD078, 12, 12, .rw, fun _ => 0⟩
/-- PRT.REKEY.GO, 13: Writing 1 starts the rekey. -/
def R.PRT.REKEY.GO : Fld := ⟨0xD078, 24, 1, .wo, fun _ => 0⟩
/-- PRT.REKEY.STATE, 13: 0 idle, 1 running, 2 done, 3 stopped (R334). -/
def R.PRT.REKEY.STATE : Fld := ⟨0xD078, 25, 2, .ro, fun _ => 0⟩
/-- PRT.REKEY.BOLT, 13: Bolt entry being converted. -/
def R.PRT.REKEY.BOLT : Fld := ⟨0xD078, 27, 10, .ro, fun _ => 0⟩
/-- PRT.REKEY_PROG.DONE, 13: Groups converted. -/
def R.PRT.REKEY_PROG.DONE : Fld := ⟨0xD080, 0, 32, .ro, fun _ => 0⟩
/-- PRT.REKEY_PROG.TOTAL, 13: Groups to convert, fixed at GO. -/
def R.PRT.REKEY_PROG.TOTAL : Fld := ⟨0xD080, 32, 32, .ro, fun _ => 0⟩
/-- PRT.MR_SEL.MASTER, 13: Master 64 + value shown in PRT.MRIGHTS. -/
def R.PRT.MR_SEL.MASTER : Fld := ⟨0xD088, 0, 4, .rw, fun _ => 0⟩
/-- PRT.MRIGHTS.READ, 13: Read right. -/
def R.PRT.MRIGHTS.READ : Fld := ⟨0xD090, 0, 1, .rw, mrRead⟩
/-- PRT.MRIGHTS.WRITE, 13: Write right. -/
def R.PRT.MRIGHTS.WRITE : Fld := ⟨0xD090, 1, 1, .rw, mrWrite⟩
/-- PRT.MRIGHTS.ATOMIC, 13: Atomic right. -/
def R.PRT.MRIGHTS.ATOMIC : Fld := ⟨0xD090, 2, 1, .rw, fun _ => 0⟩
/-- PRT.MRIGHTS.SCOPE, 13: 0 none, 1 key ID 0x000 only, 2 all key IDs, 3 key ID in KEY_ID only. -/
def R.PRT.MRIGHTS.SCOPE : Fld := ⟨0xD090, 3, 2, .rw, mrScope⟩
/-- PRT.MRIGHTS.VIEW, 13: 0 plaintext, 1 codeword, 2 raw. -/
def R.PRT.MRIGHTS.VIEW : Fld := ⟨0xD090, 5, 2, .ro, mrView⟩
/-- PRT.MRIGHTS.KEY_ID, 13: Key ID for SCOPE 3. -/
def R.PRT.MRIGHTS.KEY_ID : Fld := ⟨0xD090, 7, 12, .rw, fun _ => 0⟩
/-- PRT.TREE_STAT.TAG_FAILS, 13: Sectors failing tag or MAC check, saturating. -/
def R.PRT.TREE_STAT.TAG_FAILS : Fld := ⟨0xD098, 0, 16, .rc, fun _ => 0⟩
/-- PRT.TREE_STAT.VOID_TAGS, 13: Tags voided (R336), saturating. -/
def R.PRT.TREE_STAT.VOID_TAGS : Fld := ⟨0xD098, 16, 16, .rc, fun _ => 0⟩
/-- PRT.TREE_STAT.NODES_LOST, 13: Tree nodes lost (R335), saturating. -/
def R.PRT.TREE_STAT.NODES_LOST : Fld := ⟨0xD098, 32, 16, .rc, fun _ => 0⟩
/-- PRT.TREE_STAT.UNWRAP_FAILS, 13: LOAD unwrap failures (R314), saturating. -/
def R.PRT.TREE_STAT.UNWRAP_FAILS : Fld := ⟨0xD098, 48, 16, .rc, fun _ => 0⟩
/-- PRT.TORN.LEVEL, 13: Level of the lost node, 0–3. -/
def R.PRT.TORN.LEVEL : Fld := ⟨0xD0A0, 0, 3, .ro, fun _ => 0⟩
/-- PRT.TORN.NODE, 13: Node index at that level. -/
def R.PRT.TORN.NODE : Fld := ⟨0xD0A0, 3, 25, .ro, fun _ => 0⟩
/-- PRT.TORN.BOLT, 13: Lowest bolt entry torn by it. -/
def R.PRT.TORN.BOLT : Fld := ⟨0xD0A0, 28, 10, .ro, fun _ => 0⟩
/-- PRT.TORN_TICK.TICK, 13: Tick at which the tear of PRT.TORN took effect. -/
def R.PRT.TORN_TICK.TICK : Fld := ⟨0xD0A8, 0, 64, .ro, fun _ => 0⟩
/-- CHN.CTRL.RH_THRESH, 14: Activate threshold per window, 500–8000 (R352). -/
def R.CHN.CTRL.RH_THRESH : Fld := ⟨0x10000, 0, 13, .rw, fun _ => 2000⟩
/-- CHN.CTRL.PAGE_IDLE, 14: Open-row idle time in units of 10 ns; 0 = close after each access (R345). -/
def R.CHN.CTRL.PAGE_IDLE : Fld := ⟨0x10000, 16, 8, .rw, fun _ => 10⟩
/-- CHN.STATUS.POINT, 14: Operating point in use, 0–3. -/
def R.CHN.STATUS.POINT : Fld := ⟨0x10008, 0, 2, .ro, fun _ => 0⟩
/-- CHN.STATUS.IN_WINDOW, 14: In an operating-point or narrow-mode window. -/
def R.CHN.STATUS.IN_WINDOW : Fld := ⟨0x10008, 2, 1, .ro, fun _ => 0⟩
/-- CHN.STATUS.REF_FAST, 14: Refresh at 1.95 µs (R349). -/
def R.CHN.STATUS.REF_FAST : Fld := ⟨0x10008, 3, 1, .ro, fun _ => 0⟩
/-- CHN.STATUS.NARROW, 14: Channel in narrow mode (R53). -/
def R.CHN.STATUS.NARROW : Fld := ⟨0x10008, 4, 1, .ro, fun _ => 0⟩
/-- CHN.STATUS.HALF_PC0, 14: Half in use by pseudo-channel 0: 0 lower, 1 upper. -/
def R.CHN.STATUS.HALF_PC0 : Fld := ⟨0x10008, 5, 1, .ro, fun _ => 0⟩
/-- CHN.STATUS.HALF_PC1, 14: Half in use by pseudo-channel 1. -/
def R.CHN.STATUS.HALF_PC1 : Fld := ⟨0x10008, 6, 1, .ro, fun _ => 0⟩
/-- CHN.STATUS.TORN_PC0, 14: Pseudo-channel 0 torn (R58). -/
def R.CHN.STATUS.TORN_PC0 : Fld := ⟨0x10008, 7, 1, .ro, fun _ => 0⟩
/-- CHN.STATUS.TORN_PC1, 14: Pseudo-channel 1 torn. -/
def R.CHN.STATUS.TORN_PC1 : Fld := ⟨0x10008, 8, 1, .ro, fun _ => 0⟩
/-- CHN.STATUS.ACT_HOLD, 14: Activates held for a rail (R43). -/
def R.CHN.STATUS.ACT_HOLD : Fld := ⟨0x10008, 9, 1, .ro, fun _ => 0⟩
/-- CHN.STATUS.CREDIT, 14: Cell holds Hem credit: nonzero share for the round (R400). -/
def R.CHN.STATUS.CREDIT : Fld := ⟨0x10008, 10, 1, .ro, fun _ => 0⟩
/-- CHN.STATUS.QUEUED, 14: Admitted slots waiting, both pseudo-channels, 0–128. -/
def R.CHN.STATUS.QUEUED : Fld := ⟨0x10008, 11, 8, .ro, fun _ => 0⟩
/-- CHN.LANEMAP.LANE, 14: Lane carried by SVk, k = 0–7: 0–35 DQ0–DQ35, 36–40 CA0–CA4. -/
def R.CHN.LANEMAP.LANE : Fld := ⟨0x10010, 0, 6, .ro, fun _ => 0⟩
/-- CHN.LANEMAP.PC, 14: Pseudo-channel of that lane. -/
def R.CHN.LANEMAP.PC : Fld := ⟨0x10010, 6, 1, .ro, fun _ => 0⟩
/-- CHN.LANEMAP.USED, 14: SVk carries a lane (R50). -/
def R.CHN.LANEMAP.USED : Fld := ⟨0x10010, 7, 1, .ro, fun _ => 0⟩
/-- CHN.FAILED0.LANES, 14: Bit n: lane n, coded as LANE_k, declared failed. -/
def R.CHN.FAILED0.LANES : Fld := ⟨0x10018, 0, 41, .ro, fun _ => 0⟩
/-- CHN.FAILED0.SV_FAILED, 14: Bit k: SVk declared failed (R51). -/
def R.CHN.FAILED0.SV_FAILED : Fld := ⟨0x10018, 48, 8, .ro, fun _ => 0⟩
/-- CHN.FAILED1.LANES, 14: As CHNc.FAILED0.LANES, for pseudo-channel 1. -/
def R.CHN.FAILED1.LANES : Fld := ⟨0x10020, 0, 41, .ro, fun _ => 0⟩
/-- CHN.TIMING.T_RCD, 14: tRCD in controller cycles (R347). -/
def R.CHN.TIMING.T_RCD : Fld := ⟨0x10030, 0, 6, .ro, fun e => dramCycles 0 (e % 4)⟩
/-- CHN.TIMING.T_RP, 14: tRP. -/
def R.CHN.TIMING.T_RP : Fld := ⟨0x10030, 6, 6, .ro, fun e => dramCycles 1 (e % 4)⟩
/-- CHN.TIMING.T_CL, 14: tCL. -/
def R.CHN.TIMING.T_CL : Fld := ⟨0x10030, 12, 6, .ro, fun e => dramCycles 2 (e % 4)⟩
/-- CHN.TIMING.T_WR, 14: tWR. -/
def R.CHN.TIMING.T_WR : Fld := ⟨0x10030, 18, 6, .ro, fun e => dramCycles 3 (e % 4)⟩
/-- CHN.TIMING.T_RAS, 14: tRAS. -/
def R.CHN.TIMING.T_RAS : Fld := ⟨0x10030, 24, 7, .ro, fun e => dramCycles 4 (e % 4)⟩
/-- CHN.TIMING.T_RC, 14: tRC. -/
def R.CHN.TIMING.T_RC : Fld := ⟨0x10030, 31, 7, .ro, fun e => dramCycles 5 (e % 4)⟩
/-- CHN.TIMING.T_FAW, 14: tFAW. -/
def R.CHN.TIMING.T_FAW : Fld := ⟨0x10030, 38, 6, .ro, fun e => dramCycles 6 (e % 4)⟩
/-- CHN.TIMING.T_RFC, 14: tRFC. -/
def R.CHN.TIMING.T_RFC : Fld := ⟨0x10030, 44, 9, .ro, fun e => dramCycles 7 (e % 4)⟩
/-- CHN.ERRLOG_ADDR.ADDR, 14: Pseudo-channel-local address bits A[30:6] of the sector (R38). -/
def R.CHN.ERRLOG_ADDR.ADDR : Fld := ⟨0x10050, 0, 25, .ro, fun _ => 0⟩
/-- CHN.ERRLOG_ADDR.PC, 14: Pseudo-channel. -/
def R.CHN.ERRLOG_ADDR.PC : Fld := ⟨0x10050, 25, 1, .ro, fun _ => 0⟩
/-- CHN.ERRLOG_ADDR.KIND, 14: 0 data, 1 command (R357). -/
def R.CHN.ERRLOG_ADDR.KIND : Fld := ⟨0x10050, 26, 1, .ro, fun _ => 0⟩
/-- CHN.ERRLOG_ADDR.VALID, 14: Log holds an entry. -/
def R.CHN.ERRLOG_ADDR.VALID : Fld := ⟨0x10050, 27, 1, .ro, fun _ => 0⟩
/-- CHN.ERRLOG_ADDR.SPARE, 14: ADDR row field names spare row 0–63. -/
def R.CHN.ERRLOG_ADDR.SPARE : Fld := ⟨0x10050, 28, 1, .ro, fun _ => 0⟩
/-- CHN.ERRLOG_SYN.SYNDROME, 14: Data: outer-code syndrome bytes, 6 in Native and None, 4 in Compat with [47:32] zero. Command: [4:0] CA lanes with parity mismatch, [7:5] reissues. -/
def R.CHN.ERRLOG_SYN.SYNDROME : Fld := ⟨0x10058, 0, 48, .ro, fun _ => 0⟩
/-- CHN.ERRLOG_SYN.LOCATED, 14: Data: symbols located by the decoder; 0xFF when it located none. -/
def R.CHN.ERRLOG_SYN.LOCATED : Fld := ⟨0x10058, 48, 8, .ro, fun _ => 0⟩
/-- CHN.ERRLOG_TICK.TICK, 14: Tick of the error. -/
def R.CHN.ERRLOG_TICK.TICK : Fld := ⟨0x10060, 0, 64, .ro, fun _ => 0⟩
/-- CHN.ERRLOG_CTRL.POP, 14: Writing 1 removes the head entry (R358). -/
def R.CHN.ERRLOG_CTRL.POP : Fld := ⟨0x10068, 0, 1, .wo, fun _ => 0⟩
/-- CHN.ERRLOG_CTRL.COUNT, 14: Entries held, 0–8. -/
def R.CHN.ERRLOG_CTRL.COUNT : Fld := ⟨0x10068, 8, 4, .ro, fun _ => 0⟩
/-- CHN.ERRLOG_CTRL.DROPPED, 14: Errors not logged, saturating. -/
def R.CHN.ERRLOG_CTRL.DROPPED : Fld := ⟨0x10068, 16, 16, .rc, fun _ => 0⟩
/-- CHN.RH_STAT.NEIGHBOUR_REFRESHES, 14: Neighbour refreshes (R352), saturating. -/
def R.CHN.RH_STAT.NEIGHBOUR_REFRESHES : Fld := ⟨0x10070, 0, 32, .rc, fun _ => 0⟩
/-- CHN.RH_STAT.PEAK, 14: Highest entry count reached since last read. -/
def R.CHN.RH_STAT.PEAK : Fld := ⟨0x10070, 32, 13, .rc, fun _ => 0⟩
/-- CHN.REF_STAT.POINTER, 14: Next row group of the refresh pointer, 0–8207. -/
def R.CHN.REF_STAT.POINTER : Fld := ⟨0x10078, 0, 16, .ro, fun _ => 0⟩
/-- CHN.REF_STAT.DEBT_MAX, 14: Highest postponed count over the eight ply and pseudo-channel pairs, 0–8 (R350). -/
def R.CHN.REF_STAT.DEBT_MAX : Fld := ⟨0x10078, 16, 4, .ro, fun _ => 0⟩
/-- CHN.REF_STAT.AHEAD_MAX, 14: Highest pulled-in count, 0–8. -/
def R.CHN.REF_STAT.AHEAD_MAX : Fld := ⟨0x10078, 20, 4, .ro, fun _ => 0⟩
/-- ECC.CFG.SCRUB_EN, 15: Scrubber enabled (R373). -/
def R.ECC.CFG.SCRUB_EN : Fld := ⟨0x20000, 0, 1, .rw, fun _ => 1⟩
/-- ECC.CFG.DEPTH, 15: Bucket depth, 2–255 (R366). -/
def R.ECC.CFG.DEPTH : Fld := ⟨0x20000, 8, 8, .rw, fun _ => 64⟩
/-- ECC.CFG.LEAK_MS, 15: Leak period in ms, 1–255. -/
def R.ECC.CFG.LEAK_MS : Fld := ⟨0x20000, 16, 8, .rw, fun _ => 10⟩
/-- ECC.CFG.REARM, 15: Rearm level, below DEPTH. -/
def R.ECC.CFG.REARM : Fld := ⟨0x20000, 24, 8, .rw, fun _ => 32⟩
/-- ECC.CFG.SCRUB_RATE, 15: Granules per µs across the stack, 1–255 (R371). -/
def R.ECC.CFG.SCRUB_RATE : Fld := ⟨0x20000, 32, 8, .rw, fun _ => 16⟩
/-- ECC.CFG.LAP_WARN_S, 15: Lap time in s that raises SCRUB_SLOW, 60–65 535. -/
def R.ECC.CFG.LAP_WARN_S : Fld := ⟨0x20000, 40, 16, .rw, fun _ => 3600⟩
/-- ECC.BUCKET.LEVEL, 15: Level of channel 8n + k, k = 0–7. -/
def R.ECC.BUCKET.LEVEL : Fld := ⟨0x20008, 0, 8, .ro, fun _ => 0⟩
/-- ECC.BUCKET_OVF.OVF, 15: Bit c: channel c's bucket overflowed since last cleared. -/
def R.ECC.BUCKET_OVF.OVF : Fld := ⟨0x20028, 0, 32, .w1c, fun _ => 0⟩
/-- ECC.BUCKET_OVF.ARMED, 15: Bit c: channel c's bucket armed. -/
def R.ECC.BUCKET_OVF.ARMED : Fld := ⟨0x20028, 32, 32, .ro, fun _ => 4294967295⟩
/-- ECC.CORR.SECTORS, 15: Sectors corrected by the outer code, saturating. -/
def R.ECC.CORR.SECTORS : Fld := ⟨0x20030, 0, 32, .rc, fun _ => 0⟩
/-- ECC.CORR.SYMBOLS, 15: Symbols corrected, saturating. -/
def R.ECC.CORR.SYMBOLS : Fld := ⟨0x20030, 32, 32, .rc, fun _ => 0⟩
/-- ECC.UNCORR.DECODE, 15: Sectors the decoder could not correct, saturating. -/
def R.ECC.UNCORR.DECODE : Fld := ⟨0x20038, 0, 24, .rc, fun _ => 0⟩
/-- ECC.UNCORR.META, 15: Sectors failing META0 or META1 (R362), saturating. -/
def R.ECC.UNCORR.META : Fld := ⟨0x20038, 24, 16, .rc, fun _ => 0⟩
/-- ECC.UNCORR.POISON_READS, 15: Reads of poisoned sectors (R363), saturating. -/
def R.ECC.UNCORR.POISON_READS : Fld := ⟨0x20038, 40, 16, .rc, fun _ => 0⟩
/-- ECC.UNCORR.MAP_LOST, 15: Map lines lost in both copies (R367), saturating. -/
def R.ECC.UNCORR.MAP_LOST : Fld := ⟨0x20038, 56, 8, .rc, fun _ => 0⟩
/-- ECC.SCRUB_LAP.TICKS, 15: Ticks of the last complete lap (R373); 0 = none. -/
def R.ECC.SCRUB_LAP.TICKS : Fld := ⟨0x20040, 0, 64, .ro, fun _ => 0⟩
/-- ECC.SCRUB_PROG.LAPS, 15: Laps completed since power-good. -/
def R.ECC.SCRUB_PROG.LAPS : Fld := ⟨0x20048, 0, 32, .ro, fun _ => 0⟩
/-- ECC.SCRUB_PROG.PERMILLE, 15: Progress of the current lap in ‰, taken from the slowest cursor. -/
def R.ECC.SCRUB_PROG.PERMILLE : Fld := ⟨0x20048, 32, 10, .ro, fun _ => 0⟩
/-- ECC.SCRUB_PROG.PAUSED, 15: Scrubber paused (R373). -/
def R.ECC.SCRUB_PROG.PAUSED : Fld := ⟨0x20048, 42, 1, .ro, fun _ => 1⟩
/-- ECC.SCRUB_CNT.REWRITTEN, 15: Granules rewritten with corrections (R372), saturating. -/
def R.ECC.SCRUB_CNT.REWRITTEN : Fld := ⟨0x20050, 0, 32, .rc, fun _ => 0⟩
/-- ECC.SCRUB_CNT.UNCORR, 15: Uncorrectable sectors found by the scrubber, saturating. -/
def R.ECC.SCRUB_CNT.UNCORR : Fld := ⟨0x20050, 32, 32, .rc, fun _ => 0⟩
/-- ECC.SRAM.CORRECTED, 15: SRAM words corrected (R369), saturating. -/
def R.ECC.SRAM.CORRECTED : Fld := ⟨0x20058, 0, 32, .rc, fun _ => 0⟩
/-- ECC.SRAM.UNCORR, 15: SRAM words uncorrectable, saturating. -/
def R.ECC.SRAM.UNCORR : Fld := ⟨0x20058, 32, 16, .rc, fun _ => 0⟩
/-- ECC.SRAM.THIMBLE_TRAPS, 15: Thimble fetch and load traps, saturating. -/
def R.ECC.SRAM.THIMBLE_TRAPS : Fld := ⟨0x20058, 48, 16, .rc, fun _ => 0⟩
/-- CAL.CFG.DRIFT_C, 16: Temperature drift in °C, 2–31 (R377). -/
def R.CAL.CFG.DRIFT_C : Fld := ⟨0x21000, 0, 5, .rw, fun _ => 8⟩
/-- CAL.CFG.AGE_PPM, 16: Oscillator ratio drift in units of 100 ppm, 1–255. -/
def R.CAL.CFG.AGE_PPM : Fld := ⟨0x21000, 8, 8, .rw, fun _ => 20⟩
/-- CAL.CFG.MAX_INTERVAL_H, 16: Hours between full calibrations, 1–255. -/
def R.CAL.CFG.MAX_INTERVAL_H : Fld := ⟨0x21000, 16, 8, .rw, fun _ => 24⟩
/-- CAL.CFG.LOAD_STEP, 16: Load step in percentage points, 10–100 (R385). -/
def R.CAL.CFG.LOAD_STEP : Fld := ⟨0x21000, 24, 7, .rw, fun _ => 40⟩
/-- CAL.CFG.AUTO, 16: Drift and aging triggers enabled. -/
def R.CAL.CFG.AUTO : Fld := ⟨0x21000, 31, 1, .rw, fun _ => 1⟩
/-- CAL.CFG.DEFER_MS, 16: Wait for full fill credit in ms, 10–65 535 (R384). -/
def R.CAL.CFG.DEFER_MS : Fld := ⟨0x21000, 32, 16, .rw, fun _ => 1000⟩
/-- CAL.CMD.MASK, 16: Bit c: schedule a steward-class full calibration of channel c. -/
def R.CAL.CMD.MASK : Fld := ⟨0x21008, 0, 32, .wo, fun _ => 0⟩
/-- CAL.SEL.CHANNEL, 16: Channel shown in CAL.STATUS, CAL.STAMP, CAL.LAST_TICK, CAL.PLY_TIMINGn and CAL.TRIM. -/
def R.CAL.SEL.CHANNEL : Fld := ⟨0x21010, 0, 5, .rw, fun _ => 0⟩
/-- CAL.SEL.LANE, 16: Lane for CAL.TRIM: 0–40 coded as CHNc.LANEMAP.LANE_k, 41–48 SV0–SV7; 49–63 refused. -/
def R.CAL.SEL.LANE : Fld := ⟨0x21010, 5, 6, .rw, fun _ => 0⟩
/-- CAL.SEL.PC, 16: Pseudo-channel for CAL.TRIM; ignored for SV lanes. -/
def R.CAL.SEL.PC : Fld := ⟨0x21010, 11, 1, .rw, fun _ => 0⟩
/-- CAL.SEL.PLY, 16: Ply within the tier for CAL.TRIM. -/
def R.CAL.SEL.PLY : Fld := ⟨0x21010, 12, 2, .rw, fun _ => 0⟩
/-- CAL.STATUS.STATE, 16: 0 idle, 1 sweeping, 2 waiting for fill credit, 3 paused (R386). -/
def R.CAL.STATUS.STATE : Fld := ⟨0x21018, 0, 2, .ro, fun _ => 0⟩
/-- CAL.STATUS.LANE, 16: Lane being swept, coded as in CAL.SEL. -/
def R.CAL.STATUS.LANE : Fld := ⟨0x21018, 2, 6, .ro, fun _ => 0⟩
/-- CAL.STATUS.PC, 16: Pseudo-channel being swept. -/
def R.CAL.STATUS.PC : Fld := ⟨0x21018, 8, 1, .ro, fun _ => 0⟩
/-- CAL.STATUS.ROTATING, 16: 1 by rotation, 0 in held intervals. -/
def R.CAL.STATUS.ROTATING : Fld := ⟨0x21018, 9, 1, .ro, fun _ => 0⟩
/-- CAL.STATUS.PENDING, 16: Bit per class: urgent, drift, aging, steward. -/
def R.CAL.STATUS.PENDING : Fld := ⟨0x21018, 10, 4, .ro, fun _ => 0⟩
/-- CAL.STATUS.FILL_CAP, 16: Cap in sixteenths (R384); 16 = none. -/
def R.CAL.STATUS.FILL_CAP : Fld := ⟨0x21018, 14, 5, .ro, fun _ => 16⟩
/-- CAL.STATUS.SV, 16: Selvedge lane used for rotation. -/
def R.CAL.STATUS.SV : Fld := ⟨0x21018, 19, 3, .ro, fun _ => 0⟩
/-- CAL.STAMP.PLY_MAX_C, 16: Highest of the four ply temperatures in the stamp, °C. -/
def R.CAL.STAMP.PLY_MAX_C : Fld := ⟨0x21020, 0, 8, .ro, fun _ => 0⟩
/-- CAL.STAMP.BASE_C, 16: Base-die temperature in the stamp, °C. -/
def R.CAL.STAMP.BASE_C : Fld := ⟨0x21020, 8, 8, .ro, fun _ => 0⟩
/-- CAL.STAMP.RATIO, 16: Band oscillator ratio in the stamp, units of 2^-20. -/
def R.CAL.STAMP.RATIO : Fld := ⟨0x21020, 16, 24, .ro, fun _ => 0⟩
/-- CAL.STAMP.POINT, 16: Operating point of the set. -/
def R.CAL.STAMP.POINT : Fld := ⟨0x21020, 40, 2, .ro, fun _ => 0⟩
/-- CAL.LAST_TICK.TICK, 16: Tick at which the current set's stamp was written. -/
def R.CAL.LAST_TICK.TICK : Fld := ⟨0x21028, 0, 64, .ro, fun _ => 0⟩
/-- CAL.PLY_TIMING.STROBE, 16: Return strobe delay code. -/
def R.CAL.PLY_TIMING.STROBE : Fld := ⟨0x21030, 0, 6, .ro, fun _ => 0⟩
/-- CAL.PLY_TIMING.CLKPH, 16: Forwarded clock phase code. -/
def R.CAL.PLY_TIMING.CLKPH : Fld := ⟨0x21030, 6, 6, .ro, fun _ => 0⟩
/-- CAL.PLY_TIMING.VREF_BASE, 16: Base-die reference tap. -/
def R.CAL.PLY_TIMING.VREF_BASE : Fld := ⟨0x21030, 12, 5, .ro, fun _ => 0⟩
/-- CAL.PLY_TIMING.LAD_BASE, 16: 0 ladder A, 1 ladder B. -/
def R.CAL.PLY_TIMING.LAD_BASE : Fld := ⟨0x21030, 17, 1, .ro, fun _ => 0⟩
/-- CAL.PLY_TIMING.VREF_PLY, 16: Ply reference tap. -/
def R.CAL.PLY_TIMING.VREF_PLY : Fld := ⟨0x21030, 18, 5, .ro, fun _ => 0⟩
/-- CAL.PLY_TIMING.LAD_PLY, 16: 0 ladder A, 1 ladder B. -/
def R.CAL.PLY_TIMING.LAD_PLY : Fld := ⟨0x21030, 23, 1, .ro, fun _ => 0⟩
/-- CAL.PLY_TIMING.EYE_MIN, 16: Narrowest DQ eye at last training, ps. -/
def R.CAL.PLY_TIMING.EYE_MIN : Fld := ⟨0x21030, 24, 8, .ro, fun _ => 0⟩
/-- CAL.STAT.ROTATIONS, 16: Rotations completed, all channels, saturating. -/
def R.CAL.STAT.ROTATIONS : Fld := ⟨0x21070, 0, 16, .rc, fun _ => 0⟩
/-- CAL.STAT.CAPPED, 16: Sweeps committed below 16/16 (R384), saturating. -/
def R.CAL.STAT.CAPPED : Fld := ⟨0x21070, 16, 16, .rc, fun _ => 0⟩
/-- CAL.STAT.LOAD_STEPS, 16: Calibrations scheduled by the monitor (R385), saturating. -/
def R.CAL.STAT.LOAD_STEPS : Fld := ⟨0x21070, 32, 16, .rc, fun _ => 0⟩
/-- CAL.STAT.DEFERRALS, 16: CAL_DEFERRED events, saturating. -/
def R.CAL.STAT.DEFERRALS : Fld := ⟨0x21070, 48, 16, .rc, fun _ => 0⟩
/-- CAL.TRIM.WR_CODE, 16: Base-to-ply trim code. -/
def R.CAL.TRIM.WR_CODE : Fld := ⟨0x21078, 0, 6, .ro, fun _ => 0⟩
/-- CAL.TRIM.RD_CODE, 16: Ply-to-base trim code; 0 for CA lanes. -/
def R.CAL.TRIM.RD_CODE : Fld := ⟨0x21078, 6, 6, .ro, fun _ => 0⟩
/-- CAL.TRIM.WR_RUN, 16: Passing codes at last sweep, write direction. -/
def R.CAL.TRIM.WR_RUN : Fld := ⟨0x21078, 12, 8, .ro, fun _ => 0⟩
/-- CAL.TRIM.RD_RUN, 16: Passing codes at last sweep, read direction. -/
def R.CAL.TRIM.RD_RUN : Fld := ⟨0x21078, 20, 8, .ro, fun _ => 0⟩
/-- THM.CFG.SUSPECT_C, 17: Disagreement in °C, 3–15 (R391). -/
def R.THM.CFG.SUSPECT_C : Fld := ⟨0x22000, 0, 4, .rw, fun _ => 6⟩
/-- THM.CFG.SUSPECT_ROUNDS, 17: Consecutive rounds to suspect, 2–63. -/
def R.THM.CFG.SUSPECT_ROUNDS : Fld := ⟨0x22000, 4, 6, .rw, fun _ => 8⟩
/-- THM.CFG.GUARD_C, 17: Guard for a ply with fewer than two trusted sensors, 0–15 (R393). -/
def R.THM.CFG.GUARD_C : Fld := ⟨0x22000, 10, 4, .rw, fun _ => 5⟩
/-- THM.LEVELS.WARN_SET, 17: °C (R394). -/
def R.THM.LEVELS.WARN_SET : Fld := ⟨0x22008, 0, 8, .ro, fun _ => 90⟩
/-- THM.LEVELS.WARN_CLR, 17: °C. -/
def R.THM.LEVELS.WARN_CLR : Fld := ⟨0x22008, 8, 8, .ro, fun _ => 87⟩
/-- THM.LEVELS.THR_SET, 17: °C. -/
def R.THM.LEVELS.THR_SET : Fld := ⟨0x22008, 16, 8, .ro, fun _ => 97⟩
/-- THM.LEVELS.THR_CLR, 17: °C. -/
def R.THM.LEVELS.THR_CLR : Fld := ⟨0x22008, 24, 8, .ro, fun _ => 93⟩
/-- THM.LEVELS.SHUT_SET, 17: °C. -/
def R.THM.LEVELS.SHUT_SET : Fld := ⟨0x22008, 32, 8, .ro, fun _ => 108⟩
/-- THM.LEVELS.SHUT_CLR, 17: °C. -/
def R.THM.LEVELS.SHUT_CLR : Fld := ⟨0x22008, 40, 8, .ro, fun _ => 98⟩
/-- THM.STATE.WARN, 17: Warning set. -/
def R.THM.STATE.WARN : Fld := ⟨0x22010, 0, 1, .ro, fun _ => 0⟩
/-- THM.STATE.THROTTLE, 17: Throttle set. -/
def R.THM.STATE.THROTTLE : Fld := ⟨0x22010, 1, 1, .ro, fun _ => 0⟩
/-- THM.STATE.SHUTDOWN, 17: Shutdown set. -/
def R.THM.STATE.SHUTDOWN : Fld := ⟨0x22010, 2, 1, .ro, fun _ => 0⟩
/-- THM.STATE.THERMTRIP, 17: THERMTRIP_N asserted. -/
def R.THM.STATE.THERMTRIP : Fld := ⟨0x22010, 3, 1, .ro, fun _ => 0⟩
/-- THM.STATE.HOTTEST, 17: Ply 0–15, or 16 for the base die, with the highest governing temperature. -/
def R.THM.STATE.HOTTEST : Fld := ⟨0x22010, 4, 5, .ro, fun _ => 0⟩
/-- THM.STATE.GOV_MAX, 17: Highest governing temperature, signed °C. -/
def R.THM.STATE.GOV_MAX : Fld := ⟨0x22010, 16, 8, .ro, fun _ => 0⟩
/-- THM.STATE.PLATE, 17: Plate estimate (R390), signed °C. -/
def R.THM.STATE.PLATE : Fld := ⟨0x22010, 24, 8, .ro, fun _ => 0⟩
/-- THM.STATE.ROUNDS, 17: Rounds since power-good, wrapping. -/
def R.THM.STATE.ROUNDS : Fld := ⟨0x22010, 32, 32, .ro, fun _ => 0⟩
/-- THM.GOV.GOV, 17: n = 0, 1: ply 8n + k; n = 2: k = 0 only, base die; signed °C. -/
def R.THM.GOV.GOV : Fld := ⟨0x22018, 0, 8, .ro, fun _ => 0⟩
/-- THM.SENSOR_SEL.INDEX, 17: Sensor 0–79 (R388). -/
def R.THM.SENSOR_SEL.INDEX : Fld := ⟨0x22030, 0, 7, .rw, fun _ => 0⟩
/-- THM.SENSOR.READING, 17: Last reading, signed, 0.25 °C units. -/
def R.THM.SENSOR.READING : Fld := ⟨0x22038, 0, 12, .ro, fun _ => 0⟩
/-- THM.SENSOR.MODEL, 17: Model estimate at its node, same units. -/
def R.THM.SENSOR.MODEL : Fld := ⟨0x22038, 12, 12, .ro, fun _ => 0⟩
/-- THM.SENSOR.RUN, 17: Consecutive disagreeing rounds, saturating. -/
def R.THM.SENSOR.RUN : Fld := ⟨0x22038, 24, 6, .ro, fun _ => 0⟩
/-- THM.SENSOR.SUSPECT, 17: Suspect (R391). -/
def R.THM.SENSOR.SUSPECT : Fld := ⟨0x22038, 30, 1, .ro, fun _ => 0⟩
/-- THM.SENSOR.READ_FAIL, 17: Suspect from a failed or out-of-range conversion. -/
def R.THM.SENSOR.READ_FAIL : Fld := ⟨0x22038, 31, 1, .ro, fun _ => 0⟩
/-- THM.SUSPECT_LO.SUSPECT, 17: Bit i: sensor i suspect; writing 1 trusts it again (R392). -/
def R.THM.SUSPECT_LO.SUSPECT : Fld := ⟨0x22040, 0, 64, .w1c, fun _ => 0⟩
/-- THM.SUSPECT_HI.SUSPECT, 17: Bit i: sensor 64 + i suspect. -/
def R.THM.SUSPECT_HI.SUSPECT : Fld := ⟨0x22048, 0, 16, .w1c, fun _ => 0⟩
/-- THM.INPUT.VIN_MV, 17: VIN in mV, last round. -/
def R.THM.INPUT.VIN_MV : Fld := ⟨0x22050, 0, 16, .ro, fun _ => 0⟩
/-- THM.INPUT.IIN_MA, 17: Input current in mA. -/
def R.THM.INPUT.IIN_MA : Fld := ⟨0x22050, 16, 16, .ro, fun _ => 0⟩
/-- THM.INPUT.PIN_DW, 17: P_in in 0.1 W (R403). -/
def R.THM.INPUT.PIN_DW : Fld := ⟨0x22050, 32, 12, .ro, fun _ => 0⟩
/-- THM.INPUT.STAGE_C, 17: Higher stage temperature, signed °C. -/
def R.THM.INPUT.STAGE_C : Fld := ⟨0x22050, 44, 8, .ro, fun _ => 0⟩
/-- THM.RAIL_SEL.INDEX, 17: 0–15: VDDC regulator r at ply 0 (2r) or ply 15 (2r + 1); 16–19 VPP; 20–23 base core; 24–27 base PHY; 28–31 refused. -/
def R.THM.RAIL_SEL.INDEX : Fld := ⟨0x22058, 0, 5, .rw, fun _ => 0⟩
/-- THM.RAIL.MV, 17: Reading in mV. -/
def R.THM.RAIL.MV : Fld := ⟨0x22060, 0, 16, .ro, fun _ => 0⟩
/-- THM.RAIL.IN_WINDOW, 17: Inside its window of R42. -/
def R.THM.RAIL.IN_WINDOW : Fld := ⟨0x22060, 16, 1, .ro, fun _ => 0⟩
/-- THM.RAIL.OUT_ROUNDS, 17: Consecutive rounds outside, saturating at 127. -/
def R.THM.RAIL.OUT_ROUNDS : Fld := ⟨0x22060, 17, 7, .ro, fun _ => 0⟩
/-- THM.EVENTS.WARN_CROSS, 17: Warning settings, saturating. -/
def R.THM.EVENTS.WARN_CROSS : Fld := ⟨0x22068, 0, 16, .rc, fun _ => 0⟩
/-- THM.EVENTS.THROTTLE_CROSS, 17: Throttle settings, saturating. -/
def R.THM.EVENTS.THROTTLE_CROSS : Fld := ⟨0x22068, 16, 16, .rc, fun _ => 0⟩
/-- THM.EVENTS.SHUTDOWNS, 17: Entries to thermal hold, saturating. -/
def R.THM.EVENTS.SHUTDOWNS : Fld := ⟨0x22068, 32, 16, .rc, fun _ => 0⟩
/-- THM.EVENTS.SUSPECTS, 17: Sensors made suspect, saturating. -/
def R.THM.EVENTS.SUSPECTS : Fld := ⟨0x22068, 48, 16, .rc, fun _ => 0⟩
/-- HEM.CFG.HOT_C, 17: Column temperature that lowers allowance, 80–96 (R401). -/
def R.HEM.CFG.HOT_C : Fld := ⟨0x23000, 0, 7, .rw, fun _ => 92⟩
/-- HEM.CFG.STOP_C, 17: Cell temperature for zero share, HOT_C + 1 to 96. -/
def R.HEM.CFG.STOP_C : Fld := ⟨0x23000, 7, 7, .rw, fun _ => 95⟩
/-- HEM.CFG.COL_MIN, 17: Allowance floor in sixteenths, 0–16. -/
def R.HEM.CFG.COL_MIN : Fld := ⟨0x23000, 14, 5, .rw, fun _ => 8⟩
/-- HEM.CFG.THROTTLE_POINT, 17: Point forced at Throttle, 1–3 (R395). -/
def R.HEM.CFG.THROTTLE_POINT : Fld := ⟨0x23000, 19, 2, .rw, fun _ => 2⟩
/-- HEM.CFG.STEP_ROUNDS, 17: Rounds before stepping to P3, 1–1000. -/
def R.HEM.CFG.STEP_ROUNDS : Fld := ⟨0x23000, 21, 10, .rw, fun _ => 100⟩
/-- HEM.CFG.AUTO_RESTORE, 17: Request Serve after Throttle clears (R396). -/
def R.HEM.CFG.AUTO_RESTORE : Fld := ⟨0x23000, 31, 1, .rw, fun _ => 0⟩
/-- HEM.ENERGY.BUDGET_W, 17: Sustained input budget in W, 20–92 (R404). -/
def R.HEM.ENERGY.BUDGET_W : Fld := ⟨0x23008, 0, 7, .rw, fun _ => 80⟩
/-- HEM.ENERGY.BURST_W, 17: Burst ceiling in W, BUDGET_W to 92. -/
def R.HEM.ENERGY.BURST_W : Fld := ⟨0x23008, 7, 7, .rw, fun _ => 92⟩
/-- HEM.ENERGY.BUCKET_MJ, 17: Burst bucket in mJ, 0–1000; 0 disables bursts. -/
def R.HEM.ENERGY.BUCKET_MJ : Fld := ⟨0x23008, 14, 10, .rw, fun _ => 200⟩
/-- HEM.ENERGY.SUST_SLOTS, 17: Sustained cap in slots per µs, 500–6250. -/
def R.HEM.ENERGY.SUST_SLOTS : Fld := ⟨0x23008, 24, 13, .rw, fun _ => 6250⟩
/-- HEM.STATUS.H, 17: Reported H, slots per µs (R405). -/
def R.HEM.STATUS.H : Fld := ⟨0x23010, 0, 13, .ro, fun _ => 0⟩
/-- HEM.STATUS.H_RAW, 17: H_raw of the last round. -/
def R.HEM.STATUS.H_RAW : Fld := ⟨0x23010, 13, 13, .ro, fun _ => 0⟩
/-- HEM.STATUS.SUST_EFF, 17: sust_eff (R404). -/
def R.HEM.STATUS.SUST_EFF : Fld := ⟨0x23010, 26, 13, .ro, fun _ => 6250⟩
/-- HEM.STATUS.BUCKET, 17: Bucket level in mJ. -/
def R.HEM.STATUS.BUCKET : Fld := ⟨0x23010, 39, 10, .ro, fun _ => 0⟩
/-- HEM.STATUS.BURST, 17: Module cap lifted. -/
def R.HEM.STATUS.BURST : Fld := ⟨0x23010, 49, 1, .ro, fun _ => 0⟩
/-- HEM.STATUS.FORCED, 17: Hem holds Ease (R395). -/
def R.HEM.STATUS.FORCED : Fld := ⟨0x23010, 50, 1, .ro, fun _ => 0⟩
/-- HEM.STATUS.FORCED_POINT, 17: Point Hem requires. -/
def R.HEM.STATUS.FORCED_POINT : Fld := ⟨0x23010, 51, 2, .ro, fun _ => 0⟩
/-- HEM.COL.ALLOW, 17: A[n] in sixteenths. -/
def R.HEM.COL.ALLOW : Fld := ⟨0x23018, 0, 7, .ro, fun _ => 64⟩
/-- HEM.COL.T_COL, 17: Column temperature, signed °C. -/
def R.HEM.COL.T_COL : Fld := ⟨0x23018, 7, 8, .ro, fun _ => 0⟩
/-- HEM.COL.SHARE_T0, 17: s of the tier 0 cell, 0–16. -/
def R.HEM.COL.SHARE_T0 : Fld := ⟨0x23018, 15, 5, .ro, fun _ => 0⟩
/-- HEM.COL.SHARE_T1, 17: Tier 1 cell. -/
def R.HEM.COL.SHARE_T1 : Fld := ⟨0x23018, 20, 5, .ro, fun _ => 0⟩
/-- HEM.COL.SHARE_T2, 17: Tier 2 cell. -/
def R.HEM.COL.SHARE_T2 : Fld := ⟨0x23018, 25, 5, .ro, fun _ => 0⟩
/-- HEM.COL.SHARE_T3, 17: Tier 3 cell. -/
def R.HEM.COL.SHARE_T3 : Fld := ⟨0x23018, 30, 5, .ro, fun _ => 0⟩
/-- HEM.COL.CREDIT, 17: Bit t: tier t cell has nonzero share. -/
def R.HEM.COL.CREDIT : Fld := ⟨0x23018, 35, 4, .ro, fun _ => 0⟩
/-- HEM.STAT.H_FALLS, 17: Reported H lowered, saturating. -/
def R.HEM.STAT.H_FALLS : Fld := ⟨0x23058, 0, 16, .rc, fun _ => 0⟩
/-- HEM.STAT.H_RISES, 17: Reported H raised, saturating. -/
def R.HEM.STAT.H_RISES : Fld := ⟨0x23058, 16, 16, .rc, fun _ => 0⟩
/-- HEM.STAT.BURST_ROUNDS, 17: Rounds with BURST = 1, saturating. -/
def R.HEM.STAT.BURST_ROUNDS : Fld := ⟨0x23058, 32, 16, .rc, fun _ => 0⟩
/-- HEM.STAT.SPACING_CLAMPS, 17: Ceilings lowered by the spacing rule, saturating. -/
def R.HEM.STAT.SPACING_CLAMPS : Fld := ⟨0x23058, 48, 16, .rc, fun _ => 0⟩
/-- HEM.COL_ENERGY.UJ, 17: Energy charged to panel column n since power-good, µJ (R389). -/
def R.HEM.COL_ENERGY.UJ : Fld := ⟨0x23100, 0, 64, .ro, fun _ => 0⟩
/-- TCK.CTRL.EN, 18: Link enabled for bring-up (R416). -/
def R.TCK.CTRL.EN : Fld := ⟨0x24000, 0, 1, .rw, fun _ => 0⟩
/-- TCK.CTRL.CMD, 18: 1 PAIR, 2 JOIN, 3 UNPAIR, 4 HANDOVER, 5 TAKEOVER, 6 CLAIM, 7 PKEY_LOAD; 0 no action. -/
def R.TCK.CTRL.CMD : Fld := ⟨0x24000, 1, 3, .wo, fun _ => 0⟩
/-- TCK.CFG.LAG_MAX_US, 18: ASYNC lag limit in µs, 1–64 (R429). -/
def R.TCK.CFG.LAG_MAX_US : Fld := ⟨0x24008, 0, 7, .rw, fun _ => 64⟩
/-- TCK.CFG.TAKEOVER_EN, 18: Automatic takeover (R435). -/
def R.TCK.CFG.TAKEOVER_EN : Fld := ⟨0x24008, 7, 1, .rw, fun _ => 1⟩
/-- TCK.CFG.HALF_EN, 18: Half-width link permitted (R418). -/
def R.TCK.CFG.HALF_EN : Fld := ⟨0x24008, 8, 1, .rw, fun _ => 1⟩
/-- TCK.CFG.DECIDE_MS, 18: Takeover decision window in ms, 4–50. -/
def R.TCK.CFG.DECIDE_MS : Fld := ⟨0x24008, 16, 8, .rw, fun _ => 5⟩
/-- TCK.CFG.BREAK_MS, 18: Primary wait before BROKEN in ms, DECIDE_MS + 2 to 100 (R434). -/
def R.TCK.CFG.BREAK_MS : Fld := ⟨0x24008, 24, 8, .rw, fun _ => 8⟩
/-- TCK.CFG.QUEUE_LIMIT, 18: Buffers for frames, 64–2047 (R430). -/
def R.TCK.CFG.QUEUE_LIMIT : Fld := ⟨0x24008, 32, 11, .rw, fun _ => 1024⟩
/-- TCK.STATUS.LINK, 18: Link up (R419). -/
def R.TCK.STATUS.LINK : Fld := ⟨0x24010, 0, 1, .ro, fun _ => 0⟩
/-- TCK.STATUS.WIDTH, 18: 0 down, 1 lanes 0–3, 2 lanes 4–7, 3 lanes 0–7. -/
def R.TCK.STATUS.WIDTH : Fld := ⟨0x24010, 1, 2, .ro, fun _ => 0⟩
/-- TCK.STATUS.PAIR, 18: Pair state (R412). -/
def R.TCK.STATUS.PAIR : Fld := ⟨0x24010, 3, 3, .ro, fun _ => 0⟩
/-- TCK.STATUS.ROLE, 18: 0 none, 1 PRIMARY, 2 SECONDARY. -/
def R.TCK.STATUS.ROLE : Fld := ⟨0x24010, 6, 2, .ro, fun _ => 0⟩
/-- TCK.STATUS.FENCED, 18: Fenced (R438). -/
def R.TCK.STATUS.FENCED : Fld := ⟨0x24010, 8, 1, .ro, fun _ => 0⟩
/-- TCK.STATUS.PEER_STOPPED, 18: PEER_ALIVE without an edge for 2 ms. -/
def R.TCK.STATUS.PEER_STOPPED : Fld := ⟨0x24010, 9, 1, .ro, fun _ => 0⟩
/-- TCK.STATUS.LOS_ALL, 18: LOS on all Tack lanes. -/
def R.TCK.STATUS.LOS_ALL : Fld := ⟨0x24010, 10, 1, .ro, fun _ => 1⟩
/-- TCK.STATUS.HB_LOST, 18: No HEARTBEAT for 3 ms. -/
def R.TCK.STATUS.HB_LOST : Fld := ⟨0x24010, 11, 1, .ro, fun _ => 1⟩
/-- TCK.STATUS.FULL_RESYNC_DUE, 18: Tables to be sent whole at reconnection. -/
def R.TCK.STATUS.FULL_RESYNC_DUE : Fld := ⟨0x24010, 12, 1, .ro, fun _ => 0⟩
/-- TCK.STATUS.LAG_US, 18: Lag in µs (R429), saturating at 127. -/
def R.TCK.STATUS.LAG_US : Fld := ⟨0x24010, 13, 7, .ro, fun _ => 0⟩
/-- TCK.STATUS.EPOCH, 18: Pair epoch (R413). -/
def R.TCK.STATUS.EPOCH : Fld := ⟨0x24010, 20, 32, .ro, fun _ => 0⟩
/-- TCK.ALIGN.LANE, 18: Tack lane 0–7. -/
def R.TCK.ALIGN.LANE : Fld := ⟨0x24018, 0, 3, .rw, fun _ => 0⟩
/-- TCK.ALIGN.START, 18: Writing 1 starts a count (R417). -/
def R.TCK.ALIGN.START : Fld := ⟨0x24018, 3, 1, .wo, fun _ => 0⟩
/-- TCK.ALIGN.MATCH, 18: Sync-word matches in the last count, 0–1024. -/
def R.TCK.ALIGN.MATCH : Fld := ⟨0x24018, 4, 11, .ro, fun _ => 0⟩
/-- TCK.ALIGN.DONE, 18: Count complete. -/
def R.TCK.ALIGN.DONE : Fld := ⟨0x24018, 15, 1, .ro, fun _ => 0⟩
/-- TCK.DESKEW.SKEW, 18: Stitch times lane k waited in its FIFO, k = 0–7 (R419). -/
def R.TCK.DESKEW.SKEW : Fld := ⟨0x24020, 0, 6, .ro, fun _ => 0⟩
/-- TCK.PKEY_WRAP.DATA, 18: Bytes 8n to 8n + 7 of the blob (R420); cleared by every PKEY_LOAD. -/
def R.TCK.PKEY_WRAP.DATA : Fld := ⟨0x24028, 0, 64, .wo, fun _ => 0⟩
/-- TCK.PKEY.KCV, 18: Pair key check value (R420). -/
def R.TCK.PKEY.KCV : Fld := ⟨0x24050, 0, 24, .ro, fun _ => 0⟩
/-- TCK.PKEY.LOADED, 18: Pair key held. -/
def R.TCK.PKEY.LOADED : Fld := ⟨0x24050, 24, 1, .ro, fun _ => 0⟩
/-- TCK.SEQ.SENT, 18: Low 32 bits of the last frame sent. -/
def R.TCK.SEQ.SENT : Fld := ⟨0x24058, 0, 32, .ro, fun _ => 0⟩
/-- TCK.SEQ.COMMITTED, 18: Low 32 bits of the last frame committed by the receiver. -/
def R.TCK.SEQ.COMMITTED : Fld := ⟨0x24058, 32, 32, .ro, fun _ => 0⟩
/-- TCK.RESYNC.TOTAL, 18: Swatches to send in the current copy (R423, R441). -/
def R.TCK.RESYNC.TOTAL : Fld := ⟨0x24060, 0, 24, .ro, fun _ => 0⟩
/-- TCK.RESYNC.DONE, 18: Swatches sent. -/
def R.TCK.RESYNC.DONE : Fld := ⟨0x24060, 24, 24, .ro, fun _ => 0⟩
/-- TCK.STAT.RESENT, 18: Frames sent again (R427), saturating. -/
def R.TCK.STAT.RESENT : Fld := ⟨0x24068, 0, 16, .rc, fun _ => 0⟩
/-- TCK.STAT.TAG_FAILS, 18: Frames failing their GCM tag, saturating. -/
def R.TCK.STAT.TAG_FAILS : Fld := ⟨0x24068, 16, 16, .rc, fun _ => 0⟩
/-- TCK.STAT.BREAKS, 18: Entries to BROKEN, saturating. -/
def R.TCK.STAT.BREAKS : Fld := ⟨0x24068, 32, 16, .rc, fun _ => 0⟩
/-- TCK.STAT.TAKEOVERS, 18: Takeovers by this module, saturating. -/
def R.TCK.STAT.TAKEOVERS : Fld := ⟨0x24068, 48, 16, .rc, fun _ => 0⟩
/-- TCK.VMAC.ADDR, 18: Virtual MAC of port n; 0 = none; writable only while UNPAIRED; mirrored. -/
def R.TCK.VMAC.ADDR : Fld := ⟨0x24080, 0, 48, .rw, fun _ => 0⟩
/-- TCK.VIP4.PORT0, 18: Port 0; 0 = none; writable only while UNPAIRED; mirrored. -/
def R.TCK.VIP4.PORT0 : Fld := ⟨0x24090, 0, 32, .rw, fun _ => 0⟩
/-- TCK.VIP4.PORT1, 18: Port 1, as PORT0. -/
def R.TCK.VIP4.PORT1 : Fld := ⟨0x24090, 32, 32, .rw, fun _ => 0⟩
/-- TCK.VIP6_HI.ADDR_HI, 18: Bits [127:64] for port n; writable only while UNPAIRED; mirrored. -/
def R.TCK.VIP6_HI.ADDR_HI : Fld := ⟨0x24098, 0, 64, .rw, fun _ => 0⟩
/-- TCK.VIP6_LO.ADDR_LO, 18: Bits [63:0] for port n; whole address 0 = none. -/
def R.TCK.VIP6_LO.ADDR_LO : Fld := ⟨0x240A0, 0, 64, .rw, fun _ => 0⟩
/-- TCK.TAKEOVER_TICK.TICK, 18: Tick of this module's last takeover or handover to primary. -/
def R.TCK.TAKEOVER_TICK.TICK : Fld := ⟨0x240B8, 0, 64, .ro, fun _ => 0⟩
/-- TCK.MIRMODE.SYNC, 18: Bit i: bolt 64n + i is SYNC (1) or ASYNC (0) (R425); bit 0 of n = 0 is RO 0. -/
def R.TCK.MIRMODE.SYNC : Fld := ⟨0x24100, 0, 64, .rw, mirModeReset⟩
/-- FLT.STICKY0.STICKY, 19: Bit i: source i raised since last cleared (R443, R449). -/
def R.FLT.STICKY0.STICKY : Fld := ⟨0x25000, 0, 64, .w1c, fun _ => 0⟩
/-- FLT.STICKY1.STICKY, 19: Bit i: source 64 + i raised since last cleared. -/
def R.FLT.STICKY1.STICKY : Fld := ⟨0x25008, 0, 64, .w1c, fun _ => 0⟩
/-- FLT.PIN_HOLD0.HOLD, 19: Bit i: source i holds ALIVE low (R453, R454). -/
def R.FLT.PIN_HOLD0.HOLD : Fld := ⟨0x25010, 0, 64, .w1c, fun _ => 0⟩
/-- FLT.PIN_HOLD1.HOLD, 19: Bit i: source 64 + i holds ALIVE low. -/
def R.FLT.PIN_HOLD1.HOLD : Fld := ⟨0x25018, 0, 64, .w1c, fun _ => 0⟩
/-- FLT.LAST.SOURCE, 19: Source of the last raise (R445). -/
def R.FLT.LAST.SOURCE : Fld := ⟨0x25020, 0, 7, .ro, fun _ => 0⟩
/-- FLT.LAST.VALID, 19: A raise has occurred since power-good or module reset. -/
def R.FLT.LAST.VALID : Fld := ⟨0x25020, 7, 1, .ro, fun _ => 0⟩
/-- FLT.LAST.INJECTED, 19: Last raise came from FLT.INJECT. -/
def R.FLT.LAST.INJECTED : Fld := ⟨0x25020, 8, 1, .ro, fun _ => 0⟩
/-- FLT.LAST.RAISES, 19: Raises of all sources, saturating. -/
def R.FLT.LAST.RAISES : Fld := ⟨0x25020, 32, 32, .ro, fun _ => 0⟩
/-- FLT.LAST_TICK.TICK, 19: Tick of the raise in FLT.LAST. -/
def R.FLT.LAST_TICK.TICK : Fld := ⟨0x25028, 0, 64, .ro, fun _ => 0⟩
/-- FLT.WDT.PERIOD_MS, 19: Expiry time in ms, 10–10 000; written only by master 69; steward writes refused with ACCESS_DENIED, out-of-range writes by master 69 with MALFORMED (R450). -/
def R.FLT.WDT.PERIOD_MS : Fld := ⟨0x25030, 0, 16, .rw, fun _ => 100⟩
/-- FLT.WDT.KICK, 19: Writing 1 restarts the period; arms the watchdog. -/
def R.FLT.WDT.KICK : Fld := ⟨0x25030, 16, 1, .wo, fun _ => 0⟩
/-- FLT.WDT.ARMED, 19: Watchdog armed. -/
def R.FLT.WDT.ARMED : Fld := ⟨0x25030, 17, 1, .ro, fun _ => 0⟩
/-- FLT.WDT.EXPIRIES, 19: Expiries, saturating. -/
def R.FLT.WDT.EXPIRIES : Fld := ⟨0x25030, 32, 16, .rc, fun _ => 0⟩
/-- FLT.ALIVE.LEVEL, 19: Present level of ALIVE. -/
def R.FLT.ALIVE.LEVEL : Fld := ⟨0x25038, 0, 1, .ro, fun _ => 0⟩
/-- FLT.ALIVE.TOGGLING, 19: No hold in force (R453). -/
def R.FLT.ALIVE.TOGGLING : Fld := ⟨0x25038, 1, 1, .ro, fun _ => 0⟩
/-- FLT.ALIVE.PIN_HELD, 19: A pin hold is set. -/
def R.FLT.ALIVE.PIN_HELD : Fld := ⟨0x25038, 2, 1, .ro, fun _ => 0⟩
/-- FLT.ALIVE.WDT_HELD, 19: Watchdog hold (R451). -/
def R.FLT.ALIVE.WDT_HELD : Fld := ⟨0x25038, 3, 1, .ro, fun _ => 0⟩
/-- FLT.ALIVE.BOOT_HELD, 19: Held for Boot, reset or RST_N. -/
def R.FLT.ALIVE.BOOT_HELD : Fld := ⟨0x25038, 4, 1, .ro, fun _ => 1⟩
/-- FLT.RESET_CAUSE.SOURCE, 19: Source whose reaction 4 caused the last module reset (R447). -/
def R.FLT.RESET_CAUSE.SOURCE : Fld := ⟨0x25040, 0, 7, .ro, fun _ => 0⟩
/-- FLT.RESET_CAUSE.VALID, 19: A fault-caused module reset has occurred. -/
def R.FLT.RESET_CAUSE.VALID : Fld := ⟨0x25040, 7, 1, .ro, fun _ => 0⟩
/-- FLT.RESET_CAUSE.COUNT, 19: Fault-caused module resets over the module's life, saturating. -/
def R.FLT.RESET_CAUSE.COUNT : Fld := ⟨0x25040, 16, 32, .ro, fun _ => 0⟩
/-- FLT.SEL.SOURCE, 19: Source shown in FLT.SRC. -/
def R.FLT.SEL.SOURCE : Fld := ⟨0x25080, 0, 7, .rw, fun _ => 0⟩
/-- FLT.SRC.REACTION, 19: Reaction code (R443); 5–7, and 3 without block reset (R446), refused with MALFORMED. -/
def R.FLT.SRC.REACTION : Fld := ⟨0x25088, 0, 3, .rw, faultReaction⟩
/-- FLT.SRC.PIN, 19: Raise sets a pin hold. -/
def R.FLT.SRC.PIN : Fld := ⟨0x25088, 3, 1, .rw, faultPin⟩
/-- FLT.SRC.CLIENT, 19: FAULT events posted to clients (R444). -/
def R.FLT.SRC.CLIENT : Fld := ⟨0x25088, 4, 1, .rw, faultClient⟩
/-- FLT.SRC.ALERT, 19: Sticky bit drives ALERT_N (R455). -/
def R.FLT.SRC.ALERT : Fld := ⟨0x25088, 5, 1, .rw, faultAlert⟩
/-- FLT.SRC.COUNT, 19: Raises of the source, saturating. -/
def R.FLT.SRC.COUNT : Fld := ⟨0x25088, 16, 16, .ro, fun _ => 0⟩
/-- FLT.INJECT.SOURCE, 19: Source to raise. -/
def R.FLT.INJECT.SOURCE : Fld := ⟨0x25090, 0, 7, .wo, fun _ => 0⟩
/-- FLT.INJECT.GO, 19: Writing 1 raises the source with its reaction, without the source's own action. -/
def R.FLT.INJECT.GO : Fld := ⟨0x25090, 7, 1, .wo, fun _ => 0⟩
/-- FLT.INJECT.UNIT, 19: Owner for sources whose owner depends on the raiser: 0 port 0, 1 port 1, 2 Tack link; 3 refused (R456). -/
def R.FLT.INJECT.UNIT : Fld := ⟨0x25090, 8, 2, .wo, fun _ => 0⟩
/-- MOD.STATUS.MODE, 20: One-hot: [0] Serve, [1] Ease, [2] Shadow, [3] Hold, [4] Maintenance, [5] Boot. -/
def R.MOD.STATUS.MODE : Fld := ⟨0x1000, 0, 6, .ro, fun _ => 32⟩
/-- MOD.STATUS.THERMAL_HOLD, 20: Hold is thermal hold (R397). -/
def R.MOD.STATUS.THERMAL_HOLD : Fld := ⟨0x1000, 6, 1, .ro, fun _ => 0⟩
/-- MOD.STATUS.POINT, 20: Target operating point. -/
def R.MOD.STATUS.POINT : Fld := ⟨0x1000, 7, 2, .ro, fun _ => 0⟩
/-- MOD.STATUS.BUSY, 20: Transition in progress (R463). -/
def R.MOD.STATUS.BUSY : Fld := ⟨0x1000, 9, 1, .ro, fun _ => 0⟩
/-- MOD.STATUS.BOOT_STEP, 20: Boot step running, 1–8. -/
def R.MOD.STATUS.BOOT_STEP : Fld := ⟨0x1000, 10, 4, .ro, fun _ => 1⟩
/-- MOD.STATUS.BOOT_FAIL, 20: Code of Table — Boot failures. -/
def R.MOD.STATUS.BOOT_FAIL : Fld := ⟨0x1000, 14, 2, .ro, fun _ => 0⟩
/-- MOD.STATUS.MAINT_STRAP, 20: MAINT_N low at power-good. -/
def R.MOD.STATUS.MAINT_STRAP : Fld := ⟨0x1000, 16, 1, .ro, fun _ => 0⟩
/-- MOD.STATUS.SLOT_ID, 20: SLOT_ID[5:0] at power-good. -/
def R.MOD.STATUS.SLOT_ID : Fld := ⟨0x1000, 17, 6, .ro, fun _ => 0⟩
/-- MOD.STATUS.SCAN, 20: Scan entered (R464). -/
def R.MOD.STATUS.SCAN : Fld := ⟨0x1000, 23, 1, .ro, fun _ => 0⟩
/-- MOD.STATUS.FW_UPDATED, 20: Running an activated image. -/
def R.MOD.STATUS.FW_UPDATED : Fld := ⟨0x1000, 24, 1, .ro, fun _ => 0⟩
/-- MOD.REQ.TARGET, 20: 1 Serve, 2 Ease, 3 Hold, 4 Maintenance, 5 module reset (R462). -/
def R.MOD.REQ.TARGET : Fld := ⟨0x1008, 0, 3, .wo, fun _ => 0⟩
/-- MOD.REQ.POINT, 20: Ease point 1–3. -/
def R.MOD.REQ.POINT : Fld := ⟨0x1008, 3, 2, .wo, fun _ => 0⟩
/-- MOD.REQ.END_MAINT, 20: Reset only: Boot ends in Maintenance (1) or Serve (0). -/
def R.MOD.REQ.END_MAINT : Fld := ⟨0x1008, 5, 1, .wo, fun _ => 0⟩
/-- MOD.REQ.CONFIRM, 20: 0xA5 required for a reset. -/
def R.MOD.REQ.CONFIRM : Fld := ⟨0x1008, 8, 8, .wo, fun _ => 0⟩
/-- MOD.BOOT_CFG.BIST_SKIP, 20: Omit Boot step 6; stored repairs still apply. -/
def R.MOD.BOOT_CFG.BIST_SKIP : Fld := ⟨0x1010, 0, 1, .rwp, fun _ => 0⟩
/-- MOD.BOOT_END.TICK, 20: Tick at which Boot step 8 completed. -/
def R.MOD.BOOT_END.TICK : Fld := ⟨0x1018, 0, 64, .ro, fun _ => 0⟩
/-- MOD.FW_CTRL.CMD, 20: 1 BEGIN, 2 VERIFY, 3 ACTIVATE (R470); 0 no action. -/
def R.MOD.FW_CTRL.CMD : Fld := ⟨0x1020, 0, 2, .wo, fun _ => 0⟩
/-- MOD.FW_CTRL.LENGTH, 20: Image bytes for BEGIN, 360 to 524 640. -/
def R.MOD.FW_CTRL.LENGTH : Fld := ⟨0x1020, 2, 20, .rw, fun _ => 0⟩
/-- MOD.FW_DATA.DATA, 20: Next 8 image bytes, little-endian. -/
def R.MOD.FW_DATA.DATA : Fld := ⟨0x1028, 0, 64, .wo, fun _ => 0⟩
/-- MOD.FW_STATUS.STATE, 20: 0 idle, 1 loading, 2 verified, 3 failed. -/
def R.MOD.FW_STATUS.STATE : Fld := ⟨0x1030, 0, 2, .ro, fun _ => 0⟩
/-- MOD.FW_STATUS.RECEIVED, 20: Bytes staged. -/
def R.MOD.FW_STATUS.RECEIVED : Fld := ⟨0x1030, 2, 20, .ro, fun _ => 0⟩
/-- MOD.FW_STATUS.RUN_SVN, 20: SVN of the running image. -/
def R.MOD.FW_STATUS.RUN_SVN : Fld := ⟨0x1030, 22, 6, .ro, fun _ => Config.romSvn.toNat⟩
/-- MOD.FW_STATUS.MIN_SVN, 20: Minimum SVN (R466). -/
def R.MOD.FW_STATUS.MIN_SVN : Fld := ⟨0x1030, 28, 6, .ro, fun _ => 0⟩
/-- MOD.FW_STATUS.RUN_VERSION, 20: Low 30 bits of the running VERSION. -/
def R.MOD.FW_STATUS.RUN_VERSION : Fld := ⟨0x1030, 34, 30, .ro, fun _ => Config.romVersion.toNat⟩
/-- MOD.PAT_SEL.WORD, 20: Word shown in MOD.PAT_STAT. -/
def R.MOD.PAT_SEL.WORD : Fld := ⟨0x1038, 0, 12, .rw, fun _ => 0⟩
/-- MOD.PAT_STAT.COUNT, 20: Commits of the word, 0–1 000 000. -/
def R.MOD.PAT_STAT.COUNT : Fld := ⟨0x1040, 0, 20, .ro, fun _ => 0⟩
/-- MOD.PAT_STAT.FROZEN, 20: Word frozen (R472). -/
def R.MOD.PAT_STAT.FROZEN : Fld := ⟨0x1040, 20, 1, .ro, fun _ => 0⟩
/-- OTP.STATUS.MARGINAL, 20: Marginal words found at Boot (R466). -/
def R.OTP.STATUS.MARGINAL : Fld := ⟨0x28000, 0, 10, .ro, fun _ => 0⟩
/-- OTP.STATUS.PENDING, 20: A word programmed since Boot (R469). -/
def R.OTP.STATUS.PENDING : Fld := ⟨0x28000, 10, 1, .ro, fun _ => 0⟩
/-- OTP.STATUS.MIN_SVN, 20: Minimum SVN. -/
def R.OTP.STATUS.MIN_SVN : Fld := ⟨0x28000, 11, 6, .ro, fun _ => 0⟩
/-- OTP.STATUS.PATCHES, 20: Entries applied, 0–128. -/
def R.OTP.STATUS.PATCHES : Fld := ⟨0x28000, 17, 8, .ro, fun _ => 0⟩
/-- OTP.STATUS.SKIPPED, 20: Entries skipped (R468). -/
def R.OTP.STATUS.SKIPPED : Fld := ⟨0x28000, 25, 8, .ro, fun _ => 0⟩
/-- OTP.STATUS.SECRET_SET, 20: Device secret programmed. -/
def R.OTP.STATUS.SECRET_SET : Fld := ⟨0x28000, 33, 1, .ro, fun _ => 0⟩
/-- OTP.STATUS.OWNER_BANK, 20: 0 none, 1 or 2. -/
def R.OTP.STATUS.OWNER_BANK : Fld := ⟨0x28000, 34, 2, .ro, fun _ => 0⟩
/-- OTP.STATUS.SUPPLY_OK, 20: Programming supply and VDDC inside their windows. -/
def R.OTP.STATUS.SUPPLY_OK : Fld := ⟨0x28000, 36, 1, .ro, fun _ => 0⟩
/-- OTP.SEL.WORD, 20: Word for OTP.WORD and PROG. -/
def R.OTP.SEL.WORD : Fld := ⟨0x28008, 0, 10, .rw, fun _ => 0⟩
/-- OTP.SEL.PROGRAMMED, 20: Selected word programmed. -/
def R.OTP.SEL.PROGRAMMED : Fld := ⟨0x28008, 16, 1, .ro, fun _ => 0⟩
/-- OTP.SEL.MARGINAL, 20: Selected word marginal. -/
def R.OTP.SEL.MARGINAL : Fld := ⟨0x28008, 17, 1, .ro, fun _ => 0⟩
/-- OTP.WORD.VALUE, 20: Normal-reference value; zero for words 32–43 (R465). -/
def R.OTP.WORD.VALUE : Fld := ⟨0x28010, 0, 64, .ro, fun _ => 0⟩
/-- OTP.PROG_DATA.DATA, 20: Value for PROG. -/
def R.OTP.PROG_DATA.DATA : Fld := ⟨0x28018, 0, 64, .rw, fun _ => 0⟩
/-- OTP.CMD.CMD, 20: Command code (R467); 0 no action. -/
def R.OTP.CMD.CMD : Fld := ⟨0x28020, 0, 3, .wo, fun _ => 0⟩
/-- OTP.CMD.LOCK, 20: 0 DEBUG_LOCK, 1 COMPAT_LOCK, 2 PATCH_LOCK; 3 refused with MALFORMED. -/
def R.OTP.CMD.LOCK : Fld := ⟨0x28020, 3, 2, .wo, fun _ => 0⟩
/-- OTP.CMD.RESULT, 20: 0 OK, 1 running, 2 BLOCKED, 3 MARGINAL. -/
def R.OTP.CMD.RESULT : Fld := ⟨0x28020, 8, 3, .ro, fun _ => 0⟩
/-- OTP.DATA.DATA, 20: Bytes 8n to 8n + 7 of the owner value or transport key; cleared after each command. -/
def R.OTP.DATA.DATA : Fld := ⟨0x28028, 0, 64, .wo, fun _ => 0⟩
/-- OTP.KEK_OUT.DATA, 20: Bytes 8n to 8n + 7 of the wrapped KEK (R467). -/
def R.OTP.KEK_OUT.DATA : Fld := ⟨0x28048, 0, 64, .rc, fun _ => 0⟩
/-- PAT.WORD.VALUE, 20: Word n (R471, R472). -/
def R.PAT.WORD.VALUE : Fld := ⟨0x30000, 0, 64, .ro, fun _ => 0⟩
/-- BST.CTRL.START, 20: Writing 1 starts a Maintenance run (R460). -/
def R.BST.CTRL.START : Fld := ⟨0x38000, 0, 1, .wo, fun _ => 0⟩
/-- BST.CTRL.REPAIR, 20: Repair failing rows in Maintenance runs. -/
def R.BST.CTRL.REPAIR : Fld := ⟨0x38000, 1, 1, .rw, fun _ => 0⟩
/-- BST.CTRL.POP, 20: Writing 1 removes the head of the result FIFO. -/
def R.BST.CTRL.POP : Fld := ⟨0x38000, 2, 1, .wo, fun _ => 0⟩
/-- BST.STATUS.STATE, 20: 0 idle, 1 running, 2 done. -/
def R.BST.STATUS.STATE : Fld := ⟨0x38008, 0, 2, .ro, fun _ => 0⟩
/-- BST.STATUS.WAVE, 20: Wave running or last run. -/
def R.BST.STATUS.WAVE : Fld := ⟨0x38008, 2, 3, .ro, fun _ => 0⟩
/-- BST.STATUS.FAILED, 20: Rows failed in the last run, saturating. -/
def R.BST.STATUS.FAILED : Fld := ⟨0x38008, 5, 16, .ro, fun _ => 0⟩
/-- BST.STATUS.REPAIRED, 20: Rows repaired in the last run. -/
def R.BST.STATUS.REPAIRED : Fld := ⟨0x38008, 21, 16, .ro, fun _ => 0⟩
/-- BST.STATUS.WITHHELD, 20: Slots withheld since Boot (R459). -/
def R.BST.STATUS.WITHHELD : Fld := ⟨0x38008, 37, 16, .ro, fun _ => 0⟩
/-- BST.STATUS.QUEUED, 20: Results in the FIFO, 0–64. -/
def R.BST.STATUS.QUEUED : Fld := ⟨0x38008, 53, 7, .ro, fun _ => 0⟩
/-- BST.STATUS.LOST, 20: Results lost to a full FIFO since the last run started. -/
def R.BST.STATUS.LOST : Fld := ⟨0x38008, 60, 1, .ro, fun _ => 0⟩
/-- BST.RESULT.CHANNEL, 20: Channel. -/
def R.BST.RESULT.CHANNEL : Fld := ⟨0x38010, 0, 5, .ro, fun _ => 0⟩
/-- BST.RESULT.PC, 20: Pseudo-channel. -/
def R.BST.RESULT.PC : Fld := ⟨0x38010, 5, 1, .ro, fun _ => 0⟩
/-- BST.RESULT.PLY, 20: Ply within the tier. -/
def R.BST.RESULT.PLY : Fld := ⟨0x38010, 6, 2, .ro, fun _ => 0⟩
/-- BST.RESULT.BANK, 20: 4 × bank group + bank. -/
def R.BST.RESULT.BANK : Fld := ⟨0x38010, 8, 4, .ro, fun _ => 0⟩
/-- BST.RESULT.ROW, 20: Row; spare index in [17:12] when SPARE = 1. -/
def R.BST.RESULT.ROW : Fld := ⟨0x38010, 12, 15, .ro, fun _ => 0⟩
/-- BST.RESULT.SPARE, 20: Failing row is a spare. -/
def R.BST.RESULT.SPARE : Fld := ⟨0x38010, 27, 1, .ro, fun _ => 0⟩
/-- BST.RESULT.GRANULE, 20: Granule in the row. -/
def R.BST.RESULT.GRANULE : Fld := ⟨0x38010, 28, 2, .ro, fun _ => 0⟩
/-- BST.RESULT.CODEWORD, 20: Codeword in the granule. -/
def R.BST.RESULT.CODEWORD : Fld := ⟨0x38010, 30, 2, .ro, fun _ => 0⟩
/-- BST.RESULT.BIT, 20: First failing stored bit, 0–575. -/
def R.BST.RESULT.BIT : Fld := ⟨0x38010, 32, 10, .ro, fun _ => 0⟩
/-- BST.RESULT.OUTCOME, 20: 0 repaired, 1 slot withheld, 2 pseudo-channel torn, 3 reported only or spare marked bad. -/
def R.BST.RESULT.OUTCOME : Fld := ⟨0x38010, 42, 2, .ro, fun _ => 0⟩
/-- BST.RESULT.VALID, 20: FIFO not empty. -/
def R.BST.RESULT.VALID : Fld := ⟨0x38010, 63, 1, .ro, fun _ => 0⟩
/-- TIM.TICK.TICK, 20: Ticks since power-good (R473). -/
def R.TIM.TICK.TICK : Fld := ⟨0x39000, 0, 64, .ro, fun _ => 0⟩
/-- TIM.NOTE.NOTE, 20: Steward's opaque value. -/
def R.TIM.NOTE.NOTE : Fld := ⟨0x39008, 0, 64, .rw, fun _ => 0⟩
/-- TIM.NOTE_TICK.TICK, 20: Tick of the last write of TIM.NOTE. -/
def R.TIM.NOTE_TICK.TICK : Fld := ⟨0x39010, 0, 64, .ro, fun _ => 0⟩
/-- TIM.RESET_TICK.TICK, 20: Tick at which the last module reset began; 0 = none since power-good. -/
def R.TIM.RESET_TICK.TICK : Fld := ⟨0x39018, 0, 64, .ro, fun _ => 0⟩

/-- The registers of block CLK (21 R474). -/
def regsClk : List RegDef :=
  [ ⟨"CLK.STATUS", 0x2000, [], .one, [⟨R.CLK.STATUS.REF_SEL, 0, 1, 0⟩, ⟨R.CLK.STATUS.REF_OK, 1, 1, 0⟩, ⟨R.CLK.STATUS.BKP_OK, 2, 1, 0⟩, ⟨R.CLK.STATUS.FORCED, 3, 1, 0⟩, ⟨R.CLK.STATUS.PLL_LOCK, 4, 1, 0⟩, ⟨R.CLK.STATUS.PLL_HOLDOVER, 12, 1, 0⟩, ⟨R.CLK.STATUS.GOOD_RUN, 20, 1, 0⟩, ⟨R.CLK.STATUS.BAD_RUN, 27, 1, 0⟩]⟩,
    ⟨"CLK.REF_COUNT", 0x2008, [], .one, [⟨R.CLK.REF_COUNT.LAST, 0, 1, 0⟩, ⟨R.CLK.REF_COUNT.MIN, 16, 1, 0⟩, ⟨R.CLK.REF_COUNT.MAX, 32, 1, 0⟩]⟩,
    ⟨"CLK.SWITCH_TICK", 0x2010, [], .one, [⟨R.CLK.SWITCH_TICK.TICK, 0, 1, 0⟩]⟩,
    ⟨"CLK.EVENTS", 0x2018, [], .one, [⟨R.CLK.EVENTS.TO_BACKUP, 0, 1, 0⟩, ⟨R.CLK.EVENTS.RETURNS, 16, 1, 0⟩, ⟨R.CLK.EVENTS.FORCED_COUNT, 32, 1, 0⟩]⟩,
    ⟨"CLK.BKP", 0x2020, [], .one, [⟨R.CLK.BKP.TRIM, 0, 1, 0⟩, ⟨R.CLK.BKP.ERR, 16, 1, 0⟩]⟩,
    ⟨"CLK.CTRL", 0x2028, [], .one, [⟨R.CLK.CTRL.AUTO_RETURN, 0, 1, 0⟩, ⟨R.CLK.CTRL.RETURN_NOW, 1, 1, 0⟩, ⟨R.CLK.CTRL.WAKE_PORT, 2, 1, 0⟩]⟩,
    ⟨"CLK.WEAVE_SPEED", 0x2030, [], .one, [⟨R.CLK.WEAVE_SPEED.SPEED, 0, 1, 0⟩]⟩,
    ⟨"CLK.ISL_RUN", 0x2038, [], .one, [⟨R.CLK.ISL_RUN.RUN, 0, 1, 0⟩]⟩,
    ⟨"CLK.ISL_RET", 0x2040, [], .one, [⟨R.CLK.ISL_RET.RET, 0, 1, 0⟩]⟩,
    ⟨"CLK.CUSTOM_OP", 0x2048, [], .one, [⟨R.CLK.CUSTOM_OP.PIN_RATE, 0, 1, 0⟩, ⟨R.CLK.CUSTOM_OP.CC_CLK, 8, 1, 0⟩, ⟨R.CLK.CUSTOM_OP.MAC_CLK, 18, 1, 0⟩, ⟨R.CLK.CUSTOM_OP.TPCS_CLK, 28, 1, 0⟩, ⟨R.CLK.CUSTOM_OP.SLOT, 38, 1, 0⟩, ⟨R.CLK.CUSTOM_OP.EN, 40, 1, 0⟩]⟩ ]

/-- The registers of block ETH (21 R474). -/
def regsEth : List RegDef :=
  [ ⟨"ETH.CTRL", 0x3000, [(0x1000, 2)], .one, [⟨R.ETH.CTRL.ADMIN_UP, 0, 1, 0⟩, ⟨R.ETH.CTRL.MEDIA, 1, 1, 0⟩, ⟨R.ETH.CTRL.AN_EN, 3, 1, 0⟩, ⟨R.ETH.CTRL.FALLBACK_EN, 4, 1, 0⟩, ⟨R.ETH.CTRL.RESTORE_FULL, 5, 1, 0⟩, ⟨R.ETH.CTRL.ECT_EN, 6, 1, 0⟩, ⟨R.ETH.CTRL.ICMP_ECHO, 7, 1, 0⟩]⟩,
    ⟨"ETH.STATUS", 0x3008, [(0x1000, 2)], .one, [⟨R.ETH.STATUS.LINK, 0, 1, 0⟩, ⟨R.ETH.STATUS.SPEED, 1, 1, 0⟩, ⟨R.ETH.STATUS.ACTIVE_LANES, 3, 1, 0⟩, ⟨R.ETH.STATUS.BRINGUP, 7, 1, 0⟩, ⟨R.ETH.STATUS.LOCAL_FAULT, 8, 1, 0⟩, ⟨R.ETH.STATUS.REMOTE_FAULT, 9, 1, 0⟩, ⟨R.ETH.STATUS.LOOPBACK, 10, 1, 0⟩, ⟨R.ETH.STATUS.PFC_TX_XOFF, 16, 1, 0⟩, ⟨R.ETH.STATUS.PFC_RX_PAUSED, 24, 1, 0⟩, ⟨R.ETH.STATUS.RX_BUFFERS, 32, 1, 0⟩]⟩,
    ⟨"ETH.MAC", 0x3010, [(0x1000, 2)], .one, [⟨R.ETH.MAC.ADDR, 0, 1, 0⟩]⟩,
    ⟨"ETH.VLAN", 0x3018, [(0x1000, 2)], .one, [⟨R.ETH.VLAN.VID, 0, 1, 0⟩, ⟨R.ETH.VLAN.TAG_TX, 12, 1, 0⟩, ⟨R.ETH.VLAN.UNTAGGED_OK, 13, 1, 0⟩]⟩,
    ⟨"ETH.IP4", 0x3020, [(0x1000, 2)], .one, [⟨R.ETH.IP4.ADDR, 0, 1, 0⟩]⟩,
    ⟨"ETH.IP6_HI", 0x3028, [(0x1000, 2)], .one, [⟨R.ETH.IP6_HI.ADDR_HI, 0, 1, 0⟩]⟩,
    ⟨"ETH.IP6_LO", 0x3030, [(0x1000, 2)], .one, [⟨R.ETH.IP6_LO.ADDR_LO, 0, 1, 0⟩]⟩,
    ⟨"ETH.QOS_MAP", 0x3038, [(0x1000, 2)], .one, [⟨R.ETH.QOS_MAP.ROCE_PRIO, 0, 1, 0⟩, ⟨R.ETH.QOS_MAP.DSCP, 3, 1, 0⟩, ⟨R.ETH.QOS_MAP.LOSSLESS, 16, 1, 0⟩]⟩,
    ⟨"ETH.PFC", 0x3040, [(0x1000, 2)], .one, [⟨R.ETH.PFC.RX_LIMIT, 0, 1, 0⟩, ⟨R.ETH.PFC.XOFF, 12, 1, 0⟩, ⟨R.ETH.PFC.XON, 24, 1, 0⟩, ⟨R.ETH.PFC.QUANTA, 36, 1, 0⟩]⟩,
    ⟨"ETH.WAKE", 0x3048, [(0x1000, 2)], .one, [⟨R.ETH.WAKE.CODE, 0, 1, 0⟩, ⟨R.ETH.WAKE.EN, 48, 1, 0⟩]⟩,
    ⟨"ETH.FEC", 0x3050, [(0x1000, 2)], .one, [⟨R.ETH.FEC.CORRECTED, 0, 1, 0⟩, ⟨R.ETH.FEC.UNCORRECTABLE, 32, 1, 0⟩]⟩,
    ⟨"ETH.RX_DROP", 0x3058, [(0x1000, 2)], .one, [⟨R.ETH.RX_DROP.BAD_FCS, 0, 1, 0⟩, ⟨R.ETH.RX_DROP.OVERSIZE, 16, 1, 0⟩, ⟨R.ETH.RX_DROP.FILTERED, 32, 1, 0⟩, ⟨R.ETH.RX_DROP.OVERRUN, 48, 1, 0⟩]⟩,
    ⟨"ETH.LINK_EVT", 0x3060, [(0x1000, 2)], .one, [⟨R.ETH.LINK_EVT.DOWNS, 0, 1, 0⟩, ⟨R.ETH.LINK_EVT.FALLBACKS, 16, 1, 0⟩]⟩,
    ⟨"ETH.LINK_TICK", 0x3068, [(0x1000, 2)], .one, [⟨R.ETH.LINK_TICK.TICK, 0, 1, 0⟩]⟩ ]

/-- The registers of block SDS (21 R474). -/
def regsSds : List RegDef :=
  [ ⟨"SDS.CTRL", 0x40000, [(0x400, 16)], .one, [⟨R.SDS.CTRL.TX_INV, 0, 1, 0⟩, ⟨R.SDS.CTRL.RX_INV, 1, 1, 0⟩, ⟨R.SDS.CTRL.TX_SQUELCH, 2, 1, 0⟩, ⟨R.SDS.CTRL.LOOPBACK, 3, 1, 0⟩, ⟨R.SDS.CTRL.PRBS_GEN, 6, 1, 0⟩, ⟨R.SDS.CTRL.PRBS_CHK, 8, 1, 0⟩, ⟨R.SDS.CTRL.BITSLIP, 10, 1, 0⟩]⟩,
    ⟨"SDS.STATUS", 0x40008, [(0x400, 16)], .one, [⟨R.SDS.STATUS.LOS, 0, 1, 0⟩, ⟨R.SDS.STATUS.LOL, 1, 1, 0⟩, ⟨R.SDS.STATUS.LOS_STICKY, 2, 1, 0⟩, ⟨R.SDS.STATUS.LOL_STICKY, 3, 1, 0⟩, ⟨R.SDS.STATUS.FAILED, 4, 1, 0⟩, ⟨R.SDS.STATUS.TRAINED, 5, 1, 0⟩, ⟨R.SDS.STATUS.OWNER, 6, 1, 0⟩, ⟨R.SDS.STATUS.SLIP_POS, 8, 1, 0⟩]⟩,
    ⟨"SDS.TX_EQ", 0x40010, [(0x400, 16)], .one, [⟨R.SDS.TX_EQ.C_M2, 0, 1, 0⟩, ⟨R.SDS.TX_EQ.C_M1, 6, 1, 0⟩, ⟨R.SDS.TX_EQ.C0, 12, 1, 0⟩, ⟨R.SDS.TX_EQ.C_P1, 18, 1, 0⟩]⟩,
    ⟨"SDS.RX_EQ", 0x40018, [(0x400, 16)], .one, [⟨R.SDS.RX_EQ.CTLE, 0, 1, 0⟩, ⟨R.SDS.RX_EQ.VGA, 5, 1, 0⟩, ⟨R.SDS.RX_EQ.DFE1, 13, 1, 0⟩]⟩,
    ⟨"SDS.PRBS_ERR", 0x40020, [(0x400, 16)], .one, [⟨R.SDS.PRBS_ERR.ERRORS, 0, 1, 0⟩, ⟨R.SDS.PRBS_ERR.LOCKED, 48, 1, 0⟩]⟩,
    ⟨"SDS.EYE", 0x40028, [(0x400, 16)], .one, [⟨R.SDS.EYE.HEIGHT, 0, 1, 0⟩, ⟨R.SDS.EYE.WIDTH, 8, 1, 0⟩]⟩ ]

/-- The registers of block XPT (21 R474). -/
def regsXpt : List RegDef :=
  [ ⟨"XPT.CFG", 0x5000, [], .one, [⟨R.XPT.CFG.ACK_PKTS, 0, 1, 0⟩, ⟨R.XPT.CFG.ACK_DELAY, 8, 1, 0⟩, ⟨R.XPT.CFG.RNR_MODE, 16, 1, 0⟩, ⟨R.XPT.CFG.RNR_TIMER, 17, 1, 0⟩, ⟨R.XPT.CFG.RNR_RESERVE, 22, 1, 0⟩]⟩,
    ⟨"XPT.CC", 0x5008, [], .one, [⟨R.XPT.CC.CNP_INTERVAL, 0, 1, 0⟩, ⟨R.XPT.CC.RATE_STEP, 8, 1, 0⟩, ⟨R.XPT.CC.STEP_PERIOD, 16, 1, 0⟩, ⟨R.XPT.CC.MIN_RATE, 24, 1, 0⟩, ⟨R.XPT.CC.CC_EN, 32, 1, 0⟩]⟩,
    ⟨"XPT.QP_SEL", 0x5010, [], .one, [⟨R.XPT.QP_SEL.INDEX, 0, 1, 0⟩]⟩,
    ⟨"XPT.QP_STATE", 0x5100, [], .win R.XPT.QP_SEL.INDEX 0, [⟨R.XPT.QP_STATE.STATE, 0, 1, 0⟩, ⟨R.XPT.QP_STATE.ROLE, 3, 1, 0⟩, ⟨R.XPT.QP_STATE.PORT, 4, 1, 0⟩, ⟨R.XPT.QP_STATE.CLIENT, 5, 1, 0⟩, ⟨R.XPT.QP_STATE.BOUND, 11, 1, 0⟩, ⟨R.XPT.QP_STATE.MTU, 12, 1, 0⟩, ⟨R.XPT.QP_STATE.ACK_TIMEOUT, 14, 1, 0⟩, ⟨R.XPT.QP_STATE.RETRY_CNT, 19, 1, 0⟩, ⟨R.XPT.QP_STATE.RNR_RETRY, 22, 1, 0⟩, ⟨R.XPT.QP_STATE.ORD, 25, 1, 0⟩, ⟨R.XPT.QP_STATE.ERR_SYNDROME, 32, 1, 0⟩, ⟨R.XPT.QP_STATE.ERR_SIDE, 40, 1, 0⟩]⟩,
    ⟨"XPT.QP_DEST", 0x5108, [], .win R.XPT.QP_SEL.INDEX 0, [⟨R.XPT.QP_DEST.DEST_QPN, 0, 1, 0⟩, ⟨R.XPT.QP_DEST.PKEY, 24, 1, 0⟩, ⟨R.XPT.QP_DEST.HOP_LIMIT, 40, 1, 0⟩, ⟨R.XPT.QP_DEST.IPV6, 48, 1, 0⟩]⟩,
    ⟨"XPT.QP_DMAC", 0x5110, [], .win R.XPT.QP_SEL.INDEX 0, [⟨R.XPT.QP_DMAC.DMAC, 0, 1, 0⟩]⟩,
    ⟨"XPT.QP_DIP_HI", 0x5118, [], .win R.XPT.QP_SEL.INDEX 0, [⟨R.XPT.QP_DIP_HI.ADDR_HI, 0, 1, 0⟩]⟩,
    ⟨"XPT.QP_DIP_LO", 0x5120, [], .win R.XPT.QP_SEL.INDEX 0, [⟨R.XPT.QP_DIP_LO.ADDR_LO, 0, 1, 0⟩]⟩,
    ⟨"XPT.QP_PSN", 0x5128, [], .win R.XPT.QP_SEL.INDEX 0, [⟨R.XPT.QP_PSN.SQ_PSN, 0, 1, 0⟩, ⟨R.XPT.QP_PSN.RQ_PSN, 24, 1, 0⟩]⟩,
    ⟨"XPT.QP_RATE", 0x5130, [], .win R.XPT.QP_SEL.INDEX 0, [⟨R.XPT.QP_RATE.RATE, 0, 1, 0⟩, ⟨R.XPT.QP_RATE.CNP_RX, 16, 1, 0⟩, ⟨R.XPT.QP_RATE.CNP_TX, 40, 1, 0⟩]⟩,
    ⟨"XPT.DROP", 0x5200, [], .one, [⟨R.XPT.DROP.ICRC, 0, 1, 0⟩, ⟨R.XPT.DROP.BAD_QP, 16, 1, 0⟩, ⟨R.XPT.DROP.PKEY_GID, 32, 1, 0⟩]⟩,
    ⟨"XPT.NAK_TX", 0x5208, [], .one, [⟨R.XPT.NAK_TX.SEQ, 0, 1, 0⟩, ⟨R.XPT.NAK_TX.INV_REQ, 16, 1, 0⟩, ⟨R.XPT.NAK_TX.ACCESS, 32, 1, 0⟩, ⟨R.XPT.NAK_TX.OPER, 48, 1, 0⟩]⟩,
    ⟨"XPT.RNR", 0x5210, [], .one, [⟨R.XPT.RNR.RNR_TX, 0, 1, 0⟩, ⟨R.XPT.RNR.RNR_DROP, 32, 1, 0⟩]⟩,
    ⟨"XPT.RETRY", 0x5218, [], .one, [⟨R.XPT.RETRY.TIMEOUTS, 0, 1, 0⟩, ⟨R.XPT.RETRY.RNR_RX, 32, 1, 0⟩]⟩ ]

/-- The registers of block GLB (21 R474). -/
def regsGlb : List RegDef :=
  [ ⟨"GLB.SETUP_RESP_SMB", 0x100, [], .one, [⟨R.GLB.SETUP_RESP_SMB.STATUS, 0, 1, 0⟩, ⟨R.GLB.SETUP_RESP_SMB.OFFSET, 8, 1, 0⟩, ⟨R.GLB.SETUP_RESP_SMB.REFUSED, 32, 1, 0⟩, ⟨R.GLB.SETUP_RESP_SMB.PEC_ERR, 48, 1, 0⟩]⟩,
    ⟨"GLB.SETUP_RESP_RDMA", 0x108, [], .one, [⟨R.GLB.SETUP_RESP_RDMA.STATUS, 0, 1, 0⟩, ⟨R.GLB.SETUP_RESP_RDMA.OFFSET, 8, 1, 0⟩, ⟨R.GLB.SETUP_RESP_RDMA.CLIENT, 28, 1, 0⟩, ⟨R.GLB.SETUP_RESP_RDMA.REFUSED, 48, 1, 0⟩]⟩ ]

/-- The registers of block BLT (21 R474). -/
def regsBlt : List RegDef :=
  [ ⟨"BLT.CLIENT_SEL", 0x6000, [], .one, [⟨R.BLT.CLIENT_SEL.INDEX, 0, 1, 0⟩]⟩,
    ⟨"BLT.CLIENT", 0x6008, [], .win R.BLT.CLIENT_SEL.INDEX 0, [⟨R.BLT.CLIENT.VALID, 0, 1, 0⟩, ⟨R.BLT.CLIENT.STEWARD, 1, 1, 0⟩, ⟨R.BLT.CLIENT.QPS, 2, 1, 0⟩, ⟨R.BLT.CLIENT.GRANTS, 13, 1, 0⟩]⟩,
    ⟨"BLT.CLIENT_GID_HI", 0x6010, [], .win R.BLT.CLIENT_SEL.INDEX 0, [⟨R.BLT.CLIENT_GID_HI.GID_HI, 0, 1, 0⟩]⟩,
    ⟨"BLT.CLIENT_GID_LO", 0x6018, [], .win R.BLT.CLIENT_SEL.INDEX 0, [⟨R.BLT.CLIENT_GID_LO.GID_LO, 0, 1, 0⟩]⟩,
    ⟨"BLT.CLIENT_STAT", 0x6020, [], .win R.BLT.CLIENT_SEL.INDEX 0, [⟨R.BLT.CLIENT_STAT.DENIED, 0, 1, 0⟩, ⟨R.BLT.CLIENT_STAT.BAD_ADDR, 16, 1, 0⟩, ⟨R.BLT.CLIENT_STAT.KEY_MISMATCH, 32, 1, 0⟩, ⟨R.BLT.CLIENT_STAT.KEY_EXHAUSTED, 48, 1, 0⟩]⟩,
    ⟨"BLT.QP_BIND", 0x6028, [], .one, [⟨R.BLT.QP_BIND.QP, 0, 1, 0⟩, ⟨R.BLT.QP_BIND.CLIENT, 16, 1, 0⟩, ⟨R.BLT.QP_BIND.UNBIND, 22, 1, 0⟩]⟩,
    ⟨"BLT.BOLT_SEL", 0x6100, [], .one, [⟨R.BLT.BOLT_SEL.INDEX, 0, 1, 0⟩]⟩,
    ⟨"BLT.BOLT_BASE", 0x6108, [], .win R.BLT.BOLT_SEL.INDEX 0, [⟨R.BLT.BOLT_BASE.BASE_SW, 0, 1, 0⟩, ⟨R.BLT.BOLT_BASE.LEN_SW, 24, 1, 0⟩]⟩,
    ⟨"BLT.BOLT_ATTR", 0x6110, [], .win R.BLT.BOLT_SEL.INDEX 0, [⟨R.BLT.BOLT_ATTR.KEY_ID, 0, 1, 0⟩, ⟨R.BLT.BOLT_ATTR.MODE, 12, 1, 0⟩, ⟨R.BLT.BOLT_ATTR.HINT, 14, 1, 0⟩, ⟨R.BLT.BOLT_ATTR.LPOL, 17, 1, 0⟩, ⟨R.BLT.BOLT_ATTR.PIN_SET, 19, 1, 0⟩, ⟨R.BLT.BOLT_ATTR.STATE, 24, 1, 0⟩, ⟨R.BLT.BOLT_ATTR.CMD, 28, 1, 0⟩]⟩,
    ⟨"BLT.BOLT_CHARGE", 0x6118, [], .win R.BLT.BOLT_SEL.INDEX 0, [⟨R.BLT.BOLT_CHARGE.CHARGE_KIB, 0, 1, 0⟩]⟩,
    ⟨"BLT.GRANT_SEL", 0x6200, [], .one, [⟨R.BLT.GRANT_SEL.INDEX, 0, 1, 0⟩]⟩,
    ⟨"BLT.GRANT", 0x6208, [], .win R.BLT.GRANT_SEL.INDEX 0, [⟨R.BLT.GRANT.CLIENT, 0, 1, 0⟩, ⟨R.BLT.GRANT.BOLT, 6, 1, 0⟩, ⟨R.BLT.GRANT.RIGHTS, 16, 1, 0⟩, ⟨R.BLT.GRANT.ISSUED, 20, 1, 0⟩, ⟨R.BLT.GRANT.GEN, 21, 1, 0⟩, ⟨R.BLT.GRANT.CMD, 41, 1, 0⟩, ⟨R.BLT.GRANT.INFLIGHT, 43, 1, 0⟩]⟩,
    ⟨"BLT.GRANT_RANGE", 0x6210, [], .win R.BLT.GRANT_SEL.INDEX 0, [⟨R.BLT.GRANT_RANGE.START_SW, 0, 1, 0⟩, ⟨R.BLT.GRANT_RANGE.LEN_SW, 24, 1, 0⟩]⟩,
    ⟨"BLT.CAP", 0x6300, [], .one, [⟨R.BLT.CAP.LIMIT_KIB, 0, 1, 0⟩, ⟨R.BLT.CAP.CHARGED_KIB, 32, 1, 0⟩]⟩,
    ⟨"BLT.ACC_FAULT", 0x6308, [], .one, [⟨R.BLT.ACC_FAULT.DENIED, 0, 1, 0⟩, ⟨R.BLT.ACC_FAULT.BAD_ADDR, 16, 1, 0⟩, ⟨R.BLT.ACC_FAULT.KEY_MISMATCH, 32, 1, 0⟩, ⟨R.BLT.ACC_FAULT.MASTER, 48, 1, 0⟩]⟩ ]

/-- The registers of block SHU (21 R474). -/
def regsShu : List RegDef :=
  [ ⟨"SHU.CFG", 0xA000, [], .one, [⟨R.SHU.CFG.HELD_LIMIT, 0, 1, 0⟩, ⟨R.SHU.CFG.FETCH_BATCH, 12, 1, 0⟩, ⟨R.SHU.CFG.RELEASE_RUN, 18, 1, 0⟩]⟩,
    ⟨"SHU.RING_SEL", 0xA008, [], .one, [⟨R.SHU.RING_SEL.INDEX, 0, 1, 0⟩]⟩,
    ⟨"SHU.RING_CTRL", 0xA100, [], .win R.SHU.RING_SEL.INDEX 0, [⟨R.SHU.RING_CTRL.QP, 0, 1, 0⟩, ⟨R.SHU.RING_CTRL.RING_LOG2, 10, 1, 0⟩, ⟨R.SHU.RING_CTRL.CQ_LOG2, 15, 1, 0⟩, ⟨R.SHU.RING_CTRL.CMD, 20, 1, 0⟩, ⟨R.SHU.RING_CTRL.STATE, 22, 1, 0⟩]⟩,
    ⟨"SHU.RING_BASE", 0xA108, [], .win R.SHU.RING_SEL.INDEX 0, [⟨R.SHU.RING_BASE.VA, 0, 1, 0⟩]⟩,
    ⟨"SHU.RING_CQ", 0xA110, [], .win R.SHU.RING_SEL.INDEX 0, [⟨R.SHU.RING_CQ.VA, 0, 1, 0⟩]⟩,
    ⟨"SHU.RING_RKEY", 0xA118, [], .win R.SHU.RING_SEL.INDEX 0, [⟨R.SHU.RING_RKEY.WIN_RKEY, 0, 1, 0⟩]⟩,
    ⟨"SHU.RING_STATUS", 0xA120, [], .win R.SHU.RING_SEL.INDEX 0, [⟨R.SHU.RING_STATUS.HEAD, 0, 1, 0⟩, ⟨R.SHU.RING_STATUS.TAIL, 16, 1, 0⟩, ⟨R.SHU.RING_STATUS.CQ_POSTED, 32, 1, 0⟩, ⟨R.SHU.RING_STATUS.CQ_PHASE, 48, 1, 0⟩, ⟨R.SHU.RING_STATUS.CQ_FULL, 49, 1, 0⟩, ⟨R.SHU.RING_STATUS.LAST_STATUS, 50, 1, 0⟩]⟩,
    ⟨"SHU.RING_STAT", 0xA128, [], .win R.SHU.RING_SEL.INDEX 0, [⟨R.SHU.RING_STAT.BAD_DB, 0, 1, 0⟩, ⟨R.SHU.RING_STAT.OWN_STALLS, 16, 1, 0⟩, ⟨R.SHU.RING_STAT.ERRORS, 32, 1, 0⟩, ⟨R.SHU.RING_STAT.CQ_STALLS, 48, 1, 0⟩]⟩,
    ⟨"SHU.EQ_SEL", 0xA200, [], .one, [⟨R.SHU.EQ_SEL.CLIENT, 0, 1, 0⟩]⟩,
    ⟨"SHU.EQ_BASE", 0xA208, [], .win R.SHU.EQ_SEL.CLIENT 0, [⟨R.SHU.EQ_BASE.VA, 0, 1, 0⟩]⟩,
    ⟨"SHU.EQ_CTRL", 0xA210, [], .win R.SHU.EQ_SEL.CLIENT 0, [⟨R.SHU.EQ_CTRL.QP, 0, 1, 0⟩, ⟨R.SHU.EQ_CTRL.LOG2, 10, 1, 0⟩, ⟨R.SHU.EQ_CTRL.EN, 14, 1, 0⟩, ⟨R.SHU.EQ_CTRL.MASK, 16, 1, 0⟩, ⟨R.SHU.EQ_CTRL.RKEY, 32, 1, 0⟩]⟩,
    ⟨"SHU.EQ_STATUS", 0xA218, [], .win R.SHU.EQ_SEL.CLIENT 0, [⟨R.SHU.EQ_STATUS.POSTED, 0, 1, 0⟩, ⟨R.SHU.EQ_STATUS.PHASE, 12, 1, 0⟩, ⟨R.SHU.EQ_STATUS.FULL, 13, 1, 0⟩, ⟨R.SHU.EQ_STATUS.LOST, 16, 1, 0⟩]⟩ ]

/-- The registers of block NDL (21 R474). -/
def regsNdl : List RegDef :=
  [ ⟨"NDL.CFG", 0xB000, [], .one, [⟨R.NDL.CFG.MAX_ACTIVE, 0, 1, 0⟩, ⟨R.NDL.CFG.QUANTUM, 8, 1, 0⟩]⟩,
    ⟨"NDL.STATUS", 0xB008, [], .one, [⟨R.NDL.STATUS.ACTIVE, 0, 1, 0⟩, ⟨R.NDL.STATUS.WAITING, 8, 1, 0⟩, ⟨R.NDL.STATUS.STEP_RATE, 32, 1, 0⟩]⟩,
    ⟨"NDL.STEPS", 0xB010, [], .one, [⟨R.NDL.STEPS.STEPS, 0, 1, 0⟩]⟩,
    ⟨"NDL.OPS", 0xB018, [], .one, [⟨R.NDL.OPS.COMPLETED, 0, 1, 0⟩, ⟨R.NDL.OPS.FAILED, 32, 1, 0⟩]⟩,
    ⟨"NDL.SKIPPED", 0xB020, [], .one, [⟨R.NDL.SKIPPED.OUT_OF_RANGE, 0, 1, 0⟩, ⟨R.NDL.SKIPPED.BAD_ENTRY, 32, 1, 0⟩]⟩,
    ⟨"NDL.FP", 0xB028, [], .one, [⟨R.NDL.FP.NAN_RESULTS, 0, 1, 0⟩, ⟨R.NDL.FP.INF_RESULTS, 32, 1, 0⟩]⟩ ]

/-- The registers of block PLC (21 R474). -/
def regsPlc : List RegDef :=
  [ ⟨"PLC.CFG", 0x8000, [], .one, [⟨R.PLC.CFG.EN, 0, 1, 0⟩, ⟨R.PLC.CFG.SAMPLE_SHIFT, 4, 1, 0⟩, ⟨R.PLC.CFG.HOLDOFF, 8, 1, 0⟩, ⟨R.PLC.CFG.EPOCH_US, 16, 1, 0⟩, ⟨R.PLC.CFG.MAX_MOVES, 32, 1, 0⟩]⟩,
    ⟨"PLC.THRESH", 0x8008, [], .one, [⟨R.PLC.THRESH.HOT, 0, 1, 0⟩, ⟨R.PLC.THRESH.COLD_AGE, 12, 1, 0⟩, ⟨R.PLC.THRESH.SEQ_FRAC, 16, 1, 0⟩, ⟨R.PLC.THRESH.WRITE_FRAC, 20, 1, 0⟩]⟩,
    ⟨"PLC.STATUS", 0x8010, [], .one, [⟨R.PLC.STATUS.EPOCH, 0, 1, 0⟩, ⟨R.PLC.STATUS.MOVES_ACTIVE, 32, 1, 0⟩, ⟨R.PLC.STATUS.S32_GEN, 42, 1, 0⟩, ⟨R.PLC.STATUS.SEAM_LOW, 45, 1, 0⟩, ⟨R.PLC.STATUS.PLANNING, 46, 1, 0⟩]⟩,
    ⟨"PLC.FREE", 0x8018, [], .one, [⟨R.PLC.FREE.FREE_FRAMES, 0, 1, 0⟩, ⟨R.PLC.FREE.MAPPED, 22, 1, 0⟩, ⟨R.PLC.FREE.TORN_PC, 44, 1, 0⟩]⟩,
    ⟨"PLC.MOVES", 0x8020, [], .one, [⟨R.PLC.MOVES.STARTED, 0, 1, 0⟩, ⟨R.PLC.MOVES.FLIPPED, 24, 1, 0⟩, ⟨R.PLC.MOVES.CANCELLED, 48, 1, 0⟩]⟩,
    ⟨"PLC.FORCED", 0x8028, [], .one, [⟨R.PLC.FORCED.FORCED_FLIPS, 0, 1, 0⟩, ⟨R.PLC.FORCED.EXHAUSTED, 32, 1, 0⟩]⟩,
    ⟨"PLC.PIN_MASK", 0x8040, [(8, 8)], .one, [⟨R.PLC.PIN_MASK.MASK, 0, 1, 0⟩, ⟨R.PLC.PIN_MASK.FRAMES, 32, 1, 0⟩]⟩,
    ⟨"PLC.S32_GEN", 0x8080, [(8, 8)], .one, [⟨R.PLC.S32_GEN.MASK, 0, 1, 0⟩, ⟨R.PLC.S32_GEN.FRAMES, 32, 1, 0⟩, ⟨R.PLC.S32_GEN.CURRENT, 54, 1, 0⟩, ⟨R.PLC.S32_GEN.VALID, 55, 1, 0⟩]⟩,
    ⟨"PLC.RESTITCH", 0x8100, [], .one, [⟨R.PLC.RESTITCH.START_SW, 0, 1, 0⟩, ⟨R.PLC.RESTITCH.COUNT, 24, 1, 0⟩, ⟨R.PLC.RESTITCH.MODE, 48, 1, 0⟩, ⟨R.PLC.RESTITCH.GO, 50, 1, 0⟩]⟩,
    ⟨"PLC.RESTITCH_STATUS", 0x8108, [], .one, [⟨R.PLC.RESTITCH_STATUS.STATE, 0, 1, 0⟩, ⟨R.PLC.RESTITCH_STATUS.STATUS, 2, 1, 0⟩, ⟨R.PLC.RESTITCH_STATUS.DONE, 10, 1, 0⟩, ⟨R.PLC.RESTITCH_STATUS.SKIPPED, 34, 1, 0⟩]⟩,
    ⟨"PLC.PROBE_SEL", 0x8110, [], .one, [⟨R.PLC.PROBE_SEL.SWATCH, 0, 1, 0⟩]⟩,
    ⟨"PLC.PROBE", 0x8118, [], .win R.PLC.PROBE_SEL.SWATCH 0, [⟨R.PLC.PROBE.ENTRY, 0, 1, 0⟩, ⟨R.PLC.PROBE.DWELL, 32, 1, 0⟩, ⟨R.PLC.PROBE.IN_HEAT, 48, 1, 0⟩]⟩ ]

/-- The registers of block LNG (21 R474). -/
def regsLng : List RegDef :=
  [ ⟨"LNG.CFG", 0x9000, [], .one, [⟨R.LNG.CFG.STICKY_MIB, 0, 1, 0⟩, ⟨R.LNG.CFG.DIRTY_HIGH, 8, 1, 0⟩, ⟨R.LNG.CFG.DIRTY_LOW, 16, 1, 0⟩]⟩,
    ⟨"LNG.STATUS", 0x9008, [], .one, [⟨R.LNG.STATUS.VALID_LINES, 0, 1, 0⟩, ⟨R.LNG.STATUS.DIRTY_LINES, 19, 1, 0⟩, ⟨R.LNG.STATUS.STICKY_LINES, 38, 1, 0⟩, ⟨R.LNG.STATUS.CLEANING, 55, 1, 0⟩]⟩,
    ⟨"LNG.READS", 0x9010, [], .one, [⟨R.LNG.READS.HITS, 0, 1, 0⟩, ⟨R.LNG.READS.MISSES, 32, 1, 0⟩]⟩,
    ⟨"LNG.WRITES", 0x9018, [], .one, [⟨R.LNG.WRITES.HITS, 0, 1, 0⟩, ⟨R.LNG.WRITES.MISSES, 32, 1, 0⟩]⟩,
    ⟨"LNG.EVICT", 0x9020, [], .one, [⟨R.LNG.EVICT.WRITEBACKS, 0, 1, 0⟩, ⟨R.LNG.EVICT.FILL_FAILS, 32, 1, 0⟩, ⟨R.LNG.EVICT.WB_RETRIES, 48, 1, 0⟩]⟩,
    ⟨"LNG.CMD", 0x9028, [], .one, [⟨R.LNG.CMD.CLEAN_ALL, 0, 1, 0⟩]⟩ ]

/-- The registers of block QOS (21 R474). -/
def regsQos : List RegDef :=
  [ ⟨"QOS.CFG", 0xC000, [], .one, [⟨R.QOS.CFG.MISS_EN, 0, 1, 0⟩, ⟨R.QOS.CFG.AGE_US, 8, 1, 0⟩]⟩,
    ⟨"QOS.DELIVER", 0xC008, [], .one, [⟨R.QOS.DELIVER.REF, 0, 1, 0⟩, ⟨R.QOS.DELIVER.NOW, 13, 1, 0⟩, ⟨R.QOS.DELIVER.FACTOR, 26, 1, 0⟩, ⟨R.QOS.DELIVER.GUAR_SUM, 37, 1, 0⟩, ⟨R.QOS.DELIVER.LIMIT, 47, 1, 0⟩]⟩,
    ⟨"QOS.PORT", 0xC010, [], .one, [⟨R.QOS.PORT.PORT0, 0, 1, 0⟩, ⟨R.QOS.PORT.PORT1, 9, 1, 0⟩]⟩,
    ⟨"QOS.POOL", 0xC018, [], .one, [⟨R.QOS.POOL.FREE, 0, 1, 0⟩, ⟨R.QOS.POOL.RX, 14, 1, 0⟩, ⟨R.QOS.POOL.SHUTTLE, 28, 1, 0⟩, ⟨R.QOS.POOL.CHANNEL, 42, 1, 0⟩]⟩,
    ⟨"QOS.POOL_CFG", 0xC020, [], .one, [⟨R.QOS.POOL_CFG.GUAR_RESERVE, 0, 1, 0⟩]⟩,
    ⟨"QOS.MASTER_SEL", 0xC100, [], .one, [⟨R.QOS.MASTER_SEL.INDEX, 0, 1, 0⟩]⟩,
    ⟨"QOS.MASTER", 0xC108, [], .win R.QOS.MASTER_SEL.INDEX 0, [⟨R.QOS.MASTER.BUDGET, 0, 1, 0⟩, ⟨R.QOS.MASTER.GUAR, 12, 1, 0⟩, ⟨R.QOS.MASTER.INFLIGHT, 22, 1, 0⟩]⟩,
    ⟨"QOS.MASTER_STAT", 0xC110, [], .win R.QOS.MASTER_SEL.INDEX 0, [⟨R.QOS.MASTER_STAT.EFF_GUAR, 0, 1, 0⟩, ⟨R.QOS.MASTER_STAT.LAST_SERVED, 32, 1, 0⟩]⟩,
    ⟨"QOS.MASTER_CNT", 0xC118, [], .win R.QOS.MASTER_SEL.INDEX 0, [⟨R.QOS.MASTER_CNT.DEMOTED, 0, 1, 0⟩, ⟨R.QOS.MASTER_CNT.AGED, 32, 1, 0⟩]⟩,
    ⟨"QOS.MISS_LO", 0xC200, [], .one, [⟨R.QOS.MISS_LO.MISS, 0, 1, 0⟩]⟩,
    ⟨"QOS.MISS_HI", 0xC208, [], .one, [⟨R.QOS.MISS_HI.MISS, 0, 1, 0⟩]⟩,
    ⟨"QOS.REVISE", 0xC210, [], .one, [⟨R.QOS.REVISE.CHANGES, 0, 1, 0⟩, ⟨R.QOS.REVISE.EXCLUDED, 32, 1, 0⟩]⟩ ]

/-- The registers of block PMC (21 R474). -/
def regsPmc : List RegDef :=
  [ ⟨"PMC.VAL", 0x26000, [(8, 512)], .one, [⟨R.PMC.VAL.LOW, 0, 1, 0⟩, ⟨R.PMC.VAL.HIGH, 32, 1, 0⟩]⟩,
    ⟨"PMC.CTRL", 0x27000, [], .one, [⟨R.PMC.CTRL.DUMP_EN, 0, 1, 0⟩, ⟨R.PMC.CTRL.PERIOD_MS, 16, 1, 0⟩]⟩,
    ⟨"PMC.DUMP", 0x27008, [], .one, [⟨R.PMC.DUMP.SEQ, 0, 1, 0⟩, ⟨R.PMC.DUMP.SLOT, 32, 1, 0⟩, ⟨R.PMC.DUMP.BUSY, 43, 1, 0⟩, ⟨R.PMC.DUMP.SKIPPED, 48, 1, 0⟩]⟩,
    ⟨"PMC.DUMP_TICK", 0x27010, [], .one, [⟨R.PMC.DUMP_TICK.TICK, 0, 1, 0⟩]⟩,
    ⟨"PMC.SEL", 0x27018, [], .one, [⟨R.PMC.SEL.INDEX, 0, 1, 0⟩]⟩,
    ⟨"PMC.CFG", 0x27020, [], .win R.PMC.SEL.INDEX 0, [⟨R.PMC.CFG.CHAIN, 0, 1, 0⟩, ⟨R.PMC.CFG.OCC, 1, 1, 0⟩, ⟨R.PMC.CFG.THRESH, 2, 1, 0⟩, ⟨R.PMC.CFG.ASSIGNED, 22, 1, 0⟩]⟩,
    ⟨"PMC.OVF", 0x27100, [(8, 16)], .one, [⟨R.PMC.OVF.OVF, 0, 1, 0⟩]⟩ ]

/-- The registers of block PRT (21 R474). -/
def regsPrt : List RegDef :=
  [ ⟨"PRT.CFG", 0xD000, [], .one, [⟨R.PRT.CFG.COMPAT_EN, 0, 1, 0⟩, ⟨R.PRT.CFG.KEY_LIMIT_LOG2, 8, 1, 0⟩]⟩,
    ⟨"PRT.LIFE", 0xD008, [], .one, [⟨R.PRT.LIFE.LIFECYCLE, 0, 1, 0⟩, ⟨R.PRT.LIFE.OWNER_SET, 2, 1, 0⟩, ⟨R.PRT.LIFE.DEBUG_LOCK, 3, 1, 0⟩, ⟨R.PRT.LIFE.COMPAT_LOCK, 4, 1, 0⟩, ⟨R.PRT.LIFE.KEK_OK, 5, 1, 0⟩]⟩,
    ⟨"PRT.KEY_SEL", 0xD010, [], .one, [⟨R.PRT.KEY_SEL.SLOT, 0, 1, 0⟩]⟩,
    ⟨"PRT.KEY_WRAP", 0xD018, [(8, 9)], .one, [⟨R.PRT.KEY_WRAP.DATA, 0, 1, 0⟩]⟩,
    ⟨"PRT.KEY_CTRL", 0xD060, [], .win R.PRT.KEY_SEL.SLOT 0, [⟨R.PRT.KEY_CTRL.CMD, 0, 1, 0⟩, ⟨R.PRT.KEY_CTRL.STATE, 2, 1, 0⟩, ⟨R.PRT.KEY_CTRL.BOLTS, 4, 1, 0⟩, ⟨R.PRT.KEY_CTRL.KCV, 16, 1, 0⟩, ⟨R.PRT.KEY_CTRL.EXHAUSTED, 40, 1, 0⟩]⟩,
    ⟨"PRT.KEY_USE", 0xD068, [], .win R.PRT.KEY_SEL.SLOT 0, [⟨R.PRT.KEY_USE.COUNT, 0, 1, 0⟩]⟩,
    ⟨"PRT.KEY_HWM", 0xD070, [], .win R.PRT.KEY_SEL.SLOT 0, [⟨R.PRT.KEY_HWM.M, 0, 1, 0⟩]⟩,
    ⟨"PRT.REKEY", 0xD078, [], .one, [⟨R.PRT.REKEY.TARGET, 0, 1, 0⟩, ⟨R.PRT.REKEY.STAGING, 12, 1, 0⟩, ⟨R.PRT.REKEY.GO, 24, 1, 0⟩, ⟨R.PRT.REKEY.STATE, 25, 1, 0⟩, ⟨R.PRT.REKEY.BOLT, 27, 1, 0⟩]⟩,
    ⟨"PRT.REKEY_PROG", 0xD080, [], .one, [⟨R.PRT.REKEY_PROG.DONE, 0, 1, 0⟩, ⟨R.PRT.REKEY_PROG.TOTAL, 32, 1, 0⟩]⟩,
    ⟨"PRT.MR_SEL", 0xD088, [], .one, [⟨R.PRT.MR_SEL.MASTER, 0, 1, 0⟩]⟩,
    ⟨"PRT.MRIGHTS", 0xD090, [], .win R.PRT.MR_SEL.MASTER 64, [⟨R.PRT.MRIGHTS.READ, 0, 1, 0⟩, ⟨R.PRT.MRIGHTS.WRITE, 1, 1, 0⟩, ⟨R.PRT.MRIGHTS.ATOMIC, 2, 1, 0⟩, ⟨R.PRT.MRIGHTS.SCOPE, 3, 1, 0⟩, ⟨R.PRT.MRIGHTS.VIEW, 5, 1, 0⟩, ⟨R.PRT.MRIGHTS.KEY_ID, 7, 1, 0⟩]⟩,
    ⟨"PRT.TREE_STAT", 0xD098, [], .one, [⟨R.PRT.TREE_STAT.TAG_FAILS, 0, 1, 0⟩, ⟨R.PRT.TREE_STAT.VOID_TAGS, 16, 1, 0⟩, ⟨R.PRT.TREE_STAT.NODES_LOST, 32, 1, 0⟩, ⟨R.PRT.TREE_STAT.UNWRAP_FAILS, 48, 1, 0⟩]⟩,
    ⟨"PRT.TORN", 0xD0A0, [], .one, [⟨R.PRT.TORN.LEVEL, 0, 1, 0⟩, ⟨R.PRT.TORN.NODE, 3, 1, 0⟩, ⟨R.PRT.TORN.BOLT, 28, 1, 0⟩]⟩,
    ⟨"PRT.TORN_TICK", 0xD0A8, [], .one, [⟨R.PRT.TORN_TICK.TICK, 0, 1, 0⟩]⟩ ]

/-- The registers of block CHN (21 R474). -/
def regsChn : List RegDef :=
  [ ⟨"CHN.CTRL", 0x10000, [(0x800, 32)], .one, [⟨R.CHN.CTRL.RH_THRESH, 0, 1, 0⟩, ⟨R.CHN.CTRL.PAGE_IDLE, 16, 1, 0⟩]⟩,
    ⟨"CHN.STATUS", 0x10008, [(0x800, 32)], .one, [⟨R.CHN.STATUS.POINT, 0, 1, 0⟩, ⟨R.CHN.STATUS.IN_WINDOW, 2, 1, 0⟩, ⟨R.CHN.STATUS.REF_FAST, 3, 1, 0⟩, ⟨R.CHN.STATUS.NARROW, 4, 1, 0⟩, ⟨R.CHN.STATUS.HALF_PC0, 5, 1, 0⟩, ⟨R.CHN.STATUS.HALF_PC1, 6, 1, 0⟩, ⟨R.CHN.STATUS.TORN_PC0, 7, 1, 0⟩, ⟨R.CHN.STATUS.TORN_PC1, 8, 1, 0⟩, ⟨R.CHN.STATUS.ACT_HOLD, 9, 1, 0⟩, ⟨R.CHN.STATUS.CREDIT, 10, 1, 0⟩, ⟨R.CHN.STATUS.QUEUED, 11, 1, 0⟩]⟩,
    ⟨"CHN.LANEMAP", 0x10010, [(0x800, 32)], .one, [⟨R.CHN.LANEMAP.LANE, 0, 8, 0⟩, ⟨R.CHN.LANEMAP.LANE, 8, 8, 1⟩, ⟨R.CHN.LANEMAP.LANE, 16, 8, 2⟩, ⟨R.CHN.LANEMAP.LANE, 24, 8, 3⟩, ⟨R.CHN.LANEMAP.LANE, 32, 8, 4⟩, ⟨R.CHN.LANEMAP.LANE, 40, 8, 5⟩, ⟨R.CHN.LANEMAP.LANE, 48, 8, 6⟩, ⟨R.CHN.LANEMAP.LANE, 56, 8, 7⟩, ⟨R.CHN.LANEMAP.PC, 6, 8, 0⟩, ⟨R.CHN.LANEMAP.PC, 14, 8, 1⟩, ⟨R.CHN.LANEMAP.PC, 22, 8, 2⟩, ⟨R.CHN.LANEMAP.PC, 30, 8, 3⟩, ⟨R.CHN.LANEMAP.PC, 38, 8, 4⟩, ⟨R.CHN.LANEMAP.PC, 46, 8, 5⟩, ⟨R.CHN.LANEMAP.PC, 54, 8, 6⟩, ⟨R.CHN.LANEMAP.PC, 62, 8, 7⟩, ⟨R.CHN.LANEMAP.USED, 7, 8, 0⟩, ⟨R.CHN.LANEMAP.USED, 15, 8, 1⟩, ⟨R.CHN.LANEMAP.USED, 23, 8, 2⟩, ⟨R.CHN.LANEMAP.USED, 31, 8, 3⟩, ⟨R.CHN.LANEMAP.USED, 39, 8, 4⟩, ⟨R.CHN.LANEMAP.USED, 47, 8, 5⟩, ⟨R.CHN.LANEMAP.USED, 55, 8, 6⟩, ⟨R.CHN.LANEMAP.USED, 63, 8, 7⟩]⟩,
    ⟨"CHN.FAILED0", 0x10018, [(0x800, 32)], .one, [⟨R.CHN.FAILED0.LANES, 0, 1, 0⟩, ⟨R.CHN.FAILED0.SV_FAILED, 48, 1, 0⟩]⟩,
    ⟨"CHN.FAILED1", 0x10020, [(0x800, 32)], .one, [⟨R.CHN.FAILED1.LANES, 0, 1, 0⟩]⟩,
    ⟨"CHN.TIMING", 0x10030, [(0x800, 32), (8, 4)], .one, [⟨R.CHN.TIMING.T_RCD, 0, 1, 0⟩, ⟨R.CHN.TIMING.T_RP, 6, 1, 0⟩, ⟨R.CHN.TIMING.T_CL, 12, 1, 0⟩, ⟨R.CHN.TIMING.T_WR, 18, 1, 0⟩, ⟨R.CHN.TIMING.T_RAS, 24, 1, 0⟩, ⟨R.CHN.TIMING.T_RC, 31, 1, 0⟩, ⟨R.CHN.TIMING.T_FAW, 38, 1, 0⟩, ⟨R.CHN.TIMING.T_RFC, 44, 1, 0⟩]⟩,
    ⟨"CHN.ERRLOG_ADDR", 0x10050, [(0x800, 32)], .one, [⟨R.CHN.ERRLOG_ADDR.ADDR, 0, 1, 0⟩, ⟨R.CHN.ERRLOG_ADDR.PC, 25, 1, 0⟩, ⟨R.CHN.ERRLOG_ADDR.KIND, 26, 1, 0⟩, ⟨R.CHN.ERRLOG_ADDR.VALID, 27, 1, 0⟩, ⟨R.CHN.ERRLOG_ADDR.SPARE, 28, 1, 0⟩]⟩,
    ⟨"CHN.ERRLOG_SYN", 0x10058, [(0x800, 32)], .one, [⟨R.CHN.ERRLOG_SYN.SYNDROME, 0, 1, 0⟩, ⟨R.CHN.ERRLOG_SYN.LOCATED, 48, 1, 0⟩]⟩,
    ⟨"CHN.ERRLOG_TICK", 0x10060, [(0x800, 32)], .one, [⟨R.CHN.ERRLOG_TICK.TICK, 0, 1, 0⟩]⟩,
    ⟨"CHN.ERRLOG_CTRL", 0x10068, [(0x800, 32)], .one, [⟨R.CHN.ERRLOG_CTRL.POP, 0, 1, 0⟩, ⟨R.CHN.ERRLOG_CTRL.COUNT, 8, 1, 0⟩, ⟨R.CHN.ERRLOG_CTRL.DROPPED, 16, 1, 0⟩]⟩,
    ⟨"CHN.RH_STAT", 0x10070, [(0x800, 32)], .one, [⟨R.CHN.RH_STAT.NEIGHBOUR_REFRESHES, 0, 1, 0⟩, ⟨R.CHN.RH_STAT.PEAK, 32, 1, 0⟩]⟩,
    ⟨"CHN.REF_STAT", 0x10078, [(0x800, 32)], .one, [⟨R.CHN.REF_STAT.POINTER, 0, 1, 0⟩, ⟨R.CHN.REF_STAT.DEBT_MAX, 16, 1, 0⟩, ⟨R.CHN.REF_STAT.AHEAD_MAX, 20, 1, 0⟩]⟩ ]

/-- The registers of block ECC (21 R474). -/
def regsEcc : List RegDef :=
  [ ⟨"ECC.CFG", 0x20000, [], .one, [⟨R.ECC.CFG.SCRUB_EN, 0, 1, 0⟩, ⟨R.ECC.CFG.DEPTH, 8, 1, 0⟩, ⟨R.ECC.CFG.LEAK_MS, 16, 1, 0⟩, ⟨R.ECC.CFG.REARM, 24, 1, 0⟩, ⟨R.ECC.CFG.SCRUB_RATE, 32, 1, 0⟩, ⟨R.ECC.CFG.LAP_WARN_S, 40, 1, 0⟩]⟩,
    ⟨"ECC.BUCKET", 0x20008, [(8, 4)], .one, [⟨R.ECC.BUCKET.LEVEL, 0, 8, 0⟩, ⟨R.ECC.BUCKET.LEVEL, 8, 8, 1⟩, ⟨R.ECC.BUCKET.LEVEL, 16, 8, 2⟩, ⟨R.ECC.BUCKET.LEVEL, 24, 8, 3⟩, ⟨R.ECC.BUCKET.LEVEL, 32, 8, 4⟩, ⟨R.ECC.BUCKET.LEVEL, 40, 8, 5⟩, ⟨R.ECC.BUCKET.LEVEL, 48, 8, 6⟩, ⟨R.ECC.BUCKET.LEVEL, 56, 8, 7⟩]⟩,
    ⟨"ECC.BUCKET_OVF", 0x20028, [], .one, [⟨R.ECC.BUCKET_OVF.OVF, 0, 1, 0⟩, ⟨R.ECC.BUCKET_OVF.ARMED, 32, 1, 0⟩]⟩,
    ⟨"ECC.CORR", 0x20030, [], .one, [⟨R.ECC.CORR.SECTORS, 0, 1, 0⟩, ⟨R.ECC.CORR.SYMBOLS, 32, 1, 0⟩]⟩,
    ⟨"ECC.UNCORR", 0x20038, [], .one, [⟨R.ECC.UNCORR.DECODE, 0, 1, 0⟩, ⟨R.ECC.UNCORR.META, 24, 1, 0⟩, ⟨R.ECC.UNCORR.POISON_READS, 40, 1, 0⟩, ⟨R.ECC.UNCORR.MAP_LOST, 56, 1, 0⟩]⟩,
    ⟨"ECC.SCRUB_LAP", 0x20040, [], .one, [⟨R.ECC.SCRUB_LAP.TICKS, 0, 1, 0⟩]⟩,
    ⟨"ECC.SCRUB_PROG", 0x20048, [], .one, [⟨R.ECC.SCRUB_PROG.LAPS, 0, 1, 0⟩, ⟨R.ECC.SCRUB_PROG.PERMILLE, 32, 1, 0⟩, ⟨R.ECC.SCRUB_PROG.PAUSED, 42, 1, 0⟩]⟩,
    ⟨"ECC.SCRUB_CNT", 0x20050, [], .one, [⟨R.ECC.SCRUB_CNT.REWRITTEN, 0, 1, 0⟩, ⟨R.ECC.SCRUB_CNT.UNCORR, 32, 1, 0⟩]⟩,
    ⟨"ECC.SRAM", 0x20058, [], .one, [⟨R.ECC.SRAM.CORRECTED, 0, 1, 0⟩, ⟨R.ECC.SRAM.UNCORR, 32, 1, 0⟩, ⟨R.ECC.SRAM.THIMBLE_TRAPS, 48, 1, 0⟩]⟩ ]

/-- The registers of block CAL (21 R474). -/
def regsCal : List RegDef :=
  [ ⟨"CAL.CFG", 0x21000, [], .one, [⟨R.CAL.CFG.DRIFT_C, 0, 1, 0⟩, ⟨R.CAL.CFG.AGE_PPM, 8, 1, 0⟩, ⟨R.CAL.CFG.MAX_INTERVAL_H, 16, 1, 0⟩, ⟨R.CAL.CFG.LOAD_STEP, 24, 1, 0⟩, ⟨R.CAL.CFG.AUTO, 31, 1, 0⟩, ⟨R.CAL.CFG.DEFER_MS, 32, 1, 0⟩]⟩,
    ⟨"CAL.CMD", 0x21008, [], .one, [⟨R.CAL.CMD.MASK, 0, 1, 0⟩]⟩,
    ⟨"CAL.SEL", 0x21010, [], .one, [⟨R.CAL.SEL.CHANNEL, 0, 1, 0⟩, ⟨R.CAL.SEL.LANE, 5, 1, 0⟩, ⟨R.CAL.SEL.PC, 11, 1, 0⟩, ⟨R.CAL.SEL.PLY, 12, 1, 0⟩]⟩,
    ⟨"CAL.STATUS", 0x21018, [], .win R.CAL.SEL.CHANNEL 0, [⟨R.CAL.STATUS.STATE, 0, 1, 0⟩, ⟨R.CAL.STATUS.LANE, 2, 1, 0⟩, ⟨R.CAL.STATUS.PC, 8, 1, 0⟩, ⟨R.CAL.STATUS.ROTATING, 9, 1, 0⟩, ⟨R.CAL.STATUS.PENDING, 10, 1, 0⟩, ⟨R.CAL.STATUS.FILL_CAP, 14, 1, 0⟩, ⟨R.CAL.STATUS.SV, 19, 1, 0⟩]⟩,
    ⟨"CAL.STAMP", 0x21020, [], .win R.CAL.SEL.CHANNEL 0, [⟨R.CAL.STAMP.PLY_MAX_C, 0, 1, 0⟩, ⟨R.CAL.STAMP.BASE_C, 8, 1, 0⟩, ⟨R.CAL.STAMP.RATIO, 16, 1, 0⟩, ⟨R.CAL.STAMP.POINT, 40, 1, 0⟩]⟩,
    ⟨"CAL.LAST_TICK", 0x21028, [], .win R.CAL.SEL.CHANNEL 0, [⟨R.CAL.LAST_TICK.TICK, 0, 1, 0⟩]⟩,
    ⟨"CAL.PLY_TIMING", 0x21030, [(8, 8)], .win R.CAL.SEL.CHANNEL 0, [⟨R.CAL.PLY_TIMING.STROBE, 0, 1, 0⟩, ⟨R.CAL.PLY_TIMING.CLKPH, 6, 1, 0⟩, ⟨R.CAL.PLY_TIMING.VREF_BASE, 12, 1, 0⟩, ⟨R.CAL.PLY_TIMING.LAD_BASE, 17, 1, 0⟩, ⟨R.CAL.PLY_TIMING.VREF_PLY, 18, 1, 0⟩, ⟨R.CAL.PLY_TIMING.LAD_PLY, 23, 1, 0⟩, ⟨R.CAL.PLY_TIMING.EYE_MIN, 24, 1, 0⟩]⟩,
    ⟨"CAL.STAT", 0x21070, [], .one, [⟨R.CAL.STAT.ROTATIONS, 0, 1, 0⟩, ⟨R.CAL.STAT.CAPPED, 16, 1, 0⟩, ⟨R.CAL.STAT.LOAD_STEPS, 32, 1, 0⟩, ⟨R.CAL.STAT.DEFERRALS, 48, 1, 0⟩]⟩,
    ⟨"CAL.TRIM", 0x21078, [], .calTrim, [⟨R.CAL.TRIM.WR_CODE, 0, 1, 0⟩, ⟨R.CAL.TRIM.RD_CODE, 6, 1, 0⟩, ⟨R.CAL.TRIM.WR_RUN, 12, 1, 0⟩, ⟨R.CAL.TRIM.RD_RUN, 20, 1, 0⟩]⟩ ]

/-- The registers of block THM (21 R474). -/
def regsThm : List RegDef :=
  [ ⟨"THM.CFG", 0x22000, [], .one, [⟨R.THM.CFG.SUSPECT_C, 0, 1, 0⟩, ⟨R.THM.CFG.SUSPECT_ROUNDS, 4, 1, 0⟩, ⟨R.THM.CFG.GUARD_C, 10, 1, 0⟩]⟩,
    ⟨"THM.LEVELS", 0x22008, [], .one, [⟨R.THM.LEVELS.WARN_SET, 0, 1, 0⟩, ⟨R.THM.LEVELS.WARN_CLR, 8, 1, 0⟩, ⟨R.THM.LEVELS.THR_SET, 16, 1, 0⟩, ⟨R.THM.LEVELS.THR_CLR, 24, 1, 0⟩, ⟨R.THM.LEVELS.SHUT_SET, 32, 1, 0⟩, ⟨R.THM.LEVELS.SHUT_CLR, 40, 1, 0⟩]⟩,
    ⟨"THM.STATE", 0x22010, [], .one, [⟨R.THM.STATE.WARN, 0, 1, 0⟩, ⟨R.THM.STATE.THROTTLE, 1, 1, 0⟩, ⟨R.THM.STATE.SHUTDOWN, 2, 1, 0⟩, ⟨R.THM.STATE.THERMTRIP, 3, 1, 0⟩, ⟨R.THM.STATE.HOTTEST, 4, 1, 0⟩, ⟨R.THM.STATE.GOV_MAX, 16, 1, 0⟩, ⟨R.THM.STATE.PLATE, 24, 1, 0⟩, ⟨R.THM.STATE.ROUNDS, 32, 1, 0⟩]⟩,
    ⟨"THM.GOV", 0x22018, [(8, 3)], .one, [⟨R.THM.GOV.GOV, 0, 8, 0⟩, ⟨R.THM.GOV.GOV, 8, 8, 1⟩, ⟨R.THM.GOV.GOV, 16, 8, 2⟩, ⟨R.THM.GOV.GOV, 24, 8, 3⟩, ⟨R.THM.GOV.GOV, 32, 8, 4⟩, ⟨R.THM.GOV.GOV, 40, 8, 5⟩, ⟨R.THM.GOV.GOV, 48, 8, 6⟩, ⟨R.THM.GOV.GOV, 56, 8, 7⟩]⟩,
    ⟨"THM.SENSOR_SEL", 0x22030, [], .one, [⟨R.THM.SENSOR_SEL.INDEX, 0, 1, 0⟩]⟩,
    ⟨"THM.SENSOR", 0x22038, [], .win R.THM.SENSOR_SEL.INDEX 0, [⟨R.THM.SENSOR.READING, 0, 1, 0⟩, ⟨R.THM.SENSOR.MODEL, 12, 1, 0⟩, ⟨R.THM.SENSOR.RUN, 24, 1, 0⟩, ⟨R.THM.SENSOR.SUSPECT, 30, 1, 0⟩, ⟨R.THM.SENSOR.READ_FAIL, 31, 1, 0⟩]⟩,
    ⟨"THM.SUSPECT_LO", 0x22040, [], .one, [⟨R.THM.SUSPECT_LO.SUSPECT, 0, 1, 0⟩]⟩,
    ⟨"THM.SUSPECT_HI", 0x22048, [], .one, [⟨R.THM.SUSPECT_HI.SUSPECT, 0, 1, 0⟩]⟩,
    ⟨"THM.INPUT", 0x22050, [], .one, [⟨R.THM.INPUT.VIN_MV, 0, 1, 0⟩, ⟨R.THM.INPUT.IIN_MA, 16, 1, 0⟩, ⟨R.THM.INPUT.PIN_DW, 32, 1, 0⟩, ⟨R.THM.INPUT.STAGE_C, 44, 1, 0⟩]⟩,
    ⟨"THM.RAIL_SEL", 0x22058, [], .one, [⟨R.THM.RAIL_SEL.INDEX, 0, 1, 0⟩]⟩,
    ⟨"THM.RAIL", 0x22060, [], .win R.THM.RAIL_SEL.INDEX 0, [⟨R.THM.RAIL.MV, 0, 1, 0⟩, ⟨R.THM.RAIL.IN_WINDOW, 16, 1, 0⟩, ⟨R.THM.RAIL.OUT_ROUNDS, 17, 1, 0⟩]⟩,
    ⟨"THM.EVENTS", 0x22068, [], .one, [⟨R.THM.EVENTS.WARN_CROSS, 0, 1, 0⟩, ⟨R.THM.EVENTS.THROTTLE_CROSS, 16, 1, 0⟩, ⟨R.THM.EVENTS.SHUTDOWNS, 32, 1, 0⟩, ⟨R.THM.EVENTS.SUSPECTS, 48, 1, 0⟩]⟩ ]

/-- The registers of block HEM (21 R474). -/
def regsHem : List RegDef :=
  [ ⟨"HEM.CFG", 0x23000, [], .one, [⟨R.HEM.CFG.HOT_C, 0, 1, 0⟩, ⟨R.HEM.CFG.STOP_C, 7, 1, 0⟩, ⟨R.HEM.CFG.COL_MIN, 14, 1, 0⟩, ⟨R.HEM.CFG.THROTTLE_POINT, 19, 1, 0⟩, ⟨R.HEM.CFG.STEP_ROUNDS, 21, 1, 0⟩, ⟨R.HEM.CFG.AUTO_RESTORE, 31, 1, 0⟩]⟩,
    ⟨"HEM.ENERGY", 0x23008, [], .one, [⟨R.HEM.ENERGY.BUDGET_W, 0, 1, 0⟩, ⟨R.HEM.ENERGY.BURST_W, 7, 1, 0⟩, ⟨R.HEM.ENERGY.BUCKET_MJ, 14, 1, 0⟩, ⟨R.HEM.ENERGY.SUST_SLOTS, 24, 1, 0⟩]⟩,
    ⟨"HEM.STATUS", 0x23010, [], .one, [⟨R.HEM.STATUS.H, 0, 1, 0⟩, ⟨R.HEM.STATUS.H_RAW, 13, 1, 0⟩, ⟨R.HEM.STATUS.SUST_EFF, 26, 1, 0⟩, ⟨R.HEM.STATUS.BUCKET, 39, 1, 0⟩, ⟨R.HEM.STATUS.BURST, 49, 1, 0⟩, ⟨R.HEM.STATUS.FORCED, 50, 1, 0⟩, ⟨R.HEM.STATUS.FORCED_POINT, 51, 1, 0⟩]⟩,
    ⟨"HEM.COL", 0x23018, [(8, 8)], .one, [⟨R.HEM.COL.ALLOW, 0, 1, 0⟩, ⟨R.HEM.COL.T_COL, 7, 1, 0⟩, ⟨R.HEM.COL.SHARE_T0, 15, 1, 0⟩, ⟨R.HEM.COL.SHARE_T1, 20, 1, 0⟩, ⟨R.HEM.COL.SHARE_T2, 25, 1, 0⟩, ⟨R.HEM.COL.SHARE_T3, 30, 1, 0⟩, ⟨R.HEM.COL.CREDIT, 35, 1, 0⟩]⟩,
    ⟨"HEM.STAT", 0x23058, [], .one, [⟨R.HEM.STAT.H_FALLS, 0, 1, 0⟩, ⟨R.HEM.STAT.H_RISES, 16, 1, 0⟩, ⟨R.HEM.STAT.BURST_ROUNDS, 32, 1, 0⟩, ⟨R.HEM.STAT.SPACING_CLAMPS, 48, 1, 0⟩]⟩,
    ⟨"HEM.COL_ENERGY", 0x23100, [(8, 8)], .one, [⟨R.HEM.COL_ENERGY.UJ, 0, 1, 0⟩]⟩ ]

/-- The registers of block TCK (21 R474). -/
def regsTck : List RegDef :=
  [ ⟨"TCK.CTRL", 0x24000, [], .one, [⟨R.TCK.CTRL.EN, 0, 1, 0⟩, ⟨R.TCK.CTRL.CMD, 1, 1, 0⟩]⟩,
    ⟨"TCK.CFG", 0x24008, [], .one, [⟨R.TCK.CFG.LAG_MAX_US, 0, 1, 0⟩, ⟨R.TCK.CFG.TAKEOVER_EN, 7, 1, 0⟩, ⟨R.TCK.CFG.HALF_EN, 8, 1, 0⟩, ⟨R.TCK.CFG.DECIDE_MS, 16, 1, 0⟩, ⟨R.TCK.CFG.BREAK_MS, 24, 1, 0⟩, ⟨R.TCK.CFG.QUEUE_LIMIT, 32, 1, 0⟩]⟩,
    ⟨"TCK.STATUS", 0x24010, [], .one, [⟨R.TCK.STATUS.LINK, 0, 1, 0⟩, ⟨R.TCK.STATUS.WIDTH, 1, 1, 0⟩, ⟨R.TCK.STATUS.PAIR, 3, 1, 0⟩, ⟨R.TCK.STATUS.ROLE, 6, 1, 0⟩, ⟨R.TCK.STATUS.FENCED, 8, 1, 0⟩, ⟨R.TCK.STATUS.PEER_STOPPED, 9, 1, 0⟩, ⟨R.TCK.STATUS.LOS_ALL, 10, 1, 0⟩, ⟨R.TCK.STATUS.HB_LOST, 11, 1, 0⟩, ⟨R.TCK.STATUS.FULL_RESYNC_DUE, 12, 1, 0⟩, ⟨R.TCK.STATUS.LAG_US, 13, 1, 0⟩, ⟨R.TCK.STATUS.EPOCH, 20, 1, 0⟩]⟩,
    ⟨"TCK.ALIGN", 0x24018, [], .one, [⟨R.TCK.ALIGN.LANE, 0, 1, 0⟩, ⟨R.TCK.ALIGN.START, 3, 1, 0⟩, ⟨R.TCK.ALIGN.MATCH, 4, 1, 0⟩, ⟨R.TCK.ALIGN.DONE, 15, 1, 0⟩]⟩,
    ⟨"TCK.DESKEW", 0x24020, [], .one, [⟨R.TCK.DESKEW.SKEW, 0, 8, 0⟩, ⟨R.TCK.DESKEW.SKEW, 6, 8, 1⟩, ⟨R.TCK.DESKEW.SKEW, 12, 8, 2⟩, ⟨R.TCK.DESKEW.SKEW, 18, 8, 3⟩, ⟨R.TCK.DESKEW.SKEW, 24, 8, 4⟩, ⟨R.TCK.DESKEW.SKEW, 30, 8, 5⟩, ⟨R.TCK.DESKEW.SKEW, 36, 8, 6⟩, ⟨R.TCK.DESKEW.SKEW, 42, 8, 7⟩]⟩,
    ⟨"TCK.PKEY_WRAP", 0x24028, [(8, 5)], .one, [⟨R.TCK.PKEY_WRAP.DATA, 0, 1, 0⟩]⟩,
    ⟨"TCK.PKEY", 0x24050, [], .one, [⟨R.TCK.PKEY.KCV, 0, 1, 0⟩, ⟨R.TCK.PKEY.LOADED, 24, 1, 0⟩]⟩,
    ⟨"TCK.SEQ", 0x24058, [], .one, [⟨R.TCK.SEQ.SENT, 0, 1, 0⟩, ⟨R.TCK.SEQ.COMMITTED, 32, 1, 0⟩]⟩,
    ⟨"TCK.RESYNC", 0x24060, [], .one, [⟨R.TCK.RESYNC.TOTAL, 0, 1, 0⟩, ⟨R.TCK.RESYNC.DONE, 24, 1, 0⟩]⟩,
    ⟨"TCK.STAT", 0x24068, [], .one, [⟨R.TCK.STAT.RESENT, 0, 1, 0⟩, ⟨R.TCK.STAT.TAG_FAILS, 16, 1, 0⟩, ⟨R.TCK.STAT.BREAKS, 32, 1, 0⟩, ⟨R.TCK.STAT.TAKEOVERS, 48, 1, 0⟩]⟩,
    ⟨"TCK.VMAC", 0x24080, [(8, 2)], .one, [⟨R.TCK.VMAC.ADDR, 0, 1, 0⟩]⟩,
    ⟨"TCK.VIP4", 0x24090, [], .one, [⟨R.TCK.VIP4.PORT0, 0, 1, 0⟩, ⟨R.TCK.VIP4.PORT1, 32, 1, 0⟩]⟩,
    ⟨"TCK.VIP6_HI", 0x24098, [(16, 2)], .one, [⟨R.TCK.VIP6_HI.ADDR_HI, 0, 1, 0⟩]⟩,
    ⟨"TCK.VIP6_LO", 0x240A0, [(16, 2)], .one, [⟨R.TCK.VIP6_LO.ADDR_LO, 0, 1, 0⟩]⟩,
    ⟨"TCK.TAKEOVER_TICK", 0x240B8, [], .one, [⟨R.TCK.TAKEOVER_TICK.TICK, 0, 1, 0⟩]⟩,
    ⟨"TCK.MIRMODE", 0x24100, [(8, 16)], .one, [⟨R.TCK.MIRMODE.SYNC, 0, 1, 0⟩]⟩ ]

/-- The registers of block FLT (21 R474). -/
def regsFlt : List RegDef :=
  [ ⟨"FLT.STICKY0", 0x25000, [], .one, [⟨R.FLT.STICKY0.STICKY, 0, 1, 0⟩]⟩,
    ⟨"FLT.STICKY1", 0x25008, [], .one, [⟨R.FLT.STICKY1.STICKY, 0, 1, 0⟩]⟩,
    ⟨"FLT.PIN_HOLD0", 0x25010, [], .one, [⟨R.FLT.PIN_HOLD0.HOLD, 0, 1, 0⟩]⟩,
    ⟨"FLT.PIN_HOLD1", 0x25018, [], .one, [⟨R.FLT.PIN_HOLD1.HOLD, 0, 1, 0⟩]⟩,
    ⟨"FLT.LAST", 0x25020, [], .one, [⟨R.FLT.LAST.SOURCE, 0, 1, 0⟩, ⟨R.FLT.LAST.VALID, 7, 1, 0⟩, ⟨R.FLT.LAST.INJECTED, 8, 1, 0⟩, ⟨R.FLT.LAST.RAISES, 32, 1, 0⟩]⟩,
    ⟨"FLT.LAST_TICK", 0x25028, [], .one, [⟨R.FLT.LAST_TICK.TICK, 0, 1, 0⟩]⟩,
    ⟨"FLT.WDT", 0x25030, [], .one, [⟨R.FLT.WDT.PERIOD_MS, 0, 1, 0⟩, ⟨R.FLT.WDT.KICK, 16, 1, 0⟩, ⟨R.FLT.WDT.ARMED, 17, 1, 0⟩, ⟨R.FLT.WDT.EXPIRIES, 32, 1, 0⟩]⟩,
    ⟨"FLT.ALIVE", 0x25038, [], .one, [⟨R.FLT.ALIVE.LEVEL, 0, 1, 0⟩, ⟨R.FLT.ALIVE.TOGGLING, 1, 1, 0⟩, ⟨R.FLT.ALIVE.PIN_HELD, 2, 1, 0⟩, ⟨R.FLT.ALIVE.WDT_HELD, 3, 1, 0⟩, ⟨R.FLT.ALIVE.BOOT_HELD, 4, 1, 0⟩]⟩,
    ⟨"FLT.RESET_CAUSE", 0x25040, [], .one, [⟨R.FLT.RESET_CAUSE.SOURCE, 0, 1, 0⟩, ⟨R.FLT.RESET_CAUSE.VALID, 7, 1, 0⟩, ⟨R.FLT.RESET_CAUSE.COUNT, 16, 1, 0⟩]⟩,
    ⟨"FLT.SEL", 0x25080, [], .one, [⟨R.FLT.SEL.SOURCE, 0, 1, 0⟩]⟩,
    ⟨"FLT.SRC", 0x25088, [], .win R.FLT.SEL.SOURCE 0, [⟨R.FLT.SRC.REACTION, 0, 1, 0⟩, ⟨R.FLT.SRC.PIN, 3, 1, 0⟩, ⟨R.FLT.SRC.CLIENT, 4, 1, 0⟩, ⟨R.FLT.SRC.ALERT, 5, 1, 0⟩, ⟨R.FLT.SRC.COUNT, 16, 1, 0⟩]⟩,
    ⟨"FLT.INJECT", 0x25090, [], .one, [⟨R.FLT.INJECT.SOURCE, 0, 1, 0⟩, ⟨R.FLT.INJECT.GO, 7, 1, 0⟩, ⟨R.FLT.INJECT.UNIT, 8, 1, 0⟩]⟩ ]

/-- The registers of block MOD (21 R474). -/
def regsMod : List RegDef :=
  [ ⟨"MOD.STATUS", 0x1000, [], .one, [⟨R.MOD.STATUS.MODE, 0, 1, 0⟩, ⟨R.MOD.STATUS.THERMAL_HOLD, 6, 1, 0⟩, ⟨R.MOD.STATUS.POINT, 7, 1, 0⟩, ⟨R.MOD.STATUS.BUSY, 9, 1, 0⟩, ⟨R.MOD.STATUS.BOOT_STEP, 10, 1, 0⟩, ⟨R.MOD.STATUS.BOOT_FAIL, 14, 1, 0⟩, ⟨R.MOD.STATUS.MAINT_STRAP, 16, 1, 0⟩, ⟨R.MOD.STATUS.SLOT_ID, 17, 1, 0⟩, ⟨R.MOD.STATUS.SCAN, 23, 1, 0⟩, ⟨R.MOD.STATUS.FW_UPDATED, 24, 1, 0⟩]⟩,
    ⟨"MOD.REQ", 0x1008, [], .one, [⟨R.MOD.REQ.TARGET, 0, 1, 0⟩, ⟨R.MOD.REQ.POINT, 3, 1, 0⟩, ⟨R.MOD.REQ.END_MAINT, 5, 1, 0⟩, ⟨R.MOD.REQ.CONFIRM, 8, 1, 0⟩]⟩,
    ⟨"MOD.BOOT_CFG", 0x1010, [], .one, [⟨R.MOD.BOOT_CFG.BIST_SKIP, 0, 1, 0⟩]⟩,
    ⟨"MOD.BOOT_END", 0x1018, [], .one, [⟨R.MOD.BOOT_END.TICK, 0, 1, 0⟩]⟩,
    ⟨"MOD.FW_CTRL", 0x1020, [], .one, [⟨R.MOD.FW_CTRL.CMD, 0, 1, 0⟩, ⟨R.MOD.FW_CTRL.LENGTH, 2, 1, 0⟩]⟩,
    ⟨"MOD.FW_DATA", 0x1028, [], .one, [⟨R.MOD.FW_DATA.DATA, 0, 1, 0⟩]⟩,
    ⟨"MOD.FW_STATUS", 0x1030, [], .one, [⟨R.MOD.FW_STATUS.STATE, 0, 1, 0⟩, ⟨R.MOD.FW_STATUS.RECEIVED, 2, 1, 0⟩, ⟨R.MOD.FW_STATUS.RUN_SVN, 22, 1, 0⟩, ⟨R.MOD.FW_STATUS.MIN_SVN, 28, 1, 0⟩, ⟨R.MOD.FW_STATUS.RUN_VERSION, 34, 1, 0⟩]⟩,
    ⟨"MOD.PAT_SEL", 0x1038, [], .one, [⟨R.MOD.PAT_SEL.WORD, 0, 1, 0⟩]⟩,
    ⟨"MOD.PAT_STAT", 0x1040, [], .win R.MOD.PAT_SEL.WORD 0, [⟨R.MOD.PAT_STAT.COUNT, 0, 1, 0⟩, ⟨R.MOD.PAT_STAT.FROZEN, 20, 1, 0⟩]⟩ ]

/-- The registers of block OTP (21 R474). -/
def regsOtp : List RegDef :=
  [ ⟨"OTP.STATUS", 0x28000, [], .one, [⟨R.OTP.STATUS.MARGINAL, 0, 1, 0⟩, ⟨R.OTP.STATUS.PENDING, 10, 1, 0⟩, ⟨R.OTP.STATUS.MIN_SVN, 11, 1, 0⟩, ⟨R.OTP.STATUS.PATCHES, 17, 1, 0⟩, ⟨R.OTP.STATUS.SKIPPED, 25, 1, 0⟩, ⟨R.OTP.STATUS.SECRET_SET, 33, 1, 0⟩, ⟨R.OTP.STATUS.OWNER_BANK, 34, 1, 0⟩, ⟨R.OTP.STATUS.SUPPLY_OK, 36, 1, 0⟩]⟩,
    ⟨"OTP.SEL", 0x28008, [], .one, [⟨R.OTP.SEL.WORD, 0, 1, 0⟩, ⟨R.OTP.SEL.PROGRAMMED, 16, 1, 0⟩, ⟨R.OTP.SEL.MARGINAL, 17, 1, 0⟩]⟩,
    ⟨"OTP.WORD", 0x28010, [], .win R.OTP.SEL.WORD 0, [⟨R.OTP.WORD.VALUE, 0, 1, 0⟩]⟩,
    ⟨"OTP.PROG_DATA", 0x28018, [], .one, [⟨R.OTP.PROG_DATA.DATA, 0, 1, 0⟩]⟩,
    ⟨"OTP.CMD", 0x28020, [], .one, [⟨R.OTP.CMD.CMD, 0, 1, 0⟩, ⟨R.OTP.CMD.LOCK, 3, 1, 0⟩, ⟨R.OTP.CMD.RESULT, 8, 1, 0⟩]⟩,
    ⟨"OTP.DATA", 0x28028, [(8, 4)], .one, [⟨R.OTP.DATA.DATA, 0, 1, 0⟩]⟩,
    ⟨"OTP.KEK_OUT", 0x28048, [(8, 5)], .one, [⟨R.OTP.KEK_OUT.DATA, 0, 1, 0⟩]⟩ ]

/-- The registers of block PAT (21 R474). -/
def regsPat : List RegDef :=
  [ ⟨"PAT.WORD", 0x30000, [(8, 4096)], .one, [⟨R.PAT.WORD.VALUE, 0, 1, 0⟩]⟩ ]

/-- The registers of block BST (21 R474). -/
def regsBst : List RegDef :=
  [ ⟨"BST.CTRL", 0x38000, [], .one, [⟨R.BST.CTRL.START, 0, 1, 0⟩, ⟨R.BST.CTRL.REPAIR, 1, 1, 0⟩, ⟨R.BST.CTRL.POP, 2, 1, 0⟩]⟩,
    ⟨"BST.STATUS", 0x38008, [], .one, [⟨R.BST.STATUS.STATE, 0, 1, 0⟩, ⟨R.BST.STATUS.WAVE, 2, 1, 0⟩, ⟨R.BST.STATUS.FAILED, 5, 1, 0⟩, ⟨R.BST.STATUS.REPAIRED, 21, 1, 0⟩, ⟨R.BST.STATUS.WITHHELD, 37, 1, 0⟩, ⟨R.BST.STATUS.QUEUED, 53, 1, 0⟩, ⟨R.BST.STATUS.LOST, 60, 1, 0⟩]⟩,
    ⟨"BST.RESULT", 0x38010, [], .one, [⟨R.BST.RESULT.CHANNEL, 0, 1, 0⟩, ⟨R.BST.RESULT.PC, 5, 1, 0⟩, ⟨R.BST.RESULT.PLY, 6, 1, 0⟩, ⟨R.BST.RESULT.BANK, 8, 1, 0⟩, ⟨R.BST.RESULT.ROW, 12, 1, 0⟩, ⟨R.BST.RESULT.SPARE, 27, 1, 0⟩, ⟨R.BST.RESULT.GRANULE, 28, 1, 0⟩, ⟨R.BST.RESULT.CODEWORD, 30, 1, 0⟩, ⟨R.BST.RESULT.BIT, 32, 1, 0⟩, ⟨R.BST.RESULT.OUTCOME, 42, 1, 0⟩, ⟨R.BST.RESULT.VALID, 63, 1, 0⟩]⟩ ]

/-- The registers of block TIM (21 R474). -/
def regsTim : List RegDef :=
  [ ⟨"TIM.TICK", 0x39000, [], .one, [⟨R.TIM.TICK.TICK, 0, 1, 0⟩]⟩,
    ⟨"TIM.NOTE", 0x39008, [], .one, [⟨R.TIM.NOTE.NOTE, 0, 1, 0⟩]⟩,
    ⟨"TIM.NOTE_TICK", 0x39010, [], .one, [⟨R.TIM.NOTE_TICK.TICK, 0, 1, 0⟩]⟩,
    ⟨"TIM.RESET_TICK", 0x39018, [], .one, [⟨R.TIM.RESET_TICK.TICK, 0, 1, 0⟩]⟩ ]

/-- Every register of the set-up space (21 R474). -/
def regTable : List RegDef :=
  regsClk ++ regsEth ++ regsSds ++ regsXpt ++ regsGlb ++ regsBlt ++ regsShu ++ regsNdl ++ regsPlc ++ regsLng ++ regsQos ++ regsPmc ++ regsPrt ++ regsChn ++ regsEcc ++ regsCal ++ regsThm ++ regsHem ++ regsTck ++ regsFlt ++ regsMod ++ regsOtp ++ regsPat ++ regsBst ++ regsTim

end Sys2Proof.Machine
end

