-- ==== Sys2Proof/Machine/Shapes.lean ====
section
/-! DEFINITION. The shapes of the state beside the registers: requests, rings, grants in flight, frames sent, and
everything the module puts on its pins, lanes and wires. All of it is plain data. -/

namespace Sys2Proof.Machine

/-- What a request of the module on a command QP is for (05 R128, 07 R161): a fetch names its ring and the number of the
fetch; a completion record its descriptor, its status and whether an event follows; descriptor data its descriptor and, where
it comes in, its place. -/
inductive ReqUse where
  | fetch (ring number : Nat)
  | release (ring : Nat)
  | record (ring serial index status : Nat) (notify : Bool)
  | event (client : Nat)
  | dataOut (ring serial : Nat)
  | dataIn (ring serial : Nat)
  deriving DecidableEq, Repr

/-- One request of the module: a WRITE with its data and how many of its packets are acknowledged, or a READ with its length
and what has arrived (05 R128). -/
structure Req where
  isWrite : Bool
  va : Nat
  rkey : Nat
  len : Nat
  data : List Byte
  psn : Nat
  pkts : Nat
  use : ReqUse
  acked : Nat := 0
  deriving DecidableEq, Repr

/-- The headers of a packet the module sends on a QP (04 R99, 05 R112). -/
structure TxHdr where
  port : Nat
  qp : Nat
  dmac : Nat
  smac : Nat
  vlan : Option Nat
  prio : Nat
  dscp : Nat
  ecn : Nat
  ipv6 : Bool
  srcIp : Nat
  dstIp : Nat
  hops : Nat
  srcUdp : Nat
  dstUdp : Nat
  pkey : Nat
  destQpn : Nat
  deriving DecidableEq, Repr

/-- A packet the module sends: responses, acknowledgements, CNPs and its own requests (05 R111, R123, R126, R130). -/
inductive TxPacket where
  | ack (psn syndrome : Nat)
  | nak (psn syndrome : Nat)
  | rnrNak (psn timer : Nat)
  | readResponse (opcode psn : Nat) (data : List Byte)
  | atomicAck (psn value : Nat)
  | cnp
  | write (opcode psn va rkey dmaLen : Nat) (ackReq : Bool) (data : List Byte)
  | readRequest (psn va rkey dmaLen : Nat)
  deriving DecidableEq, Repr

/-- A frame the port sends by itself (04 R98, R101, 18 R436). -/
inductive TxFrame where
  | arpReply (targetIp targetMac ip mac : Nat)
  | neighbourAdvert (target ip mac : Nat)
  | echoReply (v6 : Bool) (dstIp srcIp : Nat) (data : List Byte)
  | pfc (prio quanta : Nat)
  | gratuitousArp (ip mac : Nat)
  | unsolicitedAdvert (ip mac : Nat)
  deriving DecidableEq, Repr

/-- What a frame that a port sends by itself carries beside its body (04 R99): VID and PCP of its C-tag, DSCP and ECN of an IP
frame. -/
structure FrameHdr where
  tag : Option (Nat × Nat) := none
  ip : Option (Nat × Nat) := none
  deriving DecidableEq, Repr

/-- A technology that a port advertises in auto-negotiation (04 R86, R87). -/
inductive AnTech where
  | kr4 | cr4 | kr2 | cr2
  deriving DecidableEq, Repr

/-- A stitch or frame on the Tack link (18 R414-R427). -/
inductive TackOut where
  | train (aligned halfEn : Bool) (failed : Nat)
  | marker (n : Nat)
  | heartbeat (role state epoch tick : Nat)
  | ident (i : Ident)
  | ack (seq : Nat)
  | resend (seq : Nat)
  | handover (epoch : Nat)
  | mirror (bytes : List Byte)
  deriving DecidableEq, Repr

/-- Everything the module puts out, in order. -/
inductive Out where
  | packet (hdr : TxHdr) (p : TxPacket)
  | frame (port : Nat) (hdr : FrameHdr) (f : TxFrame)
  | autoNeg (port : Nat) (tech : AnTech) (rsFec : Bool)
  | tack (t : TackOut)
  | smbRead (bytes : List Byte) (pec : Byte)
  | smbNack
  | smbAddress (addr : Nat)
  | debug (status : Nat) (bytes : List Byte)
  | windowRead (client : Nat) (bytes : List Byte)
  deriving DecidableEq, Repr

/-- A WRITE message in progress at the responder (05 R117, R119, R124): the next offset and the bytes still due, the
grant it was admitted under, and where it goes: 0 a bolt, 1 the set-up window. -/
structure WriteMsg where
  off : Nat
  left : Nat
  grant : Nat
  mode : Nat
  deriving DecidableEq, Repr

/-- What a held request of a client is (05 R111, R122): a WRITE packet, a READ, the two ATOMICs, a doorbell by SEND or by
WRITE, set-up accesses, and a NAK or an RNR NAK that waits for the answers before it. -/
inductive HeldKind where
  | write | read | swap | add | sendBell | writeBell | setWrite | setRead | nak | rnr
  deriving DecidableEq, Repr

/-- One step of a client's requests that the module executes in order (05 R122, R125). `off` is the absolute offset of the
next byte, `len` the bytes a READ still owes, `data` the bytes still to write; `arg0` and `arg1` are the first PSN and the
packets of a READ, compare (or add) and swap of an ATOMIC, the ring of a doorbell, or a NAK's syndrome; `first` says that no
response has left yet, or that the packet starts its message; `started` that the lookups of this line or packet are counted,
or that an ATOMIC has been executed, or that a set-up write waits for a round end; `waits` are the lines whose fill it waits
for, `came` its place in the order in which requests have come to wait, `paid` that the fill is its own slot (11 R283), `got`
what was found of a line, by line and sector (status and data); `commit` is the frame whose commit by the partner
it waits for, 0 for none; `grant` is the grant it stops counting in when it ends; `spoilt` that its pool buffer is bad (15 R369). -/
structure HeldReq where
  kind : HeldKind
  psn : Nat
  off : Nat := 0
  len : Nat := 0
  bolt : Nat := 0
  arg0 : Nat := 0
  arg1 : Nat := 0
  ackReq : Bool := false
  first : Bool := true
  data : List Byte := []
  buffers : Nat := 0
  started : Bool := false
  waits : List Nat := []
  came : Nat := 0
  paid : Bool := false
  got : List (Nat × List (Nat × Nat × List Byte)) := []
  commit : Nat := 0
  grant : Option Nat := none
  spoilt : Bool := false
  deriving DecidableEq, Repr

/-- A packet after the first of its message takes its buffers when it goes on (R126). -/
def HeldReq.needsBuffer (h : HeldReq) : Bool := !h.first && h.buffers == 0 && !h.data.isEmpty

/-- A READ or ATOMIC request. -/
def HeldReq.isRead (h : HeldReq) : Bool :=
  match h.kind with
  | .read => true
  | .swap => true
  | .add => true
  | .setRead => true
  | _ => false

/-- The state of a QP beside its registers (05 R114-R131): a WRITE message in progress, a NAK 0x60 sent for the expected PSN,
PSNs of accepted packets not acknowledged, results of the last atomics by PSN, requests held, the module's requests that wait
or are outstanding, retries used, the RNR wait, the ticks of the last rate cut and the last CNP sent, the CE-marked packets that
drew no CNP (R130), and the tick at which the increase period started (R131). -/
structure Qp where
  msg : Option WriteMsg := none
  nakSent : Bool := false
  unacked : List Nat := []
  atomics : List (Nat × Nat) := []
  held : List HeldReq := []
  waiting : List Req := []
  sent : List Req := []
  retries : Nat := 0
  rnrRetries : Nat := 0
  rnrWait : Bool := false
  lastCut : Option Nat := none
  lastCnp : Option Nat := none
  marked : Nat := 0
  period : Option Nat := none
  broken : Bool := false
  destWritten : Bool := false
  psnWritten : Bool := false
  deriving DecidableEq, Repr

/-- What a slot serves (10 R263-R271, 11 R283): the fill of a line, the write-back of a line, a no-allocate write that is held
for a line, one whose line was read in the same slot and which is not counted again, an engine's own access, with the ring and
number of its descriptor if it has one, or the second write of a line of a migrating swatch, which counts for nobody (09 R249). -/
inductive SlotUse where
  | fill (line : Nat)
  | back (line : Nat)
  | around (line : Nat)
  | merged (line : Nat)
  | work (owner : Option (Nat × Nat))
  | twin
  deriving DecidableEq, Repr

/-- A slot at a channel controller (14 R344, R345, 11 R286-R289): pseudo-channel, ply, bank, row, direction, master, what it
serves, class (0 GUARANTEED, 1 NORMAL, 2 DEMOTED), whether it waited in this window for a cell without Hem credit (11 R294),
the tick of its admission, and whether its commands have been issued. -/
structure Slot where
  pc : Nat
  ply : Nat
  bank : Nat
  row : Nat
  isRead : Bool
  master : Nat
  use : SlotUse
  cls : Nat := 1
  dry : Bool := false
  since : Nat := 0
  issued : Bool := false
  deriving DecidableEq, Repr

/-- The stage of a descriptor the ring has consumed (07 R170-R178): held, started, or its work done and its completion
near. -/
inductive DescStage where
  | consumed
  | started
  | done
  deriving DecidableEq, Repr

/-- A consumed descriptor (07 R163, R170, R180): its number in the ring's order, its ring index, its 64 bytes, its stage and
outcome, the tick of its completion, its transfers with the client that are outstanding, data that has come from the client
and waits to be written, the frame whose commit by the partner it waits for, the grants it counts in, and for a
Needle descriptor the order it started in and whether it holds a slot of the Needle; the slots at channel level that its lines
have still to ask for, the steps in which they do (08 R222), whether the last of its steps is a part step, and, of a FLUSH that
has started its write-backs, the sectors it found DIRTY (10 R275). -/
structure Desc where
  serial : Nat
  index : Nat
  image : List Byte
  stage : DescStage := .consumed
  status : Nat := 0
  bytesDone : Nat := 0
  result : Nat := 0
  tick : Nat := 0
  outs : Nat := 0
  issued : Bool := false
  arrived : List Byte := []
  commit : Nat := 0
  grants : List Nat := []
  startNo : Nat := 0
  active : Bool := false
  slots : List (Nat × Slot) := []
  steps : Nat := 0
  part : Bool := false
  flushed : Option Nat := none
  deriving DecidableEq, Repr

/-- The state of a ring beside its registers (07 R159-R187): the index to fetch next, fetches outstanding (number, start,
count), what has come of them, the next fetch number, the descriptors consumed and not completed, those completed whose
records wait, descriptors not yet released, the next descriptor number, a stop at OWN = 0, the reported CQ head, a RESUME
that waits, and a FENCE in progress: its number and SUBOP, and what it waits for in other rings. -/
structure Ring where
  fetchPos : Nat := 0
  fetching : List (Nat × Nat × Nat) := []
  returned : List (Nat × List Byte) := []
  fetchNo : Nat := 0
  descs : List Desc := []
  ended : List Desc := []
  unreleased : List (Nat × List Byte) := []
  serial : Nat := 0
  ownStall : Bool := false
  cqHead : Nat := 0
  resumePending : Bool := false
  fence : Option (Nat × Nat) := none
  fenceOthers : List (Nat × Nat) := []
  deriving DecidableEq, Repr

/-- The state of a client's event queue beside its registers (07 R192, R193). -/
structure EvQueue where
  head : Nat := 0
  lost : Nat := 0
  cut : Bool := false
  deriving DecidableEq, Repr

/-- A port beside its registers (04 R88-R109): a bring-up attempt running and whether it trains the lanes, the wait after
an abandoned one, when ETH_LINK_DOWN was last raised for failing attempts, the pair of lanes a fallback runs on (0 the lower,
1 the upper), buffers held by priority, frames delivered and not yet consumed (priority, buffers), paused priorities with
their quanta, packets held by a pause (QP and packet), the port's own frames that a pause holds with their lengths, the QP
served last (05 R131), uncorrectable codewords of the round, and by port-lane the attempts in a row in which only its training
failed and the ticks of the last losses of alignment attributed to it (R93). -/
structure Port where
  attempt : Bool := false
  training : Bool := false
  waiting : Bool := false
  lastFail : Option Nat := none
  pair : Option Nat := none
  held : SMap Nat := {}
  rx : List (Nat × Nat) := []
  paused : SMap Nat := {}
  txq : List (Nat × TxPacket) := []
  frames : List (TxFrame × Nat) := []
  served : Nat := 1023
  uncorrectable : Nat := 0
  untrained : SMap Nat := {}
  unaligned : SMap (List Nat) := {}
  deriving DecidableEq, Repr

/-- One tree node's counters: a major and 64 minors, `all` where the map has no entry (13 R323). -/
structure Node where
  major : Nat := 0
  all : Nat := 0
  minors : SMap Nat := {}
  deriving DecidableEq, Repr

/-- The stored tag of a Native sector, and its void bit (13 R319, R336). -/
structure SecTag where
  value : Nat
  void : Bool
  deriving DecidableEq, Repr

/-- The working and loaded keys of a slot (13 R312, R315). -/
structure KeySlot where
  kd : List Byte
  km : List Byte
  nonce : List Byte
  kEnc : List Byte
  kTwk : List Byte
  kAuth : List Byte
  deriving DecidableEq, Repr

/-- What one member of a stripe group holds (09 R225, R228, R235, R248). -/
inductive Member where
  | free
  | swatch (s : Nat)
  | target (s : Nat)
  | region (bolt index : Nat)
  deriving DecidableEq, Repr

/-- A formed stripe group: class, set, row, members, and whether it lost a slot to a tear (09 R225-R228). -/
structure Group where
  cls : Nat
  set : Nat
  row : Nat
  members : List Member
  lost : Bool := false
  deriving DecidableEq, Repr

/-- A move record (09 R248): swatch, old and target place, whether it has flipped, whether its granules are copied, how often its
dirty lines have been written back, and whether new writes to it are held (09 R250). -/
structure Move where
  swatch : Nat
  oldCls : Nat
  oldFrame : Nat
  newCls : Nat
  newFrame : Nat
  flipped : Bool := false
  copied : Bool := false
  tries : Nat := 0
  held : Bool := false
  deriving DecidableEq, Repr

/-- A heat-table entry (09 R239). -/
structure Heat where
  swatch : Nat
  reads : Nat
  writes : Nat
  ascending : Nat
  last : Nat
  deriving DecidableEq, Repr

/-- One sector of a resident line (10 R260). -/
structure Sector where
  valid : Bool := false
  dirty : Bool := false
  data : List Byte := []
  deriving DecidableEq, Repr

/-- A resident line (10 R260). -/
structure Line where
  addr : Nat
  bolt : Nat
  sticky : Bool
  sectors : List Sector
  deriving DecidableEq, Repr

/-- Sector k of a line. -/
def Line.sec (x : Line) (k : Nat) : Sector := x.sectors.getD k {}

/-- A line with sector k replaced. -/
def Line.setSec (x : Line) (k : Nat) (y : Sector) : Line := { x with sectors := x.sectors.set k y }

/-- A line with any VALID sector. -/
def Line.anyValid (x : Line) : Bool := x.sectors.any (·.valid)

/-- A line with any DIRTY sector. -/
def Line.anyDirty (x : Line) : Bool := x.sectors.any (·.dirty)

/-- The DIRTY sectors of a line. -/
def Line.dirtySecs (x : Line) : List Nat := (List.range 4).filter (fun k => (x.sec k).dirty)

/-- A line that waits for its way until the victim there has been written back: the way, the master that the victim's write-back is
charged to, and the line (10 R263, R266, R269). -/
structure Entering where
  way : Nat
  master : Nat
  line : Line
  deriving DecidableEq, Repr

/-- A write-back the channel has not yet accepted: line, sector, failures so far, master charged, and whether it is on its way rather
than waiting to be tried again (10 R267-R269). -/
structure WriteBack where
  line : Nat
  sector : Nat
  fails : Nat := 0
  master : Nat
  flying : Bool := true
  deriving DecidableEq, Repr

/-- A no-allocate write that its slice holds in a pool buffer: line, bolt, master, and the new data of its sectors (10 R271). -/
structure Around where
  line : Nat
  bolt : Nat
  master : Nat
  secs : List (Nat × List Byte)
  deriving DecidableEq, Repr

/-- What the work of a descriptor asks for while its command runs: the slots of its lines, the Needle steps it takes, and
whether the last of them leaves needles idle (08 R222). -/
structure Job where
  slots : List (Nat × Slot) := []
  steps : Nat := 0
  part : Bool := false
  deriving DecidableEq, Repr

/-- The bus of a pseudo-channel (14 R345): its direction, the slots issued since it turned, and the tick after which it issues
again. -/
structure Bus where
  read : Bool := true
  run : Nat := 0
  last : Nat := 0
  deriving DecidableEq, Repr

/-- An entry of a channel's error log (14 R357, R358). -/
structure ErrEntry where
  addr : Nat
  pc : Nat
  kind : Nat
  spare : Bool
  syndrome : Nat
  located : Nat
  tick : Nat
  deriving DecidableEq, Repr

/-- An entry of an activate table (14 R352). -/
structure RowCount where
  row : Nat
  count : Nat
  deriving DecidableEq, Repr

/-- A channel controller beside its registers (14 R344-R358): waiting and admitted slots, open rows by bank, activate
tables by bank, the threshold in force, the master served last by class, postponed and pulled-in REF counts,
refresh pointers, the error log, credit left in the period, the bus of each pseudo-channel, and whether its next REF starts the
doubled rate (14 R349). Banks are numbered ((pc * 4 + ply) * 16) + bank. -/
structure Chan where
  waiting : List Slot := []
  admitted : List Slot := []
  openRow : SMap Nat := {}
  tables : SMap (List RowCount) := {}
  thresh : Nat := 2000
  rr : SMap Nat := {}
  postponed : SMap Nat := {}
  pulled : SMap Nat := {}
  pointer : SMap Nat := {}
  log : List ErrEntry := []
  credit : Nat := 0
  bus : SMap Bus := {}
  fast : Bool := false
  deriving DecidableEq, Repr

end Sys2Proof.Machine
end

