-- ==== Sys2Proof/Machine/State.lean ====
section
/-! DEFINITION. The whole state of the module, the reasons a step can stop, and the state after reset. -/

namespace Sys2Proof.Machine

/-- Reasons a step stops the machine. The spec gives the module none (00 R4: no input takes it outside the stated
behaviour), so no meaning raises one. -/
inductive Fault where
  /-- Raised by nobody: the spec's errors are statuses, NAKs, records and fault sources, all next states (safe). -/
  | none
  deriving DecidableEq, Repr

/-- Reasons a command has no meaning. -/
inductive Refusal where
  /-- Raised by the dispatch for a command whose meaning is not written (safe). -/
  | notModelled (mnemonic : String)
  deriving DecidableEq, Repr

/-- The performance counters and their overflow bits (12 R300-R304). -/
structure Pmc where
  cnt : SMap Nat := {}
  ovf : SMap Bool := {}
  chain : SMap Bool := {}
  thresh : SMap Nat := {}
  fresh : List (Nat × Bool) := []
  deriving DecidableEq, Repr

/-- One filtered input with the chattering rule (22 R483, R484): the level logic sees, the present filtered level, the
ticks of its filtered edges of the last 1 ms, oldest first, and whether it is declared chattering. -/
structure Chat where
  seen : Bool
  level : Bool
  edges : List Nat := []
  chattering : Bool := false
  deriving DecidableEq, Repr

/-- The input and output pins (22 R483-R487). -/
structure Pins where
  rstN : Chat := { seen := true, level := true }
  peerAlive : Chat := { seen := false, level := false }
  trstN : Chat := { seen := false, level := false }
  samples : List Straps := []
  aliveEdge : Nat := 0
  deriving DecidableEq, Repr

/-- Boot, modes and their transitions beside MOD.STATUS (20 R457-R463, 17 R397-R399): how a requested reset ends its
Boot, whether RST_N holds the module in reset, the mode and point a transition goes to (1 Serve, 2 Ease, 3 Hold, 4
Maintenance, 5 Shadow; 0 none), whether accepted work is still draining, the mode that thermal hold was entered from, and the
requests that wait for the end of a housekeeping round: a value written to MOD.REQ with its path, or a wake frame. -/
structure Boot where
  endMaint : Option Bool := none
  resetHeld : Bool := false
  target : Nat := 0
  targetPoint : Nat := 0
  draining : Bool := false
  holdFrom : Nat := 0
  held : List (Nat × Option Path) := []
  deriving DecidableEq, Repr

/-- One OTP word as its two sense references read it, after correction; none where the read is uncorrectable (20 R465,
R466). A word without an entry is unprogrammed. -/
structure OtpWord where
  normal : Option Nat
  tight : Option Nat
  deriving DecidableEq, Repr

/-- An OTP command in progress: its code and the words still to program with their values (20 R467). -/
structure OtpJob where
  code : Nat
  words : List (Nat × Nat)
  deriving DecidableEq, Repr

/-- The persistent words and what Boot read from them (20 R465-R472), and the pseudo-channels that have been torn in the module's
life (02 R59). -/
structure Persist where
  otp : SMap OtpWord := {}
  pat : SMap Nat := {}
  patCount : SMap Nat := {}
  patShadow : SMap Nat := {}
  job : Option OtpJob := none
  secret : Option (List Byte) := none
  kek : Option (List Byte) := none
  data : List Nat := [0, 0, 0, 0]
  patches : List (Nat × Nat) := []
  otpMarg : List Nat := []
  patchLock : Bool := false
  gone : List Nat := []
  deriving DecidableEq, Repr

/-- Firmware images: the staged bytes, the activated image, the length that BEGIN gave, and whether module metadata holds the
running image (20 R457 step 7, R470). -/
structure Firmware where
  staged : List Byte := []
  active : Option (List Byte) := none
  length : Nat := 0
  inMeta : Bool := false
  deriving DecidableEq, Repr

/-- The SMBus slave: its indirect address and AUTO_INC (06 R155). -/
structure Smb where
  addr : Nat := 0
  autoInc : Bool := false
  deriving DecidableEq, Repr

/-- What fills the Thimble's SRAM: nothing since it was cleared, the image of mask ROM, or an activated image (03 R66, 19 R446, 20
R470). -/
inductive SramLoad where
  | cleared
  | rom
  | image (bytes : List Byte)
  deriving DecidableEq, Repr

/-- The Thimble's interrupts and traps taken so far, its watchdog (19 R443, R450, R451), and what fills its SRAM (03
R66, 20 R470). -/
structure Thimble where
  ints : Nat := 0
  traps : Nat := 0
  lastExpiry : Option Nat := none
  expiryReset : Bool := false
  resetting : Bool := false
  sram : SramLoad := .cleared
  deriving DecidableEq, Repr

/-- The swatch that a PARTNER restitch fetches: its bolt, the frame it takes, the lines that have come, and whether the partner has it in
the zero state (09 R256, 18 R440). -/
structure Fetching where
  swatch : Nat
  bolt : Nat
  cls : Nat
  frame : Nat
  lines : SMap (List (Nat × List Byte)) := {}
  zero : Bool := false
  deriving DecidableEq, Repr

/-- The stack and what places data in it (02 R38, 09 R224-R259). A stored codeword's byte k lies under key
sector * 72 + k; a sector no write has reached holds the zero line of its bolt (09 R236), which `written` tells apart. A dwell
record is kept as it was at the end of some epoch, with the number of that epoch above it; without one the record has been
zero since its bolt was born or its place torn. Beside them: the next swatch of a restitch and the end of its range,
pseudo-channels whose metadata is still to be rebuilt, the thirty-seconds of the system bolt that both copies have lost, whose
sectors `written` shows as they are written anew, single sectors of it that are lost, the region frames of bolts that found no
new frame (13 R494), by bolt the hint and pin set that stay in effect until the next epoch (06 R139), and the pseudo-channels whose rows hold BIST's last
pattern wherever no sector has been written since (20 R458). -/
structure Mem where
  cells : SMap Byte := {}
  written : SMap Bool := {}
  sysBolt : SMap Byte := {}
  map : SMap Nat := {}
  dwell : SMap Nat := {}
  groups : List Group := []
  withheld : List (Nat × Nat) := []
  torn : List Nat := []
  regions : SMap (List Nat) := {}
  partBase : SMap Nat := {}
  moves : List Move := []
  heat : List Heat := []
  lookups : Nat := 0
  mapCache : List Nat := []
  s32Due : Bool := false
  rebuilding : List Nat := []
  seamBelow : Bool := false
  idleEpochs : SMap Nat := {}
  contention : SMap Nat := {}
  epochs : Nat := 0
  born : SMap Nat := {}
  dwellTear : SMap Nat := {}
  contAcc : SMap Nat := {}
  partner : Option Fetching := none
  zeroMode : Bool := false
  restitchAt : Nat := 0
  restitchTo : Nat := 0
  sysLost : List Nat := []
  sysBad : SMap Bool := {}
  lostRegions : List (Nat × Nat) := []
  soft : SMap (Nat × Nat) := {}
  patterned : List Nat := []
  deriving DecidableEq, Repr

/-- Keys, tags and the counter tree (13). Every key slot is held twice (15 R369); slots that both copies have lost fail until
power-good. Nodes are keyed level * 2^25 + index; levels 3, 4 and the root (5) are on-die, the last two in three copies, 2^20 apart.
Beside them: whether the entropy source is failing its tests, and its passes in a row since it failed (19 R452). -/
structure Guard where
  keys : SMap KeySlot := {}
  keys2 : SMap KeySlot := {}
  badKeys : List Nat := []
  keyWrap : SMap Nat := {}
  tags : SMap SecTag := {}
  nodes : SMap Node := {}
  nodeTags : SMap Nat := {}
  cache : List Nat := []
  dirtyNodes : SMap Bool := {}
  leafBase : SMap Nat := {}
  converted : SMap Bool := {}
  rekeyPaused : Bool := false
  leafMajor : SMap Nat := {}
  lostNodes : List Nat := []
  entropyBad : Bool := false
  entropyPasses : Nat := 0
  deriving DecidableEq, Repr

/-- The Lining (10): lines by place (slice * 8192 + set * 16 + way), pseudo-LRU bits by set, fills and write-backs in
progress, slots that wait for a pool buffer by channel, the cleaner's cursors, whether CLEAN_ALL runs, sectors whose
fill met an uncorrectable command error, as line and sector, the lines whose fill lost its pool buffer, the no-allocate writes held, oldest first, whether STICKY_MIB has been
lowered below the count of sticky lines and the count has not fallen below it since, the number of requests
that have come to wait, the lines that wait for their way, oldest first, the debug accesses that wait for a line, and of the command that is running the groups of 64 sectors it has written anew, the granules of node tags it has written anew, what its descriptor asks for
and what goes wrong in its reads (nothing between commands). -/
structure Lining where
  lines : SMap Line := {}
  lru : SMap Nat := {}
  fills : List Nat := []
  bufWait : List (Nat × Slot) := []
  wbs : List WriteBack := []
  cursor : SMap Nat := {}
  cleanAll : Bool := false
  cmdErr : List (Nat × Nat) := []
  bufErr : List Nat := []
  around : List Around := []
  lowered : Bool := false
  groups : List Nat := []
  tagGranules : List (Nat × Nat × Nat) := []
  arrivals : Nat := 0
  entering : List Entering := []
  debugs : List DebugAccess := []
  job : Option Job := none
  noise : List LineNoise := []
  deriving DecidableEq, Repr

/-- One piece of a calibration: 0 a free selvedge lane, 1 ply timing, 2 a lane in service (16 R378). -/
structure SweepItem where
  kind : Nat
  pc : Nat
  ply : Nat
  lane : Nat
  deriving DecidableEq, Repr

/-- The stamp of a timing set (16 R377). -/
structure Stamp where
  plies : List Int
  base : Int
  ratio : Nat
  tick : Nat
  deriving DecidableEq, Repr

/-- The load-step monitor of a channel (16 R385): recent activities of the tier and corrected symbols of the channel,
newest first, and a measurement in progress: the sum of the 16 rounds before, and the corrected symbols since. -/
structure Monitor where
  busy : List Nat := []
  errs : List Nat := []
  measuring : Option (Nat × List Nat) := none
  deriving DecidableEq, Repr

/-- A lane of a pseudo-channel of a channel that has failed, and the free selvedge lane that is to carry it from the pseudo-channel's
next lane rotation point (02 R50, 16 R374). -/
structure Repair where
  channel : Nat
  sv : Nat
  pc : Nat
  lane : Nat
  deriving DecidableEq, Repr

/-- Calibration beside its registers (16): work left of the full calibration by channel and the class it serves, the urgent
lanes of a channel, the sweep a channel runs and whether it is urgent, stamps by channel * 4 + point, lane codes and runs by
((point * 32 + channel) * 128 + lane + 64 * pc) * 4 + ply packed as in CAL.TRIM, ply timing by (point * 32 + channel) * 8 + n and
the receiver references, which all points share, by channel * 8 + n, each packed as in CAL.PLY_TIMING (R374), the lowest fill level of the full calibration, corrected symbols of the round by
(channel * 2 + pc) * 64 + lane, channels whose wait for fill credit has timed out, what a rotation found until its rotation
point, the monitors, the channels that the monitor leaves out of this round, the repairs that wait for a rotation point, the selvedge
lane that a channel's rotation takes at the next rotation point, the held intervals that the running sweep of a channel has had, and the
tick of a pseudo-channel's last held interval (R375), and the calibration rows that hold the fill's pattern, by channel * 128 + bank (R383). -/
structure Cal where
  work : SMap (List SweepItem) := {}
  cls : SMap Nat := {}
  urgent : SMap (List SweepItem) := {}
  now : SMap (Bool × SweepItem) := {}
  minFill : SMap Nat := {}
  stamps : SMap Stamp := {}
  trims : SMap Nat := {}
  timing : SMap Nat := {}
  refs : SMap Nat := {}
  symbols : SMap Nat := {}
  forced : List Nat := []
  swept : SMap SweepReport := {}
  monitors : SMap Monitor := {}
  skipRound : List Nat := []
  repairs : List Repair := []
  taking : SMap Nat := {}
  held : SMap Nat := {}
  lastHeld : SMap Nat := {}
  filled : SMap Bool := {}
  deriving DecidableEq, Repr

/-- The clock monitor beside its registers (03 R71-R80): in-range and out-of-range windows in a row by PLL, the switch of the
reference mux in progress (to the backup oscillator or back), the PLLs that were in holdover as the last window ended, and
whether both clocks have stopped. -/
structure Clocks where
  good : SMap Nat := {}
  bad : SMap Nat := {}
  moving : Option Bool := none
  holding : List Nat := []
  stopped : Bool := false
  hushed : List Nat := []
  deriving DecidableEq, Repr

/-- The Needle's turn within a class (08 R222): the start number of the descriptor that took the last step, and the steps left to its
turn. -/
structure Turn where
  start : Nat := 0
  left : Nat := 0
  deriving DecidableEq, Repr

/-- The scrubber (15 R370-R373): the cursor of each channel (pseudo-channel * 2^23 + row * 256 + slot granule), the
channels whose cursor has wrapped in this lap, the tick at which the lap started, whether the lap's slowness has been
raised, the granules that each channel may take in the present microsecond with the remainder carried forward, and those each has
taken in it. -/
structure Scrub where
  cursor : SMap Nat := {}
  wrapped : List Nat := []
  lapStart : Option Nat := none
  warned : Bool := false
  grant : Nat := 0
  rest : Nat := 0
  taken : SMap Nat := {}
  deriving DecidableEq, Repr

/-- Narrow mode of a channel (02 R53, R54): the half in use by each pseudo-channel, and a window of its own that is due
or open. -/
structure Narrow where
  halves : List Nat := [0, 0]
  window : Bool := false
  due : Bool := false
  deriving DecidableEq, Repr

/-- Operating-point waves (14 R354-R356): the target of the change, the tiers whose wave is still to come in their order,
the tier in its window, and the point that it leaves its window at. -/
structure Waves where
  target : Nat := 0
  next : List Nat := []
  now : Option Nat := none
  nowPoint : Nat := 0
  deriving DecidableEq, Repr

/-- Hem and the thresholds beside their registers (17): H_raw of the last rounds, newest first; whether a round has ended;
rounds since Hem last requested a point while Throttle is set; rounds in a row that left Throttle clear; rounds in a row
with VIN low; the stage over-temperature; plies with the guard applied; governing temperatures in quarter degrees by ply
and base die, and by channel; the credit issued in the present period; rounds in a row that a rail has been inside its window;
the stack rails that hold activates; the last ratios of the band oscillators; rounds in a row in which a tier has read
82 degrees or below; the plate in quarter degrees; the burst bucket in nJ; and the BURST_W in effect; the energy counters: pJ charged in
this round by node of the thermal model (R389, R390), to all cells in this credit period, by the last round beside the channels' commands,
and by panel column since power-good; the rises of the nodes above the plate in units of 2^-16 quarter degrees; the powers of the input
stage as last measured, drawn and given to the intermediate rail in uW (R403); and its phase currents in mA. -/
structure Hem where
  raws : List Nat := []
  started : Bool := false
  reqRounds : Option Nat := none
  clearRun : Nat := 0
  vinLow : Nat := 0
  stageHot : Bool := false
  guarded : List Nat := []
  gov : List Int := []
  cellTemp : List Int := []
  issued : Nat := 0
  railIn : SMap Nat := {}
  railBad : List Nat := []
  ratios : List Nat := []
  coolRun : SMap Nat := {}
  plate : Int := 0
  bucket : Nat := 0
  burstW : Nat := 92
  energy : SMap Nat := {}
  spent : Nat := 0
  steady : Nat := 0
  column : SMap Nat := {}
  rise : SMap Int := {}
  drawn : Nat := 1
  given : Nat := 1
  phases : List Nat := []
  deriving DecidableEq, Repr

/-- Regulation beside its registers (11): per master the GUAR in effect and the slots served in the window, whether the
window is excluded, the F last reported to a client, windows left until a client may get another GUARANTEE_MISSED, and
the terms of R284 at the last recomputation. -/
structure Reg where
  guarPrev : SMap Nat := {}
  served : SMap Nat := {}
  total : SMap Nat := {}
  excluded : Bool := false
  reported : SMap Nat := {}
  missHold : SMap Nat := {}
  lastTerms : List Nat := []
  nextF : Nat := 1024
  deriving DecidableEq, Repr

/-- BIST (20 R458-R460): the waves still to run, whether the run is Boot's, and the result FIFO. -/
structure Bist where
  waves : List Nat := []
  boot : Bool := false
  fifo : List Nat := []
  deriving DecidableEq, Repr

/-- What waits for the partner to commit a frame: a set-up write with its path, the wrapped key that a LOAD took, and the record that
the partner applies (18 R431). -/
inductive HoldUse where
  | setup (off entry v : Nat) (data : List Byte) (path : Path) (record : List Byte)
  deriving DecidableEq, Repr

/-- The pair link and the pair beside their registers (18): bring-up, alignment failures and aligned lanes, the partner's
TRAIN flags and IDENT, coded stitches, nonces, the pair key, the link keys of the two directions, records of the open
frame, frames not acknowledged (their number, tick, records), the next numbers, the number below the first frame of the
present link, the resync map, what is still to copy and the frame that ends the copy, a PAIR or JOIN that waits for the link,
what IDENT settled (role, epoch, whether the copy is of everything), what waits for the partner, the ticks at which things were last
seen, whether a secondary broke before its copy was whole, and the stitches sent and received that were counted ahead of their stitch
times. -/
structure Tack where
  attempt : Bool := false
  waiting : Bool := false
  failRun : SMap Nat := {}
  aligned : List Nat := []
  counting : Option Nat := none
  tries : SMap Nat := {}
  peerTrain : Option TrainFlags := none
  lanes : List Nat := []
  coded : Bool := false
  deskewed : Bool := false
  nonce : Nat := 0
  peer : Option Ident := none
  key : Option (List Byte) := none
  txKey : List Byte := []
  rxKey : List Byte := []
  carries : Bool := false
  marker : Nat := 0
  openRecs : List (List Byte) := []
  openTick : Nat := 0
  sendSeq : Nat := 1
  unacked : List (Nat × Nat × List Byte) := []
  expect : Nat := 1
  lastResend : Option Nat := none
  lastAck : Nat := 0
  lastHb : Option Nat := none
  downTick : Option Nat := none
  pairedAtLoss : Bool := false
  decided : Bool := false
  peerEdge : Nat := 0
  resync : SMap Bool := {}
  copy : List Nat := []
  copyEnd : Option Nat := none
  joining : Bool := false
  handover : Bool := false
  holds : List (Nat × HoldUse) := []
  pairing : Bool := false
  settled : Option (Nat × Nat × Bool) := none
  base : Nat := 0
  claims : Nat := 0
  claiming : Bool := false
  unsynced : Bool := false
  txLead : Nat := 0
  rxLead : Nat := 0
  deriving DecidableEq, Repr

/-- The counter dumper (12 R307-R310): what the last latch took - counters, overflow bits, the chained pairs, tick, note and
INFO word - whether its record is being written and its first write has gone out, the latches skipped since, and the period in effect
(R311). -/
structure Dump where
  cnt : SMap Nat := {}
  ovf : SMap Bool := {}
  chain : List Nat := []
  tick : Nat := 0
  note : Nat := 0
  info : Nat := 0
  busy : Bool := false
  skips : Nat := 0
  seq : Nat := 0
  opened : Bool := false
  period : Nat := 100
  deriving DecidableEq, Repr

/-- A block that a block reset resets (19 R446). -/
inductive Block where
  | port (p : Nat)
  | tack
  | thimble
  | other
  deriving DecidableEq, Repr

/-- What the raises of one command still owe (19 R443, R445): FAULT events by source, interrupts and traps of the
Thimble, block resets, and the lowest source that asks for a module reset; and the client whose admitted WRITE to the set-up
window this command carries on (06 R137, R153). Nothing is owed between commands. -/
structure Due where
  events : List Nat := []
  ints : Nat := 0
  traps : Nat := 0
  blocks : List Block := []
  reset : Option Nat := none
  window : Option Nat := none
  deriving DecidableEq, Repr


/-- The whole state of the module, beside the queue of waiting commands: the registers, the state the chapters give it
beside them, and what it has put out. -/
structure State where
  pending : List Instr := []
  powered : Bool := true
  tick : Nat := 0
  freeCtr : Nat := 0
  starts : Nat := 0
  steps : Nat := 0
  regs : FStore := {}
  out : List Out := []
  pmc : Pmc := {}
  pins : Pins := {}
  boot : Boot := {}
  per : Persist := {}
  fw : Firmware := {}
  smb : Smb := {}
  thimble : Thimble := {}
  qps : SMap Qp := {}
  rings : SMap Ring := {}
  eqs : SMap EvQueue := {}
  mem : Mem := {}
  guard : Guard := {}
  lng : Lining := {}
  chans : SMap Chan := {}
  ports : SMap Port := {}
  cal : Cal := {}
  tack : Tack := {}
  narrow : SMap Narrow := {}
  waves : Waves := {}
  hem : Hem := {}
  reg : Reg := {}
  bist : Bist := {}
  dump : Dump := {}
  due : Due := {}
  scrub : Scrub := {}
  turn : SMap Turn := {}
  clocks : Clocks := {}
  inUse : SMap Nat := {}
  deriving DecidableEq, Repr

/-- The module right after power-good: Boot step 1, every register at its reset value, memory with nothing listed (20
R457, 00 R18). -/
def State.reset : State := {}

end Sys2Proof.Machine
end

