-- ==== Sys2Proof/Machine/Ops.lean ====
section
/-! DEFINITION. The named operations every meaning is written with: reading and writing register fields, counting,
putting out, free values, modes, bytes of the stack, and the persistent words. -/

namespace Sys2Proof.Machine

/-- The value of a register field (R15, R16). -/
def State.rd (s : State) (f : Fld) (e : Nat := 0) : Nat := fget s.regs f e

/-- Whether a one-bit field, or any field, is nonzero. -/
def State.on (s : State) (f : Fld) (e : Nat := 0) : Bool := s.rd f e != 0

/-- The state with a register field holding v, cut to the field's width (R15). -/
def State.wr (s : State) (f : Fld) (v : Nat) (e : Nat := 0) : State := { s with regs := fset s.regs f e v }

/-- The state with a one-bit field set or clear. -/
def State.put (s : State) (f : Fld) (b : Bool) (e : Nat := 0) : State := s.wr f b.toNat e

/-- The largest value of a field. -/
def Fld.max (f : Fld) : Nat := 2 ^ f.width - 1

/-- The receiver references that Boot trains for ply n of channel c where neither ladder is swapped, as they stand in
CAL.PLY_TIMING (16 R382, R387). -/
def bootRefs (c n : Nat) : Nat := setBit (setBit (Config.bootTiming (8 * c + n)).toNat 17 false) 23 false

/-- What BIST leaves in byte i of a row in the raw view: the complement of a PRBS31 stream, x^31 + x^28 + 1, that the row's address
seeds (20 R458). -/
def patternByte (rowAddr i : Nat) : Byte :=
  let step (x : Nat) : Nat := x * 2 % 2 ^ 31 + (bit x 30 != bit x 27).toNat
  let x := (List.range (8 * i)).foldl (fun x _ => step x) (Config.patternSeed rowAddr).toNat
  let out := (List.range 8).foldl (fun (a : Nat × Nat) j => (step a.1, a.2 + (!bit a.1 30).toNat * 2 ^ j)) (x, 0)
  BitVec.ofNat 8 out.2

/-- The state with a saturating count field advanced by n. -/
def State.bump (s : State) (f : Fld) (e : Nat := 0) (n : Nat := 1) : State :=
  s.wr f (min (s.rd f e + n) f.max) e

/-- The state with bit i of a field set or clear. -/
def State.wrBit (s : State) (f : Fld) (i : Nat) (b : Bool) (e : Nat := 0) : State :=
  s.wr f (setBit (s.rd f e) i b) e

/-- Bit i of a field. -/
def State.rdBit (s : State) (f : Fld) (i : Nat) (e : Nat := 0) : Bool := bit (s.rd f e) i

/-- The state with one entry of a field back at its reset value. -/
def State.clr (s : State) (f : Fld) (e : Nat := 0) : State := { s with regs := s.regs.del (f.key e) }

/-- The entries of a field that hold another value than its reset value. -/
def State.stored (s : State) (f : Fld) : List Nat :=
  s.regs.entries.filterMap (fun e => if e.1 % 2 ^ 26 = f.id then some (e.1 / 2 ^ 26) else none)

/-- The state with something put out. -/
def State.emit (s : State) (o : Out) : State := { s with out := s.out ++ [o] }

/-- One advance of counter n: it wraps at 2^32; the wrap carries into a chained high half in the same tick, or else sets
the counter's overflow bit (R303, R304). -/
def Pmc.step (p : Pmc) (chained : Nat → Bool) (n : Nat) : Pmc :=
  let v := p.cnt.get 0 n
  if v + 1 < 2 ^ 32 then { p with cnt := p.cnt.set 0 n (v + 1) }
  else
    let p := { p with cnt := p.cnt.set 0 n 0 }
    if n % 2 = 0 ∧ chained (n + 1) then
      let h := p.cnt.get 0 (n + 1)
      if h + 1 < 2 ^ 32 then { p with cnt := p.cnt.set 0 (n + 1) (h + 1) }
      else { p with cnt := p.cnt.set 0 (n + 1) 0, ovf := p.ovf.set false (n + 1) true }
    else { p with ovf := p.ovf.set false n true }

/-- Counter n chained as the high half of counter n - 1, in effect since a tick boundary (R303). -/
def State.chained (s : State) (n : Nat) : Bool := n % 2 = 1 && s.pmc.chain.get false n

/-- k advances of a counter at once: the same as k single advances, taken in one sum. -/
def Pmc.add (p : Pmc) (chained : Nat → Bool) (n k : Nat) : Pmc :=
  let v := p.cnt.get 0 n + k
  if v < 2 ^ 32 then { p with cnt := p.cnt.set 0 n v }
  else
    let p := { p with cnt := p.cnt.set 0 n (v % 2 ^ 32) }
    if n % 2 = 0 ∧ chained (n + 1) then
      let h := p.cnt.get 0 (n + 1) + v / 2 ^ 32
      if h < 2 ^ 32 then { p with cnt := p.cnt.set 0 (n + 1) h }
      else { p with cnt := p.cnt.set 0 (n + 1) (h % 2 ^ 32), ovf := p.ovf.set false (n + 1) true }
    else { p with ovf := p.ovf.set false n true }

/-- Event n occurs k times: its counter advances, unless it counts for a chained pair instead (R300, R303). -/
def State.count (s : State) (n : Nat) (k : Nat := 1) : State :=
  if s.chained n ∨ k = 0 then s else { s with pmc := s.pmc.add s.chained n k }

/-- Event k of channel c occurs (R306). -/
def State.countChan (s : State) (c k : Nat) (n : Nat := 1) : State := s.count (256 + 16 * c + k) n

/-- Event k of port p occurs (R306). -/
def State.countPort (s : State) (p k : Nat) (n : Nat := 1) : State := s.count (16 + 16 * p + k) n

/-- Counter n as read. -/
def State.counter (s : State) (n : Nat) : Nat := s.pmc.cnt.get 0 n

/-- The next free value takes a new place in the sequence of draws. -/
def State.drawn (s : State) : State := { s with freeCtr := s.freeCtr + 1 }

/-- Modes of MOD.STATUS.MODE, one-hot. -/
def modeServe : Nat := 1
/-- Ease. -/
def modeEase : Nat := 2
/-- Shadow. -/
def modeShadow : Nat := 4
/-- Hold. -/
def modeHold : Nat := 8
/-- Maintenance. -/
def modeMaint : Nat := 16
/-- Boot. -/
def modeBoot : Nat := 32

/-- The mode in use. -/
def State.mode (s : State) : Nat := s.rd R.MOD.STATUS.MODE

/-- Serve or Ease: full client service (R121). -/
def State.serving (s : State) : Bool := s.mode == modeServe || s.mode == modeEase

/-- Serve, Ease or Shadow. -/
def State.running (s : State) : Bool := s.serving || s.mode == modeShadow

/-- The module serves as a secondary does: it is in Shadow, or fenced (18 R433, R438). -/
def State.limited (s : State) : Bool := s.mode == modeShadow || s.on R.TCK.STATUS.FENCED

/-- The node of ply j of channel c's cell: ply * 8 + panel position (02 R36, 17 R390). -/
def cellNode (c j : Nat) : Nat := 8 * (4 * (c / 8) + j) + c % 8

/-- The module acts: it has power, and a clock (17 R408, 03 R80). -/
def State.awake (s : State) : Bool := s.powered && !s.clocks.stopped

/-- Hold that is thermal hold (R397). -/
def State.thermalHold (s : State) : Bool := s.on R.MOD.STATUS.THERMAL_HOLD

/-- Boot in progress. -/
def State.booting (s : State) : Bool := s.mode == modeBoot

/-- Service under R27 is ending, until Hold or Maintenance is entered: no new request is accepted. -/
def State.ending (s : State) : Bool := s.boot.draining || s.boot.target == 3 || s.boot.target == 4

/-- Pseudo-channel q is torn (R58). -/
def State.tornPc (s : State) (q : Nat) : Bool := s.mem.torn.contains q

/-- The system PLL is judged locked: the MACs, the Tack PCS and the Thimble are out of reset (03 R73, R77). -/
def State.sysLocked (s : State) : Bool := s.rdBit R.CLK.STATUS.PLL_LOCK 7

/-- Channel c's controller has no clock: its island is held in reset until its PLL is judged locked, or both clocks have stopped
(03 R73, R77, R80). -/
def State.inReset (s : State) (c : Nat) : Bool := !s.rdBit R.CLK.STATUS.PLL_LOCK (c / 8) || s.clocks.stopped

/-- The plies refresh themselves: in Hold and thermal hold, until the stack is woken for a mode that uses it (14 R351). -/
def State.asleep (s : State) : Bool := s.mode == modeHold && (s.boot.target == 0 || s.boot.target == 3)

/-- Client service has ended for Hold or Maintenance, and the mode is about to be entered (R27, R259). -/
def State.leaving (s : State) : Bool := (s.boot.target == 3 || s.boot.target == 4) && !s.boot.draining

/-- A channel controller's state. -/
def State.chan (s : State) (c : Nat) : Chan := s.chans.get {} c

/-- The state with channel c's controller state replaced. -/
def State.setChan (s : State) (c : Nat) (x : Chan) : State := { s with chans := s.chans.set {} c x }

/-- A QP's state beside its registers. -/
def State.qp (s : State) (i : Nat) : Qp := s.qps.get {} i

/-- The state with QP i's hidden state replaced. -/
def State.setQp (s : State) (i : Nat) (q : Qp) : State := { s with qps := s.qps.set {} i q }

/-- A ring's state beside its registers. -/
def State.ring (s : State) (i : Nat) : Ring := s.rings.get {} i

/-- The state with ring i's hidden state replaced. -/
def State.setRing (s : State) (i : Nat) (r : Ring) : State := { s with rings := s.rings.set {} i r }

/-- A client's event queue beside its registers. -/
def State.eq (s : State) (i : Nat) : EvQueue := s.eqs.get {} i

/-- The state with client i's event queue replaced. -/
def State.setEq (s : State) (i : Nat) (q : EvQueue) : State := { s with eqs := s.eqs.set {} i q }

/-- The 72 stored bytes of the sector with key k; an unlisted byte reads 0. -/
def cellsOf (m : SMap Byte) (k : Nat) : List Byte := (List.range 72).map (fun i => m.get 0 (k * 72 + i))

/-- The memories of stored bytes are in their canonical form: addresses strictly rising, and none listed that holds what an
unlisted address reads as. -/
def Mem.wf (m : Mem) : Bool := m.cells.wf 0 && m.sysBolt.wf 0

/-- A run of bytes written from key k upward. -/
def putBytes (m : SMap Byte) (k : Nat) : List Byte → SMap Byte
  | [] => m
  | b :: bs => putBytes (m.set 0 k b) (k + 1) bs

/-- The value of Pattern store word w: the module's unstored record if a frozen word has one, else the stored value
(R471, R472). -/
def State.pat (s : State) (w : Nat) : Nat :=
  match s.per.patShadow.find w with
  | some v => v
  | none => s.per.pat.get 0 w

/-- Commits of Pattern store word w (R472). -/
def State.patCount (s : State) (w : Nat) : Nat := s.per.patCount.get 0 w

/-- A word whose count has reached 1 000 000 is frozen (R472). -/
def State.patFrozen (s : State) (w : Nat) : Bool := 1000000 ≤ s.patCount w

/-- A commit of a changed value to a word that is not frozen (R472). -/
def State.patCommit (s : State) (w v : Nat) : State :=
  { s with per := { s.per with pat := s.per.pat.set 0 w v, patCount := s.per.patCount.set 0 w (s.patCount w + 1) } }

/-- The word of OTP under index w as programmed, if it is (R465). -/
def State.otpWord (s : State) (w : Nat) : Option OtpWord := s.per.otp.find w

/-- A word is programmed with a value: one that reads zero at both references counts as unprogrammed (20 R466). -/
def State.otpStore (s : State) (w v : Nat) : State :=
  { s with per := { s.per with otp := if v = 0 then s.per.otp.del w else s.per.otp.put w ⟨some v, some v⟩ } }

end Sys2Proof.Machine
end

