-- ==== Sys2Proof/Machine/Masters.lean ====
section
/-! DEFINITION. The rights entries of the module's internal masters (06 R138, R147, 13 R338, R339). -/

namespace Sys2Proof.Machine

/-- The offset of a Fabric Address. -/
def faOffset (va : Nat) : Nat := bits va 0 40

/-- ACCESS_DENIED. -/
def stDenied : Nat := 0x10

/-- A refusal of an internal master is counted (R147, R338). -/
def State.countMaster (s : State) : State := (s.count 193).bump R.BLT.ACC_FAULT.MASTER

/-- An internal master's entry allows an access to a key ID (R338, R339). -/
def State.masterAllows (s : State) (m right key : Nat) : Bool :=
  (match right with
    | 0 => s.on R.PRT.MRIGHTS.READ m
    | 1 => s.on R.PRT.MRIGHTS.WRITE m
    | _ => s.on R.PRT.MRIGHTS.ATOMIC m) &&
  (match s.rd R.PRT.MRIGHTS.SCOPE m with
    | 0 => false
    | 1 => key == 0
    | 2 => true
    | _ => key == s.rd R.PRT.MRIGHTS.KEY_ID m)

/-- An access of master m to bolt b passes the rights check: a client's has been checked under its grant, and an internal master's fails
while the bolt is DELETING (R138, R142, R146). -/
def State.masterMay (s : State) (m right b : Nat) : Bool :=
  m < 64 || (s.rd R.BLT.BOLT_ATTR.STATE b != 5 && s.masterAllows m right (s.rd R.BLT.BOLT_ATTR.KEY_ID b))

/-- Master m may read and write bolt b. -/
def State.masterOwns (s : State) (m b : Nat) : Bool := s.masterMay m 0 b && s.masterMay m 1 b

end Sys2Proof.Machine
end

