-- ==== Sys2Proof/Machine/Cipher.lean ====
section
/-! DEFINITION. The ciphers and codes of authentication the spec names: AES-256, CMAC and the key derivation of 13
R313, key wrap (R314), counter mode (R320), XTS (R318), and the GHASH construction (R319). -/

namespace Sys2Proof.Machine

/-- The substitution table of AES by rows of sixteen bytes, the first byte of a row highest. -/
def aesRows : List Nat :=
  [0x637C777BF26B6FC53001672BFED7AB76, 0xCA82C97DFA5947F0ADD4A2AF9CA472C0,
   0xB7FD9326363FF7CC34A5E5F171D83115, 0x04C723C31896059A071280E2EB27B275,
   0x09832C1A1B6E5AA0523BD6B329E32F84, 0x53D100ED20FCB15B6ACBBE394A4C58CF,
   0xD0EFAAFB434D338545F9027F503C9FA8, 0x51A3408F929D38F5BCB6DA2110FFF3D2,
   0xCD0C13EC5F974417C4A77E3D645D1973, 0x60814FDC222A908846EEB814DE5E0BDB,
   0xE0323A0A4906245CC2D3AC629195E479, 0xE7C8376D8DD54EA96C56F4EA657AAE08,
   0xBA78252E1CA6B4C6E8DD741F4BBD8B8A, 0x703EB5664803F60E613557B986C11D9E,
   0xE1F8981169D98E949B1E87E9CE5528DF, 0x8CA1890DBFE6426841992D0FB054BB16]

/-- The inverse substitution table, likewise. -/
def aesInvRows : List Nat :=
  [0x52096AD53036A538BF40A39E81F3D7FB, 0x7CE339829B2FFF87348E4344C4DEE9CB,
   0x547B9432A6C2233DEE4C950B42FAC34E, 0x082EA16628D924B2765BA2496D8BD125,
   0x72F8F66486689816D4A45CCC5D65B692, 0x6C704850FDEDB9DA5E154657A78D9D84,
   0x90D8AB008CBCD30AF7E45805B8B34506, 0xD02C1E8FCA3F0F02C1AFBD0301138A6B,
   0x3A9111414F67DCEA97F2CFCEF0B4E673, 0x96AC7422E7AD3585E2F937E81C75DF6E,
   0x47F11A711D29C5896FB7620EAA18BE1B, 0xFC563E4BC6D279209ADBC0FE78CD5AF4,
   0x1FDDA8338807C731B11210592780EC5F, 0x60517FA919B54A0D2DE57A9F93C99CEF,
   0xA0E03B4DAE2AF5B0C8EBBB3C83539961, 0x172B047EBA77D626E169146355210C7D]

/-- Entry b of a table of sixteen rows. -/
def rowByte (rows : List Nat) (b : Nat) : Nat := rows.getD (b / 16) 0 / 256 ^ (15 - b % 16) % 256

/-- The number that bytes hold, high-order byte first. -/
def beNat (bs : List Byte) : Nat := bs.foldl (fun acc b => acc * 256 + b.toNat) 0

/-- A number as 16 bytes, high-order byte first. -/
def beBlock (v : Nat) : List Byte := (leBytes 16 v).reverse

/-- A run cut into pieces of n, at most k of them. -/
def chunk {α : Type} (n : Nat) : Nat → List α → List (List α)
  | 0, _ => []
  | k + 1, l => l.take n :: chunk n k (l.drop n)

/-- The n bytes of a number, highest first, put through a table: byte i of the result comes from byte `pick i`. A block of AES is
a number of sixteen bytes, column by column. -/
def substitute (rows : List Nat) (n : Nat) (pick : Nat → Nat) (v : Nat) : Nat :=
  (List.range n).foldl (fun acc i => acc * 256 + rowByte rows (v / 256 ^ (n - 1 - pick i) % 256)) 0

/-- One round key word from the words before it: i is the word's number. -/
def aesNextWord (ws : List Nat) (i : Nat) : Nat :=
  let prev := ws.getD (i - 1) 0
  let t :=
    if i % 8 = 0 then substitute aesRows 4 (fun k => (k + 1) % 4) prev ^^^ 2 ^ (i / 8 - 1 + 24)
    else if i % 8 = 4 then substitute aesRows 4 id prev
    else prev
  ws.getD (i - 8) 0 ^^^ t

/-- The fifteen round keys of a 32-byte key. -/
def aesKeys (key : List Byte) : List Nat :=
  let ws := (List.range 52).foldl (fun ws i => ws ++ [aesNextWord ws (i + 8)]) ((chunk 4 8 key).map beNat)
  (chunk 4 15 ws).map (fun k => k.foldl (fun acc w => acc * 2 ^ 32 + w) 0)

/-- A byte in each byte of a block. -/
def everyByte (b : Nat) : Nat := b * (256 ^ 16 / 255)

/-- A column in each column of a block. -/
def everyColumn (c : Nat) : Nat := c * (256 ^ 16 / (2 ^ 32 - 1))

/-- Every byte of a block doubled in the field of AES. -/
def aesDouble (v : Nat) : Nat := 2 * (v &&& everyByte 0x7F) ^^^ 0x1B * (v / 128 &&& everyByte 1)

/-- Every column of a block turned by k bytes. -/
def turnColumns (k v : Nat) : Nat :=
  256 ^ k * (v &&& everyColumn (256 ^ (4 - k) - 1)) ^^^ (v / 256 ^ (4 - k) &&& everyColumn (256 ^ k - 1))

/-- MixColumns: each byte becomes twice itself, three times the next and the two after it. -/
def mixColumns (v : Nat) : Nat :=
  aesDouble v ^^^ turnColumns 1 (aesDouble v ^^^ v) ^^^ turnColumns 2 v ^^^ turnColumns 3 v

/-- The inverse of MixColumns: four times each byte and the one two after it are added first. -/
def invMixColumns (v : Nat) : Nat :=
  mixColumns (v ^^^ aesDouble (aesDouble (v ^^^ turnColumns 2 v)))

/-- SubBytes and ShiftRows. -/
def subShift (v : Nat) : Nat := substitute aesRows 16 (fun i => (i + 4 * (i % 4)) % 16) v

/-- InvShiftRows and InvSubBytes. -/
def invSubShift (v : Nat) : Nat := substitute aesInvRows 16 (fun i => (i + 16 - 4 * (i % 4)) % 16) v

/-- AES-256 of one block under its round keys. -/
def aesEncrypt (rk : List Nat) (v : Nat) : Nat :=
  let v := (List.range 13).foldl (fun v i => mixColumns (subShift v) ^^^ rk.getD (i + 1) 0) (v ^^^ rk.getD 0 0)
  subShift v ^^^ rk.getD 14 0

/-- The inverse of AES-256 of one block under its round keys. -/
def aesDecrypt (rk : List Nat) (v : Nat) : Nat :=
  let v := (List.range 13).foldl (fun v i => invSubShift (invMixColumns (v ^^^ rk.getD (13 - i) 0)))
    (invSubShift (v ^^^ rk.getD 14 0))
  v ^^^ rk.getD 0 0

/-- AES-256 of one 16-byte block under a 32-byte key. -/
def aes256 (key block : List Byte) : List Byte := beBlock (aesEncrypt (aesKeys key) (beNat block))

/-- A number as 16 bytes, low-order byte first. -/
def leBlock (v : Nat) : List Byte := leBytes 16 v

/-- A 32-bit number as 4 bytes, high-order byte first (R313). -/
def be32 (v : Nat) : List Byte := (leBytes 4 v).reverse

/-- A CMAC subkey from the block before it. -/
def cmacSubkey (v : Nat) : Nat :=
  if v < 2 ^ 127 then 2 * v else ((2 * v) % 2 ^ 128) ^^^ 0x87

/-- AES-256-CMAC of a message (NIST SP 800-38B). -/
def cmac (key msg : List Byte) : List Byte :=
  let rk := aesKeys key
  let enc := aesEncrypt rk
  let k1 := cmacSubkey (enc 0)
  let k2 := cmacSubkey k1
  let n := if msg.length = 0 then 1 else ceilDiv msg.length 16
  let last := msg.drop (16 * (n - 1))
  let lastBlock :=
    if last.length = 16 then beNat last ^^^ k1 else beNat (padTo 16 (last ++ [0x80])) ^^^ k2
  let x := (chunk 16 (n - 1) msg).foldl (fun x b => enc (x ^^^ beNat b)) 0
  beBlock (enc (x ^^^ lastBlock))

/-- The key derivation of R313: two output blocks over label and context. -/
def kdf (key label context : List Byte) : List Byte :=
  let blockI := fun (i : Nat) => cmac key (be32 i ++ label ++ [0] ++ context ++ be32 256)
  blockI 1 ++ blockI 2

/-- The default initial value of RFC 3394. -/
def wrapIv : List Byte := List.replicate 8 0xA6

/-- One step of key wrap: the register A, the blocks R, and step number t counted from 1. -/
def wrapStep (rk : List Nat) (n : Nat) (st : Nat × List Nat) (t : Nat) : Nat × List Nat :=
  let i := (t - 1) % n
  let b := aesEncrypt rk (st.1 * 2 ^ 64 + st.2.getD i 0)
  ((b / 2 ^ 64) ^^^ t, st.2.set i (b % 2 ^ 64))

/-- One step of key unwrap. -/
def unwrapStep (rk : List Nat) (n : Nat) (st : Nat × List Nat) (t : Nat) : Nat × List Nat :=
  let i := (t - 1) % n
  let b := aesDecrypt rk ((st.1 ^^^ t) * 2 ^ 64 + st.2.getD i 0)
  (b / 2 ^ 64, st.2.set i (b % 2 ^ 64))

/-- A 64-bit number as 8 bytes, high-order byte first. -/
def be64 (v : Nat) : List Byte := (leBytes 8 v).reverse

/-- AES key wrap of RFC 3394 with the default initial value. -/
def keyWrap (kek plain : List Byte) : List Byte :=
  let n := plain.length / 8
  let rk := aesKeys kek
  let r := (List.range (6 * n)).foldl (fun st t => wrapStep rk n st (t + 1))
    (beNat wrapIv, (chunk 8 n plain).map beNat)
  be64 r.1 ++ (r.2.map be64).flatten

/-- AES key unwrap of RFC 3394; none when the integrity check fails. -/
def keyUnwrap (kek blob : List Byte) : Option (List Byte) :=
  let n := blob.length / 8 - 1
  let rk := aesKeys kek
  let r := (List.range (6 * n)).foldl (fun st t => unwrapStep rk n st (6 * n - t))
    (beNat (blob.take 8), (chunk 8 n (blob.drop 8)).map beNat)
  if r.1 = beNat wrapIv then some ((r.2.map be64).flatten) else none

/-- The counter block of R320 for block b of the sector at offset off. -/
def ctrBlock (off minor major b : Nat) : List Byte :=
  leBlock (b + (off / 64) * 2 ^ 2 + minor * 2 ^ 36 + major * 2 ^ 43)

/-- AES-CTR of a 64-byte sector: the same function encrypts and decrypts (R320). -/
def ctrSector (kEnc : List Byte) (off minor major : Nat) (data : List Byte) : List Byte :=
  let rk := aesKeys kEnc
  let stream := ((List.range 4).map (fun b => beBlock (aesEncrypt rk (beNat (ctrBlock off minor major b))))).flatten
  List.zipWith (· ^^^ ·) data stream

/-- Doubling of an XTS tweak, low-order byte first. -/
def xtsDouble (t : Nat) : Nat := if t < 2 ^ 127 then 2 * t else ((2 * t) % 2 ^ 128) ^^^ 0x87

/-- The four tweaks of a sector: AES under K_twk of OFFSET[39:6], doubled block by block (R318). -/
def xtsTweaks (kTwk : List Byte) (off : Nat) : List Nat :=
  let t0 := leNat (aes256 kTwk (leBlock (off / 64)))
  let t1 := xtsDouble t0
  let t2 := xtsDouble t1
  [t0, t1, t2, xtsDouble t2]

/-- AES-256-XTS of a 64-byte sector (R318). -/
def xtsEncrypt (kEnc kTwk : List Byte) (off : Nat) (data : List Byte) : List Byte :=
  let rk := aesKeys kEnc
  (List.zipWith (fun t b =>
    let tb := beNat (leBlock t)
    beBlock (aesEncrypt rk (beNat b ^^^ tb) ^^^ tb)) (xtsTweaks kTwk off) (chunk 16 4 data)).flatten

/-- The inverse of AES-256-XTS of a 64-byte sector (R318). -/
def xtsDecrypt (kEnc kTwk : List Byte) (off : Nat) (data : List Byte) : List Byte :=
  let rk := aesKeys kEnc
  (List.zipWith (fun t b =>
    let tb := beNat (leBlock t)
    beBlock (aesDecrypt rk (beNat b ^^^ tb) ^^^ tb)) (xtsTweaks kTwk off) (chunk 16 4 data)).flatten

/-- One doubling step of the GHASH product: the operand moves one place toward the high powers. -/
def ghashShift (v : Nat) : Nat := if v % 2 = 0 then v / 2 else (v / 2) ^^^ (0xE1 * 2 ^ 120)

/-- Product of the GHASH field over k bits of x, taken from its high-order end. -/
def ghashMulBits : Nat → Nat → Nat → Nat
  | 0, _, _ => 0
  | k + 1, x, v => (if x / 2 ^ k % 2 = 1 then v else 0) ^^^ ghashMulBits k x (ghashShift v)

/-- Product of the GHASH field. -/
def ghashMul (x y : Nat) : Nat := ghashMulBits 128 x y

/-- GHASH with key h over 16-byte blocks (NIST SP 800-38D). -/
def ghash (h : Nat) (blocks : List (List Byte)) : Nat :=
  blocks.foldl (fun y b => ghashMul (y ^^^ beNat b) h) 0

/-- The 128-bit value T of R319 over 64 bytes and block X5, as a little-endian number. -/
def authValue (kAuth : List Byte) (data : List Byte) (x5 : Nat) : Nat :=
  let h := beNat (aes256 kAuth (leBlock 0))
  let s := ghash h (chunk 16 4 data ++ [leBlock x5])
  leNat (beBlock s) ^^^ leNat (aes256 kAuth (leBlock x5))

/-- The 64-bit tag of a Native sector (R319). -/
def nativeTag (kAuth : List Byte) (off minor major : Nat) (cipher : List Byte) : Nat :=
  authValue kAuth cipher (off / 64 + minor * 2 ^ 34 + major * 2 ^ 41) % 2 ^ 64

/-- The 32-bit MAC of a Compat sector (R319). -/
def compatMac (kAuth : List Byte) (off : Nat) (cipher : List Byte) : Nat :=
  authValue kAuth cipher (off / 64 + 2 ^ 107) % 2 ^ 32

/-- The tag of a tree node under its parent's counter (R319). -/
def nodeTag (kAuth : List Byte) (level index parentMinor parentMajor : Nat) (node : List Byte) : Nat :=
  authValue kAuth node (index + level * 2 ^ 25 + parentMinor * 2 ^ 28 + parentMajor * 2 ^ 35 + 2 ^ 126) % 2 ^ 64

end Sys2Proof.Machine
end

