-- ==== Sys2Proof/Machine/Rs.lean ====
section
/-! DEFINITION. The outer code: a systematic Reed-Solomon code over GF(2^8), its encoder and its decoder (15 R360,
R361). -/

namespace Sys2Proof.Machine

/-- One doubling in GF(2^8) under the polynomial 0x11D (R360). -/
def gfDouble (a : Nat) : Nat := if a < 128 then 2 * a else (2 * a) ^^^ 0x11D

/-- Product in GF(2^8), taken over k bits of the second factor. -/
def gfMulBits : Nat → Nat → Nat → Nat
  | 0, _, _ => 0
  | k + 1, a, b => (if b % 2 = 1 then a else 0) ^^^ gfMulBits k (gfDouble a) (b / 2)

/-- Product in GF(2^8). -/
def gfMul (a b : Nat) : Nat := gfMulBits 8 a b

/-- Power in GF(2^8). -/
def gfPow (a : Nat) : Nat → Nat
  | 0 => 1
  | n + 1 => gfMul a (gfPow a n)

/-- Inverse in GF(2^8): a^254, as the product of a^2, a^4, ... a^128. -/
def gfInv (a : Nat) : Nat :=
  let a2 := gfMul a a
  let a4 := gfMul a2 a2
  let a8 := gfMul a4 a4
  let a16 := gfMul a8 a8
  let a32 := gfMul a16 a16
  let a64 := gfMul a32 a32
  let a128 := gfMul a64 a64
  gfMul a2 (gfMul a4 (gfMul a8 (gfMul a16 (gfMul a32 (gfMul a64 a128)))))

/-- The power alpha^n, alpha = 2 (R360). -/
def gfAlpha (n : Nat) : Nat := gfPow 2 n

/-- Value at x of a polynomial given by its coefficients, highest degree first. -/
def polyEval (p : List Nat) (x : Nat) : Nat := p.foldl (fun acc c => gfMul acc x ^^^ c) 0

/-- Sum of two polynomials, lowest degree first. -/
def polyAdd : List Nat → List Nat → List Nat
  | [], q => q
  | p, [] => p
  | a :: p, b :: q => (a ^^^ b) :: polyAdd p q

/-- A polynomial times a constant. -/
def polyScale (c : Nat) (p : List Nat) : List Nat := p.map (gfMul c)

/-- Product of two polynomials, lowest degree first. -/
def polyMul : List Nat → List Nat → List Nat
  | [], _ => []
  | a :: p, q => polyAdd (polyScale a q) (0 :: polyMul p q)

/-- The generator (x - alpha^0)...(x - alpha^(r-1)), lowest degree first (R360). -/
def rsGenerator : Nat → List Nat
  | 0 => [1]
  | r + 1 => polyMul (rsGenerator r) [gfAlpha r, 1]

/-- One step of the division by the generator: the remainder register, highest degree first, takes one symbol. -/
def rsStep (gen : List Nat) (reg : List Nat) (sym : Nat) : List Nat :=
  let fb := sym ^^^ reg.headD 0
  List.zipWith (fun x g => x ^^^ gfMul fb g) (reg.drop 1 ++ [0]) gen

/-- The r check symbols of the information symbols, in stored order (R360). -/
def rsCheck (r : Nat) (info : List Nat) : List Nat :=
  let gen := ((rsGenerator r).reverse).drop 1
  info.foldl (rsStep gen) (List.replicate r 0)

/-- The stored codeword of 72 - r information bytes (R360). -/
def rsEncode (r : Nat) (info : List Byte) : List Byte :=
  info ++ (rsCheck r (info.map BitVec.toNat)).map (BitVec.ofNat 8)

/-- The r syndromes of a stored word: its values at alpha^0 to alpha^(r-1). -/
def rsSyndromes (r : Nat) (word : List Nat) : List Nat := (List.range r).map (fun j => polyEval word (gfAlpha j))

/-- The working values of the search for the error locator. -/
structure BmState where
  c : List Nat
  b : List Nat
  l : Nat
  m : Nat
  d : Nat

/-- One step of the search for the shortest error locator over the syndromes. -/
def bmStep (syn : List Nat) (st : BmState) (n : Nat) : BmState :=
  let d := (List.range (st.l + 1)).foldl (fun acc i => acc ^^^ gfMul (st.c.getD i 0) (syn.getD (n - i) 0)) 0
  if d = 0 then { st with m := st.m + 1 }
  else
    let next := polyAdd st.c (List.replicate st.m 0 ++ polyScale (gfMul d (gfInv st.d)) st.b)
    if 2 * st.l ≤ n then { c := next, b := st.c, l := n + 1 - st.l, m := 1, d := d }
    else { st with c := next, m := st.m + 1 }

/-- The error locator of a list of syndromes, lowest degree first, and its length. -/
def rsLocator (syn : List Nat) : BmState :=
  (List.range syn.length).foldl (bmStep syn) { c := [1], b := [1], l := 0, m := 1, d := 1 }

/-- The formal derivative of a polynomial, lowest degree first. -/
def polyDeriv (p : List Nat) : List Nat :=
  (List.range (p.length - 1)).map (fun i => if i % 2 = 0 then p.getD (i + 1) 0 else 0)

/-- The errors that a locator names: by stored byte, what is added to it. Byte k has locator alpha^(71 - k). -/
def rsErrors (syn loc : List Nat) : List (Nat × Nat) :=
  let omega := (polyMul syn loc).take syn.length
  (List.range 72).filterMap fun k =>
    let x := gfAlpha (71 - k)
    let xi := gfInv x
    if polyEval loc.reverse xi = 0 then
      some (k, gfMul x (gfMul (polyEval omega.reverse xi) (gfInv (polyEval (polyDeriv loc).reverse xi))))
    else none

/-- A decoded word: its bytes, the stored bytes that were corrected, and the syndromes. -/
structure RsWord where
  bytes : List Byte
  located : List Nat
  syndromes : List Nat
  deriving DecidableEq, Repr

/-- The word with its errors taken away. -/
def rsApply (word : List Nat) (errs : List (Nat × Nat)) : List Nat :=
  (List.range word.length).map (fun k => (errs.filter (fun e => e.1 = k)).foldl (fun v e => v ^^^ e.2) (word.getD k 0))

/-- The decoder: corrects up to r / 2 symbols; none when it cannot (R361). -/
def rsDecode (r : Nat) (stored : List Byte) : Option RsWord :=
  let word := stored.map BitVec.toNat
  let syn := rsSyndromes r word
  if syn.all (· == 0) then some ⟨stored, [], syn⟩
  else
    let st := rsLocator syn
    let errs := rsErrors syn st.c
    let fixed := rsApply word errs
    if 2 * st.l ≤ r ∧ errs.length = st.l ∧ (rsSyndromes r fixed).all (· == 0) then
      some ⟨fixed.map (BitVec.ofNat 8), errs.map (·.1), syn⟩
    else none

end Sys2Proof.Machine
end

