-- ==== Sys2Proof/Machine/Requester.lean ====
section
/-! DEFINITION. Sending on a QP: packet headers, packets, and the module's own requests (04 R99, 05 R112, R128). -/

namespace Sys2Proof.Machine

/-- Bytes of the path MTU of a QP (R111, XPT.QP_STATE.MTU). -/
def State.mtu (s : State) (q : Nat) : Nat :=
  match s.rd R.XPT.QP_STATE.MTU q with | 1 => 1024 | 2 => 2048 | _ => 4096

/-- A primary uses the virtual addresses unless it is fenced (R437, R438). -/
def State.useVirtual (s : State) : Bool := s.rd R.TCK.STATUS.ROLE == 1 && !s.on R.TCK.STATUS.FENCED

/-- The address pair primaries answer from, or the port's own (R99, R437): the source MAC of frames of port p. -/
def State.txMac (s : State) (p : Nat) : Nat :=
  if s.useVirtual ∧ s.rd R.TCK.VMAC.ADDR p ≠ 0 then s.rd R.TCK.VMAC.ADDR p else s.rd R.ETH.MAC.ADDR p

/-- An IPv6 address from its two halves. -/
def ip6 (hi lo : Nat) : Nat := hi * 2 ^ 64 + lo

/-- The IP address of port p itself; 0 for none. -/
def State.ownIp (s : State) (p : Nat) (v6 : Bool) : Nat :=
  if v6 then ip6 (s.rd R.ETH.IP6_HI.ADDR_HI p) (s.rd R.ETH.IP6_LO.ADDR_LO p) else s.rd R.ETH.IP4.ADDR p

/-- The virtual IP address of port p; 0 for none (R437). -/
def State.virtIp (s : State) (p : Nat) (v6 : Bool) : Nat :=
  if v6 then ip6 (s.rd R.TCK.VIP6_HI.ADDR_HI p) (s.rd R.TCK.VIP6_LO.ADDR_LO p)
  else if p = 0 then s.rd R.TCK.VIP4.PORT0 else s.rd R.TCK.VIP4.PORT1

/-- The source IP address of frames of port p (R99, R437). -/
def State.txIp (s : State) (p : Nat) (v6 : Bool) : Nat :=
  if s.useVirtual ∧ s.virtIp p v6 ≠ 0 then s.virtIp p v6 else s.ownIp p v6

/-- The destination IP address in a QP's context. -/
def State.qpDip (s : State) (q : Nat) : Nat :=
  if s.on R.XPT.QP_DEST.IPV6 q then ip6 (s.rd R.XPT.QP_DIP_HI.ADDR_HI q) (s.rd R.XPT.QP_DIP_LO.ADDR_LO q)
  else s.rd R.XPT.QP_DIP_LO.ADDR_LO q % 2 ^ 32

/-- The headers of every packet sent on QP q (R99, R112). -/
def State.txHdr (s : State) (q : Nat) : TxHdr :=
  let p := s.rd R.XPT.QP_STATE.PORT q
  let v6 := s.on R.XPT.QP_DEST.IPV6 q
  { port := p, qp := q, dmac := s.rd R.XPT.QP_DMAC.DMAC q, smac := s.txMac p,
    vlan := if s.on R.ETH.VLAN.TAG_TX p then some (s.rd R.ETH.VLAN.VID p) else none,
    prio := s.rd R.ETH.QOS_MAP.ROCE_PRIO p, dscp := s.rd R.ETH.QOS_MAP.DSCP p,
    ecn := if s.on R.ETH.CTRL.ECT_EN p then 2 else 0, ipv6 := v6, srcIp := s.txIp p v6, dstIp := s.qpDip q,
    hops := s.rd R.XPT.QP_DEST.HOP_LIMIT q, srcUdp := 0xC000 + q, dstUdp := 4791,
    pkey := s.rd R.XPT.QP_DEST.PKEY q, destQpn := s.rd R.XPT.QP_DEST.DEST_QPN q }

/-- Bytes of transport header and payload that a packet adds to the BTH. -/
def TxPacket.extra : TxPacket → Nat
  | .ack _ _ => 4
  | .nak _ _ => 4
  | .rnrNak _ _ => 4
  | .readResponse op _ d => (if op = 0x0E then 0 else 4) + ceilDiv d.length 4 * 4
  | .atomicAck _ _ => 12
  | .cnp => 16
  | .write op _ _ _ _ _ d => (if op = 0x06 ∨ op = 0x0A then 16 else 0) + ceilDiv d.length 4 * 4
  | .readRequest _ _ _ _ => 16

/-- Bytes of the frame that carries a packet, destination address through FCS. -/
def frameBytes (h : TxHdr) (p : TxPacket) : Nat :=
  max 64 (14 + (if h.vlan.isSome then 4 else 0) + (if h.ipv6 then 40 else 20) + 8 + 12 + p.extra + 4 + 4)

/-- A frame of n bytes leaves port p: port events 1 and 3 (R306). -/
def State.frameSent (s : State) (p n : Nat) : State := (s.countPort p 1).countPort p 3 (ceilDiv n 64)

/-- A packet leaves on QP q at once. While the port's link is down it is discarded (R90, R129). -/
def State.putPacket (s : State) (q : Nat) (p : TxPacket) : State :=
  let h := s.txHdr q
  if s.on R.ETH.STATUS.LINK h.port then
    ((s.emit (.packet h p)).count 49).frameSent h.port (frameBytes h p)
  else s

/-- Priority ROCE_PRIO of port p is paused by its partner (R103). -/
def State.rocePaused (s : State) (p : Nat) : Bool :=
  (s.ports.get {} p).paused.get 0 (s.rd R.ETH.QOS_MAP.ROCE_PRIO p) != 0

/-- A packet leaves on QP q, or is held while the partner pauses its priority (R103). -/
def State.sendPacket (s : State) (q : Nat) (p : TxPacket) : State :=
  let port := s.rd R.XPT.QP_STATE.PORT q
  let x := s.ports.get {} port
  if s.on R.ETH.STATUS.LINK port ∧ s.rocePaused port then
    { s with ports := s.ports.set {} port { x with txq := x.txq ++ [(q, p)] } }
  else s.putPacket q p

/-- A PFC frame. -/
def TxFrame.isPfc : TxFrame → Bool
  | .pfc _ _ => true
  | _ => false

/-- A frame with an IP header. -/
def TxFrame.isIp : TxFrame → Bool
  | .neighbourAdvert _ _ _ => true
  | .echoReply _ _ _ _ => true
  | .unsolicitedAdvert _ _ => true
  | _ => false

/-- What a frame of port p's own carries: the C-tag with ROCE_PRIO and, in an IP frame, DSCP and ECN (R99); a MAC control frame has
no tag. -/
def State.frameHdr (s : State) (p : Nat) (f : TxFrame) : FrameHdr :=
  { tag := if s.on R.ETH.VLAN.TAG_TX p ∧ ¬ f.isPfc then some (s.rd R.ETH.VLAN.VID p, s.rd R.ETH.QOS_MAP.ROCE_PRIO p) else none,
    ip := if f.isIp then some (s.rd R.ETH.QOS_MAP.DSCP p, if s.on R.ETH.CTRL.ECT_EN p then 2 else 0) else none }

/-- A frame of the port's own leaves port p at once, if its link is up. -/
def State.putFrame (s : State) (p : Nat) (f : TxFrame) (n : Nat) : State :=
  if s.on R.ETH.STATUS.LINK p then (s.emit (.frame p (s.frameHdr p f) f)).frameSent p n else s

/-- A frame of the port's own leaves port p; but for a PFC frame its priority is ROCE_PRIO, and a pause of it holds the frame (R99,
R103). -/
def State.sendFrame (s : State) (p : Nat) (f : TxFrame) (n : Nat := 64) : State :=
  if s.on R.ETH.STATUS.LINK p ∧ s.rocePaused p ∧ ¬ f.isPfc then
    let x := s.ports.get {} p
    { s with ports := s.ports.set {} p { x with frames := x.frames ++ [(f, n)] } }
  else s.putFrame p f n

/-- PSN arithmetic is modulo 2^24 (R118). -/
def psnAdd (p n : Nat) : Nat := (p + n) % 2 ^ 24

/-- How far PSN b lies above PSN a. -/
def psnDist (a b : Nat) : Nat := (b + 2 ^ 24 - a % 2 ^ 24) % 2 ^ 24

/-- Data cut into packets of the MTU; empty data is one empty packet. -/
def mtuPieces (mtu : Nat) (data : List Byte) : List (List Byte) :=
  if data.length ≤ mtu then [data] else
    (List.range (ceilDiv data.length mtu)).map (fun i => (data.drop (i * mtu)).take mtu)

/-- The opcode of packet i of n in a message, given First, Middle, Last and Only. -/
def pieceOpcode (first middle last only i n : Nat) : Nat :=
  if n ≤ 1 then only else if i = 0 then first else if i + 1 = n then last else middle

/-- The packets of one request of the module that are not acknowledged: a READ asks for what has not arrived (R128). -/
def reqPackets (mtu : Nat) (r : Req) : List TxPacket :=
  if r.isWrite then
    let ps := mtuPieces mtu r.data
    ((List.range ps.length).map fun i =>
      .write (pieceOpcode 6 7 8 10 i ps.length) (psnAdd r.psn i) r.va r.rkey r.len (i + 1 = ps.length) (ps.getD i [])).drop
        r.acked
  else
    let n := r.data.length
    [.readRequest (psnAdd r.psn (n / mtu)) (r.va + n) r.rkey (r.len - n)]

/-- Every packet of a request leaves on QP q. -/
def State.transmit (s : State) (q : Nat) (r : Req) : State :=
  (reqPackets (s.mtu q) r).foldl (fun s p => s.sendPacket q p) s

/-- READ requests outstanding on a QP as requester. -/
def Qp.readsOut (x : Qp) : Nat := (x.sent.filter (fun r => !r.isWrite)).length

/-- A request takes its PSN and leaves (R128). -/
def State.issueReq (s : State) (q : Nat) (r : Req) : State :=
  let psn := s.rd R.XPT.QP_PSN.SQ_PSN q
  let r := { r with psn := psn }
  let x := s.qp q
  ((s.wr R.XPT.QP_PSN.SQ_PSN (psnAdd psn r.pkts) q).setQp q { x with sent := x.sent ++ [r] }).transmit q r

/-- The port of QP q passes packets. -/
def State.qpLink (s : State) (q : Nat) : Bool := s.on R.ETH.STATUS.LINK (s.rd R.XPT.QP_STATE.PORT q)

/-- A READ may leave only while fewer than ORD READs are outstanding; requests leave in the order issued, and none during an
RNR wait or while the link is down, where they are held and no timer of theirs runs (R128). -/
def State.mayIssue (s : State) (q : Nat) (r : Req) : Bool :=
  s.qpLink q && !(s.qp q).rnrWait && (r.isWrite || decide ((s.qp q).readsOut < s.rd R.XPT.QP_STATE.ORD q))

/-- Requests waiting on QP q leave for as long as the depth allows. -/
def State.drainReqs : Nat → State → Nat → State
  | 0, s, _ => s
  | k + 1, s, q =>
    match (s.qp q).waiting with
    | [] => s
    | r :: rest =>
      if s.mayIssue q r then
        State.drainReqs k ((s.setQp q { s.qp q with waiting := rest }).issueReq q r) q
      else s

/-- Drain with as many steps as there are waiting requests. -/
def State.drainQp (s : State) (q : Nat) : State := State.drainReqs (s.qp q).waiting.length s q

/-- QP q in RTS. -/
def State.qpRts (s : State) (q : Nat) : Bool := s.rd R.XPT.QP_STATE.STATE q == 3

/-- A request joins the requests of QP q, which must be in RTS (R116, R128). -/
def State.request (s : State) (q : Nat) (r : Req) : State :=
  if s.qpRts q then
    (s.setQp q { s.qp q with waiting := (s.qp q).waiting ++ [r] }).drainQp q
  else s

/-- A WRITE of data to client memory on QP q. -/
def State.postWrite (s : State) (q va rkey : Nat) (data : List Byte) (use : ReqUse) : State :=
  s.request q { isWrite := true, va := va, rkey := rkey, len := data.length, data := data, psn := 0,
                pkts := max 1 (ceilDiv data.length (s.mtu q)), use := use }

/-- A READ of client memory on QP q. -/
def State.postRead (s : State) (q va rkey len : Nat) (use : ReqUse) : State :=
  s.request q { isWrite := false, va := va, rkey := rkey, len := len, data := [], psn := 0,
                pkts := max 1 (ceilDiv len (s.mtu q)), use := use }

end Sys2Proof.Machine
end

