-- ==== Sys2Proof/Machine/Events.lean ====
section
/-! DEFINITION. Event queues (07 R192, R193) and the loss of a ring's QP (R185). -/

namespace Sys2Proof.Machine

/-- Records of a client's event queue (R192). -/
def State.eqSize (s : State) (c : Nat) : Nat := 2 ^ s.rd R.SHU.EQ_CTRL.LOG2 c

/-- Records posted beyond the last reported head. -/
def State.eqUsed (s : State) (c : Nat) : Nat :=
  (s.rd R.SHU.EQ_STATUS.POSTED c + s.eqSize c - (s.eq c).head) % s.eqSize c

/-- The queue holds size - 1 records not reported as read (R193). -/
def State.eqFull (s : State) (c : Nat) : Bool := s.eqSize c ≤ s.eqUsed c + 1

/-- The FULL bit follows the queue. -/
def State.eqMark (s : State) (c : Nat) : State := s.put R.SHU.EQ_STATUS.FULL (s.eqFull c) c

/-- The 32 bytes of an event record (R192). -/
def eventRecord (typ arg0 arg1 tick : Nat) (phase : Bool) : List Byte :=
  leBytes 8 (typ + phase.toNat * 2 ^ 63) ++ leBytes 8 arg0 ++ leBytes 8 arg1 ++ leBytes 8 tick

/-- A record goes to the next index; the phase toggles at each wrap (R177, R192). -/
def State.eqWrite (s : State) (c typ arg0 arg1 : Nat) : State :=
  let i := s.rd R.SHU.EQ_STATUS.POSTED c
  let next := (i + 1) % s.eqSize c
  let rec0 := eventRecord typ arg0 arg1 s.tick (s.on R.SHU.EQ_STATUS.PHASE c)
  let s' := s.postWrite (s.rd R.SHU.EQ_CTRL.QP c) ((s.rd R.SHU.EQ_BASE.VA c + 32 * i) % 2 ^ 64)
    (s.rd R.SHU.EQ_CTRL.RKEY c) rec0 (.event c)
  let s' := s'.wr R.SHU.EQ_STATUS.POSTED next c
  let s' := if next = 0 then s'.put R.SHU.EQ_STATUS.PHASE (!s.on R.SHU.EQ_STATUS.PHASE c) c else s'
  (s'.count 70).eqMark c

/-- An event that finds no room is discarded and counted (R193). -/
def State.eqLose (s : State) (c : Nat) : State :=
  ((s.setEq c { s.eq c with lost := (s.eq c).lost + 1 }).bump R.SHU.EQ_STATUS.LOST c).count 71

/-- When space returns after a loss, an EVENTS_LOST record with the count goes first (R193). -/
def State.eqRecover (s : State) (c : Nat) : State :=
  if s.on R.SHU.EQ_CTRL.EN c ∧ 0 < (s.eq c).lost ∧ ¬ s.eqFull c then
    (s.setEq c { s.eq c with lost := 0 }).eqWrite c 0x00FF (s.eq c).lost 0
  else s

/-- An event of a class is posted to client c if the class is subscribed and the queue enabled. While the module holds
EN clear because the queue's QP left RTS, the event counts as lost (R193). -/
def State.postEvent (s : State) (c cls typ arg0 arg1 : Nat) : State :=
  if ¬ s.rdBit R.SHU.EQ_CTRL.MASK cls c then s
  else if s.on R.SHU.EQ_CTRL.EN c then
    let s := s.eqRecover c
    if s.eqFull c then s.eqLose c else s.eqWrite c typ arg0 arg1
  else if (s.eq c).cut then s.eqLose c
  else s

/-- An event of a class to client c finds room now: it would be posted (R193). -/
def State.eqPosts (s : State) (c cls : Nat) : Bool :=
  s.rdBit R.SHU.EQ_CTRL.MASK cls c && s.on R.SHU.EQ_CTRL.EN c && !(s.eqRecover c).eqFull c

/-- An event to every client (R90, R444). -/
def State.postAll (s : State) (cls typ arg0 arg1 : Nat) : State :=
  (List.range 64).foldl (fun s c => s.postEvent c cls typ arg0 arg1) s

/-- Ring states (R182). -/
def ringDisabled : Nat := 0
/-- ACTIVE. -/
def ringActive : Nat := 1
/-- HALTED. -/
def ringHalted : Nat := 2
/-- DETACHED. -/
def ringDetached : Nat := 3
/-- DRAINING. -/
def ringDraining : Nat := 4

/-- The rings that are not DISABLED and name QP q (R161). -/
def State.ringsOn (s : State) (q : Nat) : List Nat :=
  (s.stored R.SHU.RING_CTRL.STATE).filter
    (fun r => s.rd R.SHU.RING_CTRL.STATE r != ringDisabled && s.rd R.SHU.RING_CTRL.QP r == q)

/-- The accesses in flight under grant g are n, shown up to 4095 (R145). -/
def State.setInUse (s : State) (g n : Nat) : State :=
  ({ s with inUse := s.inUse.set 0 g n } : State).wr R.BLT.GRANT.INFLIGHT (min n 4095) g

/-- A request checked under a grant is in flight (R145). -/
def State.grantIn (s : State) (g : Nat) : State := s.setInUse g (s.inUse.get 0 g + 1)

/-- A request checked under a grant has ended (R145). -/
def State.grantOut (s : State) (g : Nat) : State := s.setInUse g (s.inUse.get 0 g - 1)

/-- Byte k of a descriptor. -/
def Desc.byte (d : Desc) (k : Nat) : Nat := (d.image.getD k 0).toNat

/-- The 64-bit field at byte k of a descriptor (R163). -/
def Desc.field (d : Desc) (k : Nat) : Nat := leNat (sliceBytes d.image k 8)

/-- OPCODE (R163). -/
def Desc.op (d : Desc) : Nat := d.byte 0

/-- SUBOP (R163). -/
def Desc.subop (d : Desc) : Nat := d.byte 3

/-- A Needle descriptor (08). -/
def Desc.needle (d : Desc) : Bool := decide (0x10 ≤ d.op ∧ d.op ≤ 0x16)

/-- The descriptor moves data only inside the module (R185, 08 R221). -/
def Desc.internal (d : Desc) : Bool :=
  [0x01, 0x02, 0x20, 0x21].contains d.op || (d.needle && d.subop / 64 == 1)

/-- Descriptors of ring r that pass a test end without a record: their grants are no longer in use, and a Needle descriptor
that has started counts as failed (08 NDL.OPS). -/
def State.dropDescs (s : State) (r : Nat) (p : Desc → Bool) : State :=
  let x := s.ring r
  let n := (x.descs.filter p).countP (fun d => d.needle && d.startNo != 0)
  let s := (s.count 84 n).bump R.NDL.OPS.FAILED 0 n
  let s := ((x.descs.filter p).flatMap (·.grants)).foldl State.grantOut s
  s.setRing r { x with descs := x.descs.filter (fun d => !p d) }

/-- A ring whose QP leaves RTS becomes DETACHED; no record and no release follows, and only descriptors that move data inside
the module go on. RING_HALTED is posted only where the event queue's QP is in RTS (R185). -/
def State.detachRing (s : State) (r : Nat) : State :=
  let s := s.wr R.SHU.RING_CTRL.STATE ringDetached r
  let s := (s.wr R.SHU.RING_STATUS.LAST_STATUS 0x40 r).wr R.SHU.RING_STATUS.CQ_FULL 0 r
  let s := s.dropDescs r (fun d => d.stage == .consumed || !d.internal)
  let s := s.setRing r { s.ring r with fetching := [], returned := [], ended := [], unreleased := [],
                                       resumePending := false, fence := none, fenceOthers := [] }
  let s := s.count 72
  let c := r / 4
  if s.on R.SHU.EQ_CTRL.EN c ∧ ¬ s.qpRts (s.rd R.SHU.EQ_CTRL.QP c) then s else s.postEvent c 1 0x0002 (r % 4) 0x40

/-- A DRAINING ring whose QP leaves RTS: its transfers with the client have failed and its records are discarded (R116,
R186). -/
def State.failTransfers (s : State) (r : Nat) : State :=
  let x := s.ring r
  let fail (d : Desc) : Desc :=
    if d.outs ≠ 0 ∨ (d.issued ∧ d.stage = .started) then
      { d with outs := 0, stage := .done, status := if d.status = 0 then 0x40 else d.status, arrived := [] }
    else d
  (s.wr R.SHU.RING_STATUS.CQ_FULL 0 r).setRing r { x with descs := x.descs.map fail, ended := [], unreleased := [] }

/-- A ring that is not DISABLED loses its QP: ACTIVE and HALTED rings detach (R185, R186). -/
def State.ringLosesQp (s : State) (r : Nat) : State :=
  let st := s.rd R.SHU.RING_CTRL.STATE r
  if st = ringActive ∨ st = ringHalted then s.detachRing r
  else if st = ringDraining then s.failTransfers r
  else s

/-- The clients whose enabled event queue uses QP q. -/
def State.eqsOn (s : State) (q : Nat) : List Nat :=
  (s.stored R.SHU.EQ_CTRL.EN).filter (fun c => s.on R.SHU.EQ_CTRL.EN c && s.rd R.SHU.EQ_CTRL.QP c == q)

/-- An event queue whose QP leaves RTS loses EN (R193). -/
def State.cutEq (s : State) (c : Nat) : State :=
  (s.wr R.SHU.EQ_CTRL.EN 0 c).setEq c { s.eq c with cut := true }

/-- QP q has left RTS: its requests are gone, its event queues stop, its rings detach (R116, R185, R193). -/
def State.leaveRts (s : State) (q : Nat) : State :=
  let s := s.setQp q { s.qp q with waiting := [], sent := [], rnrWait := false }
  let s := (s.eqsOn q).foldl State.cutEq s
  (s.ringsOn q).foldl State.ringLosesQp s

/-- A NAK that ends its QP (R116, R127). -/
def TxPacket.fatal : TxPacket → Bool
  | .nak _ syndrome => 0x61 ≤ syndrome
  | _ => false

/-- Packets of QP q that a pause still holds are discarded, but for those that pass a test (R114, R116). -/
def State.purge (s : State) (q : Nat) (keep : TxPacket → Bool) : State :=
  { s with ports := s.ports.mapVals (fun _ x => { x with txq := x.txq.filter (fun e => e.1 != q || keep e.2) }) }

/-- What a QP still had to answer is gone: its requests end, and the grants they were checked under (R116, R145). -/
def State.dropHeld (s : State) (q : Nat) : State :=
  let x := s.qp q
  let gs := (match x.msg with | some m => if m.mode = 0 then [m.grant] else [] | none => []) ++ x.held.filterMap (·.grant)
  let s := gs.foldl State.grantOut s
  s.setQp q { x with msg := none, held := [], unacked := [], nakSent := false }

/-- QP q enters ERROR (R116): nothing more is sent but the NAK that ends it, responses not yet sent are discarded, and its requests
fail. -/
def State.qpError (s : State) (q syndrome side : Nat) : State :=
  let s := s.wr R.XPT.QP_STATE.STATE 4 q
  let s := s.wr R.XPT.QP_STATE.ERR_SYNDROME syndrome q
  let s := s.wr R.XPT.QP_STATE.ERR_SIDE side q
  ((s.purge q TxPacket.fatal).dropHeld q).leaveRts q

end Sys2Proof.Machine
end

