-- ==== Sys2Proof/Machine/Reset.lean ====
section
/-! DEFINITION. Recording a fault, the ALIVE output, and the return to Boot: what the OTP gives at Boot step 1 and what a
reset leaves (19 R443-R447, R453, 20 R457, R466, R469, 00 R18). -/

namespace Sys2Proof.Machine

/-- The sticky word of source i and its bit. -/
def stickyField (i : Nat) : Fld := if i < 64 then R.FLT.STICKY0.STICKY else R.FLT.STICKY1.STICKY

/-- The pin-hold word of source i. -/
def holdField (i : Nat) : Fld := if i < 64 then R.FLT.PIN_HOLD0.HOLD else R.FLT.PIN_HOLD1.HOLD

/-- Sticky bit of source i (R443). -/
def State.sticky (s : State) (i : Nat) : Bool := s.rdBit (stickyField i) (i % 64)

/-- Pin hold of source i (R443). -/
def State.pinHold (s : State) (i : Nat) : Bool := s.rdBit (holdField i) (i % 64)

/-- A hold on ALIVE is in force (R453). -/
def State.aliveHeld (s : State) : Bool :=
  s.on R.FLT.PIN_HOLD0.HOLD || s.on R.FLT.PIN_HOLD1.HOLD || s.on R.FLT.ALIVE.WDT_HELD || s.on R.FLT.ALIVE.BOOT_HELD

/-- ALIVE follows its holds: low while one is in force; when the last ends it rises at once and toggles from there
(R453), but not while both clocks have stopped (03 R80). -/
def State.aliveFollow (s : State) : State :=
  let pin := s.on R.FLT.PIN_HOLD0.HOLD || s.on R.FLT.PIN_HOLD1.HOLD
  let s := s.put R.FLT.ALIVE.PIN_HELD pin
  if s.aliveHeld then (s.wr R.FLT.ALIVE.LEVEL 0).wr R.FLT.ALIVE.TOGGLING 0
  else if s.on R.FLT.ALIVE.TOGGLING ∨ s.clocks.stopped then s
  else
    let s := (s.wr R.FLT.ALIVE.LEVEL 1).wr R.FLT.ALIVE.TOGGLING 1
    { s with pins := { s.pins with aliveEdge := s.tick } }

/-- ALERT_N is low while a source with ALERT = 1 has its sticky bit set (R455). -/
def State.alertN (s : State) : Bool :=
  !((List.range 128).any (fun i => s.sticky i && s.on R.FLT.SRC.ALERT i))

/-- FLT.LAST after a raise of source i: the lowest source of the tick, and whether every raise of that source in the tick
was injected (R445). -/
def State.recordLast (s : State) (i : Nat) (injected : Bool) : State :=
  let same := s.on R.FLT.LAST.VALID && s.rd R.FLT.LAST_TICK.TICK == s.tick
  let old := s.rd R.FLT.LAST.SOURCE
  let s := s.bump R.FLT.LAST.RAISES
  if same && old < i then s
  else
    let inj := if same && old == i then injected && s.on R.FLT.LAST.INJECTED else injected
    (((s.wr R.FLT.LAST.SOURCE i).wr R.FLT.LAST.VALID 1).put R.FLT.LAST.INJECTED inj).wr R.FLT.LAST_TICK.TICK s.tick

/-- Steps 1 and 2 of R443, and the pin hold of step 4. -/
def State.markFault (s : State) (i : Nat) (injected : Bool) : State :=
  let fresh := !s.sticky i
  let s := s.wrBit (stickyField i) (i % 64) true
  let s := s.bump R.FLT.SRC.COUNT i
  let s := if fresh then s.count 7 else s
  let s := s.recordLast i injected
  if s.on R.FLT.SRC.PIN i then (s.wrBit (holdField i) (i % 64) true).aliveFollow else s

/-- The block that a raise of source i resets under reaction 3: its owner, or the unit that raised a port or lane source
(R446, R448). -/
def faultBlock (i : Nat) (unit : Block) : Block :=
  match faultRow i with
  | some (.port, _, _) => unit
  | some (.portOrTack, _, _) => unit
  | some (.tack, _, _) => .tack
  | some (.thimble, _, _) => .thimble
  | _ => .other

/-- A FAULT event of source i is owed if CLIENT = 1 (R443, R444). -/
def State.oweEvent (s : State) (i : Nat) : Due :=
  if s.on R.FLT.SRC.CLIENT i then { s.due with events := s.due.events ++ [i] } else s.due

/-- What the reaction of a raise owes (R443): 1 and 2 act only on a clear sticky bit; 4 acts as 2 in Boot and Maintenance
(R445). -/
def State.react (s : State) (i : Nat) (fresh : Bool) (unit : Block) : Due :=
  let r := s.rd R.FLT.SRC.REACTION i
  let r := if r = 4 ∧ (s.mode = modeBoot ∨ s.mode = modeMaint) then 2 else r
  match r with
  | 1 => if fresh then { s.oweEvent i with ints := s.due.ints + 1 } else s.due
  | 2 => if fresh then { s.oweEvent i with traps := s.due.traps + 1 } else s.due
  | 3 => { s.oweEvent i with ints := s.due.ints + 1, blocks := s.due.blocks ++ [faultBlock i unit] }
  | 4 => { s.due with reset := some (match s.due.reset with | some j => min i j | none => i) }
  | _ => s.due

/-- A raise of source i (R443, R445). What its reaction owes is settled when the command ends. -/
def State.raise (s : State) (i : Nat) (unit : Block := .other) (injected : Bool := false) : State :=
  let fresh := !s.sticky i
  let s := s.markFault i injected
  { s with due := s.react i fresh unit }

/-- A record of the module in Pattern store word w: committed if it changes the word; on a frozen word it takes effect
until power-good without being stored, and PAT_WORD_FROZEN is raised (R472). -/
def State.patRecord (s : State) (w v : Nat) : State :=
  if s.pat w = v then s
  else if s.patFrozen w then
    { s with per := { s.per with patShadow := s.per.patShadow.put w v } }.raise Src.patWordFrozen
  else s.patCommit w v

/-- The value of OTP word w for use: the normal reference, or the firmware's default where it is uncorrectable (R466). -/
def State.otpUse (s : State) (w : Nat) : Nat :=
  match s.otpWord w with
  | none => 0
  | some x => match x.normal with | some v => v | none => (Config.otpDefault w).toNat

/-- Word w is programmed or marginal (R466). -/
def State.otpSet (s : State) (w : Nat) : Bool := (s.otpWord w).isSome

/-- Word w is marginal: its two reads differ or one is uncorrectable (R466). -/
def OtpWord.marginal (x : OtpWord) : Bool :=
  match x.normal, x.tight with
  | some a, some b => a != b
  | _, _ => true

/-- The marginal words (R466). -/
def State.otpMarginals (s : State) : List Nat :=
  s.per.otp.keys.filter (fun w => match s.otpWord w with | some x => x.marginal | none => false)

/-- Every word of a run is programmed or marginal. -/
def State.otpAll (s : State) (w n : Nat) : Bool := (List.range n).all (fun k => s.otpSet (w + k))

/-- The owner bank that word 64 names: 0 when it is not programmed, 1 where its normal read is not 1 or 2 (R466). -/
def State.ownerBank (s : State) : Nat :=
  match s.otpWord 64 with
  | none => 0
  | some x => if x.normal = some 2 then 2 else 1

/-- The first word of an owner bank. -/
def bankWord (b : Nat) : Nat := if b = 2 then 40 else 36

/-- The lifecycle state (R469). -/
def State.lifecycle (s : State) : Nat :=
  if s.otpSet 66 then 3 else if s.otpSet 65 then 2 else if s.otpSet 64 then 1 else 0

/-- The minimum SVN: 1 + the highest step word programmed (R466). -/
def State.minSvn (s : State) : Nat :=
  (List.range 63).foldl (fun m k => if s.otpSet (128 + k) then k + 1 else m) 0

/-- What Boot step 1 takes from the OTP (R457, R466, R469, R339, R100). -/
def State.otpBoot (s : State) : State :=
  let words := s.otpMarginals
  let marg := words.length
  let s := { s with per := { s.per with otpMarg := words, patchLock := s.otpSet 69 } }
  let s := s.wr R.OTP.STATUS.MARGINAL (min marg 1023)
  let s := s.wr R.OTP.STATUS.MIN_SVN s.minSvn
  let s := s.wr R.MOD.FW_STATUS.MIN_SVN s.minSvn
  let s := s.put R.OTP.STATUS.SECRET_SET (s.otpAll 32 4)
  let s := s.wr R.OTP.STATUS.OWNER_BANK s.ownerBank
  let s := s.wr R.PRT.LIFE.LIFECYCLE s.lifecycle
  let s := s.put R.PRT.LIFE.OWNER_SET (s.ownerBank != 0 && s.otpAll (bankWord s.ownerBank) 4)
  let s := s.put R.PRT.LIFE.DEBUG_LOCK (s.otpSet 67)
  let s := s.put R.PRT.LIFE.COMPAT_LOCK (s.otpSet 68)
  let s := if s.otpSet 68 then s.wr R.PRT.CFG.COMPAT_EN 0 else s
  let s := s.wr R.PRT.MRIGHTS.SCOPE (if s.lifecycle < 2 then 2 else 1) 68
  let s := s.wr R.CLK.BKP.TRIM (s.otpUse 2)
  let s := s.wr R.ETH.MAC.ADDR (s.otpUse 1) 0
  let s := s.wr R.ETH.MAC.ADDR (s.otpUse 1 + 1) 1
  if marg = 0 then s else s.raise Src.otpMarginal

/-- The words that Boot loads from the Pattern store (R18, R472). -/
def State.patBoot (s : State) : State := s.wr R.MOD.BOOT_CFG.BIST_SKIP (s.pat 129)

/-- Boot starts again after a reset: everything at its reset value but what a reset keeps - the time base, the persistent
words, the straps, RST_N's hold (22 R483-R485), the SMBus slave, the pins, the stored bytes of the stack (which no map entry names any more), the
outputs so far, the replica's speed, the loss of the backup oscillator and the queue (R18, R62, R80, R155, R158, R259, R280, R317, R457, R473). -/
def State.reboot (s : State) : State :=
  let r : State :=
    { State.reset with
      pending := s.pending, powered := s.powered, tick := s.tick, freeCtr := s.freeCtr, out := s.out,
      pins := s.pins, per := { s.per with job := none, secret := none, kek := none, data := [0, 0, 0, 0], patches := [] },
      smb := s.smb, guard := { badKeys := s.guard.badKeys }, thimble := { s.thimble with lastExpiry := none, expiryReset := false, resetting := false, sram := .cleared },
      mem := { cells := s.mem.cells, patterned := s.mem.patterned }, boot := { resetHeld := s.boot.resetHeld } }
  let r := r.wr R.MOD.STATUS.MAINT_STRAP (s.rd R.MOD.STATUS.MAINT_STRAP)
  let r := r.wr R.MOD.STATUS.SLOT_ID (s.rd R.MOD.STATUS.SLOT_ID)
  let r := r.wr R.THM.STATE.THERMTRIP (s.rd R.THM.STATE.THERMTRIP)
  let r := r.wr R.CLK.WEAVE_SPEED.SPEED (s.rd R.CLK.WEAVE_SPEED.SPEED)
  let r := r.wr R.CLK.STATUS.BKP_OK (s.rd R.CLK.STATUS.BKP_OK)
  let r : State := { r with clocks := { r.clocks with stopped := s.clocks.stopped } }
  let r := r.wr R.TIM.RESET_TICK.TICK s.tick
  r.otpBoot.patBoot

/-- The cause word of the last fault-caused module reset (FLT.RESET_CAUSE, R447). -/
def State.recordCause (s : State) (i : Nat) : State :=
  let n := bits (s.pat 128) 16 32
  s.patRecord 128 (i + 2 ^ 7 + min (n + 1) (2 ^ 32 - 1) * 2 ^ 16)

/-- A module reset that a fault source causes (R447). -/
def State.faultReset (s : State) (i : Nat) : State := (s.recordCause i).reboot

end Sys2Proof.Machine
end

