-- ==== Sys2Proof/Machine/Rows.lean ====
section
/-! DEFINITION. The rows of a bank: soft repair, the activate tables and their neighbour refreshes, and the fill of calibration (02
R39, 14 R352, R353, 16 R383, 20 R459). -/

namespace Sys2Proof.Machine

/-- The least element of a list under a list-valued key, compared left to right; the first on a tie. -/
def lexLe : List Int → List Int → Bool
  | [], _ => true
  | _, [] => false
  | a :: as, b :: bs => if a < b then true else if b < a then false else lexLe as bs

/-- Insertion by key, before the first larger one. -/
def insertBy {α : Type} (key : α → List Int) (x : α) : List α → List α
  | [] => [x]
  | y :: ys => if lexLe (key y) (key x) then y :: insertBy key x ys else x :: y :: ys

/-- A list in rising order of key; equal keys keep their order. -/
def sortBy {α : Type} (key : α → List Int) (l : List α) : List α := l.foldl (fun acc x => insertBy key x acc) []

/-- The repair records in force: Pattern store words 3072 to 3583 with VALID set (R459). -/
def State.repairs (s : State) : List (Nat × Nat) :=
  let ws := (s.per.pat.keys ++ s.per.patShadow.keys).filter (fun w => 3072 ≤ w && w ≤ 3583)
  (sortBy (fun (w : Nat) => [(w : Int)]) ws.eraseDups).filterMap (fun w => let v := s.pat w; if bit v 63 then some (w, v) else none)

/-- The bank a record names: channel, pseudo-channel, ply, bank. -/
def repairBank (v : Nat) : Nat × Nat × Nat × Nat := (bits v 0 5, bits v 5 1, bits v 6 2, bits v 8 4)

/-- The physical row of row r of a bank: a repaired row is its spare, 32768 + n for spare n (R39, R459). -/
def State.physRow (s : State) (c pc ply bank r : Nat) : Nat :=
  match (s.repairs.filter (fun w => repairBank w.2 == (c, pc, ply, bank) && !bit w.2 33 && bits w.2 12 15 == r)).getLast? with
  | some w => 32768 + bits w.2 27 6
  | none => r

/-- The number of a bank in its channel. -/
def bankNum (pc ply bank : Nat) : Nat := (pc * 4 + ply) * 16 + bank

/-- The entry of an activate table that an activate of row r uses, after it (R352). -/
def rowHit (t : List RowCount) (r : Nat) : List RowCount × Nat :=
  match t.findIdx? (fun e => e.row == r) with
  | some i => let n := (t.getD i ⟨r, 0⟩).count + 1; (t.set i ⟨r, n⟩, i)
  | none =>
    if t.length < 32 then (t ++ [⟨r, 1⟩], t.length)
    else
      let low := t.foldl (fun m e => min m e.count) (t.getD 0 ⟨0, 0⟩).count
      let i := t.findIdx (fun e => e.count == low)
      (t.set i ⟨r, low + 1⟩, i)

/-- The repair records of one bank. -/
def State.repairsOf (s : State) (c pc ply bank : Nat) : List Nat :=
  (s.repairs.map (·.2)).filter (fun v => repairBank v == (c, pc, ply, bank))

/-- A row of a bank with some repair records that soft repair has replaced, or a spare that is bad: it is never activated (R39,
R352, R459). -/
def deadRow (rs : List Nat) (r : Nat) : Bool :=
  if r < 32768 then rs.any (fun v => !bit v 33 && bits v 12 15 == r) else rs.any (fun v => bit v 33 && bits v 27 6 == r - 32768)

/-- The physical neighbours of a row at distance 1 and 2: data rows and spare rows are two runs of their own, and a dead row
is none (R39). -/
def rowNeighbours (dead : Nat → Bool) (r : Nat) : List Nat :=
  let lo := if r < 32768 then 0 else 32768
  let hi := if r < 32768 then 32768 else 32832
  (([(r : Int) - 2, (r : Int) - 1, (r : Int) + 1, (r : Int) + 2].filter (fun (n : Int) => decide ((lo : Int) ≤ n ∧ n < (hi : Int)))).map
    Int.toNat).filter (fun n => !dead n)

/-- What a bank has still to do: activate a row, or end a row's neighbour refresh. -/
inductive RowOp where
  | act (row : Nat)
  | done (row : Nat)
  deriving DecidableEq, Repr

/-- A bank's activate table, with the activates and neighbour refreshes made and the highest count reached. -/
structure RowTrace where
  table : List RowCount
  acts : Nat := 0
  refreshes : Nat := 0
  peak : Nat := 0
  deriving DecidableEq, Repr

/-- Operations of one bank in order (R352): a count at the threshold refreshes the row's neighbours before anything else, and
those activates count too; then the row's count is 0. A row whose refresh is in progress does not start another. -/
def runRows (dead : Nat → Bool) (thresh : Nat) : Nat → RowTrace → List RowOp → RowTrace
  | 0, x, _ => x
  | _ + 1, x, [] => x
  | k + 1, x, .done r :: ops =>
    runRows dead thresh k { x with table := x.table.map (fun e => if e.row = r then { e with count := 0 } else e) } ops
  | k + 1, x, .act r :: ops =>
    match rowHit x.table r with
    | (t, i) =>
      let n := (t.getD i ⟨r, 0⟩).count
      let x : RowTrace := { x with table := t, acts := x.acts + 1, peak := max x.peak n }
      if thresh ≤ n ∧ ¬ ops.contains (.done r) then
        runRows dead thresh k { x with refreshes := x.refreshes + 1 } ((rowNeighbours dead r).map .act ++ .done r :: ops)
      else runRows dead thresh k x ops

/-- What activates of rows make of the table of a bank with some repair records (R352). Refreshes cannot feed on themselves for
long: a count starts again at 0. -/
def rowTrace (rs : List Nat) (thresh : Nat) (t : List RowCount) (rows : List Nat) : RowTrace :=
  runRows (deadRow rs) thresh (8 * rows.length + 4096) { table := t } (rows.map .act)

/-- What the channel of cell c does n times on one of its plies deposits in all four, at its operating point, and counts in the credit
period (17 R389, R403). -/
def State.charge (s : State) (k : Charge) (c ply n : Nat) : State :=
  let cost (j : Nat) : Nat := n * Config.energyWeight k (s.rd R.CHN.STATUS.POINT c) ply j
  { s with hem := { s.hem with
      energy := (List.range 4).foldl (fun m j => m.set 0 (cellNode c j) (m.get 0 (cellNode c j) + cost j)) s.hem.energy,
      spent := (List.range 4).foldl (fun e j => e + cost j) s.hem.spent } }

/-- A bank takes a trace of activates: its table, the counts, the peak and their energy (R352, R306, 17 R389). -/
def State.takeTrace (s : State) (c n : Nat) (t : RowTrace) : State :=
  let x := s.chan c
  let s := s.setChan c { x with tables := x.tables.set [] n t.table }
  let s := ((s.countChan c 2 t.acts).countChan c 4 t.refreshes).bump R.CHN.RH_STAT.NEIGHBOUR_REFRESHES c t.refreshes
  (s.wr R.CHN.RH_STAT.PEAK (max t.peak (s.rd R.CHN.RH_STAT.PEAK c)) c).charge .activate c (n / 16 % 4) t.acts

/-- An activate of one physical row (R352). -/
def State.activate (s : State) (c pc ply bank row : Nat) : State :=
  let n := bankNum pc ply bank
  s.takeTrace c n (rowTrace (s.repairsOf c pc ply bank) (s.chan c).thresh ((s.chan c).tables.get [] n) [row])

/-- The fill bursts of a sweep, or of training at Boot, write and read the calibration row of one bank: their activates count in its
activate table, the row holds their pattern, and it is closed again (16 R383, R352). -/
def State.fillRow (s : State) (a : FillActs) : State :=
  let k := a.channel.val
  let n := a.bank.val
  if s.tornPc (2 * k + n / 64) ∨ (a.count = 0 ∧ a.bursts = 0) then s else
  let row := s.physRow k (n / 64) (n / 16 % 4) (n % 16) 32767
  let t := rowTrace (s.repairsOf k (n / 64) (n / 16 % 4) (n % 16)) (s.chan k).thresh ((s.chan k).tables.get [] n) (List.replicate a.count row)
  let s := (s.takeTrace k n t).charge .fill k (n / 16 % 4) a.bursts
  let s := s.setChan k { s.chan k with openRow := (s.chan k).openRow.del n }
  { s with cal := { s.cal with filled := s.cal.filled.put (128 * k + n) true } }

/-- What the fill of a sweep of channel c does: every other channel of the tier carries it (16 R383). -/
def State.fillBurst (s : State) (c : Nat) (a : FillActs) : State :=
  if a.channel.val / 8 ≠ c / 8 ∨ a.channel.val = c then s else s.fillRow a

/-- What the fill of a sweep of channel c has done by its end (16 R383). -/
def State.fillBursts (s : State) (c : Nat) (acts : List FillActs) : State := acts.foldl (State.fillBurst · c ·) s

end Sys2Proof.Machine
end

