-- ==== Sys2Proof/Machine/Faults.lean ====
section
/-! DEFINITION. Links going down, block resets, and what the raises of one command owe when it ends (04 R90, 18 R419,
R434, 19 R443-R447). -/

namespace Sys2Proof.Machine

/-- A port's state beside its registers. -/
def State.port (s : State) (p : Nat) : Port := s.ports.get {} p

/-- The state with port p's hidden state replaced. -/
def State.setPort (s : State) (p : Nat) (x : Port) : State := { s with ports := s.ports.set {} p x }

/-- The lanes of port p (04 R85). -/
def portLanes (p : Nat) : List Nat := [4 * p, 4 * p + 1, 4 * p + 2, 4 * p + 3]

/-- A lane is in loopback or its generator is on (04 R107). -/
def State.laneTest (s : State) (l : Nat) : Bool := s.on R.SDS.CTRL.LOOPBACK l || s.on R.SDS.CTRL.PRBS_GEN l

/-- A lane of port p is in loopback or generating (ETHn.STATUS.LOOPBACK). -/
def State.portTest (s : State) (p : Nat) : Bool := (portLanes p).any s.laneTest

/-- ETHn.STATUS.LOOPBACK follows the lanes. -/
def State.testMark (s : State) : State :=
  (s.put R.ETH.STATUS.LOOPBACK (s.portTest 0) 0).put R.ETH.STATUS.LOOPBACK (s.portTest 1) 1

/-- The line rate of a port as regulation shows it (R293, QOS.PORT). -/
def State.portRate (s : State) (p rate : Nat) : State :=
  if p = 0 then s.wr R.QOS.PORT.PORT0 rate else s.wr R.QOS.PORT.PORT1 rate

/-- A bring-up attempt of port p, or the wait after one, ends. -/
def State.portIdle (s : State) (p : Nat) : State :=
  (s.setPort p { s.port p with attempt := false, waiting := false }).wr R.ETH.STATUS.BRINGUP 0 p

/-- The QPs bound to port p. -/
def State.qpsOnPort (s : State) (p : Nat) : List Nat := s.qps.keys.filter (fun q => s.rd R.XPT.QP_STATE.PORT q == p)

/-- The link of port p goes down: R90 without its fault. Frames queued and responses not yet sent are discarded; an attempt
in progress ends. -/
def State.portDrop (s : State) (p : Nat) : State :=
  let s := s.portIdle p
  let s := s.setPort p { s.port p with txq := [], frames := [] }
  let s := (s.qpsOnPort p).foldl (fun (s : State) q => s.setQp q { s.qp q with unacked := [] }) s
  let s := ((s.wr R.ETH.STATUS.LINK 0 p).wr R.ETH.STATUS.SPEED 0 p).wr R.ETH.STATUS.ACTIVE_LANES 0 p
  let s := s.wr R.ETH.STATUS.PFC_TX_XOFF 0 p
  let s := (s.bump R.ETH.LINK_EVT.DOWNS p).wr R.ETH.LINK_TICK.TICK s.tick p
  ((s.countPort p 11).portRate p 0).postAll 2 0x0010 p 0

/-- The link of port p, if it is up, goes down (R90); an attempt to bring it up ends. -/
def State.portLinkDown (s : State) (p : Nat) : State :=
  if s.on R.ETH.STATUS.LINK p then (s.portDrop p).raise Src.ethLinkDown (.port p) else s.portIdle p

/-- The pair link's working state after the link is down: the pair key, the roles' memory and frames stay. -/
def Tack.down (t : Tack) (tick : Nat) (paired : Bool) : Tack :=
  { t with attempt := false, waiting := false, aligned := [], counting := none, tries := {}, peerTrain := none,
           lanes := [], coded := false, deskewed := false, peer := none, settled := none, carries := false, txKey := [], rxKey := [],
           downTick := some tick, pairedAtLoss := paired, decided := false, lastResend := none }

/-- A handover that has not been sent ends, and the module goes on in the mode it is in (R442). -/
def State.dropHandover (s : State) : State :=
  if s.tack.handover then
    let s : State := { s with boot := { s.boot with target := 0, targetPoint := 0, draining := false } }
    ({ s with tack := { s.tack with handover := false } } : State).wr R.MOD.STATUS.BUSY 0
  else s

/-- The Tack link goes down: R419 without its fault. What the link loss means for the pair follows R434 and R435. -/
def State.tackDrop (s : State) : State :=
  let paired := s.rd R.TCK.STATUS.PAIR = 2
  let s := (s.wr R.TCK.STATUS.LINK 0).wr R.TCK.STATUS.WIDTH 0
  let s := s.dropHandover
  { s with tack := s.tack.down s.tick paired }

/-- The Tack link, if it is up, goes down and TACK_LINK_DOWN is raised (R419). An attempt in progress ends. -/
def State.tackLinkDown (s : State) : State :=
  if s.on R.TCK.STATUS.LINK then s.tackDrop.raise Src.tackLinkDown
  else { s with tack := { s.tack with attempt := false, waiting := false, aligned := [], peerTrain := none, coded := false,
                                      deskewed := false, peer := none, settled := none } }

/-- Channel c sweeps nothing. -/
def State.clearSweep (s : State) (c : Nat) : State :=
  let s := (s.wr R.CAL.STATUS.STATE 0 c).wr R.CAL.STATUS.LANE 0 c
  let s := ((s.wr R.CAL.STATUS.PC 0 c).wr R.CAL.STATUS.ROTATING 0 c).wr R.CAL.STATUS.SV 0 c
  { s with cal := { s.cal with now := s.cal.now.del c, swept := s.cal.swept.del c, taking := s.cal.taking.del c,
                               held := s.cal.held.del c, forced := s.cal.forced.filter (· != c) } }

/-- The sweep of channel c, if one runs, ends without a result; what its fill had done by then counts (R383, R386). -/
def State.stopSweep (s : State) (c : Nat) : State :=
  if (s.cal.now.find c).isSome then
    (s.clearSweep c).fillBursts c ((Config.abandonedFill s.freeCtr).map (fun a => ⟨a.1, a.2.1, a.2.2.1, a.2.2.2⟩)) |>.drawn
  else if s.on R.CAL.STATUS.STATE c then s.clearSweep c else s

/-- The sweep of channel c, if one runs, is abandoned, and with it the full calibration that it belongs to: it commits nothing and its
triggers stay pending (R386). -/
def State.abandonSweep (s : State) (c : Nat) : State :=
  let s := s.stopSweep c
  { s with cal := { s.cal with work := s.cal.work.del c, cls := s.cal.cls.del c, minFill := s.cal.minFill.del c } }

/-- Every sweep is abandoned (R386). -/
def State.abandonSweeps (s : State) : State := (List.range 32).foldl State.abandonSweep s

/-- SerDes lanes lo to lo + n - 1 are reset: no signal, no lock, not trained, word boundary 0 (R446). -/
def State.lanesReset (s : State) (lo n : Nat) : State :=
  (List.range n).foldl (fun s k =>
    let l := lo + k
    (((s.wr R.SDS.STATUS.LOS 1 l).wr R.SDS.STATUS.LOL 1 l).wr R.SDS.STATUS.TRAINED 0 l).wr R.SDS.STATUS.SLIP_POS 0 l) s

/-- The block reset of port p (R446). -/
def State.portReset (s : State) (p : Nat) : State :=
  let s := s.portLinkDown p
  let x := s.port p
  let s := s.setPort p { x with paused := {} }
  (s.wr R.ETH.STATUS.PFC_RX_PAUSED 0 p).lanesReset (4 * p) 4

/-- The block reset of the Tack link (R446). -/
def State.tackReset (s : State) : State :=
  let s := s.tackLinkDown
  let s := { s with tack := { s.tack with attempt := false, waiting := false, failRun := {}, aligned := [] } }
  s.lanesReset 8 8

/-- What a load of the firmware from module metadata puts into the Thimble's SRAM; nothing before Boot has set the metadata up (R446,
20 R457 step 7, R470). -/
def Firmware.load (f : Firmware) : SramLoad :=
  if ¬ f.inMeta then .cleared else match f.active with | some img => .image img | none => .rom

/-- The block reset of the Thimble: the watchdog is disarmed, its SRAM is cleared and takes the running image from
module metadata, sweeps are
abandoned and a rekey pauses until the reset completes (R334, R386, R446, R450, 20 R470). -/
def State.thimbleReset (s : State) : State :=
  let s := s.wr R.FLT.WDT.ARMED 0
  let s := s.abandonSweeps
  { s with thimble := { s.thimble with resetting := true, sram := s.fw.load }, guard := { s.guard with rekeyPaused := true } }

/-- The block reset of one block (R446). -/
def State.blockReset (s : State) : Block → State
  | .port p => s.portReset p
  | .tack => s.tackReset
  | .thimble => s.thimbleReset
  | .other => s

/-- The block resets owed, one for each block (R445). -/
def State.settleBlocks (s : State) : State :=
  let bs := s.due.blocks.eraseDups
  bs.foldl State.blockReset { s with due := { s.due with blocks := [] } }

/-- Interrupts and traps reach the Thimble, and FAULT events the clients (R443, R444). -/
def State.settleEvents (s : State) : State :=
  let d := s.due
  let s := { s with due := {}, thimble := { s.thimble with ints := s.thimble.ints + d.ints, traps := s.thimble.traps + d.traps } }
  d.events.foldl (fun s i => s.postAll 4 0x0030 i 0) s

/-- A packet that carries an event of a client (07 R193). -/
def State.isEvent (s : State) : Out → Bool
  | .packet h (.write _ psn _ _ _ _ _) =>
    (s.qp h.qp).sent.any (fun r => r.psn == psn && (match r.use with | .event _ => true | _ => false))
  | _ => false

/-- The events among what was put out after the first n things are not posted (R445). -/
def State.unpost (s : State) (n : Nat) : State :=
  { s with out := s.out.take n ++ (s.out.drop n).filter (fun o => !s.isEvent o) }

/-- A module reset that source i asks for replaces every other reaction of the tick, and no event that followed the first n things put
out is posted (R445, R447). -/
def State.settleReset (s : State) (n i : Nat) : State :=
  (State.faultReset { s.unpost n with due := {} } i).settleEvents

/-- The reactions that the raises of a command owe, which found n things put out. A block reset's own raises are settled with them;
their block resets merge into it. -/
def State.settleAll (s : State) (n : Nat) : State :=
  match s.due.reset with
  | some i => s.settleReset n i
  | none =>
    let s := s.settleBlocks
    match s.due.reset with
    | some i => s.settleReset n i
    | none => s.settleEvents

/-- The end of a command that found n things put out: what its raises owe is done, and nothing is owed any more (R443, R445). -/
def State.settle (s : State) (n : Nat) : State := { s.settleAll n with due := {} }

/-- What a command leaves of a powered module: the queue is not the command's to change, and only a loss of power ends
power. -/
def State.ends (t s : State) : State := { t.settle s.out.length with pending := s.pending, powered := true }

/-- A command changes a module that has power and a clock; one without stays as it is (R408, 03 R80; log entry 87). -/
def live (s : State) (t : State) : Host.Outcome State Fault Refusal := .next (if s.awake then t.ends s else s)

end Sys2Proof.Machine
end

