-- ==== Sys2Proof/Machine/Place.lean ====
section
/-! DEFINITION. Frames, stripe groups and the map: where a swatch lies, which frames are free, and how one is taken and
returned (09 R224-R237, R242, R258). -/

namespace Sys2Proof.Machine

/-- The channels of a mask, counted upward. -/
def maskChannels (m : Nat) : List Nat := (List.range 32).filter (bit m)

/-- The pseudo-channels of an S8 set, by slot index (R225, R226). -/
def s8Pcs (set : Nat) : List Nat :=
  (List.range 16).map fun j =>
    let p := j / 2
    let tier := if (p % 4 + p / 4) % 2 = 0 then set / 4 else set % 4
    (tier * 8 + p) * 2 + j % 2

/-- The pseudo-channels of the channels of a mask, by slot index. -/
def maskPcs (m : Nat) : List Nat := (maskChannels m).flatMap (fun c => [2 * c, 2 * c + 1])

/-- The pseudo-channels of a group's slots, by slot index (R225). -/
def State.groupPcs (s : State) (cls set : Nat) : List Nat :=
  match cls with
  | 0 => [set]
  | 1 => [2 * set, 2 * set + 1]
  | 2 => s8Pcs set
  | 3 => maskPcs (s.rd R.PLC.S32_GEN.MASK set)
  | 4 => maskPcs (s.rd R.PLC.PIN_MASK.MASK set)
  | _ => []

/-- The frame number of a member (R229). -/
def frameNum (cls set member row : Nat) : Nat :=
  match cls with
  | 0 => set * 2 ^ 15 + row
  | 1 => (set * 2 + member) * 2 ^ 15 + row
  | _ => set * 2 ^ 21 + member * 2 ^ 15 + row

/-- The set, member and row of a frame number (R229). -/
def frameParts (cls frame : Nat) : Nat × Nat × Nat :=
  match cls with
  | 0 => (bits frame 15 6, 0, frame % 2 ^ 15)
  | 1 => (bits frame 16 5, bits frame 15 1, frame % 2 ^ 15)
  | _ => (bits frame 21 4, bits frame 15 6, frame % 2 ^ 15)

/-- The pseudo-channel and slot granule that hold granule g of the swatch in a frame (R225). -/
def State.granulePlace (s : State) (cls frame g : Nat) : Nat × Nat :=
  let (set, member, _) := frameParts cls frame
  let pcs := s.groupPcs cls set
  let w := max 1 pcs.length
  let k := member * 256 + g
  (pcs.getD (k % w) 0, k / w)

/-- The key of a stored sector: pseudo-channel, row, granule of the slot, line (R38, R225). -/
def sectorKey (q row slotGranule line : Nat) : Nat := q * 2 ^ 25 + row * 1024 + slotGranule * 4 + line

/-- The key of sector l of granule g of the swatch in a frame. -/
def State.frameSector (s : State) (cls frame g l : Nat) : Nat :=
  let (q, sg) := s.granulePlace cls frame g
  sectorKey q (frame % 2 ^ 15) sg l

/-- A frame's group: class, set and row. -/
def frameGroup (cls frame : Nat) : Nat × Nat × Nat :=
  let (set, _, row) := frameParts cls frame
  (cls, set, row)

/-- Whether a group is the one named. -/
def Group.is (g : Group) (k : Nat × Nat × Nat) : Bool := g.cls == k.1 && g.set == k.2.1 && g.row == k.2.2

/-- Group states the formed groups of a class and set. -/
def State.groupsOf (s : State) (cls set : Nat) : List Group := s.mem.groups.filter (fun g => g.cls == cls && g.set == set)

/-- Whether a group has a slot on pseudo-channel q. -/
def State.groupOn (s : State) (g : Group) (q : Nat) : Bool := (s.groupPcs g.cls g.set).contains q

/-- Rows whose slot on pseudo-channel q is used by a group or withheld. -/
def State.usedRows (s : State) (q : Nat) : List Nat :=
  (s.mem.groups.filter (fun g => s.groupOn g q)).map (·.row) ++ (s.mem.withheld.filter (fun w => w.1 == q)).map (·.2)

/-- Free slots of pseudo-channel q (R234). -/
def State.freeSlots (s : State) (q : Nat) : Nat := if s.tornPc q then 0 else 32512 - (s.usedRows q).length

/-- Free members of a group: none once it has lost a slot (R228, R234). -/
def Group.freeMembers (g : Group) : Nat := if g.lost then 0 else g.members.countP (· == .free)

/-- Free frames of the pool (R234, PLC.FREE.FREE_FRAMES). -/
def State.freeFrames (s : State) : Nat :=
  (List.range 64).foldl (fun n q => n + s.freeSlots q) 0 + s.mem.groups.foldl (fun n g => n + g.freeMembers) 0

/-- Frames that hold swatches, tags or counters (PLC.FREE.MAPPED). -/
def State.mappedFrames (s : State) : Nat := s.mem.groups.foldl (fun n g => n + g.members.countP (· != .free)) 0

/-- Frames in use of a class and set (PLC.PIN_MASK.FRAMES, PLC.S32_GEN.FRAMES). -/
def State.setFrames (s : State) (cls set : Nat) : Nat :=
  (s.groupsOf cls set).foldl (fun n g => n + g.members.countP (· != .free)) 0

/-- A channel has a torn pseudo-channel. -/
def State.tornChan (s : State) (c : Nat) : Bool := s.tornPc (2 * c) || s.tornPc (2 * c + 1)

/-- A channel is narrowed (R53). -/
def State.narrowed (s : State) (c : Nat) : Bool := s.on R.CHN.STATUS.NARROW c

/-- A group of a class and set may be formed: its channels are untorn and, for S32, its generation is CURRENT and not
overtaken (R227, R228, R255). -/
def State.mayForm (s : State) (cls set : Nat) : Bool :=
  let pcs := s.groupPcs cls set
  pcs != [] &&
  match cls with
  | 0 => !s.tornPc set
  | 3 => s.on R.PLC.S32_GEN.CURRENT set && !s.mem.s32Due && pcs.all (fun q => !s.tornChan (q / 2))
  | _ => pcs.all (fun q => !s.tornChan (q / 2))

/-- The lowest number from 0 that a list does not hold. -/
def lowestFree (used : List Nat) : Nat := ((List.range (used.length + 1)).find? (fun r => !used.contains r)).getD 0

/-- The lowest row free on all slots of a class and set, if there is one. -/
def State.lowestRow (s : State) (cls set : Nat) : Option Nat :=
  let r := lowestFree ((s.groupPcs cls set).flatMap s.usedRows)
  if r < 32512 then some r else none

/-- The ply and bank of a slot granule (R38). -/
def granuleBank (sg : Nat) : Nat × Nat := (sg / 64 % 4, 4 * (sg % 4) + sg / 16 % 4)

/-- The place of the sector with key k as the error log shows it: address bits A[30:6] with the row field naming a spare row
where a repair stands in for the row, and whether it does (R38, R358). -/
def State.logPlace (s : State) (k : Nat) : Nat × Bool :=
  let q := k / 2 ^ 25
  let row := k / 1024 % 2 ^ 15
  let (ply, bank) := granuleBank (k % 1024 / 4)
  let phys := s.physRow (q / 2) (q % 2) ply bank row
  if 32768 ≤ phys then ((phys - 32768) * 1024 + k % 1024, true) else (k % 2 ^ 25, false)

/-- The governing temperature of a cell, in quarter degrees (R242, R393). -/
def State.cellTemp (s : State) (c : Nat) : Int := s.hem.cellTemp.getD c 0

/-- A tier's temperature (R242). -/
def State.tierTemp (s : State) (t : Nat) : Int :=
  (List.range 8).foldl (fun m p => max m (s.cellTemp (8 * t + p))) (s.cellTemp (8 * t))

/-- Hem's share of a cell, in sixteenths (R400, R401). -/
def State.share (s : State) (c : Nat) : Nat :=
  match c / 8 with
  | 0 => s.rd R.HEM.COL.SHARE_T0 (c % 8)
  | 1 => s.rd R.HEM.COL.SHARE_T1 (c % 8)
  | 2 => s.rd R.HEM.COL.SHARE_T2 (c % 8)
  | _ => s.rd R.HEM.COL.SHARE_T3 (c % 8)

/-- A cell holds credit for the round (R400). -/
def State.hasCredit (s : State) (c : Nat) : Bool := s.share c != 0

/-- Contention of a channel over the last epoch, counted double when it is narrowed (R242). -/
def State.contention (s : State) (c : Nat) : Nat :=
  (if s.narrowed c then 2 else 1) * s.mem.contention.get 0 c

/-- The sets of a class, with what planning orders them by (R242). PIN takes the bolt's pin set. -/
def State.setKeys (s : State) (cls pin : Nat) : List (Nat × List Int) :=
  match cls with
  | 0 => (List.range 64).map fun q =>
      (q, [s.tierTemp (q / 16), (q / 16 : Int), (s.contention (q / 2) : Int), -(s.freeSlots q : Int), (q : Int)])
  | 1 => (List.range 32).map fun c =>
      (c, [s.cellTemp c, -((s.freeSlots (2 * c) + s.freeSlots (2 * c + 1) : Nat) : Int), (c : Int)])
  | 2 => ((List.range 16).filter (fun k => k / 4 != k % 4)).map fun k =>
      let cs := (s8Pcs k).map (· / 2)
      (k, [cs.foldl (fun m c => max m (s.cellTemp c)) (s.cellTemp (cs.headD 0)),
           ((cs.eraseDups.foldl (fun n c => n + s.contention c) 0 : Nat) : Int), (k : Int)])
  | 3 => [(s.rd R.PLC.STATUS.S32_GEN, [])]
  | 4 => [(pin, [])]
  | _ => []

/-- Every channel of a set holds credit. -/
def State.setCredit (s : State) (cls set : Nat) : Bool := (s.groupPcs cls set).all (fun q => s.hasCredit (q / 2))

/-- The sets of a class in planning's order, those with credit first (R236, R242). -/
def State.setOrder (s : State) (cls pin : Nat) : List Nat :=
  let keyed := (s.setKeys cls pin).map fun (k, key) => (k, (if s.setCredit cls k then (0 : Int) else 1) :: key)
  (sortBy (·.2) keyed).map (·.1)

/-- The free member of a formed group of a class and set that is taken first: of the group with the fewest free members,
its lowest (R235, R236). -/
def State.freeMember (s : State) (cls set : Nat) : Option (Group × Nat) :=
  if cls = 3 ∧ s.mem.s32Due then none else
  let gs := (s.groupsOf cls set).filter (fun g => 0 < g.freeMembers)
  match sortBy (fun g => [(g.freeMembers : Int), (g.row : Int)]) gs with
  | [] => none
  | g :: _ => some (g, g.members.idxOf .free)

/-- The state with member i of a group holding m; a group whose last member is free returns its slots (R228), and an
S32 generation other than CURRENT that holds no frame is freed (R227). -/
def State.setMember (s : State) (k : Nat × Nat × Nat) (i : Nat) (m : Member) : State :=
  let gs := s.mem.groups.map (fun g => if g.is k then { g with members := g.members.set i m } else g)
  let gs := gs.filter (fun g => g.members.any (· != .free))
  let s : State := { s with mem := { s.mem with groups := gs } }
  if k.1 = 3 ∧ ¬ s.on R.PLC.S32_GEN.CURRENT k.2.1 ∧ (s.groupsOf 3 k.2.1).isEmpty then
    (s.wr R.PLC.S32_GEN.VALID 0 k.2.1).wr R.PLC.S32_GEN.MASK 0 k.2.1
  else s

/-- The sectors of a frame hold nothing yet: every line of it is a zero line (R236). -/
def State.zeroFrame (s : State) (cls frame : Nat) : State :=
  let pcs := s.groupPcs cls (frameParts cls frame).1
  let w := max 1 pcs.length
  let member := (frameParts cls frame).2.1
  let row := frame % 2 ^ 15
  let inside (k : Nat) : Bool :=
    pcs.contains (k / 2 ^ 25) && k / 1024 % 2 ^ 15 == row &&
      ((k / 4 % 256) * w + pcs.idxOf (k / 2 ^ 25)) / 256 == member
  { s with mem := { s.mem with cells := s.mem.cells.keepKeys (fun k => !inside (k / 72)),
                               written := s.mem.written.keepKeys (fun k => !inside k) } }

/-- SEAM_LOW follows the pool: the fault is raised each time FREE_FRAMES falls below the floor (R258). -/
def State.seamCheck (s : State) : State :=
  let low := decide (s.freeFrames < 32768)
  let s' := (s.put R.PLC.STATUS.SEAM_LOW low)
  let s' := { s' with mem := { s'.mem with seamBelow := low } }
  if low ∧ ¬ s.mem.seamBelow then s'.raise Src.seamLow else s'

/-- A frame of a class and set is taken for a member: a free member of a formed group, or a new group at the lowest free
row (R236). -/
def State.takeFrame (s : State) (cls set : Nat) (m : Member) : Option (State × Nat) :=
  match s.freeMember cls set with
  | some (g, i) =>
    let f := frameNum cls set i g.row
    some (((s.setMember (cls, set, g.row) i m).zeroFrame cls f), f)
  | none =>
    if s.mayForm cls set then
      match s.lowestRow cls set with
      | some r =>
        let w := (s.groupPcs cls set).length
        let g : Group := { cls := cls, set := set, row := r, members := m :: List.replicate (w - 1) .free }
        let s := { s with mem := { s.mem with groups := s.mem.groups ++ [g] } }
        let f := frameNum cls set 0 r
        some (s.zeroFrame cls f, f)
      | none => none
    else none

/-- The first of the sets that has a frame. -/
def State.takeFirst (s : State) (cls : Nat) (m : Member) : List Nat → Option (State × Nat)
  | [] => none
  | k :: ks => match s.takeFrame cls k m with | some r => some r | none => s.takeFirst cls m ks

/-- A frame of a class, by planning's order of its sets (R236). -/
def State.takeClass (s : State) (cls pin : Nat) (m : Member) : Option (State × Nat) :=
  s.takeFirst cls m (s.setOrder cls pin)

/-- The member in a frame is freed. -/
def State.freeFrame (s : State) (cls frame : Nat) : State :=
  (s.setMember (frameGroup cls frame) (frameParts cls frame).2.1 .free).seamCheck

/-- The bolts that are not FREE. -/
def State.bolts (s : State) : List Nat :=
  (s.stored R.BLT.BOLT_ATTR.STATE).filter (fun b => s.on R.BLT.BOLT_ATTR.STATE b)

/-- Bolt b holds logical swatch sw. -/
def State.boltHolds (s : State) (b sw : Nat) : Bool :=
  let base := s.rd R.BLT.BOLT_BASE.BASE_SW b
  base ≤ sw && sw < base + s.rd R.BLT.BOLT_BASE.LEN_SW b

/-- The bolt that holds a logical swatch. -/
def State.boltAt (s : State) (sw : Nat) : Option Nat := s.bolts.find? (fun b => s.boltHolds b sw)

/-- A map entry's fields (R230). -/
def entryClass (e : Nat) : Nat := bits e 28 3
/-- STATE. -/
def entryState (e : Nat) : Nat := bits e 26 2
/-- FRAME. -/
def entryFrame (e : Nat) : Nat := e % 2 ^ 26

/-- A map entry from its fields, VALID set (R230). -/
def mapEntry (cls state frame : Nat) : Nat := 2 ^ 31 + cls * 2 ^ 28 + state * 2 ^ 26 + frame % 2 ^ 26

/-- A dwell record v of a swatch as it was after e epochs, after the sweeps of the epochs from e to z: HOLDOFF falls by one in each; in
one of sixteen IDLE_AGE grows, or starts anew where TOUCHED is set (R239). -/
def ageDwell (sw v e z : Nat) : Nat :=
  let swept (x : Nat) : Nat := (x + 15 - sw % 16) / 16
  let n := swept z - swept e
  let touched := bit v 4
  let idle := if n = 0 then bits v 0 4 else if touched then min 15 (n - 1) else min 15 (bits v 0 4 + n)
  let hold := bits v 9 4 - (z - e)
  idle + (if touched ∧ n = 0 then 16 else 0) + bits v 5 4 * 32 + hold * 512

/-- The pseudo-channel that holds a swatch's dwell record (R493). -/
def dwellPc (sw : Nat) : Nat := sw / 128 % 64

/-- A swatch's dwell record (R233): only a swatch of a bolt has one. -/
def State.dwell (s : State) (sw : Nat) : Nat :=
  match s.mem.dwell.find sw, s.boltAt sw with
  | some x, _ => ageDwell sw (x % 2 ^ 16) (x / 2 ^ 16) s.mem.epochs
  | none, some b => if b = 0 then 0 else ageDwell sw 0 (max (s.mem.born.get 0 b) (s.mem.dwellTear.get 0 (dwellPc sw))) s.mem.epochs
  | none, none => 0

/-- The state with a dwell record replaced. -/
def State.setDwell (s : State) (sw v : Nat) : State :=
  { s with mem := { s.mem with dwell := s.mem.dwell.put sw (v % 2 ^ 16 + s.mem.epochs * 2 ^ 16) } }

/-- The hint and pin set of a bolt in effect: those before a write that waits for the next placement epoch (06 R139). -/
def State.softOf (s : State) (b : Nat) : Nat × Nat :=
  (s.mem.soft.find b).getD (s.rd R.BLT.BOLT_ATTR.HINT b, s.rd R.BLT.BOLT_ATTR.PIN_SET b)

/-- The pin set of a bolt in effect. -/
def State.pinOf (s : State) (b : Nat) : Nat := (s.softOf b).2

/-- The effective hint of a swatch: 0 AUTO, 1 STREAM, 2 RANDOM, 3 COLD, 4 PINNED (R240). -/
def State.effHint (s : State) (b sw : Nat) : Nat :=
  let h := (s.softOf b).1
  if h = 4 then 4 else
    let w := bits (s.dwell sw) 5 3
    if w ≠ 0 then w else h

/-- The class that an effective hint fixes; S2 for AUTO at first placement. While a generation is due, S8 stands for S32
(R227, R236, R240). -/
def State.hintClass (s : State) (h : Nat) : Nat :=
  match h with | 1 => if s.mem.s32Due then 2 else 3 | 2 => 2 | 3 => 0 | 4 => 4 | _ => 1

/-- The map entry of a logical swatch: the stored one, or the zero state of a swatch of a bolt that no write has reached
(R230). -/
def State.mapOf (s : State) (sw : Nat) : Nat :=
  match s.mem.map.find sw with
  | some e => e
  | none =>
    match s.boltAt sw with
    | none => 0
    | some b => if b = 0 then mapEntry 0 0 0 else mapEntry (s.hintClass (s.effHint b sw)) 3 0

/-- Lines of the map cache (R232). -/
def mapCacheLines : Nat := 6144

/-- Line k of the map becomes the most recent of the map cache (R232; log entry 131). -/
def State.cacheMapLine (s : State) (k : Nat) : State :=
  { s with mem := { s.mem with mapCache := (k :: s.mem.mapCache.filter (· != k)).take mapCacheLines } }

/-- The state with a map entry replaced: a change is written to the cache and to both copies (R232). -/
def State.setMap (s : State) (sw e : Nat) : State :=
  ({ s with mem := { s.mem with map := s.mem.map.put sw e } } : State).cacheMapLine (sw / 16)

/-- The map entry of a swatch of a bolt is in the zero state again (R230, R232). -/
def State.clearMap (s : State) (sw : Nat) : State :=
  ({ s with mem := { s.mem with map := s.mem.map.del sw } } : State).cacheMapLine (sw / 16)

/-- The move of a swatch that has not flipped. -/
def State.moveOf (s : State) (sw : Nat) : Option Move := s.mem.moves.find? (fun m => m.swatch == sw && !m.flipped)

/-- The move records follow the moves (R248). -/
def State.setMoves (s : State) (ms : List Move) : State :=
  let s := { s with mem := { s.mem with moves := ms } }
  s.wr R.PLC.STATUS.MOVES_ACTIVE ms.length

/-- A move ends without a flip: the swatch stays on its old frame with STATE 0 and the target is freed (R251). -/
def State.cancelMove (s : State) (sw : Nat) : State :=
  match s.moveOf sw with
  | none => s
  | some m =>
    let s := s.setMoves (s.mem.moves.filter (fun x => !(x.swatch == sw && !x.flipped)))
    let s := if entryState (s.mapOf sw) = 1 then s.setMap sw (mapEntry m.oldCls 0 m.oldFrame) else s
    ((s.freeFrame m.newCls m.newFrame).bump R.PLC.MOVES.CANCELLED).count 163

/-- The frame that a swatch holds, if it holds one, is freed. -/
def State.freeSwatch (s : State) (sw : Nat) : State :=
  let e := s.mapOf sw
  let k := frameGroup (entryClass e) (entryFrame e)
  match s.mem.groups.find? (fun g => g.is k) with
  | some g =>
    if entryState e ≠ 3 ∧ g.members.getD (frameParts (entryClass e) (entryFrame e)).2.1 .free = .swatch sw then
      s.freeFrame (entryClass e) (entryFrame e)
    else s
  | none => s

/-- A frame for whole region frame i of bolt b: a free member of the formed S2 group with the fewest free members, or a
new S2 group (R235). -/
def State.takeRegion (s : State) (b i : Nat) : Option (State × Nat) :=
  let gs := s.mem.groups.filter (fun g => g.cls == 1 && 0 < g.freeMembers)
  match sortBy (fun (g : Group) => [(g.freeMembers : Int), (g.set : Int), (g.row : Int)]) gs with
  | g :: _ =>
    let k := g.members.idxOf .free
    let f := frameNum 1 g.set k g.row
    some ((s.setMember (1, g.set, g.row) k (.region b i)).zeroFrame 1 f, f)
  | [] => s.takeClass 1 0 (.region b i)

/-- Whole frames and part-frame granules of a Native bolt's protection region (R235, R321). -/
def regionFrames (size : Nat) : Nat := 9 * size * 1024 / 65536
/-- Granules of the part frame. -/
def regionPart (size : Nat) : Nat := (9 * size * 1024 % 65536) / 256

/-- A region frame of a bolt is lost: no frame was left to re-home it (13 R494). -/
def State.lostRegion (s : State) (b i : Nat) : Bool := s.mem.lostRegions.contains (b, i)

/-- First placement of a swatch in the zero state; none when no frame exists (R236, R237). -/
def State.firstPlace (s : State) (b sw : Nat) : Option State :=
  let pin := s.pinOf b
  let cls := s.hintClass (s.effHint b sw)
  match s.takeClass cls pin (.swatch sw) with
  | some (t, f) => some ((t.setMap sw (mapEntry cls 0 f)).count 165).seamCheck
  | none =>
    let rec go : List Nat → Option State
      | [] => none
      | k :: ks =>
        match s.takeClass k pin (.swatch sw) with
        | some (t, f) =>
          let t := t.setMap sw (mapEntry k 0 f)
          let t := t.setDwell sw (setBit (t.dwell sw) 8 true)
          some ((t.count 165).count 166).seamCheck
        | none => go ks
    go [1, 2, 0]

/-- A first write that finds no frame (R237). -/
def State.frameExhausted (s : State) : State := ((s.bump R.PLC.FORCED.EXHAUSTED).count 167).raise Src.frameExhausted

/-- The channels that a new S32 generation takes: full width, no torn pseudo-channel (R227). -/
def State.fullMask (s : State) : Nat :=
  (List.range 32).foldl (fun m c => if s.tornChan c ∨ s.narrowed c then m else setBit m c true) 0

/-- A due generation is formed in the lowest free entry and becomes CURRENT (R227). -/
def State.formGeneration (s : State) : State :=
  match (List.range 8).find? (fun e => !s.on R.PLC.S32_GEN.VALID e) with
  | none => s
  | some e =>
    let old := s.rd R.PLC.STATUS.S32_GEN
    let s := s.wr R.PLC.S32_GEN.CURRENT 0 old
    let s := if (s.groupsOf 3 old).isEmpty ∧ s.on R.PLC.S32_GEN.VALID old
      then (s.wr R.PLC.S32_GEN.VALID 0 old).wr R.PLC.S32_GEN.MASK 0 old else s
    let s := ((s.wr R.PLC.S32_GEN.MASK s.fullMask e).wr R.PLC.S32_GEN.VALID 1 e).wr R.PLC.S32_GEN.CURRENT 1 e
    let s := s.wr R.PLC.STATUS.S32_GEN e
    { s with mem := { s.mem with s32Due := false } }

/-- If the set of full-width untorn channels has shrunk since CURRENT was formed, a generation is due, and is formed at once if an entry is free
(R227). Before the first generation there is none to replace. -/
def State.shrinkS32 (s : State) : State :=
  let e := s.rd R.PLC.STATUS.S32_GEN
  if s.on R.PLC.S32_GEN.VALID e ∧ s.rd R.PLC.S32_GEN.MASK e ≠ s.fullMask then
    (State.formGeneration { s with mem := { s.mem with s32Due := true } })
  else s

/-- The allocation limit in KiB (R149). -/
def State.capLimit (s : State) : Nat := 131072000 - 2097152 * s.mem.torn.length - 64 * s.mem.withheld.length

/-- The sum of charges in KiB (R149). -/
def State.charged (s : State) : Nat := s.bolts.foldl (fun n b => n + s.rd R.BLT.BOLT_CHARGE.CHARGE_KIB b) 0

/-- A tear or a withheld slot has lowered the limit from the one given; below the charges it raises CAPACITY_OVERCOMMIT
(R150). -/
def State.capCheck (s : State) : State := if s.capLimit < s.charged then s.raise Src.capacityOvercommit else s

/-- S32_GENERATION_FORMED (R227). -/
def execS32GenerationFormed (st : State) : Host.Outcome State Fault Refusal :=
  live st (if st.mem.s32Due then st.formGeneration else st)

end Sys2Proof.Machine
end

