-- ==== Sys2Proof/Machine/Lanes.lean ====
section
/-! DEFINITION. The vertical lanes of a channel: selvedge assignments, failed lanes, and the plan of narrow mode (02
R50-R58, 14 LANEMAP, 20 R471). -/

namespace Sys2Proof.Machine

/-- The assignment byte of selvedge lane k: lane, 64 * pseudo-channel, 128 when it carries a lane (14 LANEMAP). -/
def State.svByte (s : State) (c k : Nat) : Nat := bits (s.pat (3 * c)) (8 * k) 8

/-- The lane that selvedge lane k carries: pseudo-channel and lane, if it carries one. -/
def State.svLane (s : State) (c k : Nat) : Option (Nat × Nat) :=
  let b := s.svByte c k
  if bit b 7 then some (bits b 6 1, bits b 0 6) else none

/-- Selvedge lane k is declared failed (R51). -/
def State.svFailed (s : State) (c k : Nat) : Bool := bit (s.pat (3 * c + 1)) (48 + k)

/-- A lane of a pseudo-channel is declared failed (R46). -/
def State.laneFailed (s : State) (c pc n : Nat) : Bool := bit (s.pat (3 * c + 1 + pc)) n

/-- The selvedge lanes that have not failed. -/
def State.healthySv (s : State) (c : Nat) : List Nat := (List.range 8).filter (fun k => !s.svFailed c k)

/-- The repairs that wait for a rotation point, without some (R50). -/
def State.keepRepairs (s : State) (p : Repair → Bool) : State := { s with cal := { s.cal with repairs := s.cal.repairs.filter p } }

/-- The lane that selvedge lane k is to carry from the next rotation point, if any (R50). -/
def State.svNext (s : State) (c k : Nat) : Option (Nat × Nat) :=
  (s.cal.repairs.find? (fun r => r.channel == c && r.sv == k)).map (fun r => (r.pc, r.lane))

/-- The free selvedge lanes, rising: they carry no lane and are to carry none; one that a rotation uses counts as free (R380). -/
def State.freeSv (s : State) (c : Nat) : List Nat :=
  (s.healthySv c).filter (fun k => (s.svLane c k).isNone && (s.svNext c k).isNone)

/-- The selvedge lane that carries a lane, if one does that has not failed. -/
def State.carrier (s : State) (c pc n : Nat) : Option Nat :=
  (s.healthySv c).find? (fun k => s.svLane c k == some (pc, n))

/-- The failed selvedge lanes of a channel whose assignment to a lane that passes a test stays in use until its boundary (R51, R376). -/
def State.staleSv (s : State) (c : Nat) (p : Nat → Nat → Bool) : List (Nat × Option (Nat × Nat)) :=
  ((List.range 8).filter (fun k => s.svFailed c k && (match s.svLane c k with | some (pc, n) => p pc n | none => false))).map (·, none)

/-- Word 3c with several assignment bytes replaced. -/
def State.setSvs (s : State) (c : Nat) (xs : List (Nat × Option (Nat × Nat))) : State :=
  let byte (k : Nat) : Nat :=
    match xs.find? (fun x => x.1 == k) with
    | some (_, some (pc, n)) => n + 64 * pc + 128
    | some (_, none) => 0
    | none => s.svByte c k
  s.patRecord (3 * c) ((List.range 8).foldl (fun m k => m + byte k * 2 ^ (8 * k)) 0)

/-- A lane is recorded as failed (R46, R50); lanes 41-48 are SV0-SV7. -/
def State.recordFailed (s : State) (c pc n : Nat) : State :=
  if n < 41 then s.patRecord (3 * c + 1 + pc) (setBit (s.pat (3 * c + 1 + pc)) n true)
  else s.patRecord (3 * c + 1) (setBit (s.pat (3 * c + 1)) (48 + (n - 41)) true)

/-- DQ lane n lies in a half: 0 lower, 1 upper (R53). -/
def inHalf (h n : Nat) : Bool :=
  if h = 0 then n < 16 || n == 32 || n == 33 else (16 ≤ n && n < 32) || n == 34 || n == 35

/-- The failed lanes that a half of a pseudo-channel needs carried: CA before DQ, rising (R54). -/
def State.need (s : State) (c pc h : Nat) : List Nat :=
  ((List.range 5).map (36 + ·)).filter (s.laneFailed c pc) ++
    (List.range 36).filter (fun n => inHalf h n && s.laneFailed c pc n)

/-- The half with the smaller need, the lower on a tie (R54). -/
def State.bestHalf (s : State) (c pc : Nat) : Nat :=
  if (s.need c pc 1).length < (s.need c pc 0).length then 1 else 0

/-- Selvedge lanes that a new assignment may use: the healthy ones but those that carry a CA lane of a torn
pseudo-channel (R54, R58). -/
def State.availSv (s : State) (c : Nat) : List Nat :=
  (s.healthySv c).filter (fun k =>
    match s.svLane c k with | some (pc, n) => !(s.tornPc (2 * c + pc) && 36 ≤ n) | none => true)

/-- The lanes that narrow mode must carry for some pseudo-channels, in the order of R54. -/
def State.narrowNeed (s : State) (c : Nat) (pcs : List Nat) : List (Nat × Nat) :=
  pcs.flatMap (fun pc => (s.need c pc (s.bestHalf c pc)).map (fun n => (pc, n)))

/-- Narrow mode is runnable for some pseudo-channels (R54). -/
def State.narrowFits (s : State) (c : Nat) (pcs : List Nat) : Bool :=
  (s.narrowNeed c pcs).length ≤ (s.availSv c).length

/-- The pseudo-channels of a channel that are not torn. -/
def State.alivePcs (s : State) (c : Nat) : List Nat := [0, 1].filter (fun pc => !s.tornPc (2 * c + pc))

/-- Of some pseudo-channels the one with the larger need, 1 on a tie (R54). -/
def State.neediest (s : State) (c : Nat) (pcs : List Nat) : Nat :=
  let n (pc : Nat) : Nat := (s.need c pc (s.bestHalf c pc)).length
  if pcs = [0, 1] then (if n 1 < n 0 then 0 else 1) else pcs.headD 0

/-- The half register of a pseudo-channel. -/
def halfField (pc : Nat) : Fld := if pc = 0 then R.CHN.STATUS.HALF_PC0 else R.CHN.STATUS.HALF_PC1

/-- The tier of a channel has a wave that is due (R355). -/
def State.waveDue (s : State) (c : Nat) : Bool := s.waves.next.contains (c / 8) || s.waves.now == some (c / 8)

/-- REF commands of one pass (R348). -/
def refPass : Nat := 8208

/-- tREFI of a channel in ticks (R348). -/
def Chan.trefi (x : Chan) : Nat := if x.fast then 1950 else 3900

/-- A sweep that runs on pseudo-channel pc of channel c needs held intervals in the REF of a ply: ply timing in that ply's, a lane without
a selvedge lane in any (R381, R382). -/
def State.wantsInterval (s : State) (c pc ply : Nat) : Bool :=
  s.rd R.CAL.STATUS.STATE c == 1 && !s.on R.CAL.STATUS.ROTATING c && (s.cal.taking.find c).isNone &&
    (match s.cal.now.find c with
     | some (_, i) => i.pc == pc && ((i.kind == 1 && i.ply == ply) || i.kind == 2)
     | none => false)

/-- A REF of a ply holds an interval for the sweep that needs one, at most once in four tREFI of the pseudo-channel: its bus carries
calibration bursts only, for 300 ns, and the monitor leaves the round out (R375, R385; log entry 124). -/
def State.heldInterval (s : State) (c pc ply : Nat) : State :=
  let q := 2 * c + pc
  let soon : Bool := match s.cal.lastHeld.find q with | some t => decide (s.tick < t + 4 * (s.chan c).trefi) | none => false
  if ¬ s.wantsInterval c pc ply ∨ soon then s else
  let x := s.chan c
  let b := x.bus.get {} pc
  let s := s.setChan c { x with bus := x.bus.put pc { b with last := max b.last (s.tick + 300) } }
  { s with cal := { s.cal with held := s.cal.held.put c (s.cal.held.get 0 c + 1), lastHeld := s.cal.lastHeld.put q s.tick,
                               skipRound := c :: s.cal.skipRound } }

/-- k REF commands to a ply of a pseudo-channel: its rows close and its pointer walks on (R348, R306). -/
def State.refresh (s : State) (c pc ply k : Nat) : State :=
  let x := s.chan c
  let n := pc * 4 + ply
  let x := { x with pointer := x.pointer.set 0 n ((x.pointer.get 0 n + k) % refPass),
                    openRow := x.openRow.keepKeys (fun b => b / 16 != n) }
  ((((s.setChan c x).countChan c 3 k).charge .refresh c ply k).put R.CHN.STATUS.REF_FAST x.fast c)

/-- Every CA lane of a pseudo-channel works or is carried: its plies can still be refreshed (R58). -/
def State.caWhole (s : State) (c pc : Nat) : Bool :=
  ((List.range 5).map (36 + ·)).all (fun n => !s.laneFailed c pc n || (s.carrier c pc n).isSome)

/-- One REF to every ply of a channel, as a window starts and as self-refresh ends, but for a torn pseudo-channel whose refresh has ended
(R58, R351, R354). -/
def State.refreshAll (s : State) (c : Nat) : State :=
  (List.range 8).foldl (fun s n =>
    if s.tornPc (2 * c + n / 4) ∧ ¬ s.caWhole c (n / 4) then s else s.refresh c (n / 4) (n % 4) 1) s

/-- The channel's window starts: its sweep is abandoned, every ply gets a REF, no slot is admitted, and the regulation
window never counts as a miss (R295, R354, R386). -/
def State.openWindow (s : State) (c : Nat) : State :=
  let s := (s.abandonSweep c).refreshAll c
  let s : State := { s with reg := { s.reg with excluded := true }, cal := { s.cal with skipRound := c :: s.cal.skipRound } }
  s.wr R.CHN.STATUS.IN_WINDOW 1 c

/-- The narrow-mode state of a channel beside its registers. -/
def State.narrowOf (s : State) (c : Nat) : Narrow := s.narrow.get {} c

/-- The state with a channel's narrow-mode state replaced. -/
def State.setNarrow (s : State) (c : Nat) (x : Narrow) : State := { s with narrow := s.narrow.set {} c x }

/-- Where no traffic runs a switch of lanes needs no window: before step 8 of Boot (R51) and in self-refresh. -/
def State.noWindow (s : State) : Bool := s.booting || s.mode == modeHold

/-- A narrow-mode switch of the channel is due: it takes place in the wave of its tier that is due, or in a window of its
own, which opens (R55). -/
def State.oweNarrow (s : State) (c : Nat) : State :=
  let s := s.setNarrow c { s.narrowOf c with due := true }
  if s.waveDue c ∨ (s.narrowOf c).window then s
  else
    let s := s.openWindow c
    s.setNarrow c { s.narrowOf c with window := true }

/-- Moves whose S32 target group includes a channel that narrows end (09 R251). -/
def State.endS32Moves (s : State) (c : Nat) : State :=
  (s.mem.moves.filter (fun m => !m.flipped && m.newCls == 3 &&
    (s.groupPcs 3 (frameParts 3 m.newFrame).1).any (fun q => q / 2 == c))).foldl (fun (s : State) m => s.cancelMove m.swatch) s

/-- The switch to narrow mode for some pseudo-channels, whose need fits: halves, and the selvedge lanes assigned from
scratch (R54, R57). -/
def State.enterNarrow (s : State) (c : Nat) (pcs : List Nat) : State :=
  let s := (s.endS32Moves c).keepRepairs (fun r => r.channel != c)
  let svs := s.availSv c
  let s' := pcs.foldl (fun t pc => t.wr (halfField pc) (s.bestHalf c pc) c) (s.wr R.CHN.STATUS.NARROW 1 c)
  let gives := (svs.zip (List.range svs.length)).map (fun x => (x.1, (s.narrowNeed c pcs)[x.2]?))
  (s'.setSvs c (gives ++ s.staleSv c (fun _ _ => true))).raise Src.channelNarrowed

/-- Selvedge lanes that carry lanes of pseudo-channel q that pass a test are free. -/
def State.freeLanes (s : State) (q : Nat) (p : Nat → Bool) : State :=
  s.setSvs (q / 2) (((List.range 8).filter (fun k =>
    match s.svLane (q / 2) k with | some (pc, n) => pc == q % 2 && p n | none => false)).map (fun k => (k, none)))

/-- The refresh of torn pseudo-channel q ends: the selvedge lanes that carried its CA lanes are free (R58). -/
def State.endRefresh (s : State) (q : Nat) : State := if s.tornPc q then s.freeLanes q (36 ≤ ·) else s

/-- Selvedge lanes that carried DQ lanes of a torn pseudo-channel are free, and those of its CA lanes where its refresh has ended
with a CA lane that nothing carries (R58). -/
def State.releaseLanes (s : State) (q : Nat) : State :=
  let s := (s.keepRepairs (fun r => !(r.channel == q / 2 && r.pc == q % 2))).freeLanes q (· < 36)
  if s.caWhole (q / 2) (q % 2) then s else s.endRefresh q

end Sys2Proof.Machine
end

