-- ==== Sys2Proof/Machine/Meta.lean ====
section
/-! DEFINITION. Where module metadata lies, and what of it a pseudo-channel holds (09 R231, R493, 06 R143; DESIGN CHOICE, log entry
83: the rows and slot granules within a pseudo-channel, which R493 leaves open). -/

namespace Sys2Proof.Machine

/-- The copies of granule g of a two-copy structure: their pseudo-channels (R493). -/
def copyPcs (g : Nat) : Nat × Nat := (g % 32, 32 + (g + 8) % 32)

/-- The granules of the two-copy structures that pseudo-channel q holds a copy of, by their number modulo 32 (R493). -/
def copyClass (q : Nat) : Nat := if q < 32 then q else (q + 24) % 32

/-- The pseudo-channel that holds the other copies of what q holds (R493). -/
def copyTwin (q : Nat) : Nat := if q < 32 then 32 + (q + 8) % 32 else copyClass q

/-- What a granule of a metadata row holds (R493): a granule of the map, of the subtree of a level 2 node, of the dwell records, of the
part-frame area, of the system bolt, or of what the model keeps elsewhere. -/
inductive MetaAim where
  | map (granule : Nat)
  | node (index granule : Nat)
  | dwell (granule : Nat)
  | part (granule : Nat)
  | sys (granule : Nat)
  | other
  deriving DecidableEq, Repr

/-- Granules of a level 2 subtree: 65 nodes and the tags of the node, of its 64 level 1 nodes and of its 4096 leaves (R493). -/
def subtreeGranules : Nat := 147

/-- The first row of the system bolt. -/
def sysRow : Nat := 32759

/-- What slot granule sg of metadata row `row` of pseudo-channel q holds (R493; log entry 83). -/
def metaAim (q row sg : Nat) : MetaAim :=
  let r := row - 32512
  let i (from_ : Nat) : Nat := (r - from_) * 256 + sg
  if r < 32 then .map (32 * i 0 + copyClass q)
  else if r < 106 then .node (64 * (i 32 / subtreeGranules) + q) (i 32 % subtreeGranules)
  else if r < 114 then .dwell (64 * i 106 + q)
  else if r < 130 then .part (64 * i 114 + q)
  else if sysRow ≤ row then .sys (32 * i 247 + copyClass q)
  else .other

/-- The key of line l of granule i, counted on pseudo-channel q, of a structure whose granules start in a metadata row (R493). -/
def metaSector (q first i l : Nat) : Nat := sectorKey q (32512 + first + i / 256) (i % 256) l

/-- A 64-byte codeword of the module's own: a line of the map, a tree node, a line of node tags in the subtree of a level 2 node, a line
of dwell records, a line of sector tags, a sector of the system bolt, or what the model keeps elsewhere (R493, 13 R321, 15 R361). -/
inductive BareLine where
  | map (line : Nat)
  | node (level index : Nat)
  | nodeTags (index line : Nat)
  | dwell (line : Nat)
  | tags (line : Nat)
  | sys (sector : Nat)
  | other
  deriving DecidableEq, Repr

/-- The place of a node's tag among those of the subtree of its level 2 node: the node's own, its level 1 nodes', its leaves' (R493; log
entry 83). -/
def tagSlot (level idx : Nat) : Nat :=
  match level with
  | 2 => 0
  | 1 => 1 + idx % 64
  | _ => 65 + idx % 4096

/-- The node whose tag is at a place of the subtree of level 2 node k. -/
def slotNode (k t : Nat) : Option (Nat × Nat) :=
  if t = 0 then some (2, k)
  else if t < 65 then some (1, 64 * k + t - 1)
  else if t < 4161 then some (0, 4096 * k + t - 65)
  else none

/-- The level 2 node above a node. -/
def nodeRoot (level idx : Nat) : Nat := idx / 64 ^ (2 - level)

/-- The line of a node's tag in its subtree: 65 lines of nodes come first. -/
def tagRow (level idx : Nat) : Nat := 65 + tagSlot level idx / 8

/-- What line j of the subtree of level 2 node k holds (R493; log entry 83). -/
def subtreeLine (k j : Nat) : BareLine :=
  if j = 0 then .node 2 k else if j < 65 then .node 1 (64 * k + j - 1) else .nodeTags k j

/-- The key of line j of the subtree of level 2 node k. -/
def subtreeKey (k j : Nat) : Nat := metaSector (k % 64) 32 (k / 64 * subtreeGranules + j / 4) (j % 4)

/-- Where line l of the system bolt lies: its two copies, each a pseudo-channel, row and slot granule (R493, R143; log entry 83). -/
def sysPlaces (l : Nat) : List (Nat × Nat × Nat) :=
  let g := l % 65536
  let k := g / 32
  [((copyPcs g).1, sysRow + k / 256 % 8, k % 256), ((copyPcs g).2, sysRow + k / 256 % 8, k % 256)]

/-- The key under which sector n of the system bolt is noted as written anew: that of its first copy. -/
def sysKey (n : Nat) : Nat :=
  match sysPlaces (n / 4) with
  | (q, row, sg) :: _ => sectorKey q row sg (n % 4)
  | [] => 0

/-- Sector n of the system bolt as module metadata holds it (R143). -/
def State.sysSector (s : State) (n : Nat) : List Byte :=
  (List.range 64).map (fun i => s.mem.sysBolt.get 0 (64 * n + i))

/-- Both copies of sector n of the system bolt are lost, and it has not been written since (log entry 83). -/
def State.sysGone (s : State) (n : Nat) : Bool := s.mem.sysLost.contains (n / 4 % 32) && !s.mem.written.get false (sysKey n)

/-- Sector n of the system bolt is written as poison (15 R363). -/
def State.poisonSys (s : State) (n : Nat) : State := { s with mem := { s.mem with sysBad := s.mem.sysBad.set false n true } }

/-- The other copy of what a pseudo-channel holds cannot serve: it is lost too, and not yet rebuilt (R231, R493). -/
def State.twinLost (s : State) (q : Nat) : Bool := s.mem.rebuilding.contains (copyTwin q)

/-- The Native bolt whose part frame holds granule g of the part-frame area, and the byte of its region that the granule starts
(R321, R493). -/
def State.partOwner (s : State) (g : Nat) : Option (Nat × Nat) :=
  (s.bolts.filter (fun b => s.rd R.BLT.BOLT_ATTR.MODE b == 2)).findSome? (fun b =>
    let size := s.rd R.BLT.BOLT_BASE.LEN_SW b
    let first := s.mem.partBase.get 0 b
    if first ≤ g ∧ g < first + regionPart size then some (b, 65536 * regionFrames size + 256 * (g - first)) else none)

/-- The key of byte r of a bolt's protection region: in a region frame, or in the part-frame area (R321, R493). -/
def State.regionKey (s : State) (b r : Nat) : Nat :=
  let whole := regionFrames (s.rd R.BLT.BOLT_BASE.LEN_SW b)
  if r / 65536 < whole then s.frameSector 1 ((s.mem.regions.get [] b).getD (r / 65536) 0) (r / 256 % 256) (r / 64 % 4)
  else
    let g := s.mem.partBase.get 0 b + (r - 65536 * whole) / 256
    metaSector (g % 64) 114 (g / 64) (r / 64 % 4)

/-- The leaf base of a Native bolt (R322). -/
def State.leafBase (s : State) (b : Nat) : Nat := s.guard.leafBase.get 0 b

/-- What line r / 64 of a bolt's protection region holds: eight tags, or a leaf (R321). -/
def State.regionLine (s : State) (b r : Nat) : BareLine :=
  let size := s.rd R.BLT.BOLT_BASE.LEN_SW b
  if r < 8192 * size then .tags (s.rd R.BLT.BOLT_BASE.BASE_SW b * 128 + r / 64)
  else
    let j := (r - 8192 * size) / 64
    if j < 16 * size then .node 0 (s.leafBase b + j) else .other

/-- What line l of a metadata granule holds. -/
def State.metaLine (s : State) (aim : MetaAim) (l : Nat) : BareLine :=
  match aim with
  | .map g => .map (4 * g + l)
  | .node k g => subtreeLine k (4 * g + l)
  | .dwell g => .dwell (4 * g + l)
  | .part g => match s.partOwner g with | some (b, r) => s.regionLine b (r + 64 * l) | none => .other
  | .sys g => .sys (4 * (0xFFFF00 * 256 + g) + l)
  | .other => .other

end Sys2Proof.Machine
end

