-- ==== Sys2Proof/Machine/Tear.lean ====
section
/-! DEFINITION. What is lost when a swatch, a tree node or a pseudo-channel is torn (02 R58-R60, 09 R493, 10 R279, 13 R322,
R323, R335-R337, R494). -/

namespace Sys2Proof.Machine

/-- Every way that holds no line, or one with nothing left to write back, passes to the line that has waited longest for it (R266).
-/
def Lining.settle (x : Lining) : Lining :=
  x.entering.foldl (fun x e =>
    if (x.lines.find e.way).any Line.anyDirty then { x with entering := x.entering ++ [e] }
    else { x with lines := x.lines.put e.way e.line }) { x with entering := [] }

/-- Lining lines that pass a test are dropped, with what waits to be written back from them and the no-allocate writes held for
them (R142, R279). -/
def State.dropLines (s : State) (p : Nat → Bool) : State :=
  { s with lng := Lining.settle { s.lng with
      lines := ⟨s.lng.lines.entries.filter (fun e => !p e.2.addr)⟩,
      entering := s.lng.entering.filter (fun e => !p e.line.addr),
      wbs := s.lng.wbs.filter (fun w => !p w.line),
      around := s.lng.around.filter (fun a => !p a.line) } }

/-- Integrity modes of a bolt (R139). -/
def State.boltMode (s : State) (b : Nat) : Nat := s.rd R.BLT.BOLT_ATTR.MODE b

/-- A bolt is Native. -/
def State.native (s : State) (b : Nat) : Bool := s.boltMode b == 2

/-- A swatch becomes torn: a move of it ends, its map entry says so and its lines are dropped (R58, R251, R279). -/
def State.tearSwatch (s : State) (sw : Nat) : State :=
  let e := s.mapOf sw
  if e = 0 ∨ entryState e = 2 ∨ s.boltHolds 0 sw then s
  else
    let s := s.cancelMove sw
    let e := s.mapOf sw
    (s.setMap sw (mapEntry (entryClass e) 2 (entryFrame e))).dropLines (fun l => l / 256 == sw)

/-- The map entry of a swatch is lost in both copies: it is rewritten as torn and names no frame any more (15 R367). -/
def State.loseEntry (s : State) (sw : Nat) : State :=
  let s := (s.cancelMove sw).freeSwatch sw
  let e := s.mapOf sw
  if e = 0 ∨ s.boltHolds 0 sw then s
  else (s.setMap sw (mapEntry (entryClass e) 2 0)).dropLines (fun l => l / 256 == sw)

/-- Map lines are lost in both copies (15 R367). -/
def State.loseEntries (s : State) (sws : List Nat) (lines : Nat) : State :=
  ((sws.foldl State.loseEntry s).bump R.ECC.UNCORR.MAP_LOST 0 lines).raise Src.mapLost

/-- The swatches of bolts but the system bolt. -/
def State.boltSwatches (s : State) : List Nat :=
  (s.bolts.filter (· != 0)).flatMap (fun b => (List.range (s.rd R.BLT.BOLT_BASE.LEN_SW b)).map (s.rd R.BLT.BOLT_BASE.BASE_SW b + ·))

/-- The granules of the system bolt of one number modulo 32 are lost in both copies (log entry 83). -/
def State.loseSys (s : State) (k : Nat) : State :=
  { s with mem := { s.mem with
      sysLost := if s.mem.sysLost.contains k then s.mem.sysLost else s.mem.sysLost ++ [k],
      written := s.mem.written.keepKeys (fun x => !(x / 2 ^ 25 == k && sysRow ≤ x / 1024 % 2 ^ 15)) } }

/-- Pseudo-channel q is torn while the other copy of what it holds is lost: map lines and parts of the system bolt are lost (R231,
R493; log entry 83). -/
def State.loseCopies (s : State) (q : Nat) : State :=
  let k := copyClass q
  (s.loseEntries (s.boltSwatches.filter (fun sw => sw / 64 % 32 == k)) 32768).loseSys k

/-- Several swatches become torn. -/
def State.tearSwatches (s : State) (sws : List Nat) : State := sws.foldl State.tearSwatch s

/-- The Native swatches beneath a tree node, by bolt (R323). -/
def State.swatchesUnder (s : State) (level idx : Nat) : List (Nat × List Nat) :=
  let w := 64 ^ level
  let lo := idx * w
  (s.bolts.filter (fun b => s.native b)).filterMap fun b =>
    let lb := s.leafBase b
    let a := max lo lb
    let z := min (lo + w) (lb + 16 * s.rd R.BLT.BOLT_BASE.LEN_SW b)
    if a < z then
      let first := (a - lb) / 16
      let last := (z - 1 - lb) / 16
      some (b, (List.range (last + 1 - first)).map (fun k => s.rd R.BLT.BOLT_BASE.BASE_SW b + first + k))
    else none

/-- A tear that a loss in the tree causes is recorded: its level, node and first bolt (R337). -/
def State.recordTorn (s : State) (level idx b : Nat) : State :=
  let s := ((s.wr R.PRT.TORN.LEVEL level).wr R.PRT.TORN.NODE idx).wr R.PRT.TORN.BOLT b
  (s.wr R.PRT.TORN_TICK.TICK s.tick).raise Src.treeNodeLost

/-- A tree node is lost: every Native swatch beneath it is torn, and the loss is recorded (R335, R337). -/
def State.loseNode (s : State) (level idx : Nat) : State :=
  let under := s.swatchesUnder level idx
  let first := (under.map (·.1)).foldl min (((under.map (·.1)).headD 0))
  let s := (s.tearSwatches (under.flatMap (·.2))).bump R.PRT.TREE_STAT.NODES_LOST
  let key := level * 2 ^ 25 + idx
  let s := { s with guard := { s.guard with
      cache := s.guard.cache.filter (· != key), dirtyNodes := s.guard.dirtyNodes.del key,
      lostNodes := if level = 0 then s.guard.lostNodes else (s.guard.lostNodes.filter (· != key)) ++ [key] } }
  s.recordTorn level idx first

/-- The tag of a sector becomes void (R336). -/
def State.voidTag (s : State) (n : Nat) : State :=
  match s.guard.tags.find n with
  | some t =>
    if t.void then s
    else { s with guard := { s.guard with tags := s.guard.tags.put n { t with void := true } } }.bump R.PRT.TREE_STAT.VOID_TAGS
  | none => { s with guard := { s.guard with tags := s.guard.tags.put n { value := 0, void := true } } }.bump R.PRT.TREE_STAT.VOID_TAGS

/-- A tree node, or its tag, is uncorrectable where it is stored: it is lost if a Native swatch lies beneath it (R335). -/
def State.loseStored (s : State) (level idx : Nat) : State :=
  if (s.swatchesUnder level idx).isEmpty then s else s.loseNode level idx

/-- A codeword of the module's own is uncorrectable, and no other copy can serve: map entries become torn, nodes are lost, tags void,
dwell records 0; a sector of the system bolt stays as it is (R335, R336, 15 R367, R372). -/
def State.loseBare (s : State) (x : BareLine) : State :=
  match x with
  | .map k => s.loseEntries ((List.range 16).map (16 * k + ·)) 1
  | .node level idx => s.loseStored level idx
  | .nodeTags k j => (List.range 8).foldl (fun s i =>
      match slotNode k (8 * (j - 65) + i) with | some n => s.loseStored n.1 n.2 | none => s) s
  | .dwell d => (List.range 32).foldl (fun s i => if (s.boltAt (32 * d + i)).isSome then s.setDwell (32 * d + i) 0 else s) s
  | .tags t => (List.range 8).foldl (fun s i => s.voidTag (8 * t + i)) s
  | .sys _ => s
  | .other => s

/-- What a lost granule of a bolt's protection region held: its tags become void; a leaf not resident in the counter
cache tears its swatch (R494). Region byte r starts the granule. -/
def State.loseRegionGranule (s : State) (b r : Nat) : State :=
  let size := s.rd R.BLT.BOLT_BASE.LEN_SW b
  let first := s.rd R.BLT.BOLT_BASE.BASE_SW b * 1024
  if r < 8192 * size then
    (List.range 32).foldl (fun s k => s.voidTag (first + r / 8 + k)) s
  else
    (List.range 4).foldl (fun s k =>
      let j := (r - 8192 * size) / 64 + k
      let leaf := s.leafBase b + j
      if j < 16 * size ∧ ¬ s.guard.cache.contains leaf then s.loseNode 0 leaf else s) s

/-- Whole region frame i holds tags or leaves of swatch k of a bolt of `size` swatches (R321). -/
def inRegion (size i k : Nat) : Bool :=
  let lo := 65536 * i
  let hi := lo + 65536
  (8192 * k < hi && lo < 8192 * (k + 1)) || (8192 * size + 1024 * k < hi && lo < 8192 * size + 1024 * (k + 1))

/-- A region frame that finds no new frame: every swatch whose tags or leaves it holds is torn, recorded at level 0, and the frame
is lost (R494). -/
def State.loseRegionFrame (s : State) (b i : Nat) : State :=
  let size := s.rd R.BLT.BOLT_BASE.LEN_SW b
  let sws := (List.range size).filter (inRegion size i)
  let s := s.tearSwatches (sws.map (s.rd R.BLT.BOLT_BASE.BASE_SW b + ·))
  ({ s with mem := { s.mem with lostRegions := s.mem.lostRegions ++ [(b, i)] } } : State).recordTorn 0
    (s.leafBase b + 16 * sws.headD 0) b

/-- Frame f holds region frame i of bolt b from here on. -/
def State.setRegion (s : State) (b i f : Nat) : State :=
  { s with mem := { s.mem with regions := s.mem.regions.put b ((s.mem.regions.get [] b).set i f),
                               lostRegions := s.mem.lostRegions.filter (· != (b, i)) } }

/-- The lost region frames that hold tags or leaves of a swatch take new frames before it is restitched; none where the pool has none
(R494). -/
def State.retakeRegions (s : State) (b sw : Nat) : Option State :=
  let k := sw - s.rd R.BLT.BOLT_BASE.BASE_SW b
  (s.mem.lostRegions.filter (fun x => x.1 == b && inRegion (s.rd R.BLT.BOLT_BASE.LEN_SW b) x.2 k)).foldl
    (fun (acc : Option State) x => acc.bind (fun s => (s.takeRegion b x.2).map (fun t => (t.1.setRegion b x.2 t.2).seamCheck)))
    (some s)

/-- One whole region frame of a bolt that lies on torn pseudo-channel q takes a new S2 frame, chosen as at CREATE (R235, R494). -/
def State.rehomeFrame (s : State) (q b i f : Nat) : State :=
  if (s.groupPcs 1 (frameParts 1 f).1).contains q ∧ ¬ s.lostRegion b i then
    let lost := (List.range 256).filter (fun g => (s.granulePlace 1 f g).1 == q)
    let out (s : State) : State := s.setMember (frameGroup 1 f) (frameParts 1 f).2.1 .free
    match s.takeRegion b i with
    | some (t, f') =>
      lost.foldl (fun s g => s.loseRegionGranule b (65536 * i + 256 * g)) ((out t).setRegion b i f').seamCheck
    | none => (out s).loseRegionFrame b i
  else s

/-- The protection region of one bolt after a tear of pseudo-channel q (R493, R494). -/
def State.rehomeBolt (s : State) (q b : Nat) : State :=
  let fs := s.mem.regions.get [] b
  let s := (List.range fs.length).foldl (fun s i => s.rehomeFrame q b i (fs.getD i 0)) s
  let size := s.rd R.BLT.BOLT_BASE.LEN_SW b
  let base := s.mem.partBase.get 0 b
  let lost := (List.range (regionPart size)).filter (fun g => (base + g) % 64 == q)
  lost.foldl (fun s g => s.loseRegionGranule b (65536 * regionFrames size + 256 * g)) s

/-- Tree nodes of level 2 on pseudo-channel q that have a Native swatch beneath (R493). -/
def State.level2On (s : State) (q : Nat) : List Nat :=
  ((s.bolts.filter (fun b => s.native b)).flatMap fun b =>
    let lo := s.leafBase b / 4096
    let hi := (s.leafBase b + 16 * s.rd R.BLT.BOLT_BASE.LEN_SW b + 4095) / 4096
    ((List.range (hi - lo)).map (lo + ·)).filter (fun k => k % 64 == q)).eraseDups

/-- The status of a request to a torn swatch. -/
def stTorn : Nat := 0x22

/-- A slot is served no more, as its pseudo-channel is torn or its command has failed: the descriptor that has not completed without it
fails, and no prefix of its destination is known to hold new data (R58, 07 R181, 14 R357). -/
def State.failSlot (s : State) (k : Slot) (st : Nat := stTorn) : State :=
  match k.use with
  | .work (some (r, n)) =>
    let x := s.ring r
    s.setRing r { x with descs := x.descs.map (fun d =>
      if d.serial = n ∧ d.status = 0 then { d with status := st, bytesDone := 0, result := 0 } else d) }
  | _ => s

/-- A pseudo-channel's slots leave its controller: what waited for it has failed (R58). -/
def State.dropSlots (s : State) (q : Nat) : State :=
  let x := s.chan (q / 2)
  let lost := (s.lng.bufWait.filter (fun w => w.1 == q / 2)).map (·.2) ++ x.waiting ++ x.admitted
  let s := (lost.filter (fun k => k.pc == q % 2)).foldl (fun s k => s.failSlot k) s
  let s : State := { s with lng := { s.lng with
      bufWait := s.lng.bufWait.filter (fun w => !(w.1 == q / 2 && w.2.pc == q % 2)) } }
  s.setChan (q / 2) { x with waiting := x.waiting.filter (fun k => k.pc != q % 2),
                             admitted := x.admitted.filter (fun k => k.pc != q % 2) }

/-- The sweep that runs on pseudo-channel q ends with it; one of a selvedge lane of its own goes on (16 R386). -/
def State.endSweepOn (s : State) (q : Nat) : State :=
  match s.cal.now.find (q / 2) with
  | some (_, i) => if i.kind ≠ 0 ∧ i.pc = q % 2 then s.stopSweep (q / 2) else s
  | none => s

/-- Pseudo-channel q is torn; before Boot step 7 there are no copies to lose (R58, R59, R60, R227, R228, R251, R493, R494). -/
def State.tearOne (s : State) (q : Nat) : State :=
  if s.tornPc q then s else
  let s : State := { s with mem := { s.mem with torn := s.mem.torn ++ [q] },
                            per := { s.per with gone := if s.per.gone.contains q then s.per.gone else s.per.gone ++ [q] } }
  let s := s.wr (if q % 2 = 0 then R.CHN.STATUS.TORN_PC0 else R.CHN.STATUS.TORN_PC1) 1 (q / 2)
  let s := ((s.endSweepOn q).dropSlots q).releaseLanes q
  let hit := s.mem.groups.filter (fun g => s.groupOn g q)
  let held := hit.flatMap (fun g => g.members.filterMap (fun m => match m with | .swatch k => some k | _ => none))
  let aims := (s.mem.moves.filter (fun m => !m.flipped && hit.any (fun g => g.is (frameGroup m.newCls m.newFrame)))).map (·.swatch)
  let s := { s with mem := { s.mem with
      groups := s.mem.groups.map (fun g => if s.groupOn g q then { g with lost := true } else g) } }
  let s := s.tearSwatches held
  let s := aims.foldl State.cancelMove s
  let s := if s.fw.inMeta ∧ s.twinLost q then s.loseCopies q else s
  let s : State := { s with mem := { s.mem with
      dwell := s.mem.dwell.keepKeys (fun k => dwellPc k != q), dwellTear := s.mem.dwellTear.put q s.mem.epochs,
      rebuilding := s.mem.rebuilding ++ [q] } }
  let s := (s.level2On q).foldl (fun s k => s.loseNode 2 k) s
  let s := (s.bolts.filter (fun b => s.native b)).foldl (fun s b => s.rehomeBolt q b) s
  (s.capCheck.seamCheck).raise Src.pcTorn

/-- A wide channel switches to narrow mode: a pseudo-channel for which no half is runnable is torn, and the channel has
entered narrow mode all the same (R51, R54). -/
def State.narrowNow (s : State) (c : Nat) : State :=
  let pcs := s.alivePcs c
  if s.narrowFits c pcs then (s.enterNarrow c pcs).shrinkS32
  else
    let s := s.tearOne (2 * c + s.neediest c pcs)
    let rest := s.alivePcs c
    if s.narrowFits c rest then (s.enterNarrow c rest).shrinkS32
    else ((rest.foldl (fun (s : State) pc => s.tearOne (2 * c + pc)) s).enterNarrow c []).shrinkS32

/-- Pseudo-channel q is torn. The other pseudo-channel of its channel stays in service in narrow mode, or is torn as well
where no half of it is runnable (R54, R57, R58, R227). -/
def State.tearPc (s : State) (q : Nat) : State :=
  if s.tornPc q then s else
  let c := q / 2
  let s := s.tearOne q
  let rest := s.alivePcs c
  let s := if s.narrowed c ∨ rest = [] then s
    else if s.noWindow then s.narrowNow c
    else if s.narrowFits c rest then s.oweNarrow c
    else (rest.foldl (fun (s : State) pc => s.tearOne (2 * c + pc)) s).oweNarrow c
  s.shrinkS32

/-- METADATA_REBUILT (R231, R493). -/
def execMetadataRebuilt (st : State) : Host.Outcome State Fault Refusal :=
  live st { st with mem := { st.mem with rebuilding := st.mem.rebuilding.drop 1 } }

end Sys2Proof.Machine
end

