-- ==== Sys2Proof/Machine/Codec.lean ====
section
/-! DEFINITION. Stored codewords: what a sector is stored as in each mode, how it is read back, the counter tree and its
cache, key use, and what errors leave behind (13 R318-R333, 14 R357, R358, 15 R360-R367). -/

namespace Sys2Proof.Machine

/-- Statuses of a line that cannot be read, beside TORN_RANGE (07 R180): UNCORRECTABLE, INTEGRITY_FAIL. -/
def stUncorrectable : Nat := 0x20
/-- INTEGRITY_FAIL. -/
def stIntegrity : Nat := 0x21

/-- The address fold of data sector n = OFFSET[39:6] (R362). -/
def dataFold (n : Nat) : Nat := bits n 0 8 ^^^ bits n 8 8 ^^^ bits n 16 8 ^^^ bits n 24 8 ^^^ bits n 32 2

/-- The MAC bytes of a poisoned Compat sector (R363). -/
def compatPoison : Nat := 0xB4C3D2E1

/-- The stored codeword of a None or Native sector: 64 bytes, META0, META1, six check symbols (R360). -/
def encodeWide (n meta0 : Nat) (body : List Byte) : List Byte :=
  rsEncode 6 (body ++ [BitVec.ofNat 8 meta0, BitVec.ofNat 8 (dataFold n)])

/-- The stored codeword of a Compat sector: 64 bytes, MAC, four check symbols (R360). -/
def encodeCompat (mac : Nat) (body : List Byte) : List Byte := rsEncode 4 (body ++ leBytes 4 mac)

/-- A zero line. -/
def zeroSector : List Byte := List.replicate 64 0

/-- A poisoned codeword (R363). -/
def encodePoison (mode n : Nat) : List Byte :=
  if mode = 1 then encodeCompat compatPoison zeroSector else encodeWide n 0xA5 zeroSector

/-- Both copies of key slot k are written, or cleared (15 R369). -/
def State.putKey (s : State) (k : Nat) (x : Option KeySlot) : State :=
  let on (m : SMap KeySlot) : SMap KeySlot := match x with | some v => m.put k v | none => m.del k
  { s with guard := { s.guard with keys := on s.guard.keys, keys2 := on s.guard.keys2 } }

/-- A key slot's keys; an empty slot has none. -/
def State.slotKeys (s : State) (k : Nat) : KeySlot :=
  s.guard.keys.get { kd := [], km := [], nonce := [], kEnc := [], kTwk := [], kAuth := [] } k

/-- A bolt in REKEYING under the rekey in progress (R331-R333). -/
def State.rekeying (s : State) (b : Nat) : Bool :=
  s.rd R.BLT.BOLT_ATTR.STATE b == 4 && s.rd R.PRT.REKEY.STATE == 1 &&
    s.rd R.BLT.BOLT_ATTR.KEY_ID b == s.rd R.PRT.REKEY.TARGET

/-- The leaf group of 64 lines that holds sector n is converted. -/
def State.isConverted (s : State) (n : Nat) : Bool := s.guard.converted.get false (n / 64)

/-- The slot under whose keys sector n of bolt b stands (R333). -/
def State.keySlotFor (s : State) (b n : Nat) : Nat :=
  if s.rekeying b ∧ s.isConverted n then s.rd R.PRT.REKEY.STAGING else s.rd R.BLT.BOLT_ATTR.KEY_ID b

/-- Sector n of bolt b stands under a key slot that both copies have lost (15 R369). -/
def State.badKey (s : State) (b n : Nat) : Bool :=
  !s.guard.badKeys.isEmpty && s.boltMode b != 0 && s.guard.badKeys.contains (s.keySlotFor b n)

/-- The global leaf of sector n of a Native bolt (R321, R322). -/
def State.leafOf (s : State) (b n : Nat) : Nat := s.leafBase b + (n - s.rd R.BLT.BOLT_BASE.BASE_SW b * 1024) / 64

/-- The bolt whose leaves include a global leaf. -/
def State.leafBolt (s : State) (leaf : Nat) : Option Nat :=
  s.bolts.find? (fun b => s.native b && s.leafBase b ≤ leaf &&
    leaf < s.leafBase b + 16 * s.rd R.BLT.BOLT_BASE.LEN_SW b)

/-- Two of three copies (R323). -/
def voteNode (a b c : Node) : Node := if a = b ∨ a = c then a else b

/-- The key of copy i of a node of level 4 or the root. -/
def topKey (level idx i : Nat) : Nat := level * 2 ^ 25 + i * 2 ^ 20 + idx

/-- A tree node: as written, or as CREATE set it up; level 4 and the root by vote (R322, R323, R328). -/
def State.node (s : State) (level idx : Nat) : Node :=
  let copy (i : Nat) : Node := s.guard.nodes.get {} (topKey level idx i)
  if 4 ≤ level then voteNode (copy 0) (copy 1) (copy 2) else
  match s.guard.nodes.find (level * 2 ^ 25 + idx) with
  | some x => x
  | none =>
    if level = 0 then
      match s.leafBolt idx with
      | some b => { major := s.guard.leafMajor.get 0 b + (idx - s.leafBase b) }
      | none => {}
    else {}

/-- The state with a tree node replaced, in its three copies at level 4 and the root. -/
def State.setNode (s : State) (level idx : Nat) (x : Node) : State :=
  let m := if 4 ≤ level then [0, 1, 2].foldl (fun (m : SMap Node) i => m.put (topKey level idx i) x) s.guard.nodes
    else s.guard.nodes.put (level * 2 ^ 25 + idx) x
  { s with guard := { s.guard with nodes := m } }

/-- Minor i of a node. -/
def Node.minor (x : Node) (i : Nat) : Nat := x.minors.get x.all i

/-- The 64 bytes of a node (R323). -/
def Node.bytes (x : Node) : List Byte :=
  leBytes 8 x.major ++ leBytes 56 ((List.range 64).foldl (fun v i => v + x.minor i * 2 ^ (7 * i)) 0)

/-- The bolt beneath a level 2 node whose slot tags it: of those whose keys can be read, the one with the lowest leaf base (R319, R323; log
entry 45). -/
def State.subtreeBolt (s : State) (idx : Nat) : Option Nat :=
  let beneath (b : Nat) : Bool :=
    s.native b && s.leafBase b < 4096 * (idx + 1) && 4096 * idx < s.leafBase b + 16 * s.rd R.BLT.BOLT_BASE.LEN_SW b &&
      !s.guard.badKeys.contains (s.rd R.BLT.BOLT_ATTR.KEY_ID b)
  (sortBy (fun b => [(s.leafBase b : Int)]) (s.bolts.filter beneath)).head?

/-- The slot under whose K_auth a node is tagged: that of the bolt that a leaf or a level 1 node belongs to alone, a leaf in a
converted group under the staging slot; at level 2 that of one of the bolts beneath, and none where no bolt is (R319, R322, R333). -/
def State.nodeSlot (s : State) (level idx : Nat) : Option Nat :=
  match level with
  | 0 => (s.leafBolt idx).map (fun b => s.keySlotFor b (s.rd R.BLT.BOLT_BASE.BASE_SW b * 1024 + (idx - s.leafBase b) * 64))
  | 1 => (s.leafBolt (64 * idx)).map (fun b => s.rd R.BLT.BOLT_ATTR.KEY_ID b)
  | _ => (s.subtreeBolt idx).map (fun b => s.rd R.BLT.BOLT_ATTR.KEY_ID b)

/-- The tag of a node under its parent's present counter for it and the K_auth of its slot; a node above no bolt has none (R315, R319). -/
def State.nodeTagOf (s : State) (level idx : Nat) : Option Nat :=
  let p := s.node (level + 1) (idx / 64)
  (s.nodeSlot level idx).map (fun k =>
    nodeTag (s.slotKeys k).kAuth level idx (p.minor (idx % 64)) p.major (s.node level idx).bytes)

/-- A node's tag is written as it is now (R326, R327). -/
def State.putNodeTag (s : State) (level idx : Nat) : State :=
  let key := level * 2 ^ 25 + idx
  { s with guard := { s.guard with nodeTags := match s.nodeTagOf level idx with
      | some t => s.guard.nodeTags.put key t
      | none => s.guard.nodeTags.del key } }

/-- The stored tags of the nodes that pass a test are written anew, as the slot that tags them has changed (R315, R319; log entry 45). -/
def State.retagNodes (s : State) (p : Nat → Nat → Bool) : State :=
  (s.guard.nodeTags.keys.filter (fun key => p (key / 2 ^ 25) (key % 2 ^ 25))).foldl (fun s key =>
    s.putNodeTag (key / 2 ^ 25) (key % 2 ^ 25)) s

/-- A bolt in ACTIVE enters KEY_EXHAUSTED (R329). -/
def State.exhaustBolt (s : State) (b : Nat) : State :=
  if s.rd R.BLT.BOLT_ATTR.STATE b = 2 then s.wr R.BLT.BOLT_ATTR.STATE 3 b else s

/-- The encryption count of slot k is at the limit: its ACTIVE bolts enter KEY_EXHAUSTED (R329). -/
def State.keyLimit (s : State) (k : Nat) : State :=
  let bs := s.bolts.filter (fun b => s.rd R.BLT.BOLT_ATTR.KEY_ID b == k && s.rd R.BLT.BOLT_ATTR.STATE b == 2 && b != 0)
  if 2 ^ s.rd R.PRT.CFG.KEY_LIMIT_LOG2 ≤ s.rd R.PRT.KEY_USE.COUNT k ∧ (¬ bs.isEmpty ∨ ¬ s.on R.PRT.KEY_CTRL.EXHAUSTED k) then
    ((bs.foldl State.exhaustBolt s).wr R.PRT.KEY_CTRL.EXHAUSTED 1 k).raise Src.keyExhausted
  else s

/-- Sector encryptions under slot k are counted (R312, R329). -/
def State.encrypted (s : State) (k n : Nat) : State :=
  (s.wr R.PRT.KEY_USE.COUNT (min (s.rd R.PRT.KEY_USE.COUNT k + n) (2 ^ 64 - 1)) k).keyLimit k

/-- A leaf major issued under slot k raises its high-water mark (R328). -/
def State.issueMajor (s : State) (k m : Nat) : State := s.wr R.PRT.KEY_HWM.M (max m (s.rd R.PRT.KEY_HWM.M k)) k

/-- A leaf major that reaches its reserve exhausts its bolt; so does one at level 1 or 2 above its leaves (R329). -/
def State.majorCheck (s : State) (level idx : Nat) : State :=
  if 2 ^ 64 - 2 ≤ (s.node level idx).major then
    let bs := (s.swatchesUnder level idx).map (·.1)
    (bs.foldl (fun s b => (s.exhaustBolt b).wr R.PRT.KEY_CTRL.EXHAUSTED 1 (s.rd R.BLT.BOLT_ATTR.KEY_ID b)) s).raise Src.keyExhausted
  else s

/-- The granules that hold the tags of the 64 children of a node of level 1 to 3, as pseudo-channel, row and slot granule (R493). -/
def childTagPlaces (level idx : Nat) : List (Nat × Nat × Nat) :=
  ((List.range 64).map (fun i =>
    let c := 64 * idx + i
    let k := subtreeKey (nodeRoot (level - 1) c) (tagRow (level - 1) c)
    (k / 2 ^ 25, k / 1024 % 2 ^ 15, k / 4 % 256))).eraseDups

/-- The tags of a node's children are written anew: their granules are owed to whoever caused it (R327). -/
def State.noteTags (s : State) (level idx : Nat) : State :=
  if 1 ≤ level ∧ level ≤ 3 then { s with lng := { s.lng with tagGranules := s.lng.tagGranules ++ childTagPlaces level idx } } else s

/-- The counter of a child in a node advances by one (R326). A minor that would pass 127 gives the node a new major with
all minors 0 and the tags of its 64 children anew; what that means for a leaf's lines is said where leaves advance
(R327). -/
def State.bumpNode (s : State) (level idx child : Nat) : State :=
  let x := s.node level idx
  let m := x.minor child + 1
  let s := if level ≤ 2 then
    { s with guard := { s.guard with dirtyNodes := s.guard.dirtyNodes.put (level * 2 ^ 25 + idx) true } } else s
  if m ≤ 127 then s.setNode level idx { x with minors := x.minors.set x.all child m }
  else
    let s := (s.setNode level idx { major := x.major + 1 }).count 199
    let s := if level ≤ 2 then s.majorCheck level idx else s
    if level = 0 then s else
      (List.range 64).foldl (fun s i =>
        let c := 64 * idx + i
        let key := (level - 1) * 2 ^ 25 + c
        if (s.guard.nodeTags.find key).isSome ∧ level ≤ 3 then s.putNodeTag (level - 1) c else s)
        (s.noteTags level idx)

/-- The counter of a child of a node advances, and at level 3 those above it with it: they change only on-die (R326; log entry 91). -/
def State.bumpPath (s : State) (level idx child : Nat) : State :=
  let s := s.bumpNode level idx child
  if level = 3 then (s.bumpNode 4 (idx / 64) (idx % 64)).bumpNode 5 0 (idx / 64) else s

/-- A node leaves the counter cache; a dirty one advances its parent's counter for it and is written with its tag
(R326). -/
def State.evictNode (s : State) (key : Nat) : State :=
  let level := key / 2 ^ 25
  let idx := key % 2 ^ 25
  let s := { s with guard := { s.guard with cache := s.guard.cache.filter (· != key) } }
  if s.guard.dirtyNodes.get false key then
    let s := { s with guard := { s.guard with dirtyNodes := s.guard.dirtyNodes.del key } }
    (s.bumpPath (level + 1) (idx / 64) (idx % 64)).putNodeTag level idx
  else s

/-- A node has a resident child. -/
def State.nodeBusy (s : State) (key : Nat) : Bool :=
  s.guard.cache.any (fun k => k / 2 ^ 25 + 1 == key / 2 ^ 25 && k % 2 ^ 25 / 64 == key % 2 ^ 25)

/-- A node becomes the most recent of the counter cache, which holds 32 768 (R324). -/
def State.cacheNode (s : State) (key : Nat) : State :=
  let s := { s with guard := { s.guard with cache := key :: s.guard.cache.filter (· != key) } }
  if s.guard.cache.length ≤ 32768 then s
  else match s.guard.cache.reverse.find? (fun k => !s.nodeBusy k) with
    | some k => s.evictNode k
    | none => s

/-- One level of a fetch: a hit, or the parent first and then the node, whose tag must verify (R324). -/
def State.fetchStep (s : State) (level idx : Nat) (parent : State → State × Bool) : State × Bool :=
  let key := level * 2 ^ 25 + idx
  if s.guard.cache.contains key then ((s.count 197).cacheNode key, true)
  else
    let (s, ok) := parent (s.count 198)
    if !ok then (s, false) else
    let good := match s.guard.nodeTags.find key with
      | some t => s.nodeTagOf level idx == some t
      | none => true
    if good then (s.cacheNode key, true) else (s.loseNode level idx, false)

/-- A level 2 node is in the counter cache. -/
def State.fetchTop (s : State) (idx : Nat) : State × Bool := s.fetchStep 2 idx (fun s => (s, true))

/-- A level 1 node is in the counter cache, its parent first. -/
def State.fetchMid (s : State) (idx : Nat) : State × Bool := s.fetchStep 1 idx (fun s => s.fetchTop (idx / 64))

/-- A leaf is in the counter cache, its ancestors up to level 2 first; false if one of them does not verify (R324). -/
def State.fetchLeaf (s : State) (leaf : Nat) : State × Bool := s.fetchStep 0 leaf (fun s => s.fetchMid (leaf / 64))

/-- Every dirty node of the counter cache is written back, lowest level first; the nodes stay resident (R410). -/
def State.writeNodes (s : State) : State :=
  [0, 1, 2].foldl (fun s level =>
    (s.guard.dirtyNodes.keys.filter (fun k => k / 2 ^ 25 == level)).foldl (fun s k =>
      let c := s.guard.cache
      let s := s.evictNode k
      { s with guard := { s.guard with cache := c } }) s) s

/-- The lane that byte k of a stored codeword travels on: by R40 in wide mode; in narrow mode the lanes of the half in use take its
bytes in turn, four each (R40, R53, 15 R361; DESIGN CHOICE, log entry 94). -/
def State.byteLane (s : State) (q k : Nat) : Nat :=
  if s.narrowed (q / 2) then
    ((List.range 36).filter (inHalf (s.rd (halfField (q % 2)) (q / 2)))).getD (k % 18) 0
  else k % 36

/-- A sector of the outer code was corrected on pseudo-channel q at the stored bytes given: counts, lanes and the leaky
bucket (R40, R47, R365, R366). -/
def State.corrected (s : State) (q : Nat) (at_ : List Nat) : State :=
  let c := q / 2
  let s := (s.bump R.ECC.CORR.SECTORS).bump R.ECC.CORR.SYMBOLS 0 at_.length
  let s := ((s.count 200).count 201 at_.length).countChan c 7 at_.length
  let sy := at_.foldl (fun m k =>
      let key := q * 64 + s.byteLane q k
      m.set 0 key (m.get 0 key + 1)) s.cal.symbols
  let s : State := { s with cal := { s.cal with symbols := sy } }
  if s.rd R.ECC.BUCKET.LEVEL c < s.rd R.ECC.CFG.DEPTH then s.bump R.ECC.BUCKET.LEVEL c
  else if s.rdBit R.ECC.BUCKET_OVF.ARMED c then
    (((s.wrBit R.ECC.BUCKET_OVF.ARMED c false).wrBit R.ECC.BUCKET_OVF.OVF c true).count 202).raise Src.ceBucketOvf
  else s

/-- An uncorrectable error is logged, counted and raised (R357, R358). -/
def State.logError (s : State) (q : Nat) (e : ErrEntry) : State :=
  let c := q / 2
  let x := s.chan c
  let s := if x.log.length < 8 then s.setChan c { x with log := x.log ++ [e] } else s.bump R.CHN.ERRLOG_CTRL.DROPPED c
  (s.countChan c 8).raise Src.chnUncorrectable

/-- An uncorrectable data error of the sector with key k (R357). -/
def State.dataError (s : State) (k : Nat) (syn : List Nat) (located : Option Nat) : State :=
  let (addr, spare) := s.logPlace k
  (s.count 195).logError (k / 2 ^ 25)
    { addr := addr, pc := k / 2 ^ 25 % 2, kind := 0, spare := spare,
      syndrome := leNat (syn.map (BitVec.ofNat 8)), located := match located with | some n => n | none => 0xFF, tick := s.tick }

/-- An uncorrectable command error on the sector with key k: the CA lanes that mismatched and the reissues (R357). -/
def State.commandError (s : State) (k lanes reissues : Nat) : State :=
  let (addr, spare) := s.logPlace k
  s.logError (k / 2 ^ 25)
    { addr := addr, pc := k / 2 ^ 25 % 2, kind := 1, spare := spare,
      syndrome := lanes % 32 + min 7 reissues * 32, located := 0, tick := s.tick }

/-- What a stored sector gives its reader: a status of 0 with the plaintext, or the status of its failure. -/
structure Got where
  status : Nat
  data : List Byte
  deriving DecidableEq, Repr

/-- A sector read without fault. -/
def good (d : List Byte) : Got := ⟨0, d⟩

/-- A sector that cannot be read. -/
def bad (st : Nat) : Got := ⟨st, zeroSector⟩

/-- The stored codeword of sector n of bolt b that no write has reached: a zero line of the bolt's mode, under the
sector's present counter (R236). -/
def State.zeroWord (s : State) (b n : Nat) : List Byte :=
  let k := s.slotKeys (s.keySlotFor b n)
  match s.boltMode b with
  | 1 =>
    let ct := xtsEncrypt k.kEnc k.kTwk (64 * n) zeroSector
    encodeCompat (compatMac k.kAuth (64 * n) ct) ct
  | 2 =>
    let x := s.node 0 (s.leafOf b n)
    encodeWide n 0 (ctrSector k.kEnc (64 * n) (x.minor (n % 64)) x.major zeroSector)
  | _ => encodeWide n 0 zeroSector

/-- The 72 bytes a read of the sector with key k gives, with what the read adds to them. -/
def State.storedWord (s : State) (b n k : Nat) (flips : List (Nat × Byte)) : List Byte :=
  let w := if s.mem.written.get false k then cellsOf s.mem.cells k else s.zeroWord b n
  flips.foldl (fun w f => w.set f.1 (w.getD f.1 0 ^^^ f.2)) w

/-- A sector that no write has reached and that reads without noise. -/
def State.cleanZero (s : State) (k : Nat) (flips : List (Nat × Byte)) : Bool :=
  !s.mem.written.get false k && flips.isEmpty

/-- The outer code's part of reading sector n at key k (R360-R363, R367): its information bytes, or UNCORRECTABLE. -/
def State.outer (s : State) (b n k : Nat) (flips : List (Nat × Byte)) : State × Option (List Byte) :=
  let r := if s.boltMode b = 1 then 4 else 6
  let w := s.storedWord b n k flips
  match rsDecode r w with
  | none =>
    ((s.bump R.ECC.UNCORR.DECODE).dataError k (rsSyndromes r (w.map BitVec.toNat)) none, none)
  | some d =>
    let s := if d.located.isEmpty then s else s.corrected (k / 2 ^ 25) d.located
    if s.boltMode b = 1 then
      if leNat (sliceBytes d.bytes 64 4) = compatPoison ∧ (d.bytes.take 64).all (· == 0) then
        ((s.bump R.ECC.UNCORR.POISON_READS).count 195, none)
      else (s, some d.bytes)
    else
      let m0 := (d.bytes.getD 64 0).toNat
      let m1 := (d.bytes.getD 65 0).toNat
      if m1 ≠ dataFold n ∨ (m0 ≠ 0 ∧ m0 ≠ 0xA5) then
        ((s.bump R.ECC.UNCORR.META).dataError k d.syndromes (some d.located.length), none)
      else if m0 = 0xA5 then ((s.bump R.ECC.UNCORR.POISON_READS).count 195, none)
      else (s, some d.bytes)

/-- The stored tag of sector n of a Native bolt: as written, or that of the zero line it was placed as (R319, R320). -/
def State.tagOf (s : State) (b n : Nat) : Nat :=
  match s.guard.tags.find n with
  | some t => t.value
  | none =>
    let k := s.slotKeys (s.keySlotFor b n)
    let x := s.node 0 (s.leafOf b n)
    let m := x.minor (n % 64)
    nativeTag k.kAuth (64 * n) m x.major (ctrSector k.kEnc (64 * n) m x.major zeroSector)

/-- The tag of sector n is void (R336). -/
def State.tagVoid (s : State) (n : Nat) : Bool := (s.guard.tags.find n).elim false (·.void)

/-- META0 and the 64 bytes of a codeword of the module's own (R360, 09 R230, R233, 13 R323, R336). -/
def State.bareBytes (s : State) (x : BareLine) : Nat × List Byte :=
  match x with
  | .map k => (0, (List.range 16).flatMap (fun i => leBytes 4 (s.mapOf (16 * k + i))))
  | .node level idx => (0, (s.node level idx).bytes)
  | .nodeTags k j => (0, (List.range 8).flatMap (fun i =>
      leBytes 8 ((slotNode k (8 * (j - 65) + i)).elim 0 (fun n => s.guard.nodeTags.get 0 (n.1 * 2 ^ 25 + n.2)))))
  | .dwell d => (0, (List.range 32).flatMap (fun i => leBytes 2 (s.dwell (32 * d + i))))
  | .tags t =>
    ((List.range 8).foldl (fun v i => v + (s.tagVoid (8 * t + i)).toNat * 2 ^ i) 0,
      (List.range 8).flatMap (fun i => leBytes 8 ((s.boltAt (8 * t / 1024)).elim 0 (fun b => s.tagOf b (8 * t + i)))))
  | .sys n => if s.mem.sysBad.get false n then (0xA5, zeroSector) else (0, s.sysSector n)
  | .other => (0, zeroSector)

/-- The key of every copy of a codeword of the module's own (R493, 13 R321). -/
def State.bareKeys (s : State) (x : BareLine) : List Nat :=
  match x with
  | .map k =>
    let pcs := copyPcs (k / 4)
    [metaSector pcs.1 0 (k / 128) (k % 4), metaSector pcs.2 0 (k / 128) (k % 4)]
  | .node 0 leaf => (s.leafBolt leaf).toList.map (fun b =>
      s.regionKey b (8192 * s.rd R.BLT.BOLT_BASE.LEN_SW b + 64 * (leaf - s.leafBase b)))
  | .node 1 i => [subtreeKey (i / 64) (1 + i % 64)]
  | .node _ i => [subtreeKey i 0]
  | .nodeTags k j => [subtreeKey k j]
  | .dwell d => [metaSector (d / 4 % 64) 106 (d / 256) (d % 4)]
  | .tags t => (s.boltAt (8 * t / 1024)).toList.map (fun b => s.regionKey b (64 * (t - s.rd R.BLT.BOLT_BASE.BASE_SW b * 128)))
  | .sys n => (sysPlaces (n / 4)).map (fun p => sectorKey p.1 p.2.1 p.2.2 (n % 4))
  | .other => []

/-- A codeword of the module's own is read at key k with what its read adds: none where it is uncorrectable, by the decoder or by META1;
otherwise whether the outer code corrected it, and its bytes up to META0. Poison is counted (R360-R363, R366, R367). -/
def State.bareRead (s : State) (x : BareLine) (k : Nat) (flips : List (Nat × Byte)) : State × Option (Bool × List Byte) :=
  let (m0, body) := s.bareBytes x
  let poisoned (s : State) (d : List Byte) : State :=
    match x with
    | .sys _ => if d.getD 64 0 = 0xA5 then (s.bump R.ECC.UNCORR.POISON_READS).count 195 else s
    | _ => s
  if flips.isEmpty then
    let d := body ++ [BitVec.ofNat 8 m0]
    (poisoned s d, some (false, d))
  else
    let w := flips.foldl (fun w f => w.set f.1 (w.getD f.1 0 ^^^ f.2)) (encodeWide k m0 body)
    match rsDecode 6 w with
    | none => ((s.bump R.ECC.UNCORR.DECODE).dataError k (rsSyndromes 6 (w.map BitVec.toNat)) none, none)
    | some d =>
      let s := if d.located.isEmpty then s else s.corrected (k / 2 ^ 25) d.located
      if (d.bytes.getD 65 0).toNat = dataFold k then (poisoned s d.bytes, some (!d.located.isEmpty, d.bytes.take 65))
      else ((s.bump R.ECC.UNCORR.META).dataError k d.syndromes (some d.located.length), none)

/-- A sector that fails its tag or MAC (R325, R335). -/
def State.tagFail (s : State) : State := (s.bump R.PRT.TREE_STAT.TAG_FAILS).count 194

/-- The plaintext of sector n of bolt b from its stored bytes: tag or MAC, then the cipher (R264, R318, R325). -/
def State.unseal (s : State) (b n k : Nat) (w : List Byte) : State × Got :=
  let body := w.take 64
  let keys := s.slotKeys (s.keySlotFor b n)
  match s.boltMode b with
  | 1 =>
    if compatMac keys.kAuth (64 * n) body = leNat (sliceBytes w 64 4) then
      (s, good (xtsDecrypt keys.kEnc keys.kTwk (64 * n) body))
    else (s.tagFail, bad stIntegrity)
  | 2 =>
    let x := s.node 0 (s.leafOf b n)
    let fresh := !s.mem.written.get false k
    let ok := match s.guard.tags.find n with
      | some t => !t.void && (fresh || t.value == nativeTag keys.kAuth (64 * n) (x.minor (n % 64)) x.major body)
      | none => true
    if ok then (s, good (ctrSector keys.kEnc (64 * n) (x.minor (n % 64)) x.major body))
    else (s.tagFail, bad stIntegrity)
  | _ => (s, good body)

/-- Sector n of bolt b is read at key k of the stack (R264). -/
def State.readStored (s : State) (b n k : Nat) (flips : List (Nat × Byte)) : State × Got :=
  if s.badKey b n then (s, bad stUncorrectable)
  else if s.cleanZero k flips ∧ ¬ s.native b then (s, good zeroSector)
  else
    match s.outer b n k flips with
    | (s, none) => (s, bad stUncorrectable)
    | (s, some w) =>
      if s.native b then
        match s.fetchLeaf (s.leafOf b n) with
        | (s, false) => (s, bad stTorn)
        | (s, true) =>
          if s.cleanZero k flips then
            match s.guard.tags.find n with
            | some t => if t.void then (s.tagFail, bad stIntegrity) else (s, good zeroSector)
            | none => (s, good zeroSector)
          else s.unseal b n k w
      else s.unseal b n k w

/-- The frames that a swatch's writes go to: its frame, and during a move the target as well (R249). -/
def State.writeFrames (s : State) (sw : Nat) : List (Nat × Nat) :=
  let e := s.mapOf sw
  match entryState e with
  | 0 => [(entryClass e, entryFrame e)]
  | 1 => (entryClass e, entryFrame e) :: (match s.moveOf sw with | some m => [(m.newCls, m.newFrame)] | none => [])
  | _ => []

/-- The keys of sector n in every frame that its writes go to. -/
def State.writeKeys (s : State) (n : Nat) : List Nat :=
  (s.writeFrames (n / 1024)).map (fun f => s.frameSector f.1 f.2 (n / 4 % 256) (n % 4))

/-- Stored bytes written at one key. -/
def State.storeAt (s : State) (w : List Byte) (k : Nat) : State :=
  { s with mem := { s.mem with cells := putBytes s.mem.cells (k * 72) w, written := s.mem.written.put k true } }

/-- Stored bytes of sector n written wherever its writes go. -/
def State.store (s : State) (n : Nat) (w : List Byte) : State := (s.writeKeys n).foldl (fun s k => s.storeAt w k) s

/-- Sector n of bolt b is encoded under the sector's present key and counter and written; a Native tag is stored with it
(R267, R318). -/
def State.seal (s : State) (b n : Nat) (data : List Byte) : State :=
  let slot := s.keySlotFor b n
  let keys := s.slotKeys slot
  match s.boltMode b with
  | 1 =>
    let ct := xtsEncrypt keys.kEnc keys.kTwk (64 * n) data
    (s.store n (encodeCompat (compatMac keys.kAuth (64 * n) ct) ct)).encrypted slot 1
  | 2 =>
    let x := s.node 0 (s.leafOf b n)
    let ct := ctrSector keys.kEnc (64 * n) (x.minor (n % 64)) x.major data
    let t : SecTag := ⟨nativeTag keys.kAuth (64 * n) (x.minor (n % 64)) x.major ct, false⟩
    let s := s.store n (encodeWide n 0 ct)
    ({ s with guard := { s.guard with tags := s.guard.tags.put n t } }).encrypted slot 1
  | _ => s.store n (encodeWide n 0 data)

/-- Sector n is written as poison (R363). -/
def State.poison (s : State) (b n : Nat) : State := s.store n (encodePoison (s.boltMode b) n)

/-- The key under which sector n is read (R249): the old frame while a move runs. -/
def State.readKey (s : State) (n : Nat) : Nat :=
  let e := s.mapOf (n / 1024)
  s.frameSector (entryClass e) (entryFrame e) (n / 4 % 256) (n % 4)

/-- A leaf is set up anew under slot k: major M + 1, all minors 0; the tag it had is void with it (R328). -/
def State.freshLeaf (s : State) (leaf k : Nat) : State :=
  let m := s.rd R.PRT.KEY_HWM.M k + 1
  let s := s.setNode 0 leaf { major := m }
  let s := { s with guard := { s.guard with
      dirtyNodes := s.guard.dirtyNodes.put leaf true, nodeTags := s.guard.nodeTags.del leaf } }
  (s.issueMajor k m).majorCheck 0 leaf

/-- What the 64 lines of the group of sector n read as, before the group is written anew, with whatever goes wrong in those reads: none
where the swatch has no frame (R327, R334, 15 R366, R367). -/
def State.readGroup (s : State) (b n : Nat) : State × List (Option Got) :=
  let first := n / 64 * 64
  let noise := Config.groupNoise s.freeCtr
  (List.range 64).foldl (fun acc i =>
    let (s, out) := acc
    let k := s.readKey (first + i)
    if (s.writeFrames (n / 1024)).isEmpty then (s, out ++ [none])
    else if !s.mem.written.get false k then
      (s, out ++ [if (match s.guard.tags.find (first + i) with | some t => t.void | none => false) then some (bad stIntegrity) else none])
    else
      let (s, g) := s.readStored b (first + i) k ((noise.filter (fun f => f.1 == i)).map (fun f => (f.2.1 % 72, f.2.2)))
      (s, out ++ [some g])) (s.drawn, [])

/-- The lines of a group are written back as read, but for one: an uncorrectable line as poison, one whose tag failed
with a void tag (R327, R334). -/
def State.writeGroup (s : State) (b n : Nat) (gs : List (Option Got)) (skip : Option Nat) : State :=
  let first := n / 64 * 64
  (List.range 64).foldl (fun s i =>
    if skip = some (first + i) then s else
    match gs.getD i none with
    | none => s
    | some g =>
      if g.status = 0 then s.seal b (first + i) g.data
      else if g.status = stUncorrectable then s.poison b (first + i)
      else s.voidTag (first + i)) s

/-- A group of 64 sectors on the stack has been read and written anew: its slots are owed to whoever caused it (R327, R332). -/
def State.noteGroup (s : State) (n : Nat) : State :=
  if (s.writeFrames (n / 1024)).isEmpty then s else { s with lng := { s.lng with groups := s.lng.groups ++ [n / 64] } }

/-- The group of sector n is converted under the staging slot (R332, R333). -/
def State.convertGroup (s : State) (b n : Nat) : State :=
  let (s, gs) := s.readGroup b n
  let k := s.rd R.PRT.REKEY.STAGING
  let s := if s.native b then s.freshLeaf (s.leafOf b n) k else s
  let s := { s with guard := { s.guard with converted := s.guard.converted.put (n / 64) true } }
  let zeros := gs.countP (·.isNone)
  let s := s.writeGroup b n gs none
  let s := if (s.writeFrames (n / 1024)).isEmpty then s else s.encrypted k zeros
  (s.noteGroup n).bump R.PRT.REKEY_PROG.DONE

/-- The counter of sector n advances for a write-back; an overflow re-encrypts the group's other lines (R326, R327). -/
def State.advance (s : State) (b n : Nat) : State :=
  let leaf := s.leafOf b n
  let (s, _) := s.fetchLeaf leaf
  if (s.node 0 leaf).minor (n % 64) < 127 then s.bumpNode 0 leaf (n % 64)
  else
    let (s, gs) := s.readGroup b n
    let s := s.bumpNode 0 leaf (n % 64)
    let s := s.issueMajor (s.keySlotFor b n) (s.node 0 leaf).major
    let zeros := ((gs.zip (List.range 64)).countP (fun g => g.1.isNone && g.2 != n % 64))
    ((s.writeGroup b n gs (some n)).encrypted (s.keySlotFor b n) zeros).noteGroup n

/-- A write-back of sector n of bolt b to the stack (R267, R326, R333). -/
def State.writeSector (s : State) (b n : Nat) (data : List Byte) : State :=
  if (s.writeFrames (n / 1024)).isEmpty ∨ s.badKey b n then s else
  let s := if s.rekeying b ∧ ¬ s.isConverted n ∧ s.boltMode b ≠ 0 then s.convertGroup b n else s
  let s := if s.native b then s.advance b n else s
  s.seal b n data

/-- Every line of a swatch just placed is a zero line of its bolt's mode: the initialisation encrypts 1024 sectors, under
counters not used before (R236, R320). -/
def State.initSwatch (s : State) (b sw : Nat) : State :=
  match s.boltMode b with
  | 0 => s
  | mode =>
    let n := sw * 1024
    let slot := s.keySlotFor b n
    let s := { s with guard := { s.guard with tags := s.guard.tags.keepKeys (fun k => k / 1024 != sw) } }
    let s := if mode = 2 then
      (List.range 16).foldl (fun s j =>
        let leaf := s.leafOf b (n + 64 * j)
        let (s, _) := s.fetchLeaf leaf
        let x := s.node 0 leaf
        let top := (List.range 64).foldl (fun m i => max m (x.minor i)) 0
        let s := { s with guard := { s.guard with dirtyNodes := s.guard.dirtyNodes.put leaf true } }
        if top < 127 then s.setNode 0 leaf { x with all := x.all + 1, minors := x.minors.mapVals (fun _ v => v + 1) }
        else
          let s := (s.setNode 0 leaf { major := x.major + 1 }).count 199
          (s.issueMajor slot (x.major + 1)).majorCheck 0 leaf) s
    else s
    s.encrypted slot 1024

/-- First placement before a write to a swatch in the zero state; false where no frame exists (R236, R237). -/
def State.placeForWrite (s : State) (b sw : Nat) : State × Bool :=
  if entryState (s.mapOf sw) ≠ 3 then (s, true)
  else
  let s := if s.rekeying b ∧ s.boltMode b ≠ 0 then
    (List.range 16).foldl (fun s j =>
      if s.isConverted (sw * 1024 + 64 * j) then s else s.convertGroup b (sw * 1024 + 64 * j)) s
    else s
  match s.firstPlace b sw with
    | some t => (t.initSwatch b sw, true)
    | none => (s.frameExhausted, false)

end Sys2Proof.Machine
end

