-- ==== Sys2Proof/Machine/Mirror.lean ====
section
/-! DEFINITION. The mirror stream as the primary sends it: records, frames and the holds they cause (18 R424-R430,
R434). -/

namespace Sys2Proof.Machine

/-- AES-256-GCM with a 12-byte nonce: the counter block of number k (R426). -/
def gcmBlock (nonce : List Byte) (k : Nat) : List Byte := nonce ++ be32 k

/-- A run of bytes filled up with zeros to whole 16-byte blocks. -/
def gcmPad (bs : List Byte) : List (List Byte) :=
  let n := ceilDiv bs.length 16
  chunk 16 n (padTo (16 * n) bs)

/-- The keystream part of AES-256-GCM: the same function encrypts and decrypts. -/
def gcmCrypt (key nonce text : List Byte) : List Byte :=
  let rk := aesKeys key
  let n := ceilDiv text.length 16
  let stream := ((List.range n).map (fun i => beBlock (aesEncrypt rk (beNat (gcmBlock nonce (i + 2)))))).flatten
  List.zipWith (· ^^^ ·) text stream

/-- The tag of AES-256-GCM over additional data and ciphertext. -/
def gcmTag (key nonce aad cipher : List Byte) : List Byte :=
  let h := beNat (aes256 key (leBlock 0))
  let lens := beBlock (8 * aad.length * 2 ^ 64 + 8 * cipher.length)
  let s := ghash h (gcmPad aad ++ gcmPad cipher ++ [lens])
  beBlock (s ^^^ beNat (aes256 key (gcmBlock nonce 1)))

/-- The nonce of frame seq: the sequence followed by 32 zero bits (R426). -/
def frameNonce (seq : Nat) : List Byte := leBytes 8 seq ++ leBytes 4 0

/-- Bytes of payload in a stitch (R414). -/
def stitchBytes : Nat := 126

/-- Record bytes that a frame of 64 stitches holds beside its sequence and tag (R426). -/
def frameRoom : Nat := 64 * stitchBytes - 24

/-- A frame's records with the PAD that fills its last stitch (R426). -/
def padRecords (recs : List Byte) : List Byte :=
  padTo (ceilDiv (recs.length + 24) stitchBytes * stitchBytes - 24) recs

/-- The bytes of frame seq under a link key (R426). -/
def sealFrame (key : List Byte) (seq : Nat) (recs : List Byte) : List Byte :=
  let ct := gcmCrypt key (frameNonce seq) (padRecords recs)
  leBytes 8 seq ++ ct ++ gcmTag key (frameNonce seq) (leBytes 8 seq) ct

/-- The sequence and record bytes of a received frame, if it is authentic under a link key (R427). -/
def openFrame (key : List Byte) (f : List Byte) : Option (Nat × List Byte) :=
  let seq := leNat (f.take 8)
  let ct := (f.drop 8).take (f.length - 24)
  if 24 ≤ f.length ∧ gcmTag key (frameNonce seq) (f.take 8) ct = f.drop (f.length - 16) then
    some (seq, gcmCrypt key (frameNonce seq) ct)
  else none

/-- Bits set in a sector mask. -/
def maskCount (m : Nat) : Nat := (List.range 4).countP (bit m)

/-- The size of the record that starts with header value h; none for a type the table does not give. -/
def recordSize (h : Nat) : Option Nat :=
  match h % 16 with
  | 0 => some 1
  | 1 => some (8 + 64 * maskCount (bits h 4 4))
  | 2 => some 8
  | 3 => some 16
  | 4 => some 80
  | 5 => some 8
  | 6 => some 8
  | _ => none

/-- The records of a frame in order; PAD is dropped, and nothing is read past a type without a meaning. -/
def splitRecords : Nat → List Byte → List (List Byte)
  | 0, _ => []
  | k + 1, bs =>
    match bs with
    | [] => []
    | b :: rest =>
      if b.toNat % 16 = 0 then splitRecords k rest
      else match recordSize (leNat (bs.take 8)) with
        | some n => bs.take n :: splitRecords k (bs.drop n)
        | none => []

/-- The records in a run of record bytes. -/
def recordsOf (bs : List Byte) : List (List Byte) := splitRecords (bs.length + 1) bs

/-- The logical swatch that a LINE, ZERO or TORN record is about. -/
def recordSwatch (r : List Byte) : Option Nat :=
  let h := leNat (r.take 8)
  match h % 16 with
  | 1 => some (bits h 8 32 / 256)
  | 2 => some (bits h 4 24)
  | 5 => some (bits h 4 24)
  | _ => none

/-- A LINE record: the sectors of line L with new content, ascending. -/
def lineRecord (line : Nat) (secs : List (Nat × List Byte)) : List Byte :=
  let mask := secs.foldl (fun m s => m + 2 ^ s.1) 0
  leBytes 8 (1 + mask * 2 ^ 4 + line * 2 ^ 8) ++ (secs.map (·.2)).flatten

/-- A ZERO record. -/
def zeroRecord (sw : Nat) : List Byte := leBytes 8 (2 + sw * 2 ^ 4)

/-- A TABLE record: table 0 client, 1 bolt, 2 grant, 3 TCK register; entry, set-up offset, value. -/
def tableRecord (table entry off v : Nat) : List Byte :=
  leBytes 8 (3 + table * 2 ^ 4 + entry * 2 ^ 6 + off * 2 ^ 18) ++ leBytes 8 v

/-- A KEY record: operation 0 LOAD, 1 CLEAR, 2 REKEY; slot, staging slot, wrapped keys. -/
def keyRecord (op slot staging : Nat) (wrapped : List Byte) : List Byte :=
  leBytes 8 (4 + op * 2 ^ 4 + slot * 2 ^ 6 + staging * 2 ^ 18) ++ padTo 72 wrapped

/-- A TORN record. -/
def tornRecord (sw : Nat) : List Byte := leBytes 8 (5 + sw * 2 ^ 4)

/-- A RESTITCH record. -/
def restitchRecord (sw : Nat) : List Byte := leBytes 8 (6 + sw * 2 ^ 4)

/-- A primary in SYNCING or PAIRED sends records (R424). -/
def State.mirroring (s : State) : Bool :=
  s.rd R.TCK.STATUS.ROLE == 1 && (s.rd R.TCK.STATUS.PAIR == 1 || s.rd R.TCK.STATUS.PAIR == 2)

/-- A BROKEN primary records what changes (R434). -/
def State.recording (s : State) : Bool := s.rd R.TCK.STATUS.ROLE == 1 && s.rd R.TCK.STATUS.PAIR == 3

/-- Bolt b is mirrored SYNC (R425). -/
def State.syncBolt (s : State) (b : Nat) : Bool := s.rdBit R.TCK.MIRMODE.SYNC (b % 64) (b / 64)

/-- The link keys of the two directions, from the nonces of primary and secondary (R421). -/
def State.linkKey (s : State) (label : List Byte) (primary secondary : Nat) : List Byte :=
  kdf (s.tack.key.getD []) label (leBytes 16 primary ++ leBytes 16 secondary)

/-- The label "TCKP". -/
def labelPrimary : List Byte := [0x54, 0x43, 0x4B, 0x50]

/-- The label "TCKS". -/
def labelSecondary : List Byte := [0x54, 0x43, 0x4B, 0x53]

/-- The keys of the two directions for this module's role (R421). -/
def State.linkKeys (s : State) (peerNonce role : Nat) : State :=
  let p := if role = 1 then s.tack.nonce else peerNonce
  let q := if role = 1 then peerNonce else s.tack.nonce
  let kp := s.linkKey labelPrimary p q
  let ks := s.linkKey labelSecondary p q
  { s with tack := { s.tack with txKey := if role = 1 then kp else ks, rxKey := if role = 1 then ks else kp } }

/-- Something leaves on the link in n stitches, which are counted ahead of their stitch times (12 R306). -/
def State.sendStitch (s : State) (t : TackOut) (n : Nat := 1) : State :=
  (({ s with tack := { s.tack with txLead := s.tack.txLead + n } } : State).emit (.tack t)).count 928 n

/-- Stitches that a command brings are counted, ahead of their stitch times (12 R306). -/
def State.gotStitch (s : State) (n : Nat := 1) : State :=
  ({ s with tack := { s.tack with rxLead := s.tack.rxLead + n } } : State).count 929 n

/-- Frame number seq leaves on the link, if the link is up and carries frames; its sequence counts from the link-up (R421). -/
def State.sendFrameSeq (s : State) (seq : Nat) (recs : List Byte) : State :=
  if s.on R.TCK.STATUS.LINK ∧ s.tack.carries then
    let f := sealFrame s.tack.txKey (seq - s.tack.base) recs
    (s.sendStitch (.mirror f) (f.length / stitchBytes)).wr R.TCK.SEQ.SENT (seq - s.tack.base)
  else s

/-- The open frame closes and is sent (R426). -/
def State.closeFrame (s : State) : State :=
  if s.tack.openRecs.isEmpty then s else
  let seq := s.tack.sendSeq
  let recs := s.tack.openRecs.flatten
  let n := s.tack.openRecs.countP (fun r => (r.headD 0).toNat % 16 == 1)
  let s : State := { s with tack := { s.tack with
      openRecs := [], sendSeq := seq + 1, unacked := s.tack.unacked ++ [(seq, s.tack.openTick, recs)] } }
  (s.count 934 n).sendFrameSeq seq recs

/-- A record joins the open frame; a frame without room for it closes first, and a SYNC record closes its frame (R426). -/
def State.addRecord (s : State) (r : List Byte) (sync : Bool) : State :=
  let used := s.tack.openRecs.flatten.length
  let s := if used + r.length ≤ frameRoom then s else s.closeFrame
  let s : State := { s with tack := { s.tack with
      openRecs := s.tack.openRecs ++ [r],
      openTick := if s.tack.openRecs.isEmpty then s.tick else s.tack.openTick } }
  if sync ∨ s.tack.openRecs.flatten.length = frameRoom then s.closeFrame else s

/-- The sequence whose commit commits every record generated so far. -/
def State.lastSeq (s : State) : Nat := if s.tack.openRecs.isEmpty then s.tack.sendSeq - 1 else s.tack.sendSeq

/-- A change of bolt b's content: a record to the partner, or a bit of the resync map (R424, R434). -/
def State.mirror (s : State) (b sw : Nat) (r : List Byte) : State :=
  if b = 0 then s
  else if s.mirroring then s.addRecord r (s.syncBolt b)
  else if s.recording then { s with tack := { s.tack with resync := s.tack.resync.put sw true } }
  else s

/-- The tick at which the oldest record not yet committed was generated. -/
def State.oldestRecord (s : State) : Option Nat :=
  match s.tack.unacked with
  | (_, t, _) :: _ => some t
  | [] => if s.tack.openRecs.isEmpty then none else some s.tack.openTick

/-- The lag in us (R429). -/
def State.lagUs (s : State) : Nat := match s.oldestRecord with | some t => (s.tick - t) / 1000 | none => 0

/-- Pool buffers of 256 bytes that frames hold (R430). -/
def State.frameBufs (s : State) : Nat :=
  (s.tack.unacked.foldl (fun n f => n + ceilDiv ((padRecords f.2.2).length + 24) 256) 0) +
    (if s.tack.openRecs.isEmpty then 0 else ceilDiv ((padRecords s.tack.openRecs.flatten).length + 24) 256)

/-- Writes to mirrored bolt b wait (R429, R430, R434). -/
def State.mirrorHold (s : State) (b : Nat) : Bool :=
  b != 0 && s.mirroring &&
    (s.rd R.TCK.CFG.LAG_MAX_US ≤ s.lagUs || s.rd R.TCK.CFG.QUEUE_LIMIT ≤ s.frameBufs || !s.on R.TCK.STATUS.LINK)

/-- A write to bolt b is accepted only when the partner has committed it (R428). -/
def State.needsCommit (s : State) (b : Nat) : Bool := b != 0 && s.mirroring && s.syncBolt b

/-- The partner has committed frame seq, or the pair no longer mirrors; 0 names no frame (R427, R428, R434). -/
def State.committed (s : State) (seq : Nat) : Bool :=
  !s.mirroring || seq < (match s.tack.unacked with | (u, _, _) :: _ => u | [] => s.tack.sendSeq)

end Sys2Proof.Machine
end

