-- ==== Sys2Proof/Machine/Slots.lean ====
section
/-! DEFINITION. Slots and their classes, the Bobbin pool, activates and the activate tables, and map lookups with their
sampling (02 R39, 09 R232, R239, 11 R283-R289, R297, 14 R344, R345, R352, R353, 20 R459). -/

namespace Sys2Proof.Machine

/-- Pool buffers held by received frames (R297, QOS.POOL.RX). -/
def State.poolRx (s : State) : Nat :=
  s.ports.entries.foldl (fun n p => p.2.held.entries.foldl (fun n e => n + e.2) n) 0

/-- Descriptors of a ring that are held and have not started, those being fetched included (07 R168). -/
def Ring.heldDescs (r : Ring) : Nat :=
  r.descs.countP (fun d => d.stage == .consumed) + r.fetching.foldl (fun n f => n + f.2.2) 0

/-- Pool buffers that a ring's held descriptors take, four to a buffer (07 R168). -/
def Ring.heldBufs (r : Ring) : Nat := ceilDiv r.heldDescs 4

/-- Pool buffers held by fetched descriptors (QOS.POOL.SHUTTLE). -/
def State.poolShuttle (s : State) : Nat := s.rings.entries.foldl (fun n r => n + r.2.heldBufs) 0

/-- A slot that takes a pool buffer of its own: the buffer of a held no-allocate write is the write's, and a second write of a
migrating line sends the same data (R283, R297). -/
def Slot.buffered (k : Slot) : Bool :=
  match k.use with
  | .around _ => false
  | .merged _ => false
  | .twin => false
  | _ => true

/-- A slot that regulation counts: not the second write of a migrating line, nor the write of a line whose read was the slot (R283).
-/
def Slot.counted (k : Slot) : Bool :=
  match k.use with
  | .merged _ => false
  | .twin => false
  | _ => true

/-- Slots at a controller: those waiting and those admitted. -/
def Chan.slots (x : Chan) : List Slot := x.waiting ++ x.admitted

/-- Pool buffers held by slots at the channels, by held no-allocate writes, by waiting requests and by started descriptors
(QOS.POOL.CHANNEL). -/
def State.poolChannel (s : State) : Nat :=
  s.chans.entries.foldl (fun n c => n + c.2.slots.countP Slot.buffered) 0 + s.lng.around.length +
    s.qps.entries.foldl (fun n q => q.2.held.foldl (fun n h => n + h.buffers) n) 0 +
    s.rings.entries.foldl (fun n r => n + r.2.descs.countP (fun d => d.stage != .consumed)) 0

/-- Free pool buffers (R297, QOS.POOL.FREE). Mirror frames are held in the pool as well (R430). -/
def State.poolFree (s : State) : Nat := 8192 - (s.poolRx + s.poolShuttle + s.poolChannel + s.frameBufs)

/-- The channels of BIST wave w (20 R458). -/
def waveChannels (w : Nat) : List Nat := [w, 8 + (w + 2) % 8, 16 + (w + 4) % 8, 24 + (w + 6) % 8]

/-- A controller may issue commands: no window, the stack in use, its clock locked (R77, R354, R406). -/
def State.mayIssueCmds (s : State) (c : Nat) : Bool :=
  !s.on R.CHN.STATUS.IN_WINDOW c && s.mode != modeHold && !s.inReset c

/-- The channels of a wave have credit, hold no activates and may issue commands: BIST runs under Hem's rules (02 R43, 17 R406). -/
def State.waveReady (s : State) (w : Nat) : Bool :=
  (waveChannels w).all (fun c => (s.tornPc (2 * c) && s.tornPc (2 * c + 1)) ||
    (s.hasCredit c && !s.on R.CHN.STATUS.ACT_HOLD c && s.mayIssueCmds c))

/-- Slots that a running BIST wave keeps in flight: four at each of its channels (R286; DESIGN CHOICE, log entry 88). -/
def State.bistFlight (s : State) : Nat :=
  match s.bist.waves with
  | w :: _ =>
    if (s.booting ∨ s.mode = modeMaint) ∧ s.waveReady w then
      4 * (waveChannels w).countP (fun c => !(s.tornPc (2 * c) && s.tornPc (2 * c + 1)))
    else 0
  | [] => 0

/-- Slots of master m in flight: at a controller and not complete (R286). -/
def State.inflight (s : State) (m : Nat) : Nat :=
  (if m = 70 then s.bistFlight else 0) +
    s.chans.entries.foldl (fun n c => n + c.2.slots.countP (fun k => k.master == m && k.counted)) 0

/-- Slots with some use: waiting for a buffer, or at a controller. -/
def State.slotsFor (s : State) (u : SlotUse) : Nat :=
  s.lng.bufWait.countP (fun w => w.2.use == u) + s.chans.entries.foldl (fun n c => n + c.2.slots.countP (fun k => k.use == u)) 0

/-- The class of a slot of master m (R287): 0 GUARANTEED, 1 NORMAL, 2 DEMOTED. -/
def State.slotClass (s : State) (m : Nat) : Nat :=
  if m = 65 then 2
  else if s.rd R.QOS.MASTER_STAT.EFF_GUAR m ≠ 0 ∧ s.reg.total.get 0 m < s.rd R.QOS.MASTER_STAT.EFF_GUAR m then 0
  else if s.rd R.QOS.MASTER.BUDGET m ≤ s.inflight m then 2
  else 1

/-- n slots of master m are issued in a class: the class is counted, and a demotion by the budget as well (R287, R306). -/
def State.countClass (s : State) (m cls : Nat) (n : Nat := 1) : State :=
  let s := s.count (128 + cls) n
  if cls = 2 ∧ m ≠ 65 then s.bump R.QOS.MASTER_CNT.DEMOTED m n else s

/-- n slots of master m are served: all count against its guarantee, and those that waited without Hem credit in no figure of the
window (R283, R287, R294, R306). -/
def State.slotServed (s : State) (m : Nat) (n : Nat := 1) (dry : Bool := false) : State :=
  let s := if m < 71 then s.count (768 + m) n else s
  let more (t : SMap Nat) : SMap Nat := t.set 0 m (t.get 0 m + n)
  { s with reg := { s.reg with total := more s.reg.total, served := if dry then s.reg.served else more s.reg.served } }

/-- An access to a row: a row hit, or an activate; PAGE_IDLE 0 closes the row at once (R345). -/
def State.openRow (s : State) (c pc ply bank row : Nat) : State :=
  let n := bankNum pc ply bank
  let phys := s.physRow c pc ply bank row
  let s := if (s.chan c).openRow.find n = some phys then s else s.activate c pc ply bank phys
  let x := s.chan c
  s.setChan c { x with openRow := if s.rd R.CHN.CTRL.PAGE_IDLE c = 0 then x.openRow.del n else x.openRow.put n phys }

/-- One unit of a channel's credit is used (R400). -/
def State.useCredit (s : State) (c : Nat) : State :=
  let x := s.chan c
  s.setChan c { x with credit := x.credit - 1 }

/-- Slots of one direction go on the bus of a pseudo-channel: one more of its run, or the first after it has turned (R345). -/
def State.busTakes (s : State) (c pc : Nat) (read : Bool) : State :=
  let x := s.chan c
  let b := x.bus.get {} pc
  let b : Bus := { read := read, run := if b.read == read then b.run + 1 else 1, last := s.tick + 1 }
  s.setChan c { x with bus := x.bus.put pc b }

/-- n bursts of one direction to a ply of a channel, counted and charged (R306, 17 R389). -/
def State.burst (s : State) (c ply : Nat) (read : Bool) (n : Nat := 1) : State :=
  (s.countChan c (if read then 0 else 1) n).charge (if read then .read else .write) c ply n

/-- The commands of one slot, counted, on its bus, and its row opened (R345, R306). -/
def State.slotCommands (s : State) (c : Nat) (k : Slot) : State :=
  ((s.busTakes c k.pc k.isRead).burst c k.ply k.isRead).openRow c k.pc k.ply k.bank k.row

/-- n buffers are not free for master m: a request of no guarantee and no internal master leaves the reserve (R297). -/
def State.mustWait (s : State) (m : Nat) (n : Nat := 1) : Bool :=
  decide (s.poolFree < n + if s.slotClass m ≠ 0 ∧ m < 64 then s.rd R.QOS.POOL_CFG.GUAR_RESERVE else 0)

/-- The requests that wait for a buffer, as master and place among all that have come: slots, and packets that stand first at their
QP (R126, R297). -/
def State.bufferWaits (s : State) : List (Nat × Nat) :=
  s.lng.bufWait.map (fun w => (w.2.master, w.2.since)) ++
    s.qps.entries.filterMap (fun q => match q.2.held with
      | h :: _ => if h.needsBuffer then some (s.rd R.XPT.QP_STATE.CLIENT q.1, h.came) else none
      | [] => none)

/-- A request of master m for n buffers waits on: they are not free, or a free buffer goes to a request of a higher class, or of its
own class that came before (R288, R297). -/
def State.noTurn (s : State) (m came : Nat) (n : Nat := 1) : Bool :=
  s.mustWait m n || s.bufferWaits.any (fun w => !s.mustWait w.1 &&
    decide (s.slotClass w.1 < s.slotClass m ∨ (s.slotClass w.1 = s.slotClass m ∧ w.2 < came)))

/-- A slot is issued: it joins the slots waiting at its controller, its class is judged, and it is in flight from here (R286,
R287, R344). It has waited for a cell without Hem credit where its cell holds none (R294). -/
def State.joinSlot (s : State) (c : Nat) (k : Slot) : State :=
  let cls := s.slotClass k.master
  let k := { k with cls := cls, dry := !s.hasCredit c }
  let s := if k.counted then s.countClass k.master cls else s
  s.setChan c { s.chan c with waiting := (s.chan c).waiting ++ [k] }

/-- The waiting slot that a free buffer goes to: of the highest class among the requests that may take one, and the first of its class
to come (R297). -/
def State.nextWaiting (s : State) : Option Nat := s.lng.bufWait.findIdx? (fun w => !s.noTurn w.2.master w.2.since)

/-- The state without waiting request i. -/
def State.dropWait (s : State) (i : Nat) : State := { s with lng := { s.lng with bufWait := s.lng.bufWait.eraseIdx i } }

/-- A free buffer goes to a waiting request, whose slot is issued (R297). -/
def State.bufferFreed (s : State) : State :=
  match s.nextWaiting with
  | none => s
  | some i =>
    match s.lng.bufWait[i]? with
    | none => s
    | some (c, k) => (s.dropWait i).joinSlot c k

/-- A slot is asked for: it takes its turn for a pool buffer, so that none passes one that waits; a slot without a buffer of
its own is issued at once; on a torn pseudo-channel it fails (R58, R297). -/
def State.issueSlot (s : State) (c : Nat) (k : Slot) : State :=
  if s.tornPc (2 * c + k.pc) then s.failSlot k
  else if ¬ k.buffered then s.joinSlot c k
  else
    let n := s.lng.arrivals
    (({ s with lng := { s.lng with bufWait := s.lng.bufWait ++ [(c, { k with since := n })], arrivals := n + 1 } } : State)).bufferFreed

/-- The slot of slot granule sg of a row of pseudo-channel q, with its channel. -/
def slotAt (m q row sg : Nat) (isRead : Bool) (use : SlotUse) : Nat × Slot :=
  let (ply, bank) := granuleBank sg
  (q / 2, ⟨q % 2, ply, bank, row, isRead, m, use, 1, false, 0, false⟩)

/-- A slot of an engine's own access: the descriptor whose command runs asks for it in one of its steps, any other engine at
once (R283, 08 R222). -/
def State.owe (s : State) (x : Nat × Slot) : State :=
  match s.lng.job with
  | some j => { s with lng := { s.lng with job := some { j with slots := j.slots ++ [x] } } }
  | none => s.issueSlot x.1 x.2

/-- A lookup in the map cache, the most recent line first (R232). -/
def State.mapCached (s : State) (sw : Nat) : State :=
  let k := sw / 16
  (s.cacheMapLine k).count (if s.mem.mapCache.contains k then 171 else 172)

/-- The heat of an entry (R239). -/
def Heat.heat (h : Heat) : Nat := h.reads + h.writes

/-- Entries of the heat table (R239). -/
def heatEntries : Nat := 12288

/-- A sampled access to granule g of a swatch (R239; log entry 50). -/
def sampleHeat (t : List Heat) (sw g : Nat) (write : Bool) : List Heat :=
  let up (n : Nat) : Nat := min (n + 1) 4095
  match t.findIdx? (fun h => h.swatch == sw) with
  | some i =>
    let h := t.getD i ⟨sw, 0, 0, 0, g⟩
    let h := if write then { h with writes := up h.writes } else { h with reads := up h.reads }
    t.set i { h with ascending := if h.last < g then up h.ascending else h.ascending, last := g }
  | none =>
    let new (low : Nat) : Heat := ⟨sw, if write then 0 else up low, if write then up low else 0, 0, g⟩
    if t.length < heatEntries then t ++ [new 0]
    else
      let low := t.foldl (fun m h => min m h.heat) ((t.headD ⟨0, 0, 0, 0, 0⟩).heat)
      t.set (t.findIdx (fun h => h.heat == low)) (new low)

/-- A map lookup for a line request of master m: every 2^SAMPLE_SHIFT-th is sampled, an internal master's never (R239). -/
def State.lookupMap (s : State) (m line : Nat) (write : Bool) : State :=
  let sw := line / 256
  let s := s.mapCached sw
  let n := s.mem.lookups + 1
  let s : State := { s with mem := { s.mem with lookups := n % 4096 } }
  if n % 2 ^ s.rd R.PLC.CFG.SAMPLE_SHIFT = 0 ∧ m < 64 then
    let s : State := { s with mem := { s.mem with heat := sampleHeat s.mem.heat sw (line % 256) write } }
    (s.setDwell sw (setBit (s.dwell sw) 4 true)).count 160
  else s

end Sys2Proof.Machine
end

