-- ==== Sys2Proof/Machine/Lining.lean ====
section
/-! DEFINITION. The Lining: where a line lies, replacement, fills, writes and write-backs (10 R260-R281). -/

namespace Sys2Proof.Machine

/-- The slice of a line (R261). -/
def sliceOf (l : Nat) : Nat := (List.range 7).foldl (fun x i => x ^^^ bits l (5 * i) 5) 0

/-- The set of a line (R261). -/
def setOf (l : Nat) : Nat := (bits l 5 9 ^^^ bits l 14 9 ^^^ bits l 23 9) % 512

/-- The number of a line's set over all slices. -/
def setKey (l : Nat) : Nat := sliceOf l * 512 + setOf l

/-- The line held in way w of a set. -/
def State.wayLine (s : State) (set w : Nat) : Option Line := s.lng.lines.find (set * 16 + w)

/-- The way in which a line is resident. -/
def State.homeOf (s : State) (l : Nat) : Option Nat :=
  (List.range 16).find? (fun w => match s.wayLine (setKey l) w with | some x => x.addr == l | none => false)

/-- A line that waits for its way. -/
def State.waitingLine (s : State) (l : Nat) : Option Entering := s.lng.entering.find? (fun e => e.line.addr == l)

/-- The way of its set that a line has: where it is resident, or what it waits for (R266). -/
def State.wayOf (s : State) (l : Nat) : Option Nat :=
  match s.homeOf l with
  | some w => some w
  | none => (s.waitingLine l).map (fun e => e.way % 16)

/-- A line of the Lining: resident, or waiting for its way. -/
def State.lineAt (s : State) (l : Nat) : Option Line :=
  match s.homeOf l with
  | some w => s.wayLine (setKey l) w
  | none => (s.waitingLine l).map (·.line)

/-- Every line of the Lining, those that wait for their way last. -/
def State.allLines (s : State) : List Line := s.lng.lines.entries.map (·.2) ++ s.lng.entering.map (·.line)

/-- The lines of a way: the resident one, then those that wait for it, each the next one's victim. -/
def State.linesOfWay (s : State) (set w : Nat) : List Line :=
  (s.wayLine set w).toList ++ (s.lng.entering.filter (fun e => e.way == set * 16 + w)).map (·.line)

/-- An empty line of a bolt. -/
def emptyLine (l b : Nat) (sticky : Bool) : Line := ⟨l, b, sticky, List.replicate 4 {}⟩

/-- The data of a sector that held no-allocate writes of its line give, the newest first (R271). -/
def State.heldSec (s : State) (l k : Nat) : Option (List Byte) :=
  (s.lng.around.reverse.filter (fun a => a.line == l)).findSome? (fun a => (a.secs.find? (fun d => d.1 == k)).map (·.2))

/-- The data of a sector in the Lining: VALID in a resident line, or held for the line (R271). -/
def State.secData (s : State) (l k : Nat) : Option (List Byte) :=
  match s.lineAt l with
  | some x => if (x.sec k).valid then some (x.sec k).data else s.heldSec l k
  | none => s.heldSec l k

/-- A way of a set holds a line; a line without a VALID sector is no line (R260). -/
def State.putWay (s : State) (set w : Nat) (x : Line) : State :=
  { s with lng := { s.lng with
      lines := if x.anyValid then s.lng.lines.put (set * 16 + w) x else s.lng.lines.del (set * 16 + w) } }

/-- A line of the Lining is replaced where it stands, or leaves it without a VALID sector. -/
def State.putLine (s : State) (x : Line) : State :=
  match s.homeOf x.addr with
  | some w => s.putWay (setKey x.addr) w x
  | none =>
    let es := s.lng.entering.map (fun e => if e.line.addr = x.addr then { e with line := x } else e)
    { s with lng := { s.lng with entering := es.filter (fun e => e.line.anyValid) } }

/-- A line leaves the Lining. -/
def State.forget (s : State) (l : Nat) : State :=
  match s.homeOf l with
  | some w => { s with lng := { s.lng with lines := s.lng.lines.del (setKey l * 16 + w) } }
  | none => { s with lng := { s.lng with entering := s.lng.entering.filter (fun e => e.line.addr != l) } }

/-- Ways whose lines have nothing left to write back pass to those that wait for them (R266). -/
def State.settleWays (s : State) : State := { s with lng := s.lng.settle }

/-- The pseudo-LRU bits after an access to a way: every bit on its path points away from it (R266). -/
def lruTouch (t w : Nat) : Nat :=
  ((List.range 4).foldl (fun (acc : Nat × Nat) d =>
    let upper := bit w (3 - d)
    (setBit acc.1 acc.2 (!upper), 2 * acc.2 + 1 + upper.toNat)) (t, 0)).1

/-- The least recent of the qualifying ways among the 2^d ways from lo, node n covering them (R266). -/
def lruPick (t : Nat) (ok : Nat → Bool) : Nat → Nat → Nat → Nat
  | 0, lo, _ => lo
  | d + 1, lo, n =>
    let half := 2 ^ d
    let up := bit t n
    let has (u : Bool) : Bool := (List.range half).any (fun i => ok (lo + u.toNat * half + i))
    let u := if has up then up else !up
    lruPick t ok d (lo + u.toNat * half) (2 * n + 1 + u.toNat)

/-- The least recent qualifying way, if one qualifies. -/
def leastRecent (t : Nat) (ok : Nat → Bool) : Option Nat :=
  if (List.range 16).any ok then some (lruPick t ok 4 0 0) else none

/-- A way becomes the most recent of its set (R266). -/
def State.touchWay (s : State) (set w : Nat) : State :=
  { s with lng := { s.lng with lru := s.lng.lru.set 0 set (lruTouch (s.lng.lru.get 0 set) w) } }

/-- Lines with a sticky mark in the whole Lining, those that wait for their way counted: a victim has lost its mark (R272). -/
def State.stickyLines (s : State) : Nat := s.allLines.countP (·.sticky)

/-- Lines with a DIRTY sector (R270). -/
def State.dirtyLines (s : State) : Nat := s.lng.lines.entries.countP (fun e => e.2.anyDirty)

/-- Lines with a VALID sector. -/
def State.validLines (s : State) : Nat := s.lng.lines.entries.countP (fun e => e.2.anyValid)

/-- Sticky ways of a set. -/
def State.stickyWays (s : State) (set : Nat) : List Nat :=
  (List.range 16).filter (fun w => (s.linesOfWay set w).any (·.sticky))

/-- The cap on sticky lines in the whole Lining (R272). -/
def State.stickyCap (s : State) : Nat := 4096 * s.rd R.LNG.CFG.STICKY_MIB

/-- The sticky limits leave room for one more sticky line in a set (R272). -/
def State.stickyRoom (s : State) (set : Nat) : Bool := (s.stickyWays set).length < 4 && s.stickyLines < s.stickyCap

/-- The count of sticky lines has fallen below a lowered cap, or the cap has just been lowered below it (R273). -/
def State.settleCap (s : State) : State :=
  let on := (s.lng.lowered && decide (s.stickyCap ≤ s.stickyLines)) || decide (s.stickyCap < s.stickyLines)
  { s with lng := { s.lng with lowered := on } }

/-- The Lining policy of a bolt: 0 normal, 1 no-allocate, 2 sticky (R271). -/
def State.policy (s : State) (b : Nat) : Nat := s.rd R.BLT.BOLT_ATTR.LPOL b

/-- A line of a bolt whose key slot both copies have lost: every write-back of it fails (15 R369). -/
def State.keyLost (s : State) (l : Nat) : Bool :=
  !s.guard.badKeys.isEmpty && (match s.boltAt (l / 256) with | some b => s.badKey b (4 * l) | none => false)

/-- A write-back that has failed four times, or cannot take place at all: its sector stays DIRTY and resident (R268, 15 R369). -/
def State.stuck (s : State) (l k : Nat) : Bool :=
  s.lng.wbs.any (fun w => w.line == l && w.sector == k && 4 ≤ w.fails) || s.keyLost l

/-- The places that a write of line l goes to: pseudo-channel, row and slot granule of its frame, and of the target while its
swatch migrates (R225, R249, R283); of the system bolt the copies on pseudo-channels that are not torn (R493). -/
def State.writePlaces (s : State) (l : Nat) : List (Nat × Nat × Nat) :=
  if (s.boltAt (l / 256)).isNone then []
  else if s.boltHolds 0 (l / 256) then (sysPlaces l).filter (fun p => !s.tornPc p.1)
  else (s.writeFrames (l / 256)).map (fun f =>
    let (q, sg) := s.granulePlace f.1 f.2 (l % 256)
    (q, f.2 % 2 ^ 15, sg))

/-- The slot that serves a read of line l on the stack: the old frame while its swatch migrates (R225, R249, R283). -/
def State.linePlace (s : State) (l : Nat) : Nat × Nat × Nat :=
  match s.writePlaces l with
  | p :: _ => p
  | [] =>
    let e := s.mapOf (l / 256)
    let (q, sg) := s.granulePlace (entryClass e) (entryFrame e) (l % 256)
    (q, entryFrame e % 2 ^ 15, sg)

/-- The line lies on the stack: its swatch has a frame, or it is a line of the system bolt. -/
def State.onStack (s : State) (l : Nat) : Bool := !(s.writePlaces l).isEmpty

/-- A read of line l for master m takes a slot (R283). -/
def State.oweRead (s : State) (m l : Nat) (use : SlotUse) : State :=
  let (q, row, sg) := s.linePlace l
  s.owe (slotAt m q row sg true use)

/-- A write of line l for master m takes one slot; a second place takes the same write without counting (R249, R283). -/
def State.oweWrite (s : State) (m l : Nat) (use : SlotUse) : State :=
  match s.writePlaces l with
  | [] => s
  | (q, row, sg) :: more =>
    more.foldl (fun s p => s.owe (slotAt m p.1 p.2.1 p.2.2 false .twin)) (s.owe (slotAt m q row sg false use))

/-- The slots of groups of 64 sectors and of granules of node tags that were written anew, each read and written for master m (13 R327,
R332, 01 R23). -/
def State.chargeGroups (s : State) (m : Nat) : State :=
  let gs := s.lng.groups
  let ts := s.lng.tagGranules
  let s : State := { s with lng := { s.lng with groups := [], tagGranules := [] } }
  let s := ts.foldl (fun (s : State) p =>
    (s.owe (slotAt m p.1 p.2.1 p.2.2 true (.work none))).owe (slotAt m p.1 p.2.1 p.2.2 false (.work none))) s
  gs.foldl (fun s g => (List.range 16).foldl (fun (s : State) i =>
    (s.oweRead m (16 * g + i) (.work none)).oweWrite m (16 * g + i) (.work none)) s) s

/-- The slot of a write of line l that no step of a descriptor waits for: of a no-allocate write that is held, or of a write-back (R267,
R271). -/
def State.oweAside (s : State) (m l : Nat) (use : SlotUse) : State :=
  let j := s.lng.job
  let s := ({ s with lng := { s.lng with job := none } } : State).oweWrite m l use
  { s with lng := { s.lng with job := j } }

/-- One sector of a line goes to where the line is stored, for master m (R267, R143). -/
def State.storeSector (s : State) (m b l k : Nat) (data : List Byte) : State :=
  if b = 0 then
    let n := 4 * l + k
    let written := if s.mem.sysLost.contains (n / 4 % 32) then s.mem.written.put (sysKey n) true else s.mem.written
    { s with mem := { s.mem with
        sysBolt := putBytes s.mem.sysBolt (64 * n) data, written := written, sysBad := s.mem.sysBad.set false n false } }
  else (s.writeSector b (4 * l + k) data).chargeGroups m

/-- A sector's write-back for master m is accepted: stored, counted, its DIRTY bit clear (R267). -/
def State.cleanSector (s : State) (m : Nat) (x : Line) (k : Nat) : State :=
  let s := s.storeSector m x.bolt x.addr k (x.sec k).data
  let s := (s.bump R.LNG.EVICT.WRITEBACKS).count 102
  match s.lineAt x.addr with
  | some y =>
    let s := (s.putLine (y.setSec k { y.sec k with dirty := false })).settleWays
    { s with lng := { s.lng with wbs := s.lng.wbs.filter (fun b => !(b.line == x.addr && b.sector == k)) } }
  | none => s

/-- The state with other write-backs in progress. -/
def State.setWbs (s : State) (ws : List WriteBack) : State := { s with lng := { s.lng with wbs := ws } }

/-- A write-back of a sector is in progress. -/
def State.wbOf (s : State) (l k : Nat) : Option WriteBack := s.lng.wbs.find? (fun w => w.line == l && w.sector == k)

/-- A write-back of line l that the controller has still to accept (R263). -/
def State.wbOpen (s : State) (l : Nat) : Bool := s.lng.wbs.any (fun w => w.line == l && decide (w.fails < 4))

/-- The write-backs of a line's DIRTY sectors start for master m, but for those in progress: one slot for the line, and the line stays
until its controller has accepted it (R263, R267, R283). A line that has no place on the stack has nothing to wait for. -/
def State.startWbs (s : State) (m : Nat) (x : Line) : State :=
  let ks := x.dirtySecs.filter (fun k => (s.wbOf x.addr k).isNone && !s.keyLost x.addr)
  if ks.isEmpty then s
  else if ¬ s.onStack x.addr then ks.foldl (fun s k => s.cleanSector m x k) s
  else
    let t := s.setWbs (s.lng.wbs ++ ks.map (fun k => { line := x.addr, sector := k, master := m }))
    if s.slotsFor (.back x.addr) = 0 then t.oweAside m x.addr (.back x.addr) else t

/-- Every dirty line that passes a test is written back for master m (R267). -/
def State.startAll (s : State) (m : Nat) (p : Nat → Bool) : State :=
  (s.allLines.filter (fun x => p x.addr)).foldl (fun s x => s.startWbs m x) s

/-- A way holds a line with a stuck sector (R268). -/
def State.stuckWay (s : State) (set w : Nat) : Bool :=
  (s.linesOfWay set w).any (fun x => x.dirtySecs.any (fun k => s.stuck x.addr k))

/-- The sticky way of a set that a sticky allocation replaces: the least recent that is not stuck (R268, R272). -/
def State.stickyVictim (s : State) (set : Nat) : Option Nat :=
  leastRecent (s.lng.lru.get 0 set) (fun w => (s.stickyWays set).contains w && !s.stuckWay set w)

/-- The victim way of an allocation without a sticky way to replace: the lowest that holds no line, then the least recent without
a mark; an unmarked allocation never evicts a sticky line, and a stuck line stays (R266, R268, R272). -/
def State.victim (s : State) (set : Nat) : Option Nat :=
  match (List.range 16).find? (fun w => (s.linesOfWay set w).isEmpty) with
  | some w => some w
  | none => leastRecent (s.lng.lru.get 0 set) (fun w => !(s.stickyWays set).contains w && !s.stuckWay set w)

/-- The last line of a way gives it up: a dirty one loses its mark and is written back for master m, and the way is held until then
(R263, R266, R269). -/
def State.yieldWay (s : State) (m set w : Nat) : State :=
  match (s.linesOfWay set w).getLast? with
  | none => s
  | some y => if y.anyDirty then (s.putLine { y with sticky := false }).startWbs m y else s.forget y.addr

/-- A way for line l of bolt b, allocated for master m, and its sticky mark (R266, R269, R272, R273). None where every way that may
be taken is stuck (log entry 90). The line enters the way once it has a VALID sector. -/
def State.allocate (s : State) (m b l : Nat) : State × Option (Nat × Bool) :=
  let set := setKey l
  let s := s.settleCap
  let want := s.policy b == 2
  let room := s.stickyRoom set
  let old := if want && !room && !s.lng.lowered then s.stickyVictim set else none
  let mark := want && (room || old.isSome)
  match (match old with | some w => some w | none => s.victim set) with
  | none => (s, none)
  | some w =>
    let s := s.yieldWay m set w
    let s := if want then s.count (if mark then 106 else 107) else s
    (s.touchWay set w, some (w, mark))

/-- A new line takes its way, or waits until the victim there has been written back for master m (R263, R266). -/
def State.enterWay (s : State) (m w : Nat) (x : Line) : State :=
  let key := setKey x.addr * 16 + w
  if ¬ x.anyValid then s
  else ({ s with lng := { s.lng with entering := s.lng.entering ++ [⟨key, m, x⟩] } } : State).settleWays

/-- An access to a line decides its sticky mark again; one that gives up its way has none (R273). -/
def State.decideMark (s : State) (b l : Nat) : State :=
  match s.wayOf l with
  | none => s
  | some w =>
    let set := setKey l
    let s := s.settleCap
    match (s.linesOfWay set w).getLast? with
    | none => s
    | some x =>
      let mark := s.policy b == 2 && (x.sticky || s.stickyRoom set)
      if x.addr ≠ l ∨ mark = x.sticky then s else s.putLine { x with sticky := mark }

/-- A hit on a resident line: most recent, and its sticky mark decided again (R266, R273). -/
def State.touchLine (s : State) (b l : Nat) : State :=
  match s.wayOf l with
  | none => s
  | some w => (s.touchWay (setKey l) w).decideMark b l

/-- The state with other held no-allocate writes. -/
def State.setAround (s : State) (hs : List Around) : State := { s with lng := { s.lng with around := hs } }

/-- Sectors written around the Lining are held in a pool buffer until their slot is issued (R271, R283). Where the read of a partly
written line was the slot (`paid`), their write is not counted again. A line that has no place on the stack has nothing to wait for.
-/
def State.writeAround (s : State) (m b l : Nat) (secs : List (Nat × List Byte)) (paid : Bool) : State :=
  if ¬ s.onStack l then secs.foldl (fun s d => s.storeSector m b l d.1 d.2) s
  else (s.setAround (s.lng.around ++ [⟨l, b, m, secs⟩])).oweAside m l (if paid then .merged l else .around l)

/-- A new line of bolt b enters the Lining for master m; where no way may be taken, its DIRTY sectors go around it (log entry 90). -/
def State.admitLine (s : State) (m : Nat) (x : Line) : State :=
  match s.allocate m x.bolt x.addr with
  | (s, some (w, mark)) => s.enterWay m w { x with sticky := mark }
  | (s, none) =>
    if x.anyDirty then s.writeAround m x.bolt x.addr (x.dirtySecs.map (fun k => (k, (x.sec k).data))) false else s

/-- Sectors enter a line, allocated if need be; DIRTY is set for written ones and kept otherwise (R264, R265). -/
def State.install (s : State) (m b l : Nat) (secs : List (Nat × List Byte)) (dirty : Bool) : State :=
  if secs.isEmpty then s else
  let put (x : Line) : Line :=
    secs.foldl (fun x d => x.setSec d.1 { valid := true, dirty := dirty || (x.sec d.1).dirty, data := d.2 }) x
  match s.lineAt l with
  | some x => s.putLine (put x)
  | none => s.admitLine m (put (emptyLine l b false))

/-- The lines that wait for a way in which a line is stuck take another; of the others' victims what has been written anew is written
back again (R266, R268). -/
def State.renewEntering (s : State) : State :=
  s.lng.entering.foldl (fun (s : State) e =>
    match s.lng.lines.find e.way with
    | none => s
    | some x =>
      if x.dirtySecs.any (fun k => s.stuck x.addr k) then (s.forget e.line.addr).admitLine e.master ((s.lineAt e.line.addr).getD e.line)
      else s.startWbs e.master x) s.settleWays

/-- The inner word of 128 bits that stored byte k of sector l of a granule belongs to; each copy has its own (R359; log entry 117). -/
def innerWord (l k : Nat) : Nat := l / 4 * 18 + (72 * (l % 4) + k) / 16

/-- How many bits of inner word w the errors of a granule change (R359). -/
def innerErrors (fs : List (Nat × Nat × Byte)) (w : Nat) : Nat :=
  let at_ (l k : Nat) : Byte := fs.foldl (fun b f => if f.1 = l ∧ f.2.1 = k then b ^^^ f.2.2 else b) 0
  ((fs.map (fun f => (f.1, f.2.1))).eraseDups.filter (fun p => innerWord p.1 p.2 = w)).foldl
    (fun n p => n + (List.range 8).countP (fun i => (at_ p.1 p.2).getLsbD i)) 0

/-- What sector l of a granule leaves its ply with: the errors of its inner words, but for those of one bit, which the ply
corrects and never reports (R359). -/
def noiseAt (n : ReadNoise) (l : Nat) : List (Nat × Byte) :=
  (n.flips.filter (fun f => f.1 == l && innerErrors n.flips (innerWord f.1 f.2.1) != 1)).map (fun f => (f.2.1 % 72, f.2.2))

/-- What one sector of a line gives a reader. -/
abbrev SecGot := Nat × Got

/-- What goes wrong in one codeword on the way to a granule. -/
def onPath (n : ReadNoise) (w : PathWord) : List (Nat × Byte) := (n.path.filter (fun f => f.1 == w)).map (·.2)

/-- A codeword is read from the first of some copies that gives it (15 R367). -/
def State.firstCopy (s : State) (x : BareLine) : List (Nat × List (Nat × Byte)) → State × Option (List Byte)
  | [] => (s, none)
  | (k, fl) :: more =>
    match s.bareRead x k fl with
    | (s, some d) => (s, some d.2)
    | (s, none) => s.firstCopy x more

/-- A codeword of the module's own is fetched, each of its copies with what goes wrong in it: what it reads as, or its loss where no
copy serves. A copy that a tear took and that has been rebuilt serves from its new place (R231, R493, 15 R367; log entry 123). -/
def State.fetchBare (s : State) (x : BareLine) (noise : Nat → List (Nat × Byte)) : State × Option (List Byte) :=
  let ks := (s.bareKeys x).zip ((List.range 2).map noise)
  match s.firstCopy x (ks.filter (fun k => !s.tornPc (k.1 / 2 ^ 25))) with
  | (s, some d) => (s, some d)
  | (s, none) =>
    if ks.any (fun k => s.tornPc (k.1 / 2 ^ 25) && !s.mem.rebuilding.contains (k.1 / 2 ^ 25)) then (s, some ((s.bareBytes x).2))
    else (s.loseBare x, none)

/-- The node above line l at a level enters the counter cache from where it is stored: lost where it or its tag cannot be read, or where
the node that is read is not the one that was tagged (R324, R335). -/
def State.fetchNode (s : State) (b l : Nat) (noise : ReadNoise) (level : Fin 3) : State :=
  let idx := s.leafOf b (4 * l) / 64 ^ level.val
  if s.guard.cache.contains (level * 2 ^ 25 + idx) ∨ entryState (s.mapOf (l / 256)) = 2 then s else
  let k := nodeRoot level idx
  match s.fetchBare (.node level idx) (fun _ => onPath noise (.node level)) with
  | (s, none) => s
  | (s, some d) =>
    if d.take 64 ≠ (s.node level idx).bytes then s.loseStored level idx else
    match s.fetchBare (.nodeTags k (tagRow level idx)) (fun _ => onPath noise (.nodeTag level)) with
    | (s, none) => s
    | (s, some d) =>
      let i := tagSlot level idx % 8
      if sliceBytes d (8 * i) 8 ≠ leBytes 8 (s.guard.nodeTags.get 0 (level * 2 ^ 25 + idx)) then s.loseStored level idx else s

/-- What is fetched before line l of bolt b can be read: its line of the map, its dwell record, the nodes above it that are not in the
counter cache, its tag line; with the sectors of the line whose tags read wrong (R232, R324, R336, 15 R367). -/
def State.fetchPath (s : State) (b l : Nat) (noise : ReadNoise) : State × List Nat :=
  if noise.path.isEmpty ∨ b = 0 then (s, []) else
  let sw := l / 256
  let copies (i : Nat) : List (Nat × Byte) := onPath noise (.map (Fin.ofNat 2 i))
  let s := if (copies 0).isEmpty ∧ (copies 1).isEmpty then s else (s.fetchBare (.map (sw / 16)) copies).1
  let s := if (onPath noise .dwell).isEmpty then s else (s.fetchBare (.dwell (sw / 32)) (fun _ => onPath noise .dwell)).1
  if ¬ s.native b ∨ ¬ s.onStack l then (s, []) else
  let s := [(2 : Fin 3), 1, 0].foldl (fun s lv => s.fetchNode b l noise lv) s
  if entryState (s.mapOf sw) = 2 ∨ (onPath noise .tags).isEmpty then (s, []) else
  match s.fetchBare (.tags (l / 2)) (fun _ => onPath noise .tags) with
  | (s, none) => (s, [])
  | (s, some d) => (s, (List.range 4).filter (fun k =>
      let i := (4 * l + k) % 8
      (d.getD 64 0).getLsbD i || sliceBytes d (8 * i) 8 != leBytes 8 (s.tagOf b (4 * l + k))))

/-- The sectors of line l that pass the test, as the stack gives them (R264): zeros in the zero state, TORN_RANGE when
torn. -/
def State.readGranule (s : State) (b l : Nat) (need : Nat → Bool) (noise : ReadNoise) : State × List SecGot :=
  let ks := (List.range 4).filter need
  if b = 0 then
    let (q, row, sg) := s.linePlace l
    ks.foldl (fun (acc : State × List SecGot) k =>
      let (s, out) := acc
      match s.bareRead (.sys (4 * l + k)) (sectorKey q row sg k) (noiseAt noise k) with
      | (s, some (_, d)) =>
        (s, out ++ [(k, if s.sysGone (4 * l + k) ∨ d.getD 64 0 = 0xA5 then bad stUncorrectable else good (d.take 64))])
      | (s, none) => (s, out ++ [(k, bad stUncorrectable)])) (s, [])
  else
    let (s, wrong) := s.fetchPath b l noise
    match entryState (s.mapOf (l / 256)) with
    | 3 => (s, ks.map (fun k => (k, good zeroSector)))
    | 2 => (s, ks.map (fun k => (k, bad stTorn)))
    | _ =>
      ks.foldl (fun (acc : State × List SecGot) k =>
        let (s, out) := acc
        let n := 4 * l + k
        let (s, g) := s.readStored b n (s.readKey n) (noiseAt noise k)
        if g.status = 0 ∧ wrong.contains k then (s.tagFail, out ++ [(k, bad stIntegrity)]) else (s, out ++ [(k, g)])) (s, [])

/-- Fill results are counted: sectors filled and sectors that failed (R264, R306). -/
def State.countFill (s : State) (gs : List SecGot) : State :=
  let fails := gs.countP (fun g => g.2.status != 0)
  ((s.count 100 (gs.length - fails)).count 101 fails).bump R.LNG.EVICT.FILL_FAILS 0 fails

/-- The sectors of a fill that passed enter the Lining, unless the bolt is no-allocate and the line not resident (R264,
R271). -/
def State.installFill (s : State) (m b l : Nat) (gs : List SecGot) : State :=
  let s := (s.chargeGroups m).countFill gs
  if s.policy b = 1 ∧ (s.wayOf l).isNone then s
  else s.install m b l ((gs.filter (fun g => g.2.status == 0)).map (fun g => (g.1, g.2.data))) false

/-- A read lookup, hit or miss (R260, R306). -/
def State.countRead (s : State) (b : Nat) (hit : Bool) : State :=
  let s := if hit then (s.bump R.LNG.READS.HITS).count 96 else (s.bump R.LNG.READS.MISSES).count 97
  if ¬ hit ∧ s.policy b = 1 then s.count 104 else s

/-- A write lookup, hit or miss. -/
def State.countWrite (s : State) (b : Nat) (hit : Bool) : State :=
  let s := if hit then (s.bump R.LNG.WRITES.HITS).count 98 else (s.bump R.LNG.WRITES.MISSES).count 99
  if ¬ hit ∧ s.policy b = 1 then s.count 105 else s

/-- The sectors that bytes [o, o + len) of a line touch. -/
def touched (o len : Nat) : List Nat := (List.range 4).filter (fun k => o < 64 * k + 64 && 64 * k < o + len)

/-- The sectors that bytes [o, o + len) of a line cover whole. -/
def covered (o len : Nat) : List Nat := (List.range 4).filter (fun k => o ≤ 64 * k && 64 * k + 64 ≤ o + len)

/-- Every touched sector of a line is VALID in the Lining. -/
def State.hasSecs (s : State) (l : Nat) (ks : List Nat) : Bool := ks.all (fun k => (s.secData l k).isSome)

/-- What goes wrong while line l is read in the command that is running (R181). -/
def State.noiseOf (s : State) (l : Nat) : ReadNoise :=
  match s.lng.noise.find? (fun n => n.line.toNat == l) with | some n => n.what | none => {}

/-- A command runs with what goes wrong in its reads. -/
def State.noisy (s : State) (ns : List LineNoise) (f : State → State) : State :=
  let s := f { s with lng := { s.lng with noise := ns } }
  { s with lng := { s.lng with noise := [] } }

/-- The fill of line l for an engine's own access: one slot unless a fill of the line is in progress, which serves it too; the
sectors that are not in the Lining and pass the test (R263-R265). -/
def State.fillNow (s : State) (m b l : Nat) (need : Nat → Bool) : State × List SecGot :=
  let want (k : Nat) : Bool := need k && (s.secData l k).isNone
  let s := if ¬ s.onStack l then s else if s.lng.fills.contains l then s.count 111 else s.oweRead m l (.work none)
  let (s, gs) := s.readGranule b l want (s.noiseOf l)
  (s.chargeGroups m, gs)

/-- What an access to line l finds: the VALID sectors of the Lining, then what a fill brought. -/
def State.lookSec (s : State) (l : Nat) (gs : List SecGot) (k : Nat) : Got :=
  match s.secData l k with
  | some d => good d
  | none => match gs.find? (fun g => g.1 == k) with | some g => g.2 | none => bad stTorn

/-- Bytes [o, o + len) of a line from its sectors; at the first sector that fails, its status and the bytes before it
(R124, R181). -/
def joinSecs (look : Nat → Got) (o len : Nat) : Got :=
  let all := ((List.range 4).map (fun k => padTo 64 (look k).data)).flatten
  match (touched o len).find? (fun k => (look k).status != 0) with
  | some k => ⟨(look k).status, sliceBytes all o (64 * k - o)⟩
  | none => good (sliceBytes all o len)

/-- Bytes [o, o + len) of line l read for master m on an engine's own path; `keep` false never installs (R264, R218). -/
def State.readLine (s : State) (m b l o len : Nat) (keep : Bool := true) : State × Got :=
  let ks := touched o len
  let hit := s.hasSecs l ks
  let s := s.countRead b hit
  if hit then
    let s := s.touchLine b l
    (s, joinSecs (s.lookSec l []) o len)
  else
    let s := if b = 0 then s else s.lookupMap m l false
    let (s, gs) := s.fillNow m b l (fun _ => true)
    let g := joinSecs (s.lookSec l gs) o len
    if keep then ((s.installFill m b l gs).touchLine b l, g) else (s.countFill gs, g)

/-- The bytes of sector k after bytes d are written at o of its line. -/
def mergeSec (old : List Byte) (k o : Nat) (d : List Byte) : List Byte :=
  (List.range 64).map (fun i =>
    let p := 64 * k + i
    if o ≤ p ∧ p < o + d.length then d.getD (p - o) 0 else old.getD i 0)

/-- The first partly covered sector that cannot take a write of d at o of its line (R265). -/
def failedSec (look : Nat → Got) (o : Nat) (d : List Byte) : Option Nat :=
  (touched o d.length).find? (fun k => !(covered o d.length).contains k && (look k).status != 0)

/-- The sectors that a write of d at o of its line changes, with their new data: those before the first that cannot take
it (R265, R124). -/
def newSecs (look : Nat → Got) (o : Nat) (d : List Byte) : List (Nat × List Byte) :=
  let stop := (failedSec look o d).getD 4
  ((touched o d.length).filter (· < stop)).map (fun k => (k, mergeSec (padTo 64 (look k).data) k o d))

/-- What held requests have found of a line is as new as what has been accepted since (01 R24). -/
def HeldReq.renew (h : HeldReq) (l : Nat) (secs : List (Nat × List Byte)) : HeldReq :=
  { h with got := h.got.map (fun g => if g.1 = l then (l, g.2.map (fun e =>
      match secs.find? (fun d => d.1 == e.1) with | some d => (e.1, 0, d.2) | none => e)) else g) }

/-- Every held request that has found sectors of a line finds the newer ones. -/
def State.renewGot (s : State) (l : Nat) (secs : List (Nat × List Byte)) : State :=
  { s with qps := s.qps.mapVals (fun _ x => { x with held := x.held.map (fun h => h.renew l secs) }) }

/-- Sectors written in the Lining stand in place of those that are held for their line. -/
def State.overHeld (s : State) (l : Nat) (secs : List (Nat × List Byte)) : State :=
  s.setAround (s.lng.around.map (fun a =>
    if a.line = l then { a with secs := a.secs.filter (fun d => !secs.any (fun e => e.1 == d.1)) } else a))

/-- The oldest write that is held for line l goes to the stack (R271). -/
def State.storeHeld (s : State) (m l : Nat) : State :=
  match s.lng.around.find? (fun a => a.line == l) with
  | none => s
  | some a => a.secs.foldl (fun s d => s.storeSector m a.bolt l d.1 d.2) (s.setAround (s.lng.around.erase a))

/-- New sectors of line l are accepted for master m: into the Lining, or around it to the stack, and to the partner
(R265, R271, R424). `paid`: the fill of the line was the slot of a write around it. -/
def State.acceptWrite (s : State) (m b l : Nat) (secs : List (Nat × List Byte)) (paid : Bool := false) : State :=
  if secs.isEmpty then s else
  let s := if s.policy b = 1 ∧ (s.wayOf l).isNone then s.writeAround m b l secs paid
    else ((s.overHeld l secs).install m b l secs true).touchLine b l
  (s.renewGot l secs).mirror b (l / 256) (lineRecord l secs)

/-- A line of a swatch in the zero state that a write covers in part fills as zeros, with no channel read (R264, R265). -/
def State.zeroFill (s : State) (m b l : Nat) (whole : List Nat) : State × List SecGot :=
  let gs := ((List.range 4).filter (fun k => (s.secData l k).isNone && !whole.contains k)).map (fun k => (k, good zeroSector))
  (s.installFill m b l gs, gs)

/-- A swatch that a write reaches has a place: TORN_RANGE when it is torn or no frame exists (R236, R237, R58). -/
def State.readyToWrite (s : State) (b l : Nat) : State × Nat :=
  if b = 0 then (s, 0) else
  match entryState (s.mapOf (l / 256)) with
  | 2 => (s, stTorn)
  | 3 => let (s, ok) := s.placeForWrite b (l / 256); (s, if ok then 0 else stTorn)
  | _ => (s, 0)

/-- Bytes d written at o of line l for master m on an engine's own path: the status, 0 or that
of R265, and how many bytes were written before the sector that failed. -/
def State.writeLine (s : State) (m b l o : Nat) (d : List Byte) : State × Nat × Nat :=
  if d.isEmpty then (s, 0, 0) else
  let zero := b ≠ 0 ∧ entryState (s.mapOf (l / 256)) = 3
  let (s, st) := s.readyToWrite b l
  if st ≠ 0 then (s, st, 0) else
  let part := (touched o d.length).filter (fun k => !(covered o d.length).contains k)
  let hit := (s.wayOf l).isSome && s.hasSecs l part
  let s := s.countWrite b hit
  let s := if hit || b = 0 then s else s.lookupMap m l true
  let fetch := !s.hasSecs l part && !zero
  let paid := fetch && s.onStack l && !s.lng.fills.contains l
  let (s, gs) :=
    if s.hasSecs l part then (s, [])
    else if zero then s.zeroFill m b l (covered o d.length)
    else
      let (s, gs) := s.fillNow m b l (fun k => !(covered o d.length).contains k)
      (s.installFill m b l gs, gs)
  let look := s.lookSec l gs
  let s := s.acceptWrite m b l (newSecs look o d) paid
  match failedSec look o d with
  | some k => (s, (look k).status, 64 * k - o)
  | none => (s, 0, d.length)

/-- The lines that bytes [off, off + len) touch, with the run of bytes in each: line, first byte, count. -/
def lineRuns (off len : Nat) : List (Nat × Nat × Nat) :=
  if len = 0 then [] else
  let first := off / 256
  let last := (off + len - 1) / 256
  (List.range (last + 1 - first)).map (fun i =>
    let l := first + i
    let a := max off (256 * l)
    let z := min (off + len) (256 * l + 256)
    (l, a - 256 * l, z - a))

/-- Bytes [off, off + len) read for master m, stopping at the first line that fails: its status and the bytes before. -/
def State.readRuns (s : State) (m b : Nat) (keep : Bool) : List (Nat × Nat × Nat) → List Byte → State × Nat × List Byte
  | [], acc => (s, 0, acc)
  | (l, o, n) :: rest, acc =>
    match s.readLine m b l o n keep with
    | (s, g) => if g.status = 0 then s.readRuns m b keep rest (acc ++ g.data) else (s, g.status, acc ++ g.data)

/-- A range of a bolt read for master m, if its rights entry allows it (13 R338). -/
def State.readRange (s : State) (m b off len : Nat) (keep : Bool := true) : State × Nat × List Byte :=
  if ¬ s.masterMay m 0 b then (s.countMaster, stDenied, []) else s.readRuns m b keep (lineRuns off len) []

/-- Data written over lines in order, stopping at the first that fails: its status and the bytes written before it. -/
def State.writeRuns (s : State) (m b : Nat) : List (Nat × Nat × Nat) → List Byte → Nat → State × Nat × Nat
  | [], _, done => (s, 0, done)
  | (l, o, n) :: rest, d, done =>
    match s.writeLine m b l o (d.take n) with
    | (s, st, k) => if st = 0 then s.writeRuns m b rest (d.drop n) (done + n) else (s, st, done + k)

/-- A range of a bolt written for master m, if its rights entry allows it (13 R338). -/
def State.writeRange (s : State) (m b off : Nat) (d : List Byte) : State × Nat × Nat :=
  if ¬ s.masterMay m 1 b then (s.countMaster, stDenied, 0) else s.writeRuns m b (lineRuns off d.length) d 0

/-- A request to line l waits: a fill of it is in progress, or it would miss and a write-back of the line has still to be accepted
(R263). -/
def State.lineBusy (s : State) (l : Nat) : Bool :=
  s.lng.fills.contains l || (s.wbOpen l && !s.hasSecs l (List.range 4))

/-- A line of a range of a bolt is busy: an access to the range waits for it (R263). -/
def State.rangeBusy (s : State) (va len : Nat) : Bool :=
  (s.lng.fills ++ s.lng.wbs.map (·.line)).any (fun l =>
    decide (faOffset va / 256 ≤ l ∧ 256 * l < faOffset va + len) && s.lineBusy l)

/-- New writes to swatch sw are held until the forced flip of its move (R278, 09 R250). -/
def State.moveHolds (s : State) (sw : Nat) : Bool := s.mem.moves.any (fun m => m.swatch == sw && m.held && !m.flipped)

/-- New writes to a swatch of a range are held (R278, 09 R250). -/
def State.rangeHeld (s : State) (va len : Nat) : Bool :=
  s.mem.moves.any (fun m => decide (faOffset va < 65536 * m.swatch + 65536 ∧ 65536 * m.swatch < faOffset va + len) &&
    s.moveHolds m.swatch)

/-- A swatch has a line with a DIRTY sector. -/
def State.swatchDirty (s : State) (sw : Nat) : Bool := s.allLines.any (fun x => x.addr / 256 == sw && x.anyDirty)

/-- Nothing is left that a write-back could bring to the stack: no line is DIRTY but for stuck sectors, and no write is held (R27,
R268). -/
def State.liningClean (s : State) : Bool :=
  s.lng.around.isEmpty && s.allLines.all (fun x => x.dirtySecs.all (fun k => s.stuck x.addr k))

end Sys2Proof.Machine
end

