-- ==== Sys2Proof/Machine/SetupBase.lean ====
section
/-! DEFINITION. What every set-up write has in common: its fields, its statuses, its response register, and what a paired
module does with a mirrored one (00 R15-R19, 06 R152, R157, 18 R431, R434). -/

namespace Sys2Proof.Machine

/-- OK. -/
def stOk : Nat := 0
/-- BAD_ADDRESS. -/
def stBadAddress : Nat := 0x11
/-- KEY_MISMATCH. -/
def stKeyMismatch : Nat := 0x12
/-- KEY_EXHAUSTED. -/
def stKeyExhausted : Nat := 0x13
/-- MALFORMED. -/
def stMalformed : Nat := 0x30
/-- UNSUPPORTED. -/
def stUnsupported : Nat := 0x31
/-- CLIENT_XFER_FAILED. -/
def stClientXfer : Nat := 0x40
/-- ADMISSION_REFUSED. -/
def stAdmission : Nat := 0x50

/-- A rights failure of a client is counted (R147). -/
def State.countDenied (s : State) (client st : Nat) : State :=
  let s := s.count 192
  if st = stDenied then (s.bump R.BLT.CLIENT_STAT.DENIED client).bump R.BLT.ACC_FAULT.DENIED
  else if st = stBadAddress then (s.bump R.BLT.CLIENT_STAT.BAD_ADDR client).bump R.BLT.ACC_FAULT.BAD_ADDR
  else if st = stKeyMismatch then (s.bump R.BLT.CLIENT_STAT.KEY_MISMATCH client).bump R.BLT.ACC_FAULT.KEY_MISMATCH
  else s.bump R.BLT.CLIENT_STAT.KEY_EXHAUSTED client

/-- What a set-up write leaves: the state and its status; a refused write leaves its register unchanged (R157). -/
abbrev SetupResult := State × Nat

/-- The part of a written value that is a field's (R15). -/
def part (v : Nat) (f : Fld) : Nat := bits v f.lo f.width

/-- A write would change a field's stored value (R157). -/
def State.chg (s : State) (f : Fld) (v : Nat) (e : Nat := 0) : Bool := part v f != s.rd f e

/-- A field takes its part of a written value. -/
def State.take (s : State) (f : Fld) (v : Nat) (e : Nat := 0) : State := s.wr f (part v f) e

/-- Several fields of one register take their parts. -/
def State.takes (s : State) (v e : Nat) (fs : List Fld) : State := fs.foldl (fun s f => s.take f v e) s

/-- A write-1-to-clear field: bits written 1 clear (R16). -/
def State.w1c (s : State) (f : Fld) (v : Nat) (e : Nat := 0) : State :=
  s.wr f (s.rd f e - (s.rd f e &&& part v f)) e

/-- A refused write. -/
def State.refuse (s : State) (st : Nat) : SetupResult := (s, st)

/-- An accepted write. -/
def State.accept (s : State) : SetupResult := (s, stOk)

/-- A part of a WRITE message to the window, which was admitted as a whole, is carried out: a write of STEWARD takes effect for
the client's next access (R137, R153). -/
def State.asAdmitted (s : State) (path : Path) (f : State → State) : State :=
  match path with
  | .smb => f s
  | .rdma c =>
    let t := f { s with due := { s.due with window := some c.val } }
    { t with due := { t.due with window := none } }

/-- A set-up access reaches the module on its path: the SMBus in every mode, the window from a steward client while the
module serves (R152, R155). -/
def State.pathOk (s : State) : Path → Bool
  | .smb => true
  | .rdma c => s.running && (s.on R.BLT.CLIENT.STEWARD c || s.due.window == some c.val)

/-- An access through the window of a client that is no steward fails with ACCESS_DENIED, and is counted (R147, R152). -/
def State.turnAway (s : State) : Path → State
  | .smb => s
  | .rdma c => if s.running then s.countDenied c stDenied else s

/-- The response register of the path after a write to an offset (R157); module events 8 and 9. -/
def State.respond (s : State) (path : Path) (off st : Nat) : State :=
  let s := s.count 8
  let s := if st = 0 then s else s.count 9
  match path with
  | .smb =>
    let s := s.wr R.GLB.SETUP_RESP_SMB.STATUS st
    if st = 0 then s else (s.wr R.GLB.SETUP_RESP_SMB.OFFSET off).bump R.GLB.SETUP_RESP_SMB.REFUSED
  | .rdma c =>
    let s := s.wr R.GLB.SETUP_RESP_RDMA.STATUS st
    if st = 0 then s
    else ((s.wr R.GLB.SETUP_RESP_RDMA.OFFSET off).wr R.GLB.SETUP_RESP_RDMA.CLIENT c.val).bump R.GLB.SETUP_RESP_RDMA.REFUSED

/-- A set-up write with its response. -/
def State.setup (s : State) (path : Path) (off : Nat) (r : SetupResult) : State :=
  if s.pathOk path then r.1.respond path off r.2 else s.turnAway path

/-- The table and the fields of a register whose entries a TABLE record carries (18 R424, R432). -/
def mirrorRow (off : Nat) : Option (Nat × List Fld) :=
  match off with
  | 0x6008 => some (0, [R.BLT.CLIENT.VALID, R.BLT.CLIENT.STEWARD])
  | 0x6010 => some (0, [R.BLT.CLIENT_GID_HI.GID_HI])
  | 0x6018 => some (0, [R.BLT.CLIENT_GID_LO.GID_LO])
  | 0x6108 => some (1, [R.BLT.BOLT_BASE.BASE_SW, R.BLT.BOLT_BASE.LEN_SW])
  | 0x6110 => some (1, [R.BLT.BOLT_ATTR.KEY_ID, R.BLT.BOLT_ATTR.MODE, R.BLT.BOLT_ATTR.HINT, R.BLT.BOLT_ATTR.LPOL,
      R.BLT.BOLT_ATTR.PIN_SET, R.BLT.BOLT_ATTR.STATE])
  | 0x6208 => some (2, [R.BLT.GRANT.CLIENT, R.BLT.GRANT.BOLT, R.BLT.GRANT.RIGHTS, R.BLT.GRANT.ISSUED, R.BLT.GRANT.GEN])
  | 0x6210 => some (2, [R.BLT.GRANT_RANGE.START_SW, R.BLT.GRANT_RANGE.LEN_SW])
  | 0x24080 => some (3, [R.TCK.VMAC.ADDR])
  | 0x24090 => some (3, [R.TCK.VIP4.PORT0, R.TCK.VIP4.PORT1])
  | 0x24098 => some (3, [R.TCK.VIP6_HI.ADDR_HI])
  | 0x240A0 => some (3, [R.TCK.VIP6_LO.ADDR_LO])
  | 0x24100 => some (3, [R.TCK.MIRMODE.SYNC])
  | _ => none

/-- The value of some fields of one entry of a register, each in its place (R15). -/
def State.regBits (s : State) (fs : List Fld) (e : Nat) : Nat := fs.foldl (fun v f => v + s.rd f e * 2 ^ f.lo) 0

/-- The TABLE record that carries one entry of a mirrored register as it stands: it names the register by its first offset. -/
def State.entryRecord (s : State) (off e : Nat) : List Byte :=
  let base := if 0x24100 ≤ off then 0x24100 else off
  match mirrorRow base with
  | some (t, fs) => tableRecord t e base (s.regBits fs e)
  | none => []

/-- A write of a mirrored table or key (R431): refused on a secondary before anything else; on a primary in
SYNCING or PAIRED checked, sent as a record and held until the partner has committed it; on a BROKEN primary applied, the
tables then due. The record carries what the entry holds after the write, or what `record` gives. -/
def State.mirrored (s : State) (path : Path) (off entry v : Nat) (r : SetupResult)
    (record : Option (List Byte) := none) (data : List Byte := []) : State :=
  if ¬ s.pathOk path then s.turnAway path
  else if s.rd R.TCK.STATUS.ROLE = 2 ∧ s.on R.TCK.STATUS.PAIR then s.respond path off stDenied
  else if r.2 ≠ 0 then r.1.respond path off r.2
  else if s.mirroring then
    let rec_ := record.getD (r.1.entryRecord off entry)
    let s := s.addRecord rec_ false
    { s with tack := { s.tack with holds := s.tack.holds ++ [(s.lastSeq, .setup off entry v data path rec_)] } }
  else
    let t := r.1.respond path off 0
    if s.recording then t.put R.TCK.STATUS.FULL_RESYNC_DUE true else t

end Sys2Proof.Machine
end

