-- ==== Sys2Proof/Machine/Rights.lean ====
section
/-! DEFINITION. The rights check of clients (06 R134, R135, R144-R148). -/

namespace Sys2Proof.Machine

/-- The key ID of a Fabric Address (R134). -/
def faKey (va : Nat) : Nat := bits va 52 12

/-- Doorbell space. -/
def keyDoorbell : Nat := 0xFFE

/-- Set-up window. -/
def keySetup : Nat := 0xFFF

/-- Bits [51:40] are zero and the range lies inside the logical space (R135, step 1 of R146). -/
def faInside (va len : Nat) : Bool := bits va 40 12 == 0 && faOffset va + len ≤ 2 ^ 40

/-- Rights as bits of GRANT.RIGHTS. -/
def rightRead : Nat := 0
/-- WRITE. -/
def rightWrite : Nat := 1
/-- ATOMIC. -/
def rightAtomic : Nat := 2
/-- NEEDLE. -/
def rightNeedle : Nat := 3

/-- The range lies inside a grant's range (step 3 of R146). -/
def State.grantCovers (s : State) (g off len : Nat) : Bool :=
  let b := s.rd R.BLT.GRANT.BOLT g
  let lo := (s.rd R.BLT.BOLT_BASE.BASE_SW b + s.rd R.BLT.GRANT_RANGE.START_SW g) * 65536
  lo ≤ off && off + len ≤ lo + s.rd R.BLT.GRANT_RANGE.LEN_SW g * 65536

/-- The bolt's state serves an access (R140, step 6 of R146). -/
def State.stateServes (s : State) (b : Nat) (write : Bool) : Nat :=
  match s.rd R.BLT.BOLT_ATTR.STATE b with
  | 2 => 0
  | 4 => 0
  | 3 => if write then stKeyExhausted else 0
  | _ => stDenied

/-- A right that changes memory. -/
def rightWrites (right : Nat) : Bool := right == rightWrite || right == rightAtomic

/-- The check of a direct RDMA request (R146): its status, and the grant it is admitted under. -/
def State.directRights (s : State) (client va len rkey right : Nat) : Nat × Nat :=
  let g := bits rkey 20 12
  let b := s.rd R.BLT.GRANT.BOLT g
  if ¬ faInside va len then (stBadAddress, g)
  else if ¬ s.on R.BLT.GRANT.ISSUED g ∨ s.rd R.BLT.GRANT.GEN g ≠ bits rkey 0 20 ∨ s.rd R.BLT.GRANT.CLIENT g ≠ client then
    (stDenied, g)
  else if ¬ s.grantCovers g (faOffset va) len then (stDenied, g)
  else if faKey va ≠ s.rd R.BLT.BOLT_ATTR.KEY_ID b then (stKeyMismatch, g)
  else if ¬ s.rdBit R.BLT.GRANT.RIGHTS right g then (stDenied, g)
  else (s.stateServes b (rightWrites right), g)

/-- The issued grants of the module. -/
def State.issuedGrants (s : State) : List Nat :=
  (s.stored R.BLT.GRANT.ISSUED).filter (fun g => s.on R.BLT.GRANT.ISSUED g)

/-- The check of an operand of Shuttle or Needle work (R146): its status and the grant. Every right of the list is
needed. -/
def State.operandRights (s : State) (client va len : Nat) (rights : List Nat) : Nat × Nat :=
  if ¬ faInside va len then (stBadAddress, 0)
  else if faKey va = keyDoorbell ∨ faKey va = keySetup then (stDenied, 0)
  else
    match s.issuedGrants.find? (fun g => s.rd R.BLT.GRANT.CLIENT g == client && s.grantCovers g (faOffset va) len &&
        rights.all (fun r => s.rdBit R.BLT.GRANT.RIGHTS r g)) with
    | none => (stDenied, 0)
    | some g =>
      let b := s.rd R.BLT.GRANT.BOLT g
      if faKey va ≠ s.rd R.BLT.BOLT_ATTR.KEY_ID b then (stKeyMismatch, g)
      else (s.stateServes b (rights.any rightWrites), g)

end Sys2Proof.Machine
end

