-- ==== Sys2Proof/Machine/Capacity.lean ====
section
/-! DEFINITION. Channel capacities, deliverable throughput and the scaling factor, cell credit, and the islands that run
in a mode (03 R67, R81, 11 R284, R285, 17 R400, R402). -/

namespace Sys2Proof.Machine

/-- The pin rate of an operating point in 0.1 Gb/s; a custom point replaces the firmware's entry (R41, R83). -/
def State.pinRate (s : State) (p : Nat) : Nat :=
  if s.on R.CLK.CUSTOM_OP.EN ∧ s.rd R.CLK.CUSTOM_OP.SLOT = p ∧ p ≠ 0 then s.rd R.CLK.CUSTOM_OP.PIN_RATE
  else match p with | 0 => 96 | 1 => 80 | 2 => 64 | _ => 48

/-- The operating point of a channel. -/
def State.chanPoint (s : State) (c : Nat) : Nat := s.rd R.CHN.STATUS.POINT c

/-- The slot capacity of a channel in slots per us: 0.80 of its peak divided by 256 bytes, rounded down (R284). -/
def State.capacity (s : State) (c : Nat) : Nat :=
  let r := s.pinRate (s.chanPoint c)
  match s.tornPc (2 * c), s.tornPc (2 * c + 1) with
  | true, true => 0
  | false, false => if s.narrowed c then r * 5 / 4 else r * 5 / 2
  | _, _ => r * 5 / 8

/-- C of R284. -/
def State.capacitySum (s : State) : Nat := (List.range 32).foldl (fun n c => n + s.capacity c) 0

/-- The three terms of R284. -/
def State.deliverTerms (s : State) : List Nat := [s.rd R.HEM.STATUS.H, s.capacitySum, 5000]

/-- F for a deliverable throughput (R285). -/
def scaleFactor (d : Nat) : Nat := min 1024 (1024 * d / 5000)

/-- D_NOW and the next F are computed anew; a term that fell excludes the window (R284, R285, R295). -/
def State.recompute (s : State) : State :=
  let ts := s.deliverTerms
  let d := ts.foldl min 5000
  let fell := (List.zipWith (fun a b => decide (a < b)) ts s.reg.lastTerms).any id
  let s := (s.wr R.QOS.DELIVER.NOW d).wr R.QOS.DELIVER.LIMIT (ts.findIdx (· == d))
  { s with reg := { s.reg with lastTerms := ts, nextF := scaleFactor d, excluded := s.reg.excluded || fell } }

/-- The window in progress is never counted as a miss (R295). -/
def State.exclude (s : State) : State := { s with reg := { s.reg with excluded := true } }

/-- A tear with what it changes in the throughput that can be delivered (R58, R285). -/
def State.tear (s : State) (q : Nat) : State := (s.tearPc q).recompute

/-- The credit of a cell for one period before scaling (R400). -/
def State.cellCredit (s : State) (c : Nat) : Nat := s.share c * s.capacity c * 10 / 16

/-- The module cap of the period that starts, from the estimate of the one that ends (R404): none while it is lifted. -/
def State.periodCap (s : State) (estimate : Nat) : Option Nat :=
  if ¬ s.on R.HEM.STATUS.BURST then some (10 * s.rd R.HEM.STATUS.SUST_EFF)
  else if s.hem.burstW * 1000000 < estimate then some (s.hem.issued * (s.hem.burstW * 1000000) / estimate)
  else none

/-- The credit of cell c under a module cap; a cell with a share keeps at least one slot (R400, R402). -/
def State.cappedCredit (s : State) (cap : Option Nat) (sum c : Nat) : Nat :=
  let base := s.cellCredit c
  let v := match cap with | some k => if k < sum then base * k / sum else base | none => base
  if s.share c ≠ 0 ∧ v = 0 then 1 else v

/-- Hem's new shares reach the controllers at once: a cell keeps no more of its credit than a period of its share gives it, and
what waits for a cell without credit waits for credit (R33, R294; log entry 86). -/
def State.cutCredit (s : State) (c : Nat) : State :=
  let x := s.chan c
  let k := if s.share c = 0 then 0 else min x.credit (max 1 (s.cellCredit c))
  s.setChan c { x with credit := k, waiting := if s.hasCredit c then x.waiting else x.waiting.map (fun j => { j with dry := true }) }

/-- Every cell receives fresh credit (R400, R402). -/
def State.freshCredit (s : State) (cap : Option Nat) : State :=
  let sum := (List.range 32).foldl (fun n c => n + s.cellCredit c) 0
  let vs := (List.range 32).map (fun c => s.cappedCredit cap sum c)
  let t := (List.range 32).foldl (fun t c => t.setChan c { t.chan c with credit := vs.getD c 0 }) s
  { t with hem := { t.hem with issued := vs.foldl (· + ·) 0 } }

/-- Every island. -/
def allIslands : Nat := 2 ^ 52 - 1

/-- The islands of the wake port: its four lanes and its MAC/PCS (R67, R81). -/
def State.wakeIslands (s : State) : Nat :=
  let p := s.rd R.CLK.CTRL.WAKE_PORT
  15 * 2 ^ (32 + 4 * p) + 2 ^ (48 + p)

/-- Channel islands. -/
def chanIslands : Nat := 2 ^ 32 - 1

/-- The Thimble's island. -/
def thimbleIsland : Nat := 2 ^ 51

/-- The PLL that clocks an island (R67, R73). -/
def islandPll (i : Nat) : Nat :=
  if i < 32 then i / 8 else if i < 36 then 4 else if i < 40 then 5 else if i < 48 then 6 else 7

/-- The islands whose PLL is judged locked (R73, R77). -/
def State.lockedIslands (s : State) : Nat :=
  (List.range 52).foldl (fun m i => if s.rdBit R.CLK.STATUS.PLL_LOCK (islandPll i) then m + 2 ^ i else m) 0

/-- The island registers follow the mode, the locks and the clocks (R73, R77, R80, R81; log entry 127). -/
def State.islands (s : State) : State :=
  let off := s.mode = modeHold
  let run := if s.clocks.stopped then 0 else if off then (if s.thermalHold then thimbleIsland else s.wakeIslands + thimbleIsland) else allIslands
  let ret := if off then chanIslands else 0
  (s.wr R.CLK.ISL_RUN.RUN (run &&& s.lockedIslands)).wr R.CLK.ISL_RET.RET ret

end Sys2Proof.Machine
end

