-- ==== Sys2Proof/Machine/SetTables.lean ====
section
/-! DEFINITION. Set-up writes of the transport and of the client, bolt and grant tables (05 R114, R115, R132, 06 R136-R145,
R157). -/

namespace Sys2Proof.Machine

/-- A write with its checks: the status of the first that fails, in order, or the new state (R157). -/
def State.checked (s : State) (checks : List (Bool × Nat)) (t : State) : SetupResult :=
  match checks.find? (·.1) with
  | some c => (s, c.2)
  | none => (t, stOk)

/-- A write changes a field to a value that a range rule refuses (R157). -/
def State.badRange (s : State) (f : Fld) (v e : Nat) (bad : Nat → Bool) : Bool := s.chg f v e && bad (part v f)

/-- A write changes one of the fields. -/
def State.chgAny (s : State) (v e : Nat) (fs : List Fld) : Bool := fs.any (fun f => s.chg f v e)

/-- A write of XPT.CFG. -/
def State.writeXptCfg (s : State) (v : Nat) : SetupResult :=
  let z (x : Nat) : Bool := x == 0
  s.checked [(s.badRange R.XPT.CFG.ACK_PKTS v 0 z, stMalformed), (s.badRange R.XPT.CFG.ACK_DELAY v 0 z, stMalformed)]
    (s.takes v 0 [R.XPT.CFG.ACK_PKTS, R.XPT.CFG.ACK_DELAY, R.XPT.CFG.RNR_MODE, R.XPT.CFG.RNR_TIMER, R.XPT.CFG.RNR_RESERVE])

/-- The line rate of a port in Gb/s; the full rate while it is down. -/
def State.lineRate (s : State) (p : Nat) : Nat := if s.rd R.ETH.STATUS.SPEED p = 1 then 200 else 400

/-- Every QP in RTS sends at the line rate of its port (R131). -/
def State.fullRates (s : State) : State :=
  ((s.stored R.XPT.QP_STATE.STATE).filter (fun q => s.rd R.XPT.QP_STATE.STATE q == 3)).foldl
    (fun (s : State) q => s.wr R.XPT.QP_RATE.RATE (s.lineRate (s.rd R.XPT.QP_STATE.PORT q)) q) s

/-- A write of XPT.CC (R132). -/
def State.writeXptCc (s : State) (v : Nat) : SetupResult :=
  let z (x : Nat) : Bool := x == 0
  s.checked [(s.badRange R.XPT.CC.CNP_INTERVAL v 0 z, stMalformed), (s.badRange R.XPT.CC.RATE_STEP v 0 z, stMalformed),
             (s.badRange R.XPT.CC.STEP_PERIOD v 0 z, stMalformed),
             (s.badRange R.XPT.CC.MIN_RATE v 0 (fun x => x == 0 || 100 < x), stMalformed)]
    (let t := s.takes v 0 [R.XPT.CC.CNP_INTERVAL, R.XPT.CC.RATE_STEP, R.XPT.CC.STEP_PERIOD, R.XPT.CC.MIN_RATE, R.XPT.CC.CC_EN]
     if t.on R.XPT.CC.CC_EN then t else t.fullRates)

/-- The destination address of a QP as a GID (R136). -/
def State.qpGid (s : State) (q : Nat) : Nat :=
  if s.on R.XPT.QP_DEST.IPV6 q then s.qpDip q else 0xFFFF * 2 ^ 32 + s.qpDip q

/-- The GID of a client. -/
def State.clientGid (s : State) (c : Nat) : Nat := ip6 (s.rd R.BLT.CLIENT_GID_HI.GID_HI c) (s.rd R.BLT.CLIENT_GID_LO.GID_LO c)

/-- The transitions that R114 gives. -/
def qpStep (a b : Nat) : Bool :=
  b == 0 || (a == 0 && b == 1) || (a == 1 && b == 2) || (a == 2 && b == 3) || (b == 4 && 1 ≤ a && a ≤ 3)

/-- The fields that R115 lets a write change in a state: PORT and ROLE, MTU, the requester's parameters. -/
def qpWritable (st : Nat) : Bool × Bool × Bool :=
  match st with | 0 => (true, false, false) | 1 => (true, true, false) | 2 => (false, false, true) | _ => (false, false, false)

/-- The requester's parameters of a QP. -/
def qpReqFields : List Fld :=
  [R.XPT.QP_STATE.ACK_TIMEOUT, R.XPT.QP_STATE.RETRY_CNT, R.XPT.QP_STATE.RNR_RETRY, R.XPT.QP_STATE.ORD]

/-- Fields of a QP context, which a return to RESET clears, the binding among them (R114, R136). -/
def qpContext : List Fld :=
  [R.XPT.QP_STATE.PORT, R.XPT.QP_STATE.ROLE, R.XPT.QP_STATE.CLIENT, R.XPT.QP_STATE.BOUND, R.XPT.QP_STATE.MTU, R.XPT.QP_STATE.ERR_SYNDROME, R.XPT.QP_STATE.ERR_SIDE, R.XPT.QP_DEST.DEST_QPN, R.XPT.QP_DEST.PKEY,
   R.XPT.QP_DEST.HOP_LIMIT, R.XPT.QP_DEST.IPV6, R.XPT.QP_DMAC.DMAC, R.XPT.QP_DIP_HI.ADDR_HI, R.XPT.QP_DIP_LO.ADDR_LO,
   R.XPT.QP_PSN.SQ_PSN, R.XPT.QP_PSN.RQ_PSN, R.XPT.QP_RATE.RATE, R.XPT.QP_RATE.CNP_RX, R.XPT.QP_RATE.CNP_TX] ++ qpReqFields

/-- A QP returns to RESET: its context is cleared and its resources are freed, packets that a pause holds among them (R114). -/
def State.qpReset (s : State) (q : Nat) : State :=
  let s := ((s.purge q (fun _ => false)).dropHeld q).leaveRts q
  let s := qpContext.foldl (fun s f => s.clr f q) (s.wr R.XPT.QP_STATE.STATE 0 q)
  s.setQp q {}

/-- The state that a transition of QP q to state t leaves (R114, R116, R131). -/
def State.qpGo (s : State) (q t : Nat) : State :=
  match t with
  | 0 => s.qpReset q
  | 3 => (s.wr R.XPT.QP_STATE.STATE 3 q).wr R.XPT.QP_RATE.RATE (s.lineRate (s.rd R.XPT.QP_STATE.PORT q)) q
  | 4 => s.qpError q 0 0
  | _ => s.wr R.XPT.QP_STATE.STATE t q

/-- A QP may enter RTR (R114, R136). -/
def State.qpReady (s : State) (q : Nat) : Bool :=
  s.on R.XPT.QP_STATE.BOUND q && s.on R.XPT.QP_STATE.MTU q && (s.qp q).destWritten && (s.qp q).psnWritten &&
    s.qpGid q == s.clientGid (s.rd R.XPT.QP_STATE.CLIENT q)

/-- A write of XPT.QP_STATE for QP q (R114, R115): PORT and ROLE are writable in RESET, so a return to RESET takes them from the
write. -/
def State.writeQpState (s : State) (q v : Nat) : SetupResult :=
  let cur := s.rd R.XPT.QP_STATE.STATE q
  let dst := part v R.XPT.QP_STATE.STATE
  let a := qpWritable cur
  let b := qpWritable dst
  let t := s.takes v q ([R.XPT.QP_STATE.PORT, R.XPT.QP_STATE.ROLE, R.XPT.QP_STATE.MTU] ++ qpReqFields)
  s.checked
    [ (cur != dst && 4 < dst, stMalformed),
      (s.chgAny v q [R.XPT.QP_STATE.PORT, R.XPT.QP_STATE.ROLE] && !(a.1 || b.1), stDenied),
      (s.chg R.XPT.QP_STATE.MTU v q && !(a.2.1 || b.2.1), stDenied),
      (s.chgAny v q qpReqFields && !(a.2.2 || b.2.2), stDenied),
      (cur != dst && !qpStep cur dst, stDenied),
      (s.badRange R.XPT.QP_STATE.ORD v q (fun x => x == 0 || 64 < x), stMalformed),
      (cur == 1 && dst == 2 && !t.qpReady q, stMalformed),
      (cur == 2 && dst == 3 && (!t.on R.XPT.QP_STATE.ACK_TIMEOUT q || !t.on R.XPT.QP_STATE.ORD q), stMalformed) ]
    (if cur = dst then t else (t.qpGo q dst).takes v q (if dst = 0 then [R.XPT.QP_STATE.PORT, R.XPT.QP_STATE.ROLE] else []))

/-- A write of one of a QP's connection registers, writable in INIT (R115). -/
def State.writeQpInit (s : State) (q v : Nat) (fs : List Fld) (dest : Bool) : SetupResult :=
  let init := s.rd R.XPT.QP_STATE.STATE q = 1
  let t := s.takes v q fs
  s.checked [(s.chgAny v q fs && !init, stDenied)]
    (if init ∧ dest then t.setQp q { t.qp q with destWritten := true } else t)

/-- A write of XPT.QP_PSN: RQ_PSN in INIT, SQ_PSN in RTR (R115). -/
def State.writeQpPsn (s : State) (q v : Nat) : SetupResult :=
  let st := s.rd R.XPT.QP_STATE.STATE q
  let t := s.takes v q [R.XPT.QP_PSN.SQ_PSN, R.XPT.QP_PSN.RQ_PSN]
  s.checked [(s.chg R.XPT.QP_PSN.SQ_PSN v q && st != 2, stDenied), (s.chg R.XPT.QP_PSN.RQ_PSN v q && st != 1, stDenied)]
    (if st = 1 then t.setQp q { t.qp q with psnWritten := true } else t)

/-- A write of BLT.QP_BIND (R136). -/
def State.writeQpBind (s : State) (v : Nat) : SetupResult :=
  let q := part v R.BLT.QP_BIND.QP
  let c := part v R.BLT.QP_BIND.CLIENT
  let unbind := part v R.BLT.QP_BIND.UNBIND = 1
  s.checked [(1 < s.rd R.XPT.QP_STATE.STATE q, stDenied), (!unbind && !s.on R.BLT.CLIENT.VALID c, stDenied)]
    (if unbind then (s.wr R.XPT.QP_STATE.BOUND 0 q).wr R.XPT.QP_STATE.CLIENT 0 q
     else (s.wr R.XPT.QP_STATE.BOUND 1 q).wr R.XPT.QP_STATE.CLIENT c q)

/-- QPs bound to a client. -/
def State.clientQps (s : State) (c : Nat) : List Nat :=
  (s.stored R.XPT.QP_STATE.BOUND).filter (fun q => s.on R.XPT.QP_STATE.BOUND q && s.rd R.XPT.QP_STATE.CLIENT q == c)

/-- Grants issued to a client. -/
def State.clientGrants (s : State) (c : Nat) : List Nat := s.issuedGrants.filter (fun g => s.rd R.BLT.GRANT.CLIENT g == c)

/-- A write of BLT.CLIENT for client c (R137). -/
def State.writeClient (s : State) (c v : Nat) : SetupResult :=
  let clears := s.on R.BLT.CLIENT.VALID c && part v R.BLT.CLIENT.VALID == 0
  s.checked [(clears && ((s.clientQps c).any (fun q => s.on R.XPT.QP_STATE.STATE q) || !(s.clientGrants c).isEmpty), stDenied)]
    (s.takes v c [R.BLT.CLIENT.VALID, R.BLT.CLIENT.STEWARD])

/-- A write of one half of a client's GID, writable while the client is not VALID. -/
def State.writeGid (s : State) (c v : Nat) (f : Fld) : SetupResult :=
  s.checked [(s.chg f v c && s.on R.BLT.CLIENT.VALID c, stDenied)] (s.take f v c)

/-- A write of BLT.BOLT_BASE for bolt b. -/
def State.writeBoltBase (s : State) (b v : Nat) : SetupResult :=
  let fs := [R.BLT.BOLT_BASE.BASE_SW, R.BLT.BOLT_BASE.LEN_SW]
  s.checked [(s.chgAny v b fs && (b == 0 || s.on R.BLT.BOLT_ATTR.STATE b), stDenied)] (s.takes v b fs)

/-- The charge of a bolt in KiB (R149). -/
def State.chargeOf (s : State) (b : Nat) : Nat :=
  let size := s.rd R.BLT.BOLT_BASE.LEN_SW b
  if s.native b then size * 73 else size * 64

/-- A hint of PINNED needs a pin set that names a channel and none with a torn pseudo-channel (R139, PLC.PIN_MASK). -/
def State.pinBad (s : State) (hint pin : Nat) : Bool :=
  hint == 4 && (s.rd R.PLC.PIN_MASK.MASK pin == 0 || (maskChannels (s.rd R.PLC.PIN_MASK.MASK pin)).any s.tornChan)

/-- The extents of two bolts overlap. -/
def State.overlaps (s : State) (a b : Nat) : Bool :=
  let x := s.rd R.BLT.BOLT_BASE.BASE_SW a
  let y := s.rd R.BLT.BOLT_BASE.BASE_SW b
  x < y + s.rd R.BLT.BOLT_BASE.LEN_SW b && y < x + s.rd R.BLT.BOLT_BASE.LEN_SW a

/-- Cause 5 of the table of CREATE refusals (R139, R141). -/
def State.createMalformed (s : State) (b : Nat) : Bool :=
  let len := s.rd R.BLT.BOLT_BASE.LEN_SW b
  let key := s.rd R.BLT.BOLT_ATTR.KEY_ID b
  let mode := s.rd R.BLT.BOLT_ATTR.MODE b
  len == 0 || 2 ^ 24 < s.rd R.BLT.BOLT_BASE.BASE_SW b + len || s.bolts.any (fun x => s.overlaps b x) ||
    (key == 0 && mode != 0) || (key != 0 && mode == 0) || key == 0xFFE || key == 0xFFF ||
    (key != 0 && s.rd R.PRT.KEY_CTRL.STATE key != 1) ||
    s.pinBad (s.rd R.BLT.BOLT_ATTR.HINT b) (s.rd R.BLT.BOLT_ATTR.PIN_SET b)

/-- The leaf runs of the Native bolts: first and end. -/
def State.leafRuns (s : State) : List (Nat × Nat) :=
  (s.bolts.filter (fun b => s.native b)).map (fun b => (s.leafBase b, s.leafBase b + 16 * s.rd R.BLT.BOLT_BASE.LEN_SW b))

/-- The lowest start, a multiple of `unit`, of a run of n that meets none of the runs. -/
def lowestRun (runs : List (Nat × Nat)) (unit n : Nat) : Nat :=
  let cands := sortBy (fun (x : Nat) => [(x : Int)]) (0 :: runs.map (fun r => ceilDiv r.2 unit * unit))
  (cands.find? (fun x => runs.all (fun r => r.2 ≤ x || x + n ≤ r.1))).getD 0

/-- The leaf base of a new Native bolt of `size` swatches, if there is a free run (R322). -/
def State.freeLeaves (s : State) (size : Nat) : Option Nat :=
  let x := lowestRun s.leafRuns 64 (16 * size)
  if x + 16 * size ≤ 2 ^ 25 then some x else none

/-- The whole region frames of a Native bolt, all or none (R235). -/
def State.takeRegions (s : State) (b : Nat) : Nat → Option (State × List Nat)
  | 0 => some (s, [])
  | n + 1 =>
    match s.takeRegions b n with
    | none => none
    | some (t, fs) => match t.takeRegion b n with | some (u, f) => some (u, fs ++ [f]) | none => none

/-- The part frames in the part-frame area (R321, R493). -/
def State.partRuns (s : State) : List (Nat × Nat) :=
  (s.bolts.filter (fun b => s.native b)).map (fun b =>
    (s.mem.partBase.get 0 b, s.mem.partBase.get 0 b + regionPart (s.rd R.BLT.BOLT_BASE.LEN_SW b)))

/-- A Native bolt gets its leaves and its protection region (R235, R321, R322, R328); none if it cannot (R141). -/
def State.createNative (s : State) (b : Nat) : Option State :=
  let size := s.rd R.BLT.BOLT_BASE.LEN_SW b
  match s.freeLeaves size with
  | none => none
  | some lb =>
    match s.takeRegions b (regionFrames size) with
    | none => none
    | some (t, fs) =>
      let k := s.rd R.BLT.BOLT_ATTR.KEY_ID b
      let m := s.rd R.PRT.KEY_HWM.M k
      let base := s.rd R.BLT.BOLT_BASE.BASE_SW b * 1024
      let t := { t with
        mem := { t.mem with regions := t.mem.regions.put b fs,
                            partBase := t.mem.partBase.put b (lowestRun s.partRuns 1 (regionPart size)) },
        guard := { t.guard with
          leafBase := t.guard.leafBase.put b lb, leafMajor := t.guard.leafMajor.put b (m + 1),
          tags := t.guard.tags.keepKeys (fun n => n < base || base + 1024 * size ≤ n),
          nodes := t.guard.nodes.keepKeys (fun n => n < lb || lb + 16 * size ≤ n),
          nodeTags := t.guard.nodeTags.keepKeys (fun n => n < lb || lb + 16 * size ≤ n) } }
      some ((t.wr R.PRT.KEY_HWM.M (m + 16 * size) k).seamCheck)

/-- A rekey is running. -/
def State.rekeyOn (s : State) : Bool := s.rd R.PRT.REKEY.STATE == 1

/-- An accepted CREATE: CREATING, every map entry in the zero state (R141). -/
def State.createBolt (s : State) (b : Nat) : State :=
  let base := s.rd R.BLT.BOLT_BASE.BASE_SW b
  let fresh (k : Nat) : Bool := k < base || base + s.rd R.BLT.BOLT_BASE.LEN_SW b ≤ k
  let s := (s.wr R.BLT.BOLT_CHARGE.CHARGE_KIB (s.chargeOf b) b).wr R.BLT.BOLT_ATTR.STATE 1 b
  ({ s with mem := { s.mem with map := s.mem.map.keepKeys fresh, dwell := s.mem.dwell.keepKeys fresh,
                                born := s.mem.born.put b s.mem.epochs, soft := s.mem.soft.del b } } : State).retagNodes
    (fun lv _ => lv == 2)

/-- CREATE of bolt b, its fields already written: the first cause of refusal that holds, or the bolt (R141). -/
def State.create (s : State) (b : Nat) : SetupResult :=
  let key := s.rd R.BLT.BOLT_ATTR.KEY_ID b
  let mode := s.rd R.BLT.BOLT_ATTR.MODE b
  let life := s.rd R.PRT.LIFE.LIFECYCLE
  let early := [
    (b == 0 || s.on R.BLT.BOLT_ATTR.STATE b, stDenied),
    (mode != 0 && (life == 0 || life == 3), stUnsupported),
    (mode == 1 && !s.on R.PRT.CFG.COMPAT_EN, stUnsupported),
    (s.rekeyOn && (key == s.rd R.PRT.REKEY.TARGET || key == s.rd R.PRT.REKEY.STAGING), stDenied),
    (s.createMalformed b, stMalformed),
    (decide (s.capLimit < s.charged + s.chargeOf b), stAdmission)]
  match early.find? (·.1) with
  | some c => (s, c.2)
  | none =>
    if mode = 2 then
      match s.createNative b with
      | some t => (t.createBolt b, stOk)
      | none => (s, stAdmission)
    else (s.createBolt b, stOk)

/-- Every bolt of the target key has entered DELETING or FREE before the rekey could complete: it stops, and the staging
slot is LOADED again (R334). -/
def State.rekeyStop (s : State) : State :=
  let k := s.rd R.PRT.REKEY.TARGET
  let left := s.bolts.filter (fun b => s.rd R.BLT.BOLT_ATTR.KEY_ID b == k && s.boltMode b != 0 && s.rd R.BLT.BOLT_ATTR.STATE b != 5)
  if s.rekeyOn ∧ left.isEmpty then
    let s := (s.wr R.PRT.KEY_CTRL.STATE 1 (s.rd R.PRT.REKEY.STAGING)).wr R.PRT.REKEY.STATE 3
    { s with guard := { s.guard with converted := {} } }
  else s

/-- DELETE of bolt b: DELETING, its lines discarded, its moves ended (R142, R251, R334). -/
def State.delete (s : State) (b : Nat) : SetupResult :=
  let st := s.rd R.BLT.BOLT_ATTR.STATE b
  let used := (s.stored R.BLT.GRANT.ISSUED ++ s.stored R.BLT.GRANT.INFLIGHT).any (fun g =>
    s.rd R.BLT.GRANT.BOLT g == b && (s.on R.BLT.GRANT.ISSUED g || s.on R.BLT.GRANT.INFLIGHT g))
  let t := s.wr R.BLT.BOLT_ATTR.STATE 5 b
  let t := (t.mem.moves.filter (fun m => t.boltHolds b m.swatch)).foldl (fun s m => s.cancelMove m.swatch) t
  s.checked [(b == 0 || !(2 ≤ st && st ≤ 4) || used, stDenied)] ((t.dropLines (fun l => t.boltHolds b (l / 256))).rekeyStop)

/-- The attributes of a bolt that may change while it serves (R139). -/
def softFields : List Fld := [R.BLT.BOLT_ATTR.HINT, R.BLT.BOLT_ATTR.LPOL, R.BLT.BOLT_ATTR.PIN_SET]

/-- Attributes of bolt b are written: of a bolt in states 2 to 4 the hint and the pin set take effect from the next placement epoch
(R139). -/
def State.takeSoft (s : State) (b v : Nat) : State :=
  let st := s.rd R.BLT.BOLT_ATTR.STATE b
  let t := s.takes v b softFields
  if 2 ≤ st ∧ st ≤ 4 ∧ s.chgAny v b [R.BLT.BOLT_ATTR.HINT, R.BLT.BOLT_ATTR.PIN_SET] then
    { t with mem := { t.mem with soft := t.mem.soft.put b (s.softOf b) } }
  else t

/-- A write of BLT.BOLT_ATTR for bolt b (R139-R143, R157). A pin set that a CREATE cannot use is one of its causes, in their order
(R141). -/
def State.writeBoltAttr (s : State) (b v : Nat) : SetupResult :=
  let st := s.rd R.BLT.BOLT_ATTR.STATE b
  let cmd := part v R.BLT.BOLT_ATTR.CMD
  let fixed := [R.BLT.BOLT_ATTR.KEY_ID, R.BLT.BOLT_ATTR.MODE]
  let soft := softFields
  let t := (s.takes v b fixed).takeSoft b v
  match s.checked
    [ (b == 0 && (cmd != 0 || s.chgAny v b (fixed ++ soft)), stDenied),
      (s.chgAny v b fixed && st != 0, stDenied),
      (s.chgAny v b soft && (st == 1 || st == 5), stDenied),
      (s.badRange R.BLT.BOLT_ATTR.MODE v b (· == 3), stMalformed),
      (s.badRange R.BLT.BOLT_ATTR.HINT v b (4 < ·), stMalformed),
      (s.badRange R.BLT.BOLT_ATTR.LPOL v b (· == 3), stMalformed),
      (cmd != 1 && s.chgAny v b [R.BLT.BOLT_ATTR.HINT, R.BLT.BOLT_ATTR.PIN_SET] &&
        s.pinBad (part v R.BLT.BOLT_ATTR.HINT) (part v R.BLT.BOLT_ATTR.PIN_SET), stMalformed),
      (cmd == 3, stMalformed) ] t with
  | (t, 0) =>
    let r := match cmd with | 1 => t.create b | 2 => t.delete b | _ => (t, stOk)
    if r.2 = 0 then r else (s, r.2)
  | (_, st) => (s, st)

/-- Rights that a grant on bolt b may carry (R143, R144). -/
def rightsOk (b rights : Nat) : Bool := rights != 0 && (b != 0 || rights == 1)

/-- An ISSUE may go ahead (R145). -/
def State.mayGrant (s : State) (g : Nat) : Bool :=
  let b := s.rd R.BLT.GRANT.BOLT g
  let st := s.rd R.BLT.BOLT_ATTR.STATE b
  let len := s.rd R.BLT.GRANT_RANGE.LEN_SW g
  s.on R.BLT.CLIENT.VALID (s.rd R.BLT.GRANT.CLIENT g) && 2 ≤ st && st ≤ 4 && len != 0 &&
    s.rd R.BLT.GRANT_RANGE.START_SW g + len ≤ s.rd R.BLT.BOLT_BASE.LEN_SW b && rightsOk b (s.rd R.BLT.GRANT.RIGHTS g)

/-- The generation after g (R144). -/
def nextGen (g : Nat) : Nat := if g = 0xFFFFF then 1 else g + 1

/-- A write of BLT.GRANT for grant g (R144, R145). -/
def State.writeGrant (s : State) (g v : Nat) : SetupResult :=
  let issued := s.on R.BLT.GRANT.ISSUED g
  let cmd := part v R.BLT.GRANT.CMD
  let fs := [R.BLT.GRANT.CLIENT, R.BLT.GRANT.BOLT, R.BLT.GRANT.RIGHTS]
  let t := s.takes v g fs
  s.checked
    [ (s.chgAny v g fs && issued, stDenied), (cmd == 3, stMalformed),
      (cmd == 1 && issued, stDenied), (cmd == 2 && !issued, stDenied),
      (cmd == 1 && !t.mayGrant g, stMalformed) ]
    (match cmd with
      | 1 => (t.wr R.BLT.GRANT.ISSUED 1 g).wr R.BLT.GRANT.GEN (nextGen (t.rd R.BLT.GRANT.GEN g)) g
      | 2 => t.wr R.BLT.GRANT.ISSUED 0 g
      | _ => t)

/-- A write of BLT.GRANT_RANGE for grant g (R145). -/
def State.writeGrantRange (s : State) (g v : Nat) : SetupResult :=
  let fs := [R.BLT.GRANT_RANGE.START_SW, R.BLT.GRANT_RANGE.LEN_SW]
  s.checked [(s.chgAny v g fs && s.on R.BLT.GRANT.ISSUED g, stDenied)] (s.takes v g fs)

/-- A bolt entry as a select register names it. -/
def State.selBolt (s : State) : Nat := s.rd R.BLT.BOLT_SEL.INDEX

/-- A grant entry as its select register names it. -/
def State.selGrant (s : State) : Nat := s.rd R.BLT.GRANT_SEL.INDEX

/-- A write of a bolt's attributes on its path, with its record for the partner (R431). -/
def State.setBoltAttr (s : State) (path : Path) (v : Nat) : State :=
  s.mirrored path 0x6110 s.selBolt v (s.writeBoltAttr s.selBolt v)

/-- A write of a grant on its path, with its record for the partner (R431). -/
def State.setGrant (s : State) (path : Path) (v : Nat) : State :=
  s.mirrored path 0x6208 s.selGrant v (s.writeGrant s.selGrant v)

/-- QP_STATE_WRITE (R114, R115). -/
def execQpStateWrite (v : BitVec 64) (path : Path) (st : State) : Host.Outcome State Fault Refusal :=
  live st (st.setup path 0x5100 (st.writeQpState (st.rd R.XPT.QP_SEL.INDEX) v.toNat))

/-- QP_BIND (R136). -/
def execQpBind (v : BitVec 64) (path : Path) (st : State) : Host.Outcome State Fault Refusal :=
  live st (st.setup path 0x6028 (st.writeQpBind v.toNat))

/-- QP_UNBIND (R136). -/
def execQpUnbind (v : BitVec 64) (path : Path) (st : State) : Host.Outcome State Fault Refusal :=
  live st (st.setup path 0x6028 (st.writeQpBind v.toNat))

/-- BOLT_CREATE (R141). -/
def execBoltCreate (v : BitVec 64) (path : Path) (st : State) : Host.Outcome State Fault Refusal :=
  live st (st.setBoltAttr path v.toNat)

/-- BOLT_DELETE (R142). -/
def execBoltDelete (v : BitVec 64) (path : Path) (st : State) : Host.Outcome State Fault Refusal :=
  live st (st.setBoltAttr path v.toNat)

/-- BOLT_CREATE_DONE (R141). -/
def execBoltCreateDone (bolt : Fin 1024) (st : State) : Host.Outcome State Fault Refusal :=
  live st (if st.rd R.BLT.BOLT_ATTR.STATE bolt = 1 then st.wr R.BLT.BOLT_ATTR.STATE 2 bolt else st)

/-- The frames of a bolt's swatches and of its protection region return to the pool (R142). -/
def State.freeBoltFrames (s : State) (b : Nat) : State :=
  let base := s.rd R.BLT.BOLT_BASE.BASE_SW b
  let len := s.rd R.BLT.BOLT_BASE.LEN_SW b
  let mine (k : Nat) : Bool := base ≤ k && k < base + len
  let s := (s.mem.map.entries.filter (fun e => mine e.1)).foldl (fun s e => s.freeSwatch e.1) s
  let fs := s.mem.regions.get [] b
  let s := ((List.range fs.length).filter (fun i => !s.lostRegion b i)).foldl (fun s i => s.freeFrame 1 (fs.getD i 0)) s
  { s with mem := { s.mem with map := s.mem.map.keepKeys (fun k => !mine k), dwell := s.mem.dwell.keepKeys (fun k => !mine k),
                               born := s.mem.born.del b, regions := s.mem.regions.del b,
                               lostRegions := s.mem.lostRegions.filter (fun x => x.1 != b), partBase := s.mem.partBase.del b,
                               heat := s.mem.heat.filter (fun h => !mine h.swatch) } }

/-- A deleting bolt is drained: with its leaves go their tags and those of its level 1 nodes, and a level 2 node that its slot tagged is
tagged by another's (R142, 13 R319, R322). -/
def State.deleted (s : State) (b : Nat) : State :=
  let lb := s.leafBase b
  let n := if s.native b then 16 * s.rd R.BLT.BOLT_BASE.LEN_SW b else 0
  let s := (s.dropLines (fun l => s.boltHolds b (l / 256))).freeBoltFrames b
  let out (k : Nat) : Bool := k < lb || lb + n ≤ k
  let s := { s with guard := { s.guard with
      leafBase := s.guard.leafBase.del b, leafMajor := s.guard.leafMajor.del b, cache := s.guard.cache.filter out,
      nodes := s.guard.nodes.keepKeys out,
      nodeTags := s.guard.nodeTags.keepKeys (fun k => out k && !(k / 2 ^ 25 == 1 && lb ≤ k % 2 ^ 25 * 64 && k % 2 ^ 25 * 64 < lb + n)),
      dirtyNodes := s.guard.dirtyNodes.keepKeys out } }
  ((s.wr R.BLT.BOLT_ATTR.STATE 0 b).wr R.BLT.BOLT_CHARGE.CHARGE_KIB 0 b).retagNodes (fun lv _ => lv == 2)

/-- BOLT_DELETE_DONE (R142). -/
def execBoltDeleteDone (bolt : Fin 1024) (st : State) : Host.Outcome State Fault Refusal :=
  live st (if st.rd R.BLT.BOLT_ATTR.STATE bolt = 5 then st.deleted bolt else st)

/-- GRANT_ISSUE (R145). -/
def execGrantIssue (v : BitVec 64) (path : Path) (st : State) : Host.Outcome State Fault Refusal :=
  live st (st.setGrant path v.toNat)

/-- GRANT_REVOKE (R145). -/
def execGrantRevoke (v : BitVec 64) (path : Path) (st : State) : Host.Outcome State Fault Refusal :=
  live st (st.setGrant path v.toNat)

end Sys2Proof.Machine
end

