-- ==== Sys2Proof/Machine/Protect.lean ====
section
/-! DEFINITION. Key slots, key limits, rekeys, master rights, entry to scan and JTAG debug accesses (13 R312-R341). -/

namespace Sys2Proof.Machine

/-- Slots that can hold no key (R312). -/
def keyless (k : Nat) : Bool := k == 0 || k == 0xFFE || k == 0xFFF

/-- Every field of a slot's registers. -/
def keyFields : List Fld :=
  [R.PRT.KEY_CTRL.STATE, R.PRT.KEY_CTRL.KCV, R.PRT.KEY_CTRL.EXHAUSTED, R.PRT.KEY_USE.COUNT, R.PRT.KEY_HWM.M]

/-- A slot is zeroed and EMPTY (R316). -/
def State.emptySlot (s : State) (k : Nat) : State :=
  let s := keyFields.foldl (fun s f => s.clr f k) s
  s.putKey k none

/-- Slots that are not EMPTY. -/
def State.loadedSlots (s : State) : List Nat := s.stored R.PRT.KEY_CTRL.STATE

/-- The whole key store is cleared (R317, R341, 20 R467). -/
def State.clearKeys (s : State) : State := s.loadedSlots.foldl State.emptySlot s

/-- The working keys of a slot from its two keys and a load nonce (R315). -/
def keySlotOf (kd km nonce : List Byte) : KeySlot :=
  { kd := kd, km := km, nonce := nonce, kEnc := kdf kd [0x45, 0x4E, 0x43] nonce, kTwk := kdf kd [0x54, 0x57, 0x4B] nonce,
    kAuth := kdf km [0x4D, 0x41, 0x43] nonce }

/-- The key check value under a key (R315). -/
def keyCheck (k : List Byte) : Nat := leNat ((aes256 k (leBlock 0)).take 3)

/-- An accepted LOAD of two keys into slot k with a fresh nonce (R314, R315). -/
def State.loadSlot (s : State) (k : Nat) (plain : List Byte) : State :=
  let nonce := leBytes 16 (Config.draw s.freeCtr).toNat
  let x := keySlotOf (plain.take 32) (plain.drop 32) nonce
  let s := (s.emptySlot k).drawn
  let s := (s.wr R.PRT.KEY_CTRL.STATE 1 k).wr R.PRT.KEY_CTRL.KCV (keyCheck x.kEnc) k
  s.putKey k (some x)

/-- No LOAD is possible: the lifecycle, no KEK, or no random source (R314, R340, 19 R452). -/
def State.noLoad (s : State) : Bool :=
  let life := s.rd R.PRT.LIFE.LIFECYCLE
  life == 0 || life == 3 || !s.on R.PRT.LIFE.KEK_OK || s.guard.entropyBad

/-- LOAD of a 72-byte blob into slot k (R314). -/
def State.keyLoad (s : State) (k : Nat) (blob : List Byte) : SetupResult :=
  if s.noLoad then s.refuse stUnsupported
  else if keyless k then s.refuse stMalformed
  else if s.on R.PRT.KEY_CTRL.STATE k then s.refuse stDenied
  else match keyUnwrap (s.per.kek.getD []) blob with
    | none => ((s.bump R.PRT.TREE_STAT.UNWRAP_FAILS), stMalformed)
    | some plain => (s.loadSlot k plain).accept

/-- Bolts that are not FREE and hold key ID k. -/
def State.keyBolts (s : State) (k : Nat) : List Nat := s.bolts.filter (fun b => s.rd R.BLT.BOLT_ATTR.KEY_ID b == k)

/-- CLEAR of slot k (R316). -/
def State.keyClear (s : State) (k : Nat) : SetupResult :=
  s.checked [(keyless k, stMalformed), (!(s.keyBolts k).isEmpty, stDenied), (s.rd R.PRT.KEY_CTRL.STATE k == 2, stDenied)]
    (s.emptySlot k)

/-- A write of PRT.KEY_CTRL for slot k, with the blob that the shared registers hold (R314, R316). -/
def State.writeKeyCtrl (s : State) (k v : Nat) (blob : List Byte) : SetupResult :=
  match part v R.PRT.KEY_CTRL.CMD with
  | 1 => s.keyLoad k blob
  | 2 => s.keyClear k
  | 3 => s.refuse stMalformed
  | _ => s.accept

/-- The blob in PRT.KEY_WRAP0 to 8. -/
def State.keyBlob (s : State) : List Byte := ((List.range 9).map (fun n => leBytes 8 (s.rd R.PRT.KEY_WRAP.DATA n))).flatten

/-- PRT.KEY_WRAP0 to 8 are cleared by every LOAD (R314). -/
def State.clearWrap (s : State) : State := (List.range 9).foldl (fun s n => s.clr R.PRT.KEY_WRAP.DATA n) s

/-- The KEY record of an accepted LOAD or CLEAR of slot k: a LOAD carries its two keys wrapped under the pair key (18 R424). -/
def State.keyCmdRecord (s : State) (k cmd : Nat) (blob : List Byte) : List Byte :=
  if cmd = 1 then
    keyRecord 0 k 0 (keyWrap (s.tack.key.getD []) ((keyUnwrap (s.per.kek.getD []) blob).getD []))
  else keyRecord 1 k 0 []

/-- A write of PRT.KEY_CTRL on its path; a LOAD or CLEAR goes to the partner as a KEY record (R314, R316, 18 R431). -/
def State.setKeyCtrl (s : State) (path : Path) (v : Nat) : State :=
  let k := s.rd R.PRT.KEY_SEL.SLOT
  let cmd := part v R.PRT.KEY_CTRL.CMD
  let blob := s.keyBlob
  if cmd = 1 ∨ cmd = 2 then
    let t := s.mirrored path 0xD060 k v (s.writeKeyCtrl k v blob) (some (s.keyCmdRecord k cmd blob)) blob
    if cmd = 1 ∧ s.pathOk path then t.clearWrap else t
  else s.setup path 0xD060 (s.writeKeyCtrl k v blob)

/-- KEY_LOAD (R314). -/
def execKeyLoad (v : BitVec 64) (path : Path) (st : State) : Host.Outcome State Fault Refusal :=
  live st (st.setKeyCtrl path v.toNat)

/-- KEY_CLEAR (R316). -/
def execKeyClear (v : BitVec 64) (path : Path) (st : State) : Host.Outcome State Fault Refusal :=
  live st (st.setKeyCtrl path v.toNat)

/-- A write of PRT.CFG (R329). -/
def State.writePrtCfg (s : State) (v : Nat) : SetupResult :=
  let t := s.takes v 0 [R.PRT.CFG.COMPAT_EN, R.PRT.CFG.KEY_LIMIT_LOG2]
  s.checked [(s.chg R.PRT.CFG.COMPAT_EN v && part v R.PRT.CFG.COMPAT_EN == 1 && s.on R.PRT.LIFE.COMPAT_LOCK, stUnsupported),
             (s.badRange R.PRT.CFG.KEY_LIMIT_LOG2 v 0 (· < 32), stMalformed)]
    (t.loadedSlots.foldl State.keyLimit t)

/-- KEY_LIMIT_WRITE (R329). -/
def execKeyLimitWrite (v : BitVec 64) (path : Path) (st : State) : Host.Outcome State Fault Refusal :=
  live st (st.setup path 0xD000 (st.writePrtCfg v.toNat))

/-- The leaf groups of a bolt: 16 for each swatch (R332). -/
def State.boltGroups (s : State) (b : Nat) : Nat := 16 * s.rd R.BLT.BOLT_BASE.LEN_SW b

/-- A rekey starts: the staging slot is STAGED and the bolts of K enter REKEYING (R332). -/
def State.rekeyStart (s : State) (k k' : Nat) : State :=
  let bs := (s.keyBolts k).filter (fun b => s.boltMode b != 0)
  let s := (s.wr R.PRT.KEY_CTRL.STATE 2 k').wr R.PRT.REKEY.STATE 1
  let s := bs.foldl (fun s b => s.wr R.BLT.BOLT_ATTR.STATE 4 b) s
  let s := (s.wr R.PRT.REKEY_PROG.DONE 0).wr R.PRT.REKEY_PROG.TOTAL (bs.foldl (fun n b => n + s.boltGroups b) 0)
  let s := s.wr R.PRT.REKEY.BOLT (bs.foldl min (bs.headD 0))
  { s with guard := { s.guard with converted := {} } }

/-- A write of PRT.REKEY (R331). -/
def State.writeRekey (s : State) (v : Nat) : SetupResult :=
  let k := part v R.PRT.REKEY.TARGET
  let k' := part v R.PRT.REKEY.STAGING
  let go := part v R.PRT.REKEY.GO == 1
  let fs := [R.PRT.REKEY.TARGET, R.PRT.REKEY.STAGING]
  let coded := (s.keyBolts k).filter (fun b => s.boltMode b != 0)
  let t := s.takes v 0 fs
  s.checked
    [ (s.chgAny v 0 fs && s.rekeyOn, stDenied),
      (go && (keyless k || keyless k' || k == k' || s.rd R.PRT.KEY_CTRL.STATE k' != 1), stMalformed),
      (go && (!(s.keyBolts k').isEmpty || coded.isEmpty || s.rekeyOn), stDenied),
      (go && (s.keyBolts k).any (fun b => s.rd R.BLT.BOLT_ATTR.STATE b == 1 || s.rd R.BLT.BOLT_ATTR.STATE b == 5), stDenied) ]
    (if go then t.rekeyStart k k' else t)

/-- A write of PRT.REKEY on its path; a GO goes to the partner as a KEY record (18 R431). -/
def State.setRekey (s : State) (path : Path) (v : Nat) : State :=
  if part v R.PRT.REKEY.GO = 1 then
    s.mirrored path 0xD078 0 v (s.writeRekey v)
      (some (keyRecord 2 (part v R.PRT.REKEY.TARGET) (part v R.PRT.REKEY.STAGING) []))
  else s.setup path 0xD078 (s.writeRekey v)

/-- REKEY_GO (R331, R332). -/
def execRekeyGo (v : BitVec 64) (path : Path) (st : State) : Host.Outcome State Fault Refusal :=
  live st (st.setRekey path v.toNat)

/-- Every group of a bolt that is not yet converted is converted; those of torn swatches are skipped (R332, R334). -/
def State.convertBolt (s : State) (b : Nat) : State :=
  let base := s.rd R.BLT.BOLT_BASE.BASE_SW b
  (List.range (s.boltGroups b)).foldl (fun s g =>
    let n := base * 1024 + 64 * g
    if s.isConverted n ∨ entryState (s.mapOf (base + g / 16)) = 2 then s else s.convertGroup b n)
    (s.wr R.PRT.REKEY.BOLT b)

/-- Steps 3 and 4 of a rekey: K takes what the staging slot holds, the staging slot is EMPTY, the bolts are ACTIVE again
(R332). -/
def State.rekeyEnd (s : State) : State :=
  let k := s.rd R.PRT.REKEY.TARGET
  let k' := s.rd R.PRT.REKEY.STAGING
  let bs := (s.keyBolts k).filter (fun b => s.rd R.BLT.BOLT_ATTR.STATE b == 4)
  let x := s.slotKeys k'
  let s := [R.PRT.KEY_CTRL.KCV, R.PRT.KEY_CTRL.EXHAUSTED, R.PRT.KEY_USE.COUNT, R.PRT.KEY_HWM.M].foldl
    (fun s f => s.wr f (s.rd f k') k) (s.wr R.PRT.KEY_CTRL.STATE 1 k)
  let s := s.putKey k (some x)
  let s := (({ s with guard := { s.guard with converted := {} } } : State).retagNodes
    (fun lv i => lv != 0 && s.nodeSlot lv i == some k)).emptySlot k'
  (bs.foldl (fun s b => s.wr R.BLT.BOLT_ATTR.STATE 2 b) s).wr R.PRT.REKEY.STATE 2

/-- REKEY_CONVERSION_DONE (R332-R334): the conversion runs under master 69's entry while the module serves and no Thimble reset
pauses it. -/
def execRekeyConversionDone (st : State) : Host.Outcome State Fault Refusal :=
  let bs := (st.keyBolts (st.rd R.PRT.REKEY.TARGET)).filter (fun b => st.rd R.BLT.BOLT_ATTR.STATE b == 4)
  live st (if st.rekeyOn ∧ st.running ∧ ¬ st.guard.rekeyPaused then
    if ¬ bs.all (st.masterOwns 69) then st.countMaster else ((bs.foldl State.convertBolt st).chargeGroups 69).rekeyEnd else st)

/-- A scope grants a key ID other than 0 (R339): the whole range, or one. -/
def scopeGrants (scope key : Nat) : Option (Option Nat) :=
  match scope with
  | 2 => some none
  | 3 => if key = 0 then none else some (some key)
  | _ => none

/-- A change of scope grants a key ID other than 0 that it did not grant before (R339). -/
def widens (old new : Option (Option Nat)) : Bool :=
  match old, new with
  | _, none => false
  | none, some _ => true
  | some none, some _ => false
  | some (some _), some none => true
  | some (some a), some (some b) => a != b

/-- A write of PRT.MRIGHTS for master m (R339). -/
def State.writeMrights (s : State) (m v : Nat) : SetupResult :=
  let fs := [R.PRT.MRIGHTS.READ, R.PRT.MRIGHTS.WRITE, R.PRT.MRIGHTS.ATOMIC, R.PRT.MRIGHTS.SCOPE, R.PRT.MRIGHTS.KEY_ID]
  let wide := widens (scopeGrants (s.rd R.PRT.MRIGHTS.SCOPE m) (s.rd R.PRT.MRIGHTS.KEY_ID m))
    (scopeGrants (part v R.PRT.MRIGHTS.SCOPE) (part v R.PRT.MRIGHTS.KEY_ID))
  s.checked [(s.chgAny v m fs && m != 68, stDenied),
             (m == 68 && wide && 2 ≤ s.rd R.PRT.LIFE.LIFECYCLE && s.on R.PRT.LIFE.DEBUG_LOCK, stUnsupported)]
    (s.takes v m fs)

/-- What entry to scan clears, in its order (R341). The Bobbin pool's contents are those of the requests, descriptors and received
frames that hold its buffers. -/
def State.scanClear (s : State) : State :=
  let s := s.clearKeys
  let s := ({ s with per := { s.per with secret := none, kek := none } } : State).wr R.PRT.LIFE.KEK_OK 0
  let s := { s with lng := {} }
  let s : State := { s with
    rings := s.rings.mapVals (fun _ x => { x with
      descs := [], ended := [], fetching := [], returned := [], unreleased := [], fence := none, fenceOthers := [] }),
    ports := s.ports.mapVals (fun _ x => { x with held := {}, rx := [] }) }
  let s := [0, 1].foldl (fun (s : State) p => s.wr R.ETH.STATUS.RX_BUFFERS 0 p) s
  let own := [R.XPT.QP_STATE.PORT, R.XPT.QP_STATE.ROLE, R.XPT.QP_STATE.CLIENT, R.XPT.QP_STATE.BOUND]
  let qs := ((R.XPT.QP_STATE.STATE :: own ++ qpContext).flatMap s.stored ++ s.qps.keys).eraseDups
  let s := qs.foldl (fun s q =>
    let s := s.qpReset q
    own.foldl (fun s f => s.clr f q) s) s
  let nodes := s.guard.nodes.keepKeys (fun k => k < 3 * 2 ^ 25)
  { s with qps := {}, thimble := { s.thimble with sram := .cleared },
           guard := { s.guard with cache := [], dirtyNodes := {}, nodes := nodes } }

/-- SCAN_ENTER (R341, 20 R464): accepted in Maintenance with the test access port out of reset. -/
def execScanEnter (readback : List Bool) (st : State) : Host.Outcome State Fault Refusal :=
  live st (if st.mode = modeMaint ∧ st.pins.trstN.seen then
    let t := st.scanClear
    if readback.all id then t.wr R.MOD.STATUS.SCAN 1 else t.raise Src.scanClearFail
  else st)

/-- The check of master 68's access in the order of 06 R146: a status, and the bolt that it reaches where the status is 0. Its
key ID travels in the address (06 R134); key IDs 0xFFE and 0xFFF leave the order behind its first step and serve no internal
master (06 R150, R152). In place of a grant stand the bolt's bounds, the master's rights and scope (R338, R339), and that only
the dumper writes the system bolt (06 R143). -/
def State.debugCheck (s : State) (a : DebugAccess) : Nat × Nat :=
  let va := a.va.toNat
  let off := faOffset va
  let len := if a.write then a.data.length else a.len
  if ¬ faInside va len then (stBadAddress, 0)
  else match if 0xFFE ≤ faKey va then none else s.boltAt (off / 65536) with
    | none => (stDenied, 0)
    | some b =>
      let z := (s.rd R.BLT.BOLT_BASE.BASE_SW b + s.rd R.BLT.BOLT_BASE.LEN_SW b) * 65536
      if z < off + len ∨ ¬ s.masterMay 68 (if a.write then 1 else 0) b ∨ (b = 0 ∧ a.write) then (stDenied, b)
      else if faKey va ≠ s.rd R.BLT.BOLT_ATTR.KEY_ID b then (stKeyMismatch, b)
      else (s.stateServes b a.write, b)

/-- A debug access that passed its check waits for its place: its line is busy, or new writes to its swatch are held (10 R263, 09
R250). -/
def State.debugWaits (s : State) (a : DebugAccess) : Bool :=
  let va := a.va.toNat
  let len := if a.write then a.data.length else a.len
  s.rangeBusy va len || (a.write && s.rangeHeld va len)

/-- A debug access takes place on the path of every other access, behind the requests of its line that came before it (R338, 10
R263). -/
def State.debugAccess (s : State) (a : DebugAccess) : State :=
  match s.debugCheck a with
  | (0, b) =>
    if s.debugWaits a then { s with lng := { s.lng with debugs := s.lng.debugs ++ [a] } } else
    let off := faOffset a.va.toNat
    if a.write then
      match s.writeRange 68 b off a.data with | (s, st, _) => s.emit (.debug st [])
    else
      match s.readRange 68 b off a.len with | (s, st, d) => s.emit (.debug st (if st = 0 then d else []))
  | (st, _) => s.countMaster.emit (.debug st [])

/-- The debug accesses that waited are made, or wait on; those that wait when the stack no longer serves are gone. -/
def State.debugAgain (s : State) : State :=
  let as := s.lng.debugs
  let s : State := { s with lng := { s.lng with debugs := [] } }
  if s.running ∨ s.mode = modeMaint then as.foldl State.debugAccess s else s

/-- JTAG_DEBUG_ACCESS (R338): the stack serves in Serve, Ease, Shadow and Maintenance. -/
def execJtagDebugAccess (a : DebugAccess) (st : State) : Host.Outcome State Fault Refusal :=
  live st (if (st.running ∨ st.mode = modeMaint) ∧ st.pins.trstN.seen ∧ ¬ st.on R.MOD.STATUS.SCAN then st.debugAccess a else st)

end Sys2Proof.Machine
end

