-- ==== Sys2Proof/Machine/Regulation.lean ====
section
/-! DEFINITION. Bandwidth regulation: pool buffers, slot issue, aging, windows, guarantees and credit periods (11
R283-R299, 17 R400-R402). -/

namespace Sys2Proof.Machine

/-- A controller that may admit slots: its cell holds credit and has some left in the period, and activates are not held (R33,
R43, R288, R344, R400). -/
def State.mayAdmit (s : State) (c : Nat) : Bool :=
  s.hasCredit c && (s.chan c).credit != 0 && !s.on R.CHN.STATUS.ACT_HOLD c && s.mayIssueCmds c

/-- Slots of a channel that may be admitted: fewer than 64 of their pseudo-channel are, and its ply owes fewer than nine
REF commands (R344, R350). -/
def State.eligible (s : State) (c : Nat) : List Slot :=
  let x := s.chan c
  x.waiting.filter (fun k => x.admitted.countP (fun j => j.pc == k.pc) < 64 && x.postponed.get 0 (k.pc * 4 + k.ply) < 9)

/-- The master served next in a class after master m: round robin (R288). -/
def nextMaster (ks : List Slot) (m : Nat) : Nat :=
  let ms := ks.map (·.master)
  match ms.foldl (fun (b : Option Nat) j => if m < j then (match b with | some i => some (min i j) | none => some j) else b) none with
  | some j => j
  | none => ms.foldl min (ms.headD 0)

/-- The slot a controller takes next (R288). -/
def State.nextSlot (s : State) (c : Nat) : Option Slot :=
  let ks := s.eligible c
  match [0, 1, 2].find? (fun k => ks.any (fun j => j.cls == k)) with
  | none => none
  | some k =>
    let cs := ks.filter (fun j => j.cls == k)
    let m := nextMaster cs ((s.chan c).rr.get 0 k)
    cs.find? (fun j => j.master == m)

/-- A slot is admitted to the queue of its bank (R344). -/
def State.admitSlot (s : State) (c : Nat) (k : Slot) : State :=
  let x := s.chan c
  (s.setChan c { x with waiting := x.waiting.erase k, admitted := x.admitted ++ [{ k with since := s.tick }],
                        rr := x.rr.set 0 k.cls k.master }).useCredit c

/-- The bank of a slot in its channel. -/
def Slot.bankOf (k : Slot) : Nat := bankNum k.pc k.ply k.bank

/-- The slots that stand first in the queues of their banks (R344). -/
def bankHeads : List Slot → List Nat → List Slot
  | [], _ => []
  | k :: ks, seen =>
    if k.issued ∨ seen.contains k.bankOf then bankHeads ks seen else k :: bankHeads ks (seen ++ [k.bankOf])

/-- The slots of pseudo-channel pc whose commands may be issued next: while activates are held, those whose row is open (R43,
R344). -/
def State.issuable (s : State) (c pc : Nat) : List Slot :=
  let x := s.chan c
  if ¬ s.mayIssueCmds c then [] else
  (bankHeads x.admitted []).filter (fun k => k.pc == pc &&
    (!s.on R.CHN.STATUS.ACT_HOLD c || x.openRow.find k.bankOf == some (s.physRow c k.pc k.ply k.bank k.row)))

/-- The bus of a pseudo-channel turns round to a slot of the other direction that may be issued: 16 slots of its direction have been
issued, none of it may be, or a GUARANTEED slot of the other direction has waited 200 ns among all that are admitted, first in its
bank's queue or not (R345). -/
def Bus.turns (b : Bus) (now : Nat) (ks all : List Slot) : Bool :=
  ks.any (fun k => k.isRead != b.read) && (decide (16 ≤ b.run) || ks.all (fun k => k.isRead != b.read) ||
    all.any (fun k => k.isRead != b.read && k.cls == 0 && decide (k.since + 200 ≤ now)))

/-- The slot whose commands a pseudo-channel issues next (R345). -/
def State.busNext (s : State) (c pc : Nat) : Option Slot :=
  let ks := s.issuable c pc
  let x := s.chan c
  let b := x.bus.get {} pc
  ks.find? (fun k => k.isRead == (b.read != b.turns s.tick ks (x.admitted.filter (fun k => k.pc == pc && !k.issued))))

/-- An admitted slot is complete, and served where it counts (R283, R286, R294). -/
def State.slotDone (s : State) (c : Nat) (k : Slot) : State :=
  let x := s.chan c
  let s := s.setChan c { x with admitted := x.admitted.erase k }
  if ¬ k.counted then s
  else s.slotServed k.master 1 k.dry

/-- The commands of an admitted slot are issued; the slot of an engine's own access is served by them, a held no-allocate write is
written, and a fill or a write-back waits for the end of its own (R271, R286, R345). -/
def State.busIssue (s : State) (c : Nat) (k : Slot) : State :=
  let x := s.chan c
  let j := { k with issued := true }
  let s := (s.setChan c { x with admitted := x.admitted.set (x.admitted.idxOf k) j }).slotCommands c k
  match k.use with
  | .fill _ => s
  | .back _ => s
  | .around l => (s.slotDone c j).storeHeld k.master l
  | .merged l => (s.slotDone c j).storeHeld k.master l
  | _ => s.slotDone c j

/-- A pseudo-channel issues the commands of its next slot, if its bus is free in this tick (R345; DESIGN CHOICE, log entry 84: one
slot in a tick). -/
def State.runBus (s : State) (c pc : Nat) : State :=
  if s.tick < ((s.chan c).bus.get {} pc).last then s
  else match s.busNext c pc with | some k => s.busIssue c k | none => s

/-- Every bus issues the commands of its next slot (R345). -/
def State.runBuses (s : State) : State :=
  s.chans.keys.foldl (fun s c => (s.runBus c 0).runBus c 1) s

/-- A pseudo-channel issues slots in their order until one that passes the test has been issued. -/
def State.busUntil : Nat → State → Nat → Nat → (Slot → Bool) → State
  | 0, s, _, _, _ => s
  | n + 1, s, c, pc, p =>
    match s.busNext c pc with
    | none => s
    | some k => if p k then s.busIssue c k else State.busUntil n (s.busIssue c k) c pc p

/-- The admitted slot with some use: its channel and the slot. -/
def State.slotOf (s : State) (u : SlotUse) : Option (Nat × Slot) :=
  s.chans.entries.findSome? (fun c => (c.2.admitted.find? (fun k => k.use == u)).map (fun k => (c.1, k)))

/-- What an admitted slot serves is reported to have happened: its commands are issued by now, with those of the slots before it. -/
def State.runTo (s : State) (u : SlotUse) : State :=
  match s.slotOf u with
  | some (c, k) => if k.issued then s else State.busUntil (s.chan c).admitted.length s c k.pc (fun j => j.use == u)
  | none => s

/-- The slot with some use whose commands are issued: its channel and the slot. -/
def State.issuedSlot (s : State) (u : SlotUse) : Option (Nat × Slot) :=
  match s.slotOf u with
  | some (c, k) => if k.issued then some (c, k) else none
  | none => none

/-- A slot is admitted, and its commands are issued at once where the bus is free (R344, R345). -/
def State.slotIssue (s : State) (c : Nat) : State :=
  if ¬ s.mayAdmit c then s else
  match s.nextSlot c with
  | some k => (s.admitSlot c k).runBus c k.pc
  | none => s

/-- SLOT_ISSUE (R288, R344, R345). -/
def execSlotIssue (c : Fin 32) (st : State) : Host.Outcome State Fault Refusal := live st (st.slotIssue c)

/-- A slot of an internal engine whose access is over in the command that reports it: issued and served in one (R283, R287,
R289). -/
def State.serveNow (s : State) (m q row sg : Nat) (isRead : Bool) : State :=
  let (c, k) := slotAt m q row sg isRead (.work none)
  (((s.countClass m (s.slotClass m)).slotCommands c k).useCredit c).slotServed m

/-- Nothing waits at a channel, and it has a buffer and credit for one more slot of master m: a DEMOTED slot that is never
promoted can be served (R289, R297). -/
def State.idleFor (s : State) (c m : Nat) : Bool :=
  s.mayAdmit c && (s.chan c).slots.all (·.issued) && !s.noTurn m s.lng.arrivals

/-- DEMOTED_SLOT_AGED (R289): the scrubber's slots are never promoted. -/
def execDemotedSlotAged (c : Fin 32) (master : Fin 80) (st : State) : Host.Outcome State Fault Refusal :=
  let x := st.chan c
  live st (match x.waiting.findIdx? (fun k => k.master == master.val && k.cls == 2) with
    | some i =>
      if master.val = 65 then st else
      ((st.setChan c { x with waiting := x.waiting.modify i (fun k => { k with cls := 1 }) }).bump R.QOS.MASTER_CNT.AGED master).count 131
    | none => st)

/-- Slots of master m still waiting at channel level, those that waited for credit left out (R294). -/
def State.demandLeft (s : State) (m : Nat) : Nat :=
  s.chans.entries.foldl (fun n c => n + c.2.slots.countP (fun k => k.master == m && !k.dry && k.counted)) 0

/-- Served, demand and guarantee of master m in the window that ends (R294). -/
def State.windowFigures (s : State) (m : Nat) : Nat × Nat × Nat :=
  let served := s.reg.served.get 0 m
  (served, min (served + s.demandLeft m) (2 ^ 32 - 1), s.rd R.QOS.MASTER_STAT.EFF_GUAR m)

/-- The window counts as a miss of master m (R294). -/
def State.missed (s : State) (m : Nat) : Bool :=
  let (served, demand, g) := s.windowFigures m
  g != 0 && g ≤ demand && decide (served < 9 * g / 10)

/-- The effects of a miss; a client that has received the event receives no other for ten windows (R296). -/
def State.miss (s : State) (m : Nat) : State :=
  let (served, demand, g) := s.windowFigures m
  let f := if m < 64 then R.QOS.MISS_LO.MISS else R.QOS.MISS_HI.MISS
  let fresh := !s.rdBit f (m % 64)
  let s := (s.wrBit f (m % 64) true).count 135
  let s := if fresh then s.raise Src.qosGuaranteeMissed else s
  if m < 64 ∧ s.reg.missHold.get 0 m = 0 then
    let posts := s.eqPosts m 3
    let s := s.postEvent m 3 0x0021 (served + demand * 2 ^ 32) g
    if posts then { s with reg := { s.reg with missHold := s.reg.missHold.put m 10 } } else s
  else s

/-- The window is never counted as a miss (R295). -/
def State.windowExcluded (s : State) : Bool :=
  s.reg.excluded || !s.running || !s.on R.QOS.CFG.MISS_EN ||
    (List.range 32).any (fun c => s.on R.CHN.STATUS.IN_WINDOW c || s.on R.CHN.STATUS.ACT_HOLD c)

/-- g_win of master m under a factor (R291). -/
def State.gWin (s : State) (m f : Nat) : Nat := s.rd R.QOS.MASTER.GUAR m * 5000 * f * 100 / (1000 * 1024)

/-- GUARANTEE_REVISED to a client at a boundary where factor f takes effect after f0; the F last reported is that of the last one
posted (R292). -/
def State.revise (s : State) (f0 f c : Nat) : State :=
  let guar := s.rd R.QOS.MASTER.GUAR c
  let changed := guar != s.reg.guarPrev.get 0 c
  let last := s.reg.reported.get 1024 c
  let far := 8 ≤ (if f ≤ last then last - f else f - last)
  if changed ∨ (guar ≠ 0 ∧ (far ∨ (f = 1024 ∧ f0 < 1024))) then
    let posts := s.eqPosts c 3
    let s := s.postEvent c 3 0x0020 (f + last * 2 ^ 16) (s.gWin c f + guar * 2 ^ 32)
    if posts then { s with reg := { s.reg with reported := s.reg.reported.set 1024 c f } } else s
  else s

/-- The next window starts: F, the guarantees in effect, and the counts of served slots (R285, R291, R292). -/
def State.nextWindow (s : State) : State :=
  let f0 := s.rd R.QOS.DELIVER.FACTOR
  let f := s.reg.nextF
  let s := if f = f0 then s else ((s.wr R.QOS.DELIVER.FACTOR f).bump R.QOS.REVISE.CHANGES).count 136
  let s := (List.range 71).foldl (fun s m =>
    (s.wr R.QOS.MASTER_STAT.LAST_SERVED (s.reg.served.get 0 m) m).wr R.QOS.MASTER_STAT.EFF_GUAR (s.gWin m f) m) s
  let s := (List.range 64).foldl (fun s c => s.revise f0 f c) s
  let guar := (List.range 71).foldl (fun t m => t.set 0 m (s.rd R.QOS.MASTER.GUAR m)) ({} : SMap Nat)
  let hold := s.reg.missHold.entries.filterMap (fun e => if 1 < e.2 then some (e.1, e.2 - 1) else none)
  let dry (c : Nat) (k : Slot) : Slot := { k with dry := !s.hasCredit c }
  { s with reg := { s.reg with served := {}, total := {}, guarPrev := guar, excluded := false, missHold := ⟨hold⟩ },
           chans := s.chans.mapVals (fun c x => { x with waiting := x.waiting.map (dry c),
                                                         admitted := x.admitted.map (fun k => { k with dry := false }) }) }

/-- WINDOW_BOUNDARY (R285, R292, R294-R296). -/
def State.windowBoundary (s : State) : State :=
  let out := s.windowExcluded
  let ms := (List.range 71).filter s.missed
  let s := if out then (s.bump R.QOS.REVISE.EXCLUDED).count 134 else ms.foldl State.miss s
  s.nextWindow

/-- WINDOW_BOUNDARY (R285). -/
def execWindowBoundary (st : State) : Host.Outcome State Fault Refusal := live st st.windowBoundary

/-- The sum of GUAR over all masters (R290). -/
def State.guarSum (s : State) : Nat := (List.range 71).foldl (fun n m => n + s.rd R.QOS.MASTER.GUAR m) 0

/-- A write of QOS.MASTER for master m (R290). -/
def State.writeQosMaster (s : State) (m v : Nat) : SetupResult :=
  let b := part v R.QOS.MASTER.BUDGET
  let g := part v R.QOS.MASTER.GUAR
  let old := s.rd R.QOS.MASTER.GUAR m
  let chgB := s.chg R.QOS.MASTER.BUDGET v m
  let chgG := s.chg R.QOS.MASTER.GUAR v m
  if (chgB ∨ chgG) ∧ 71 ≤ m then s.refuse stMalformed
  else if (chgB ∧ b = 0) ∨ (chgG ∧ 850 < g) then s.refuse stMalformed
  else if old < g ∧ 850 < s.guarSum - old + g then s.refuse stAdmission
  else (s.takes v m [R.QOS.MASTER.BUDGET, R.QOS.MASTER.GUAR]).accept

/-- GUARANTEE_WRITE (R290). -/
def execGuaranteeWrite (v : BitVec 64) (path : Path) (st : State) : Host.Outcome State Fault Refusal :=
  live st (st.setup path 0xC108 (st.writeQosMaster (st.rd R.QOS.MASTER_SEL.INDEX) v.toNat))

/-- The input power in uW that Hem estimates for the period that ends: what the cells were charged in it and a hundredth of what the last
round charged beside them, over the stage efficiency of that round (R403). -/
def State.periodPower (s : State) : Nat := (100 * s.hem.spent + s.hem.steady) * s.hem.drawn / (1000 * s.hem.given)

/-- CREDIT_PERIOD (R400, R402-R404). In Hold no credit is issued (R406). -/
def State.creditPeriod (s : State) : State :=
  let t := if s.mode = modeHold then s else s.freshCredit (s.periodCap s.periodPower)
  { t with hem := { t.hem with spent := 0 } }

/-- CREDIT_PERIOD (R400). -/
def execCreditPeriod (st : State) : Host.Outcome State Fault Refusal := live st st.creditPeriod

end Sys2Proof.Machine
end

