-- ==== Sys2Proof/Machine/Channels.lean ====
section
/-! DEFINITION. Channel controllers: row closing, refresh, row-disturbance windows, the error log, the leaky buckets, the
scrubber (14 R345-R358, 15 R366-R373). -/

namespace Sys2Proof.Machine

/-- ROW_IDLE_PRECHARGE (R345). -/
def execRowIdlePrecharge (c : Fin 32) (bank : Fin 128) (st : State) : Host.Outcome State Fault Refusal :=
  let x := st.chan c
  live st (st.setChan c { x with openRow := x.openRow.del bank })

/-- The postponed count of ply n of a channel. -/
def State.setDebt (s : State) (c n k : Nat) : State :=
  let x := s.chan c
  s.setChan c { x with postponed := x.postponed.set 0 n k }

/-- The pulled-in count of ply n of a channel. -/
def State.setAhead (s : State) (c n k : Nat) : State :=
  let x := s.chan c
  s.setChan c { x with pulled := x.pulled.set 0 n k }

/-- Slots for a ply are queued at its controller. -/
def Chan.busyPly (x : Chan) (pc ply : Nat) : Bool := x.slots.any (fun k => k.pc == pc && k.ply == ply)

/-- tREFI has passed for a ply (R348-R351): a REF that cannot be issued is postponed, and tears the pseudo-channel when
nine would be; while slots are queued a pulled-in REF is used, or one postponed, or the REF issued; an idle ply gets what
it is owed and one more. No REF is due before the plies are initialised (20 R457), in self-refresh, or without clocks (03 R80). -/
def State.refDue (s : State) (c pc ply : Nat) (blocked : Bool) : State :=
  let x := s.chan c
  let n := pc * 4 + ply
  let debt := x.postponed.get 0 n
  let ahead := x.pulled.get 0 n
  let q := 2 * c + pc
  if s.tornPc q ∧ ¬ s.caWhole c pc then s
  else if s.asleep ∨ s.clocks.stopped ∨ s.on R.CHN.STATUS.IN_WINDOW c ∨ (s.booting ∧ s.rd R.MOD.STATUS.BOOT_STEP < 5) then s
  else if blocked ∨ s.inReset c then (if 8 ≤ debt then (if s.tornPc q then s.endRefresh q else s.tear q) else s.setDebt c n (debt + 1))
  else if x.busyPly pc ply then
    if ahead ≠ 0 then s.setAhead c n (ahead - 1)
    else if debt < 8 then s.setDebt c n (debt + 1)
    else s.refresh c pc ply 1
  else if ahead < 8 then (((s.refresh c pc ply (debt + 2)).heldInterval c pc ply).setDebt c n 0).setAhead c n (ahead + 1)
  else ((s.refresh c pc ply (debt + 1)).heldInterval c pc ply).setDebt c n 0

/-- REF_DUE (R348-R351). -/
def execRefDue (c : Fin 32) (pc : Fin 2) (ply : Fin 4) (blocked : Bool) (st : State) : Host.Outcome State Fault Refusal :=
  live st (st.refDue c pc ply blocked)

/-- RH_WINDOW_BOUNDARY (R352, R353). -/
def execRhWindowBoundary (st : State) : Host.Outcome State Fault Refusal :=
  live st ((List.range 32).foldl (fun s c =>
    s.setChan c { s.chan c with tables := {}, thresh := s.rd R.CHN.CTRL.RH_THRESH c }) st)

/-- A write of CHNc.ERRLOG_CTRL (R358). -/
def State.writeErrlog (s : State) (c v : Nat) : SetupResult :=
  if part v R.CHN.ERRLOG_CTRL.POP = 1 then (s.setChan c { s.chan c with log := (s.chan c).log.drop 1 }).accept
  else s.accept

/-- ERRLOG_POP (R358). -/
def execErrlogPop (c : Fin 32) (path : Path) (st : State) : Host.Outcome State Fault Refusal :=
  live st (st.setup path (0x10068 + c.val * 0x800) (st.writeErrlog c 1))

/-- A leak of one bucket (R366); a lowered DEPTH clamps the level. -/
def State.leak (s : State) (c : Nat) : State :=
  let v := min (s.rd R.ECC.BUCKET.LEVEL c - 1) (s.rd R.ECC.CFG.DEPTH)
  let s := s.wr R.ECC.BUCKET.LEVEL v c
  if v ≤ s.rd R.ECC.CFG.REARM then s.wrBit R.ECC.BUCKET_OVF.ARMED c true else s

/-- BUCKET_LEAK (R366). -/
def execBucketLeak (st : State) : Host.Outcome State Fault Refusal := live st ((List.range 32).foldl State.leak st)

/-- What a granule of the scrubber's walk holds (R370): sector numbers of a swatch of a bolt, a granule of a protection
region of a bolt, or module metadata. -/
inductive ScrubAim where
  | data (bolt swatch granule : Nat)
  | region (bolt byte : Nat)
  | metaRow
  deriving DecidableEq, Repr

/-- The group that uses row `row` of pseudo-channel q. -/
def State.groupAt (s : State) (q row : Nat) : Option Group := s.mem.groups.find? (fun g => g.row == row && s.groupOn g q)

/-- What slot granule sg of row `row` of pseudo-channel q holds for the scrubber, if the walk covers it (R370). -/
def State.scrubAim (s : State) (q row sg : Nat) : Option ScrubAim :=
  if 32512 ≤ row then (if row < 32767 then some .metaRow else none)
  else
    match s.groupAt q row with
    | none => none
    | some g =>
      let pcs := s.groupPcs g.cls g.set
      let k := sg * pcs.length + pcs.idxOf q
      match g.members.getD (k / 256) .free with
      | .swatch sw =>
        if entryState (s.mapOf sw) = 0 then (s.boltAt sw).map (fun b => ScrubAim.data b sw (k % 256)) else none
      | .region b i => some (ScrubAim.region b (65536 * i + 256 * (k % 256)))
      | _ => none

/-- The rows of pseudo-channel q that the walk may cover, rising. -/
def State.scrubRows (s : State) (q : Nat) : List Nat :=
  if s.tornPc q then [] else
  sortBy (fun (r : Nat) => [(r : Int)]) ((s.mem.groups.filter (fun g => s.groupOn g q)).map (·.row)) ++
    (List.range 255).map (32512 + ·)

/-- The first granule at or after slot granule `lo` of row `r0` of pseudo-channel q that the walk covers. -/
def State.scrubFrom (s : State) (q r0 lo : Nat) : Option (Nat × Nat × ScrubAim) :=
  ((s.scrubRows q).filter (r0 ≤ ·)).findSome? (fun r =>
    (List.range 256).findSome? (fun sg =>
      if r = r0 ∧ sg < lo then none else (s.scrubAim q r sg).map (fun a => (r, sg, a))))

/-- The next granule of channel c's walk from its cursor, and whether the cursor wraps to reach it (R370). -/
def State.scrubNext (s : State) (c : Nat) : Option (Nat × Nat × Nat × ScrubAim × Bool) :=
  let cur := s.scrub.cursor.get 0 c
  let tag (pc : Nat) (wrap : Bool) (x : Nat × Nat × ScrubAim) : Nat × Nat × Nat × ScrubAim × Bool := (pc, x.1, x.2.1, x.2.2, wrap)
  let pc := cur / 2 ^ 23
  match (s.scrubFrom (2 * c + pc) (cur / 256 % 2 ^ 15) (cur % 256)).map (tag pc false) with
  | some x => some x
  | none =>
    match if pc = 0 then (s.scrubFrom (2 * c + 1) 0 0).map (tag 1 false) else none with
    | some x => some x
    | none =>
      match (s.scrubFrom (2 * c) 0 0).map (tag 0 true) with
      | some x => some x
      | none => (s.scrubFrom (2 * c + 1) 0 0).map (tag 1 true)

/-- The granules that each channel may take in the next microsecond: SCRUB_RATE / 32, the remainder carried forward (R371). -/
def State.scrubGrant (s : State) : State :=
  if s.tick % 1000 ≠ 0 then s else
  let n := s.scrub.rest + s.rd R.ECC.CFG.SCRUB_RATE
  { s with scrub := { s.scrub with grant := n / 32, rest := n % 32, taken := {} } }

/-- Channel c has not taken what the rate gives it in this microsecond (R371). -/
def State.scrubLeft (s : State) (c : Nat) : Bool := decide (s.scrub.taken.get 0 c < s.scrub.grant)

/-- The scrubber runs (R373). -/
def State.scrubbing (s : State) : Bool := s.running && s.on R.ECC.CFG.SCRUB_EN

/-- The scrubber's slots in flight: the read at each channel whose next granule has found its cycle (R286, R289; DESIGN CHOICE, log
entry 121). -/
def State.scrubFlight (s : State) : Nat :=
  if ¬ s.scrubbing then 0 else
  (List.range 32).countP (fun c => s.scrubLeft c && s.idleFor c 65 && (s.scrubNext c).isSome)

/-- The slots of any master in flight (R286). -/
def State.inFlight (s : State) (m : Nat) : Nat := if m = 65 then s.scrubFlight else s.inflight m

/-- The scrubber met an uncorrectable sector. -/
def State.scrubBad (s : State) : State := s.bump R.ECC.SCRUB_CNT.UNCORR

/-- Sector l of a data granule as the scrubber reads it; true if corrected codewords are to be written (R370, R372). -/
def State.scrubData (s : State) (b n k : Nat) (flips : List (Nat × Byte)) : State × Bool :=
  if flips.isEmpty ∧ ¬ s.mem.written.get false k then (s, false) else
  let read := s.storedWord b n k flips
  match s.outer b n k flips with
  | (s, none) => (s.scrubBad, false)
  | (s, some w) =>
    let word := rsEncode (if s.boltMode b = 1 then 4 else 6) w
    let fixed := word != read
    (if fixed ∧ s.mem.written.get false k then s.storeAt word k else s, fixed)

/-- A codeword of the module's own as the scrubber reads it. -/
def State.scrubBare (s : State) (x : BareLine) (k : Nat) (flips : List (Nat × Byte)) : State × Option Bool :=
  match s.bareRead x k flips with
  | (s, none) => (s.scrubBad, none)
  | (s, some d) => (s, some d.1)

/-- Line l of a metadata granule as the scrubber reads it; where it is uncorrectable and has another copy, that is read, with what
is read of it as lines 4 to 7 of the noise, and it is rewritten from it (R367, R372). True if codewords are written. -/
def State.scrubMeta (s : State) (q row sg l : Nat) (noise : ReadNoise) : State × Bool :=
  let aim := metaAim q row sg
  let x := s.metaLine aim l
  match s.scrubBare x (sectorKey q row sg l) (noiseAt noise l) with
  | (s, some x) => (s, x)
  | (s, none) =>
    let two : Bool := match aim with | .map _ => true | .sys _ => true | _ => false
    if ¬ two ∨ s.twinLost q then (s.loseBare x, false)
    else if s.tornPc (copyTwin q) then (s, true)
    else
      match s.bareRead x (sectorKey (copyTwin q) row sg l) (noiseAt noise (4 + l)) with
      | (s, none) => (s.loseBare x, false)
      | (s, some _) => (s, true)

/-- The bolt whose key an access of the scrubber carries; metadata has none. -/
def ScrubAim.bolt : ScrubAim → Nat
  | .data b _ _ => b
  | .region b _ => b
  | .metaRow => 0

/-- One granule as the scrubber reads it under its rights entry: its four sectors in turn (R372, 13 R338). -/
def State.scrubGranule (s : State) (q row sg : Nat) (aim : ScrubAim) (noise : ReadNoise) : State × Bool :=
  if ¬ s.masterOwns 65 aim.bolt then (s.countMaster, false) else
  (List.range 4).foldl (fun (acc : State × Bool) l =>
    let (s, fixed) := acc
    match aim with
    | .data b sw g =>
      let (s, x) := s.scrubData b (sw * 1024 + g * 4 + l) (sectorKey q row sg l) (noiseAt noise l)
      (s, fixed || x)
    | .region b byte =>
      let x := s.regionLine b (byte + 64 * l)
      match s.scrubBare x (sectorKey q row sg l) (noiseAt noise l) with
      | (s, some w) => (s, fixed || w)
      | (s, none) => (s.loseBare x, fixed)
    | .metaRow =>
      let (s, x) := s.scrubMeta q row sg l noise
      (s, fixed || x)) (s, false)

/-- The first lap starts as the module enters Serve (R373). -/
def State.scrubStart (s : State) : State :=
  match s.scrub.lapStart with
  | some _ => s
  | none => { s with scrub := { s.scrub with lapStart := some s.tick } }

/-- Every channel's cursor has wrapped: the lap ends (R373). A channel with nothing left to walk counts as wrapped. -/
def State.lapEnd (s : State) : State :=
  let open_ := (List.range 32).filter (fun c => !s.scrub.wrapped.contains c && !(s.tornPc (2 * c) && s.tornPc (2 * c + 1)))
  if open_.isEmpty then
    let took := s.tick - s.scrub.lapStart.getD s.tick
    let s : State := { s with scrub := { s.scrub with wrapped := [], lapStart := some s.tick, warned := false } }
    let s := ((s.wr R.ECC.SCRUB_LAP.TICKS took).bump R.ECC.SCRUB_PROG.LAPS).count 204
    if s.rd R.ECC.CFG.LAP_WARN_S * 1000000000 < took then s.raise Src.scrubSlow else s
  else s

/-- The cursor of a channel moves past a granule (R370). -/
def State.scrubMove (s : State) (c pc row sg : Nat) (wrap : Bool) : State :=
  let next := (pc * 2 ^ 23 + row * 256 + sg + 1) % 2 ^ 24
  let w := if wrap ∧ ¬ s.scrub.wrapped.contains c then s.scrub.wrapped ++ [c] else s.scrub.wrapped
  { s with scrub := { s.scrub with
      cursor := s.scrub.cursor.set 0 c next, wrapped := w, taken := s.scrub.taken.set 0 c (s.scrub.taken.get 0 c + 1) } }

/-- The read of the next granule of channel c returns: one DEMOTED slot, in a cycle that no other master uses, its lines counted,
corrected codewords written back at once (R289, R371, R372). -/
def State.scrubRead (s : State) (c : Nat) (noise : ReadNoise) : State :=
  if ¬ (s.scrubLeft c ∧ s.idleFor c 65) then s else
  match s.scrubNext c with
  | none => s
  | some (pc, row, sg, aim, wrap) =>
    let q := 2 * c + pc
    let s := (s.serveNow 65 q row sg true).count 203 4
    let (s, fixed) := s.scrubGranule q row sg aim noise
    let s := if fixed then ((s.busTakes c pc false).burst c (slotAt 65 q row sg false (.work none)).2.ply false).bump R.ECC.SCRUB_CNT.REWRITTEN else s
    (s.scrubMove c pc row sg wrap).lapEnd

/-- SCRUB_READ_DONE (R370-R373). -/
def execScrubReadDone (c : Fin 32) (noise : ReadNoise) (st : State) : Host.Outcome State Fault Refusal :=
  live st (if st.scrubbing then st.scrubRead c noise else st)

/-- SCRUB_LAP_WARN (R373). -/
def execScrubLapWarn (st : State) : Host.Outcome State Fault Refusal :=
  live st (if st.scrub.lapStart.isSome ∧ ¬ st.scrub.warned then
    (({ st with scrub := { st.scrub with warned := true } } : State)).raise Src.scrubSlow else st)

end Sys2Proof.Machine
end

