-- ==== Sys2Proof/Machine/Cal.lean ====
section
/-! DEFINITION. Repair of vertical lanes, and calibration: triggers, sweeps, rotations, ply timing and the load-step
monitor (02 R46-R57, 16 R374-R387). -/

namespace Sys2Proof.Machine

/-- A pseudo-channel switches to its other half where the selvedge lanes that the switch releases make it whole (R56; log entry 126). -/
def State.switchHalf (s : State) (c pc : Nat) : Option State :=
  let h := 1 - s.rd (halfField pc) c
  let out := (s.healthySv c).filter (fun k => match s.svLane c k with | some (p, n) => p == pc && n < 36 | none => false)
  let carried (n : Nat) : Bool := (s.healthySv c).any (fun k => !out.contains k && s.svLane c k == some (pc, n))
  let lanes := (s.need c pc h).filter (fun n => !carried n)
  if lanes.length ≤ out.length then
    let gives := (out.zip (List.range out.length)).map (fun x => (x.1, (lanes[x.2]?).map (fun n => (pc, n))))
    some ((s.setSvs c (gives ++ s.staleSv c (fun p _ => p == pc))).wr (halfField pc) h c)
  else none

/-- A wide channel without a free selvedge lane is to enter narrow mode, at once or in a window, or loses the pseudo-channel
with the larger need (R54, R57). -/
def State.goNarrow (s : State) (now : Bool) (c : Nat) : State :=
  if now then (s.narrowNow c).recompute
  else if s.narrowFits c (s.alivePcs c) then s.oweNarrow c
  else s.tear (2 * c + s.neediest c (s.alivePcs c))

/-- The rotation that uses selvedge lane k, if one runs, is abandoned; its lane is calibrated again later (R380). -/
def State.takeRotation (s : State) (c k : Nat) : State :=
  if (s.on R.CAL.STATUS.ROTATING c ∧ s.rd R.CAL.STATUS.SV c = k) ∨ s.cal.taking.find c = some k then s.stopSweep c else s

/-- Selvedge lane k carries a failed lane from here on, in place of a selvedge lane that has failed (R50, R51, R380). -/
def State.assignSv (s : State) (c k pc n : Nat) : State :=
  let s := s.takeRotation c k
  (s.setSvs c ((k, some (pc, n)) :: s.staleSv c (fun p m => p == pc && m == n))).raise Src.laneRepaired

/-- A lane that has no carrier is repaired: by the lowest free selvedge lane, now or from the next rotation point; a switch of lanes
takes place now or in a window (R50, R54-R56). The refresh of a torn pseudo-channel ends with a CA lane (R58). -/
def State.repairWith (s : State) (now : Bool) (c pc n : Nat) : State :=
  let mine (r : Repair) : Bool := r.channel == c && r.pc == pc && r.lane == n
  let s := if now then s.keepRepairs (fun r => !mine r) else s
  if s.tornPc (2 * c + pc) then (if 36 ≤ n then s.endRefresh (2 * c + pc) else s)
  else if s.cal.repairs.any mine ∨ (s.narrowed c ∧ n < 36 ∧ ¬ inHalf (s.rd (halfField pc) c) n) then s
  else match s.freeSv c with
    | k :: _ =>
      if now then s.assignSv c k pc n
      else { s with cal := { s.cal with repairs := s.cal.repairs ++ [⟨c, k, pc, n⟩] } }
    | [] =>
      if s.narrowed c then
        match s.switchHalf c pc with
        | some t => if now then t else s.oweNarrow c
        | none => s.tear (2 * c + pc)
      else s.goNarrow now c

/-- A lane that has no carrier is repaired (R50, R54-R56). -/
def State.repairLane (s : State) (c pc n : Nat) : State := s.repairWith s.noWindow c pc n

/-- Selvedge lane k is declared failed; the lane it carried, or was to carry, is unrepaired again (R51). Until the boundary at which
another carries it, the assignment stays as it was (R376). -/
def State.failSv (s : State) (c k : Nat) : State :=
  let was := (s.svLane c k).or (s.svNext c k)
  let s := (s.recordFailed c 0 (41 + k)).keepRepairs (fun r => !(r.channel == c && r.sv == k))
  match was with
  | some (pc, n) =>
    let t := s.repairLane c pc n
    if t.cal.repairs.any (fun r => r.channel == c && r.pc == pc && r.lane == n) ∨ (t.narrowOf c).due then t
    else t.setSvs c (t.staleSv c (fun p m => p == pc && m == n))
  | none => s

/-- The narrow-mode switch that is due takes place, for the lanes that have failed by then (R54-R56, 14 R354). -/
def State.settleNarrow (s : State) (c : Nat) : State :=
  if ¬ (s.narrowOf c).due then s
  else
    let s := s.setNarrow c { s.narrowOf c with due := false }
    if s.narrowed c then
      let failed := [0, 1].flatMap (fun pc => ((List.range 41).filter (s.laneFailed c pc)).map (fun n => (pc, n)))
      failed.foldl (fun (s : State) l => if (s.carrier c l.1 l.2).isSome then s else s.repairWith true c l.1 l.2) s
    else s.goNarrow true c

/-- What carries lane n of a pseudo-channel fails R46: the lane, or the selvedge lane that repairs it (R46, R50, R51). -/
def State.failLane (s : State) (c pc n : Nat) : State :=
  if 41 ≤ n then s.failSv c (n - 41)
  else match s.carrier c pc n with
    | some k => s.failSv c k
    | none => if s.laneFailed c pc n then s else (s.recordFailed c pc n).repairLane c pc n

/-- Classes of triggers as bits of CAL.STATUS.PENDING: urgent 0, drift 1, aging 2, steward 3 (R377). -/
def State.calTrigger (s : State) (c cls : Nat) : State := s.wrBit R.CAL.STATUS.PENDING cls true c

/-- An urgent sweep of some lanes of a pseudo-channel (R47, R377). -/
def State.calUrgent (s : State) (c pc : Nat) (lanes : List Nat) : State :=
  let old := s.cal.urgent.get [] c
  let new := (lanes.map (fun n => (⟨2, pc, 0, n⟩ : SweepItem))).filter (fun i => !old.contains i)
  let s : State := { s with cal := { s.cal with urgent := s.cal.urgent.set [] c (old ++ new) } }
  s.calTrigger c 0

/-- A lane carries traffic (R378): not failed or carried by a selvedge lane, and in the half in use. -/
def State.inService (s : State) (c pc n : Nat) : Bool :=
  !s.tornPc (2 * c + pc) && (!s.laneFailed c pc n || (s.carrier c pc n).isSome) &&
    (!s.narrowed c || 36 ≤ n || inHalf (s.rd (halfField pc) c) n)

/-- The sweeps of a full calibration, in order (R378). -/
def State.fullItems (s : State) (c : Nat) : List SweepItem :=
  let both (ns : List Nat) : List SweepItem := [0, 1].flatMap (fun pc => (ns.filter (s.inService c pc)).map (fun n => ⟨2, pc, 0, n⟩))
  (s.freeSv c).map (fun k => ⟨0, 0, 0, 41 + k⟩) ++
    ([0, 1].filter (fun pc => !s.tornPc (2 * c + pc))).flatMap (fun pc => (List.range 4).map (fun ply => ⟨1, pc, ply, 0⟩)) ++
    both ((List.range 5).map (36 + ·)) ++ both (List.range 36)

/-- A sweep that the channel still has a use for (R378). -/
def State.itemLive (s : State) (c : Nat) (i : SweepItem) : Bool :=
  match i.kind with
  | 0 => (s.freeSv c).contains (i.lane - 41)
  | 1 => !s.tornPc (2 * c + i.pc)
  | _ => s.inService c i.pc i.lane

/-- The lowest FILL_CAP of a tier's channels (R384, R401). -/
def State.fillCap (s : State) (tier : Nat) : Nat :=
  (List.range 8).foldl (fun m p => min m (s.rd R.CAL.STATUS.FILL_CAP (8 * tier + p))) 16

/-- Hem grants credit for full activity on every cell of a tier (R384). -/
def State.fillGranted (s : State) (tier : Nat) : Bool := (List.range 8).all (fun p => 16 ≤ s.share (8 * tier + p))

/-- Sweeps may run (R386): the stack is in use, the reference is there and not about to be left, the channel is in no window and the
Thimble runs. -/
def State.maySweep (s : State) (c : Nat) : Bool :=
  s.mode != modeHold && !s.booting && !s.on R.CLK.STATUS.REF_SEL && s.clocks.moving.isNone && !s.on R.CHN.STATUS.IN_WINDOW c && !s.thimble.resetting &&
    !s.inReset c && !s.leaving

/-- The governing temperatures of a tier's plies, in quarter degrees, none before the first round end. -/
def State.tierGov (s : State) (tier : Nat) : List Int :=
  if s.hem.gov.isEmpty then [] else (List.range 4).map (fun k => s.hem.gov.getD (4 * tier + k) 0)

/-- The stamp that channel c's present values give (R377). -/
def State.stampNow (s : State) (c : Nat) : Stamp := ⟨s.tierGov (c / 8), s.hem.gov.getD 16 0, s.hem.ratios.getD c 0, s.tick⟩

/-- The stamp of a timing set is rewritten (R377, R378). -/
def State.setStamp (s : State) (c point : Nat) : State :=
  { s with cal := { s.cal with stamps := s.cal.stamps.put (4 * c + point) (s.stampNow c) } }

/-- The full calibration of a channel has no sweep left: its stamp, its fill cap where every value was learned at sixteen, and its class
is no longer pending (R378, R384). -/
def State.calDone (s : State) (c : Nat) : State :=
  match s.cal.cls.find c with
  | none => s
  | some k =>
    if (s.cal.work.get [] c).any (s.itemLive c) then s else
    let s := s.setStamp c (s.chanPoint c)
    let s := if s.cal.minFill.get 16 c = 16 then s.wr R.CAL.STATUS.FILL_CAP 16 c else s
    let s := s.wrBit R.CAL.STATUS.PENDING k false c
    { s with cal := { s.cal with cls := s.cal.cls.del c, work := s.cal.work.del c, minFill := s.cal.minFill.del c } }

/-- What a channel has no sweep left for is no longer pending, as the last sweep has ended or what was left is out of service (R378). -/
def State.calSettle (s : State) (c : Nat) : State :=
  if (s.cal.now.find c).isSome then s else
  let s := if (s.cal.urgent.get [] c).any (s.itemLive c) then s
    else ({ s with cal := { s.cal with urgent := s.cal.urgent.del c } } : State).wrBit R.CAL.STATUS.PENDING 0 false c
  s.calDone c

/-- The next sweep of a channel, and whether it is urgent; the full calibration of the first pending class starts when
none runs (R378). -/
def State.nextSweep (s : State) (c : Nat) : State × Option (Bool × SweepItem) :=
  match (s.cal.urgent.get [] c).find? (s.itemLive c) with
  | some i => (s, some (true, i))
  | none =>
    let s := if (s.cal.cls.find c).isSome then s else
      match [1, 2, 3].find? (fun k => s.rdBit R.CAL.STATUS.PENDING k c) with
      | some k => { s with cal := { s.cal with cls := s.cal.cls.put c k, work := s.cal.work.put c (s.fullItems c),
                                               minFill := s.cal.minFill.put c 16 } }
      | none => s
    (s, ((s.cal.work.get [] c).find? (s.itemLive c)).map (fun i => (false, i)))

/-- A sweep starts: a lane in service by rotation, through the highest free selvedge lane from the next rotation point on, or in held
intervals (R378, R379, R381). -/
def State.startItem (s : State) (c : Nat) (urgent : Bool) (i : SweepItem) : State :=
  let s := ((s.clearSweep c).wr R.CAL.STATUS.STATE 1 c).wr R.CAL.STATUS.LANE i.lane c
  let s := s.wr R.CAL.STATUS.PC i.pc c
  let taking := match (if i.kind = 2 then (s.freeSv c).getLast? else none) with
    | some k => s.cal.taking.put c k
    | none => s.cal.taking.del c
  { s with cal := { s.cal with now := s.cal.now.put c (urgent, i), taking := taking } }

/-- A channel starts its next sweep: an urgent one at once, another once Hem grants the fill credit or its wait has timed
out (R378, R384). -/
def State.sweepStart (s : State) (c : Nat) : State :=
  if ¬ s.maySweep c ∨ (s.rd R.CAL.STATUS.STATE c ≠ 0 ∧ s.rd R.CAL.STATUS.STATE c ≠ 2) then s else
  match s.nextSweep c with
  | (s, none) => s.calSettle c
  | (s, some (urgent, i)) =>
    if urgent ∨ s.cal.forced.contains c ∨ s.fillGranted (c / 8) then s.startItem c urgent i
    else s.wr R.CAL.STATUS.STATE 2 c

/-- SWEEP_START (R378, R384). -/
def execSweepStart (c : Fin 32) (st : State) : Host.Outcome State Fault Refusal := live st (st.sweepStart c)

/-- CAL_DEFER_TIMEOUT (R384). -/
def execCalDeferTimeout (c : Fin 32) (st : State) : Host.Outcome State Fault Refusal :=
  live st (if st.rd R.CAL.STATUS.STATE c = 2 then
    let s : State := { st with cal := { st.cal with forced := st.cal.forced ++ [c.val] } }
    ((s.bump R.CAL.STAT.DEFERRALS).raise Src.calDeferred).sweepStart c
  else st)

/-- The longest run of set bits of a mask of n codes, the first on a tie: its start and length. -/
def longestRun (n mask : Nat) : Nat × Nat :=
  ((List.range (n + 1)).foldl (fun (acc : (Nat × Nat) × Nat) i =>
    let (best, len) := acc
    if i < n ∧ bit mask i then (if best.2 < len + 1 then ((i - len, len + 1), len + 1) else (best, len + 1))
    else (best, 0)) ((0, 0), 0)).1

/-- The centre of the longest run, the lower on a tie (R379). -/
def runCentre (n mask : Nat) : Nat := let (a, k) := longestRun n mask; a + (k - 1) / 2

/-- A run of codes at a step size of so many fs is at least 0.35 UI at a pin rate in 0.1 Gb/s (R46, R379). -/
def eyeOk (rate stepFs mask : Nat) : Bool := 350000000 ≤ (longestRun 64 mask).2 * stepFs * rate * 100

/-- The runs that a lane carries: by ply, write, and read for all but CA lanes (R45, R379). -/
def laneRuns (n : Nat) : List Nat := (List.range 8).filter (fun r => r % 2 == 0 || n < 36 || 41 ≤ n)

/-- Every run of a lane is wide enough. -/
def State.runsOk (s : State) (c n : Nat) (r : SweepReport) : Bool :=
  (laneRuns n).all (fun k => eyeOk (s.pinRate (s.chanPoint c)) r.stepFs (r.runs.getD k 0))

/-- The key of a lane's codes. -/
def trimKey (point c pc n ply : Nat) : Nat := ((point * 32 + c) * 128 + n + (if n < 41 then 64 * pc else 0)) * 4 + ply

/-- The codes and runs of a lane take effect (R376, R379). -/
def State.commitLane (s : State) (c pc n : Nat) (r : SweepReport) : State :=
  let pt := s.chanPoint c
  let word (ply : Nat) : Nat :=
    let w := r.runs.getD (2 * ply) 0
    let d := if n < 36 ∨ 41 ≤ n then r.runs.getD (2 * ply + 1) 0 else 0
    runCentre 64 w + (if d = 0 then 0 else runCentre 64 d) * 2 ^ 6 + (longestRun 64 w).2 * 2 ^ 12 + (longestRun 64 d).2 * 2 ^ 20
  { s with cal := { s.cal with trims := (List.range 4).foldl (fun m ply => m.put (trimKey pt c pc n ply) (word ply)) s.cal.trims } }

/-- The ladder that a reference uses: 0 A, 1 B, none if neither rises monotonically (R382). -/
def ladderOf (l : Bool × Bool) : Option Nat := if l.1 then some 0 else if l.2 then some 1 else none

/-- A swap of ladders is recorded and raised (R382). -/
def State.ladderSwap (s : State) (c bitIx : Nat) : State :=
  (s.patRecord (96 + c) (setBit (s.pat (96 + c)) bitIx true)).raise Src.calLadderSwapped

/-- The ladders of a ply's two references that it swaps: neither rises on A where B is used (R382). -/
def State.ladderSwaps (s : State) (c pc ply : Nat) (r : SweepReport) : State :=
  [0, 1].foldl (fun (s : State) k =>
    if ladderOf (r.ladders.getD k (false, false)) = some 1 then s.ladderSwap c (pc * 8 + ply * 2 + k) else s) s

/-- The training of a ply has found values: a ladder for each reference, at least four passing taps, and a code of the strobe and of the
phase (R382). -/
def plyOk (r : SweepReport) : Bool :=
  [0, 1].all (fun k => (ladderOf (r.ladders.getD k (false, false))).isSome && decide (4 ≤ (longestRun 32 (r.taps.getD k 0)).2)) &&
    r.strobe % 2 ^ 64 != 0 && r.phase % 2 ^ 64 != 0

/-- A ply's timing takes effect, with its references for every point (R374, R376, R382). -/
def State.commitPly (s : State) (c pc ply : Nat) (r : SweepReport) : State :=
  let v := runCentre 64 r.strobe + runCentre 64 r.phase * 2 ^ 6 + min r.eyeMin 255 * 2 ^ 24
  let ref (k : Nat) : Nat := runCentre 32 (r.taps.getD k 0) + (ladderOf (r.ladders.getD k (false, false))).getD 0 * 2 ^ 5
  let n := 4 * pc + ply
  { s with cal := { s.cal with timing := s.cal.timing.put ((s.chanPoint c * 32 + c) * 8 + n) v,
                               refs := s.cal.refs.put (c * 8 + n) (ref 0 * 2 ^ 12 + ref 1 * 2 ^ 18) } }

/-- A lane has been swept, or a ply's timing trained: the sweep is no longer pending, and where its values are committed its fill level
counts: below sixteen it is the channel's cap (R378, R384). -/
def State.endSweep (s : State) (c : Nat) (fill : Nat) (committed : Bool := true) : State :=
  match s.cal.now.find c with
  | none => s
  | some (urgent, i) =>
    let s := s.clearSweep c
    let us := s.cal.urgent.get [] c
    let counts := committed && (!urgent || (s.cal.cls.find c).isSome)
    let s : State := { s with cal := { s.cal with
      urgent := if urgent then s.cal.urgent.set [] c (us.erase i) else s.cal.urgent,
      work := if urgent then s.cal.work else s.cal.work.put c ((s.cal.work.get [] c).erase i),
      minFill := if counts then s.cal.minFill.put c (min fill (s.cal.minFill.get 16 c)) else s.cal.minFill } }
    let s := if fill < 16 ∧ committed then (s.bump R.CAL.STAT.CAPPED).wr R.CAL.STATUS.FILL_CAP fill c else s
    s.calSettle c

/-- A swept lane fails R46: by rotation its selvedge lane stays the repair, and a repair that had chosen that selvedge lane looks for
another (R52, R379, R380). -/
def State.sweepFail (s : State) (c : Nat) (i : SweepItem) (fill : Nat) : State :=
  let sv := s.rd R.CAL.STATUS.SV c
  if s.on R.CAL.STATUS.ROTATING c then
    let other := s.svNext c sv
    let s := (s.endSweep c fill false).keepRepairs (fun r => !(r.channel == c && r.sv == sv))
    let s := match s.carrier c i.pc i.lane with
      | some k => (s.recordFailed c 0 (41 + k)).setSvs c [(k, none), (sv, some (i.pc, i.lane))]
      | none => (s.recordFailed c i.pc i.lane).setSvs c [(sv, some (i.pc, i.lane))]
    let s := s.raise Src.laneRepaired
    match other with | some (pc, n) => s.repairLane c pc n | none => s
  else (s.endSweep c fill false).failLane c i.pc i.lane

/-- Training of a ply's timing ends: the swaps of ladders, and then its values, or the loss of the pseudo-channel (R376, R382). -/
def State.endPly (s : State) (c pc ply : Nat) (r : SweepReport) : State :=
  let s := s.ladderSwaps c pc ply r
  if plyOk r then (s.commitPly c pc ply r).endSweep c r.fill
  else ((s.endSweep c r.fill false).tear (2 * c + pc)).raise Src.calPlyFail

/-- The sweep that a channel runs can end: a rotation has its selvedge lane, and what needs held intervals has had one (R375, R379, R381,
R382). -/
def State.sweepReady (s : State) (c : Nat) : Bool :=
  (s.cal.taking.find c).isNone && (s.on R.CAL.STATUS.ROTATING c || s.cal.held.get 0 c != 0 ||
    (match s.cal.now.find c with | some (_, i) => i.kind == 0 | none => false))

/-- SWEEP_COMPLETE (R379-R384). -/
def State.sweepComplete (s : State) (c : Nat) (r : SweepReport) : State :=
  match s.cal.now.find c with
  | none => s
  | some (_, i) =>
    if s.rd R.CAL.STATUS.STATE c ≠ 1 ∨ (s.cal.swept.find c).isSome ∨ ¬ s.sweepReady c then s
    else
      let t := s.fillBursts c r.acts
      if i.kind = 1 then t.endPly c i.pc i.ply r
      else if ¬ s.runsOk c i.lane r then t.sweepFail c i r.fill
      else if s.on R.CAL.STATUS.ROTATING c then { t with cal := { t.cal with swept := t.cal.swept.put c r } }
      else (t.commitLane c i.pc i.lane r).endSweep c r.fill

/-- SWEEP_COMPLETE (R379). -/
def execSweepComplete (c : Fin 32) (r : SweepReport) (st : State) : Host.Outcome State Fault Refusal :=
  live st (st.sweepComplete c r)

/-- The repairs that waited for a rotation point of a pseudo-channel take effect (R50, R374). -/
def State.takeRepairs (s : State) (c pc : Nat) : State :=
  let mine (r : Repair) : Bool := r.channel == c && r.pc == pc
  (s.cal.repairs.filter mine).foldl (fun (s : State) r => s.assignSv c r.sv pc r.lane) (s.keepRepairs (fun r => !mine r))

/-- A rotation point of a pseudo-channel: repairs take effect; the selvedge lane of a rotation that waited begins to carry its lane, and
a rotated lane that has been swept resumes with its new codes (R50, R375, R379). -/
def State.rotationPoint (s : State) (c pc : Nat) : State :=
  let s := s.takeRepairs c pc
  match s.cal.now.find c with
  | none => s
  | some (_, i) =>
    if i.pc ≠ pc then s else
    match s.cal.taking.find c, s.cal.swept.find c with
    | some k, _ =>
      let s : State := { s with cal := { s.cal with taking := s.cal.taking.del c } }
      (s.wr R.CAL.STATUS.ROTATING 1 c).wr R.CAL.STATUS.SV k c
    | none, some r => (((s.commitLane c pc i.lane r).countChan c 10).bump R.CAL.STAT.ROTATIONS).endSweep c r.fill
    | none, none => s

/-- LANE_ROTATION_POINT (R375, R376, R379). -/
def execLaneRotationPoint (c : Fin 32) (pc : Fin 2) (st : State) : Host.Outcome State Fault Refusal :=
  live st (st.rotationPoint c pc)

/-- A write of CAL.CMD (R377). -/
def State.writeCalCmd (s : State) (v : Nat) : SetupResult :=
  ((List.range 32).foldl (fun s c => if bit v c then s.calTrigger c 3 else s) s).accept

/-- CAL_CMD (R377). -/
def execCalCmd (v : BitVec 64) (path : Path) (st : State) : Host.Outcome State Fault Refusal :=
  live st (st.setup path 0x21008 (st.writeCalCmd v.toNat))

/-- A channel's present values against the stamp of its current set: drift and aging (R377). A stamp written before the
first round end takes the values of the first. -/
def State.checkStamp (s : State) (c : Nat) : State :=
  let key := 4 * c + s.chanPoint c
  match s.cal.stamps.find key with
  | none => s
  | some st =>
    if st.plies.isEmpty then { s with cal := { s.cal with stamps := s.cal.stamps.put key { s.stampNow c with tick := st.tick } } }
    else if ¬ s.on R.CAL.CFG.AUTO then s
    else
      let now := s.stampNow c
      let far (a b : Int) : Bool := decide (4 * (s.rd R.CAL.CFG.DRIFT_C : Int) < (a - b).natAbs)
      let drift := (List.zipWith far now.plies st.plies).any id || far now.base st.base
      let dr := if now.ratio ≤ st.ratio then st.ratio - now.ratio else now.ratio - st.ratio
      let aged := decide (s.rd R.CAL.CFG.AGE_PPM * 100 * st.ratio < dr * 1000000) ||
        decide (s.rd R.CAL.CFG.MAX_INTERVAL_H * 3600000000000 ≤ s.tick - st.tick)
      let s := if drift then s.calTrigger c 1 else s
      if aged then s.calTrigger c 2 else s

/-- Corrected symbols of a lane in the round (R47). -/
def State.laneSymbols (s : State) (q n : Nat) : Nat := s.cal.symbols.get 0 (q * 64 + n)

/-- The lane error rule of R47 for one pseudo-channel at a round end. -/
def State.laneRule (s : State) (q : Nat) : State :=
  let hot := (List.range 36).filter (fun n => 32 ≤ s.laneSymbols q n)
  match hot with
  | [n] =>
    if s.tornPc q ∨ (List.range 36).any (fun m => m != n && 4 < s.laneSymbols q m) then s
    else s.calUrgent (q / 2) (q % 2) [n]
  | _ => s

/-- Corrected symbols of a channel in the round (R385). -/
def State.chanSymbols (s : State) (c : Nat) : Nat :=
  [2 * c, 2 * c + 1].foldl (fun n q => (List.range 36).foldl (fun n k => n + s.laneSymbols q k) n) 0

/-- One round of the load-step monitor: activity a in percent, corrected symbols e; whether a calibration is due (R385). -/
def Monitor.round (m : Monitor) (limit a e : Nat) : Monitor × Bool :=
  let sum := m.busy.foldl (· + ·) 0
  let step := m.busy.length = 16 ∧ (16 * limit < 16 * a - sum ∨ 16 * limit < sum - 16 * a)
  let before := m.errs.foldl (· + ·) 0
  let next : Monitor := { m with busy := (a :: m.busy).take 16, errs := (e :: m.errs).take 16 }
  if step then
    ({ next with measuring := some (match m.measuring with | some (b, _) => (b, []) | none => (before, [])) }, false)
  else match m.measuring with
    | none => (next, false)
    | some (b, es) =>
      if es.length = 15 then
        ({ next with measuring := none }, decide (4 * b + 128 < es.foldl (· + ·) 0 + e))
      else ({ next with measuring := some (b, e :: es) }, false)

/-- The monitor of channel c at a round end (R385); a round with a window or a held interval is left out. -/
def State.monitor (s : State) (busy : List Nat) (c : Nat) : State :=
  if s.cal.skipRound.contains c ∨ s.on R.CHN.STATUS.IN_WINDOW c then s
  else
    let (m, due) := (s.cal.monitors.get {} c).round (s.rd R.CAL.CFG.LOAD_STEP) (busy.getD (c / 8) 0) (s.chanSymbols c)
    let s : State := { s with cal := { s.cal with monitors := s.cal.monitors.put c m } }
    if due ∧ s.on R.CAL.CFG.AUTO then (s.bump R.CAL.STAT.LOAD_STEPS).calTrigger c 1 else s

/-- A running sweep that is not urgent pauses while its tier holds no credit, and resumes when credit returns (R386). -/
def State.pauseSweep (s : State) (c : Nat) : State :=
  let some_ := (List.range 8).any (fun p => s.hasCredit (8 * (c / 8) + p))
  match s.cal.now.find c with
  | some (false, _) =>
    if s.rd R.CAL.STATUS.STATE c = 1 ∧ ¬ some_ then s.wr R.CAL.STATUS.STATE 3 c
    else if s.rd R.CAL.STATUS.STATE c = 3 ∧ some_ then s.wr R.CAL.STATUS.STATE 1 c
    else s
  | _ => s

/-- Calibration at a round end: lane errors, the monitor, the stamps, and pauses (R47, R377, R385, R386). -/
def State.calRound (s : State) (busy : List Nat) : State :=
  let s := (List.range 64).foldl State.laneRule s
  let s := (List.range 32).foldl (fun s c => s.monitor busy c) s
  let s : State := { s with cal := { s.cal with symbols := {}, skipRound := [] } }
  (List.range 32).foldl (fun s c => ((s.checkStamp c).calSettle c).pauseSweep c) s

end Sys2Proof.Machine
end

