-- ==== Sys2Proof/Machine/Waves.lean ====
section
/-! DEFINITION. Operating-point waves and the windows of narrow mode (02 R55, 14 R354-R356). -/

namespace Sys2Proof.Machine

/-- The point at which a tier stands, or leaves its window (R356). -/
def State.tierPoint (s : State) (t : Nat) : Nat := if s.waves.now = some t then s.waves.nowPoint else s.chanPoint (8 * t)

/-- The tiers that need a wave to a point, in the order of R355: falling rates first, hottest first; then rising rates,
coolest first. -/
def State.planWaves (s : State) (p : Nat) : List Nat :=
  let rate := s.pinRate
  sortBy (fun (t : Nat) =>
    let temp := s.tierTemp t
    if rate p < rate (s.tierPoint t) then [0, -temp, (t : Int)] else [1, temp, (t : Int)])
    ((List.range 4).filter (fun t => s.tierPoint t != p))

/-- A new target: the tier in its window completes it, the rest is planned afresh; a narrow-mode switch whose wave is planned
no more opens a window of its own (R55, R355, R356). -/
def State.requestPoint (s : State) (p : Nat) : State :=
  let order := s.planWaves p
  let s := s.wr R.MOD.STATUS.POINT p
  let s : State := { s with waves := { s.waves with target := p, next := order } }
  (List.range 32).foldl (fun s c => if (s.narrowOf c).due ∧ ¬ s.noWindow then s.oweNarrow c else s) s

/-- No wave is due or in its window. -/
def State.wavesIdle (s : State) : Bool := s.waves.next.isEmpty && s.waves.now.isNone

/-- The channels of a tier. -/
def tierChannels (t : Nat) : List Nat := (List.range 8).map (8 * t + ·)

/-- A wave starts for its tier, once no narrow-mode window of a channel of the tier is open (R354, R355). -/
def State.waveStart (s : State) : State :=
  match s.waves.now, s.waves.next with
  | none, t :: rest =>
    if (tierChannels t).any (fun c => (s.narrowOf c).window) then s else
    let s := (tierChannels t).foldl State.openWindow s
    { s with waves := { s.waves with now := some t, next := rest, nowPoint := s.waves.target } }
  | _, _ => s

/-- WAVE_START (R354, R355). -/
def execWaveStart (st : State) : Host.Outcome State Fault Refusal := live st st.waveStart

/-- A channel runs at a point, with the narrow-mode switch that is due: steps 3 and 4 of R354. -/
def State.swapSet (s : State) (p c : Nat) : State := (s.settleNarrow c).wr R.CHN.STATUS.POINT p c

/-- A channel leaves its window: REF to every ply, and admission again (R351, R354). -/
def State.closeWindow (s : State) (c : Nat) : State :=
  let s := (s.refreshAll c).wr R.CHN.STATUS.IN_WINDOW 0 c
  { s with reg := { s.reg with excluded := true }, cal := { s.cal with skipRound := c :: s.cal.skipRound } }

/-- The wave of a tier ends (R354, R377). -/
def State.waveEnd (s : State) : State :=
  match s.waves.now with
  | none => s
  | some t =>
    let p := s.waves.nowPoint
    let s := (tierChannels t).foldl (fun s c => (s.swapSet p c).closeWindow c) s
    let s : State := { s with waves := { s.waves with now := none } }
    (tierChannels t).foldl State.checkStamp s.recompute

/-- WAVE_END (R354). -/
def execWaveEnd (st : State) : Host.Outcome State Fault Refusal := live st st.waveEnd

/-- The channel's own narrow-mode window ends: it runs on its new lanes, and its drift is checked (R55, R377, R386). -/
def State.narrowEnd (s : State) (c : Nat) : State :=
  let s := (s.settleNarrow c).closeWindow c
  ((s.setNarrow c { s.narrowOf c with window := false }).recompute).checkStamp c

/-- NARROW_WINDOW_END (R55). -/
def execNarrowWindowEnd (c : Fin 32) (st : State) : Host.Outcome State Fault Refusal :=
  live st (if (st.narrowOf c).window then st.narrowEnd c else st)

/-- Thermal hold: the tier in its window completes steps 3 and 4 and stays in self-refresh; the rest is cancelled (R356). -/
def State.cancelWaves (s : State) : State :=
  let p := s.waves.nowPoint
  let s := match s.waves.now with
    | some t => (tierChannels t).foldl (fun (s : State) c => s.swapSet p c) s
    | none => s
  let s := (List.range 32).foldl (fun (s : State) c =>
    let s := s.settleNarrow c
    (s.wr R.CHN.STATUS.IN_WINDOW 0 c).setNarrow c { s.narrowOf c with window := false, due := false }) s
  { s with waves := { s.waves with now := none, next := [] } }

end Sys2Proof.Machine
end

