-- ==== Sys2Proof/Machine/Modes.lean ====
section
/-! DEFINITION. Mode requests and transitions, the end of client service, and thermal hold (01 R26, R27, 05 R121, 09 R259,
10 R280, 17 R397-R399, R410, 20 R461-R463). -/

namespace Sys2Proof.Machine

/-- A change to another point is a change for some tier. -/
def State.offPoint (s : State) (p : Nat) : Bool := (List.range 4).any (fun t => s.tierPoint t != p)

/-- Some governing temperature lies above the throttle clear level of 93 degrees (R26). -/
def State.tooHot (s : State) : Bool := s.hem.gov.any (fun g => decide (372 < g))

/-- The transitions that a request may ask for (R461). -/
def reqAllowed (mode target : Nat) : Bool :=
  if mode = modeServe ∨ mode = modeEase then true
  else if mode = modeHold then target == 1 || target == 4
  else if mode = modeMaint then target == 1
  else false

/-- The request names the mode and point in use (R461). -/
def State.sameMode (s : State) (t p : Nat) : Bool :=
  match t with
  | 1 => s.mode == modeServe && s.rd R.MOD.STATUS.POINT == 0
  | 2 => s.mode == modeEase && p == s.rd R.MOD.STATUS.POINT
  | 3 => s.mode == modeHold
  | _ => s.mode == modeMaint

/-- The status of a transition outside thermal hold, as the threshold states of the last round end give it (R462). On the backup
oscillator the module stays in Hold, and no other point is taken (R79). -/
def State.changeStatus (s : State) (t p : Nat) : Nat :=
  let pt := if t = 1 then 0 else p
  if ¬ reqAllowed s.mode t then stDenied
  else if t = 1 ∧ s.tooHot then stDenied
  else if t ≤ 2 ∧ s.on R.THM.STATE.THROTTLE ∧ (t = 1 ∨ s.pinRate (s.rd R.MOD.STATUS.POINT) < s.pinRate pt) then stDenied
  else if s.on R.CLK.STATUS.REF_SEL ∧ (s.mode = modeHold ∨ (t ≤ 2 ∧ s.offPoint pt)) then stDenied
  else if 3 ≤ t ∧ (s.rd R.TCK.STATUS.PAIR = 1 ∨ s.rd R.TCK.STATUS.PAIR = 2) then stDenied
  else if s.mode = modeMaint ∧ s.on R.MOD.STATUS.SCAN then stDenied
  else stOk

/-- Thermal hold was entered from a mode that it is left for at P3 (R399). -/
def State.leavesAtP3 (s : State) : Bool := s.boot.holdFrom != modeBoot && s.boot.holdFrom != modeHold

/-- The status of a write of MOD.REQ (R462). Thermal hold is left on the backup oscillator only where no tier changes its point
(R79). -/
def State.reqStatus (s : State) (v : Nat) : Nat :=
  let t := part v R.MOD.REQ.TARGET
  let p := part v R.MOD.REQ.POINT
  if t = 0 ∨ 6 ≤ t ∨ (t = 2 ∧ p = 0) ∨ (t = 5 ∧ part v R.MOD.REQ.CONFIRM ≠ 0xA5) then stMalformed
  else if t = 5 then stOk
  else if s.booting ∨ s.on R.MOD.STATUS.BUSY then stDenied
  else if s.thermalHold then (if s.on R.THM.STATE.SHUTDOWN ∨ (s.on R.CLK.STATUS.REF_SEL ∧ s.leavesAtP3 ∧ s.offPoint 3) then stDenied else stOk)
  else if s.sameMode t p then stOk
  else s.changeStatus t p

/-- A transition is accepted: BUSY until the target mode is entered (R463). -/
def State.setTarget (s : State) (t p : Nat) : State :=
  ({ s with boot := { s.boot with target := t, targetPoint := p } } : State).wr R.MOD.STATUS.BUSY 1

/-- The stack leaves self-refresh (R351). -/
def State.wakeStack (s : State) : State := (List.range 32).foldl State.refreshAll s

/-- Boot training at one point: every channel's set is calibrated and stamped (R387). -/
def State.trainPoint (s : State) (p : Nat) : State :=
  (List.range 32).foldl (fun s c => (s.setStamp c p).wr R.CAL.STATUS.FILL_CAP 16 c) s

/-- Modes as the codes that a transition goes to. -/
def modeCode (m : Nat) : Nat :=
  if m = modeServe then 1 else if m = modeEase then 2 else if m = modeHold then 3 else if m = modeMaint then 4 else 5

/-- The QPs that are not in RESET. -/
def State.liveQps (s : State) : List Nat :=
  (s.stored R.XPT.QP_STATE.STATE).filter (fun q => s.rd R.XPT.QP_STATE.STATE q != 0)

/-- Every QP not in RESET is in ERROR for a change of mode (R116, R121). -/
def State.qpsEnd (s : State) : State :=
  s.liveQps.foldl (fun s q => if s.rd R.XPT.QP_STATE.STATE q = 4 then s.dropHeld q else s.qpError q 0xFE 0) s

/-- An accepted request leaves thermal hold; QPs set up in it are in ERROR on exit (R398, R399, R454, R356). -/
def State.leaveThermal (s : State) : State :=
  let s := (s.wr R.THM.STATE.THERMTRIP 0).wrBit R.FLT.PIN_HOLD0.HOLD Src.thmShutdown false
  let s := s.aliveFollow.qpsEnd
  if s.boot.holdFrom = modeBoot then s.reboot
  else if s.boot.holdFrom = modeHold then s.setTarget 3 0
  else
    let dest := if s.boot.holdFrom = modeServe ∨ s.boot.holdFrom = modeEase then 2 else modeCode s.boot.holdFrom
    (s.setTarget dest 3).wakeStack.requestPoint 3

/-- An accepted transition starts (R461, R463). -/
def State.startChange (s : State) (t p : Nat) : State :=
  let pt := if t = 1 then 0 else p
  let s' := s.setTarget t pt
  if 3 ≤ t then
    if s.serving then { s' with boot := { s'.boot with draining := true } }
    else if s.mode = modeHold then s'.wakeStack else s'
  else if s.serving then s'.requestPoint pt
  else if s.mode = modeMaint then (s'.trainPoint 0).requestPoint 0
  else s'.wakeStack.requestPoint 0

/-- A request whose status is OK takes effect; not a reset (R399, R461). -/
def State.startRequest (s : State) (v : Nat) : State :=
  let t := part v R.MOD.REQ.TARGET
  let p := part v R.MOD.REQ.POINT
  if s.thermalHold then s.leaveThermal
  else if s.sameMode t p then s
  else s.startChange t p

/-- A requested reset: Boot ends as END_MAINT says (R461). -/
def State.requestReset (s : State) (maint : Bool) : State :=
  let r := s.reboot
  { r with boot := { r.boot with endMaint := some maint } }

/-- A housekeeping round is in progress: from its start, a multiple of 1 000 000 ticks, for 500 000 ticks (R462). -/
def State.inRound (s : State) : Bool := decide (s.tick % 1000000 < 500000)

/-- A request judged and carried out (R462). A request over the window is answered before its QPs enter ERROR. -/
def State.judgeReq (s : State) (path : Path) (v : Nat) : State :=
  let st := s.reqStatus v
  let t := s.setup path 0x1008 (s, st)
  if ¬ s.pathOk path ∨ st ≠ 0 then t
  else if part v R.MOD.REQ.TARGET = 5 then t.requestReset (part v R.MOD.REQ.END_MAINT == 1)
  else t.startRequest v

/-- A write of MOD.REQ: a request that a round end decides waits for the end of a round in progress (R462). -/
def State.modReq (s : State) (path : Path) (v : Nat) : State :=
  let t := part v R.MOD.REQ.TARGET
  if s.inRound ∧ ¬ s.booting ∧ 1 ≤ t ∧ t ≤ 4 ∧ s.pathOk path then
    { s with boot := { s.boot with held := s.boot.held ++ [(v, some path)] } }
  else s.judgeReq path v

/-- The value of MOD.REQ that asks for Serve. -/
def reqServe : Nat := 1

/-- A wake frame's request for Serve, refused under the same rules and answered to nobody (R462, R105). -/
def State.wakeReq (s : State) : State := if s.reqStatus reqServe = 0 then s.startRequest reqServe else s

/-- Requests held for a round end are judged there, in order (R462). -/
def State.judgeHeld (s : State) : State :=
  let hs := s.boot.held
  let s : State := { s with boot := { s.boot with held := [] } }
  hs.foldl (fun s h => match h.2 with | some p => s.asAdmitted p (fun s => s.judgeReq p h.1) | none => s.wakeReq) s

/-- MODE_REQ_SERVE (R461, R462). -/
def execModeReqServe (v : BitVec 64) (path : Path) (st : State) : Host.Outcome State Fault Refusal :=
  live st (st.modReq path v.toNat)

/-- MODE_REQ_EASE (R461, R462). -/
def execModeReqEase (v : BitVec 64) (path : Path) (st : State) : Host.Outcome State Fault Refusal :=
  live st (st.modReq path v.toNat)

/-- MODE_REQ_HOLD (R461, R462). -/
def execModeReqHold (v : BitVec 64) (path : Path) (st : State) : Host.Outcome State Fault Refusal :=
  live st (st.modReq path v.toNat)

/-- MODE_REQ_MAINTENANCE (R461, R462). -/
def execModeReqMaintenance (v : BitVec 64) (path : Path) (st : State) : Host.Outcome State Fault Refusal :=
  live st (st.modReq path v.toNat)

/-- MODE_REQ_RESET (R461, R462). -/
def execModeReqReset (v : BitVec 64) (path : Path) (st : State) : Host.Outcome State Fault Refusal :=
  live st (st.modReq path v.toNat)

/-- The rings that are not DISABLED. -/
def State.openRings (s : State) : List Nat :=
  (s.stored R.SHU.RING_CTRL.STATE).filter (fun r => s.rd R.SHU.RING_CTRL.STATE r != ringDisabled)

/-- A ring's descriptors and indices are gone (R186; log entry 129). -/
def State.clearRing (s : State) (r : Nat) : State :=
  let s := (s.dropDescs r (fun _ => true)).setRing r { serial := (s.ring r).serial, fetchNo := (s.ring r).fetchNo }
  let s := ((s.wr R.SHU.RING_STATUS.HEAD 0 r).wr R.SHU.RING_STATUS.TAIL 0 r).wr R.SHU.RING_STATUS.CQ_POSTED 0 r
  (s.wr R.SHU.RING_STATUS.CQ_PHASE 1 r).wr R.SHU.RING_STATUS.CQ_FULL 0 r

/-- A ring becomes DISABLED as if reset (R186, R187). -/
def State.disableRing (s : State) (r : Nat) : State := (s.wr R.SHU.RING_CTRL.STATE ringDisabled r).clearRing r

/-- Moves end without a flip, and planning's heat table is cleared (R251, R259). -/
def State.endPlanning (s : State) : State :=
  let s := (s.mem.moves.filter (fun m => !m.flipped)).foldl (fun s m => s.cancelMove m.swatch) s
  { s with mem := { s.mem with heat := [] } }

/-- Every bank is precharged and in self-refresh. -/
def State.sleepStack (s : State) : State := { s with chans := s.chans.mapVals (fun _ x => { x with openRow := {} }) }

/-- Every accepted operation has completed or failed, and its completions are posted (R27). -/
def State.workDone (s : State) : Bool :=
  s.qps.entries.all (fun q => q.2.msg.isNone && q.2.held.isEmpty && q.2.waiting.isEmpty && q.2.sent.isEmpty) &&
    s.rings.entries.all (fun r => r.2.descs.isEmpty && r.2.ended.isEmpty)

/-- The Lining has to be clean before the target mode is entered: before Hold and Maintenance, and on the way out of Maintenance, from
where it returns invalid (R27, R280). -/
def State.mustClean (s : State) : Bool :=
  !s.thermalHold && s.mode != modeHold && (s.boot.target == 3 || s.boot.target == 4 || (s.mode == modeMaint && s.boot.target != 0))

/-- On the way to a mode that needs a clean Lining, once work has drained, whatever is DIRTY is written back for master 69, what a debug
access or the dumper has written since too (R27, R269). -/
def State.restClean (s : State) : State :=
  if s.mustClean ∧ ¬ s.boot.draining then s.startAll 69 (fun _ => true) else s

/-- Moves and sweeps end, dirty tree nodes are written back and the Lining is invalid: Hold or Maintenance is entered, or Maintenance is
left (R259, R280, R386, R410). -/
def State.restStack (s : State) : State :=
  let s := ((s.endPlanning.abandonSweeps).writeNodes).dropLines (fun _ => true)
  { s with mem := { s.mem with mapCache := [] } }

/-- Client service ends: the write-back of every dirty line has started, rings are DISABLED and QPs in ERROR, and moves end, but for
Shadow, where the Lining and the moves go on (R27, R121, R187, R259, R280). -/
def State.endService (s : State) : State :=
  let s := (s.openRings.foldl State.disableRing s).qpsEnd
  let s := if s.boot.target = 5 then s else s.endPlanning.abandonSweeps
  ({ s with boot := { s.boot with draining := false } } : State).restClean

/-- Both port links and the pair link go down. -/
def State.squelch (s : State) : State := ((s.portLinkDown 0).portLinkDown 1).tackLinkDown

/-- A module that enters Shadow is a secondary, SYNCING unless a handover left it PAIRED (18 R412, R422, R442). -/
def State.shadowPair (s : State) (m : Nat) : State :=
  if m = modeShadow ∧ s.rd R.TCK.STATUS.ROLE = 2 ∧ s.rd R.TCK.STATUS.PAIR ≠ 2 then s.wr R.TCK.STATUS.PAIR 1 else s

/-- The module is in a mode; the islands follow it, the first entry to Serve forms S32 generation 0, and the regulation window in
which a mode with service is entered or left is not counted (R81, R227, R295, R463). -/
def State.inMode (s : State) (m : Nat) : State :=
  let s := if s.running then s else s.exclude
  let s := ((s.wr R.MOD.STATUS.MODE m).wr R.MOD.STATUS.BUSY 0).wr R.MOD.STATUS.THERMAL_HOLD 0
  let s : State := { s with boot := { s.boot with target := 0, targetPoint := 0, draining := false } }
  let s := if s.running then s.scrubStart else s.exclude
  let s := if m = modeServe ∧ (List.range 8).all (fun e => !s.on R.PLC.S32_GEN.VALID e) then s.formGeneration else s
  (s.shadowPair m).islands

/-- The mode that a target code names. -/
def targetMode (t : Nat) : Nat :=
  match t with | 1 => modeServe | 2 => modeEase | 3 => modeHold | 4 => modeMaint | _ => modeShadow

/-- No slot waits or is in flight. -/
def State.slotsIdle (s : State) : Bool := s.lng.bufWait.isEmpty && s.chans.entries.all (fun c => c.2.slots.isEmpty)

/-- From Hold a mode that admits requests is entered only with every island's PLL judged locked (R73, R410). -/
def State.islandsReady (s : State) : Bool := s.mode != modeHold || s.boot.target == 3 || s.rd R.CLK.STATUS.PLL_LOCK == 255

/-- The target mode can be entered: work has drained and waves have ended, and before Hold or Maintenance every write-back has been
accepted; on leaving thermal hold the waves run on (R27, R355, R399, R463). -/
def State.targetReady (s : State) : Bool :=
  s.boot.target != 0 && !s.boot.draining && s.islandsReady &&
    (s.thermalHold || (s.wavesIdle && (!s.mustClean || (s.liningClean && s.lng.debugs.isEmpty && s.slotsIdle))))

/-- How a power domain stands: retained is without clock, its state held; off loses its working state (R409). -/
inductive Power
  | on | retained | off
  deriving DecidableEq, Repr

/-- The separately switched domains of the base die: channel islands, Lining slices, crypto pipelines, SerDes lanes, MACs, the Tack
PCS, needles, transport, Shuttle, protection, placement, Bobbin pool, counter cache, Weave, Thimble and always-on (R409). -/
inductive Domain
  | chi (i : Nat) | lns (i : Nat) | cry (i : Nat) | sdl (i : Nat) | mac (i : Nat) | tpcs | ndl (i : Nat)
  | xpt | shu | prt | plc | bob | ctr | wvc | thb | aon
  deriving DecidableEq, Repr

/-- A domain in Hold, where the wake port's lanes and filter stay on, or in thermal hold (R409). -/
def Domain.asleep (thermal : Bool) (wake : Nat) : Domain → Power
  | .thb | .aon => .on
  | .chi _ | .ctr | .prt => .retained
  | .lns _ | .bob => if thermal then .retained else .off
  | .sdl i => if ¬ thermal ∧ i < 8 ∧ i / 4 = wake then .on else .off
  | .mac i => if ¬ thermal ∧ i = wake then .on else .off
  | _ => .off

/-- A power domain in the mode in use: all are on but in Hold and thermal hold (R409). -/
def State.power (s : State) (d : Domain) : Power :=
  if s.mode = modeHold then d.asleep s.thermalHold (s.rd R.CLK.CTRL.WAKE_PORT) else .on

/-- The working state of the lanes, ports, placement, needles and the Bobbin pool starts from reset where Hold or thermal hold
switches their domains off (R409, R410). -/
def State.portsOff (s : State) (thermal : Bool) : State :=
  let off (d : Domain) : Bool := d.asleep thermal (s.rd R.CLK.CTRL.WAKE_PORT) == .off
  let s := ((List.range 16).filter (fun l => off (.sdl l))).foldl
    (fun (s : State) l => (s.lanesReset l 1).wr R.SDS.PRBS_ERR.LOCKED 0 l) s
  let s : State := if off .plc then { s with mem := { s.mem with mapCache := [], lookups := 0 } } else s
  let s : State := if off (.ndl 0) then { s with turn := {} } else s
  [0, 1].foldl (fun (s : State) p =>
    let x := { s.port p with paused := {} }
    let s := (s.setPort p (if off .bob then { x with rx := [], held := {} } else x)).wr R.ETH.STATUS.PFC_RX_PAUSED 0 p
    if off .bob then s.wr R.ETH.STATUS.RX_BUFFERS 0 p else s) s

/-- The target mode is entered (R461, R463): Hold or Maintenance with every QP in ERROR, no move and no sweep (R121, R251, R259,
R386). The Lining returns invalid from both (R280). -/
def State.enterTarget (s : State) : State :=
  let t := s.boot.target
  let clean := s.mustClean
  let s := if t = 3 ∨ t = 4 then s.squelch.endPlanning.qpsEnd else s
  let s := if clean then s.restStack else s
  let s := if t = 3 then s.sleepStack.portsOff false else s
  s.inMode (targetMode t)

/-- MODE_ENTERED (R463). -/
def execModeEntered (st : State) : Host.Outcome State Fault Refusal :=
  live st (if st.targetReady then st.enterTarget else st)

/-- A handover waits until every frame is committed (18 R442). -/
def State.framesDone (s : State) : Bool := !s.tack.handover || (s.tack.unacked.isEmpty && s.tack.openRecs.isEmpty)

/-- The former primary sends the new epoch and is the secondary; the keys of the link follow the roles (18 R421, R442). -/
def State.handOver (s : State) : State :=
  let e := (s.rd R.TCK.STATUS.EPOCH + 1) % 2 ^ 32
  let s := (s.sendStitch (.handover e)).wr R.TCK.STATUS.EPOCH e
  let s := match s.tack.peer with | some i => s.linkKeys i.nonce.toNat 2 | none => s
  ({ s with tack := { s.tack with handover := false, claiming := false, claims := 0 } } : State).wr R.TCK.STATUS.ROLE 2

/-- SERVICE_DRAINED (R27): for Shadow the mode is entered at once, as nothing else stands between. -/
def execServiceDrained (st : State) : Host.Outcome State Fault Refusal :=
  live st (if st.boot.draining ∧ st.workDone ∧ st.framesDone then
    let s := st.endService
    let s := if s.tack.handover then s.handOver else s
    if s.boot.target = 5 then s.enterTarget else s
  else st)

/-- Slots and fills that thermal hold stops: they end without an answer (R397, R398). -/
def State.stopSlots (s : State) : State :=
  { s with chans := s.chans.mapVals (fun _ x => { x with waiting := [], admitted := [], openRow := {} }),
           lng := { s.lng with fills := [], bufWait := [], cmdErr := [], bufErr := [] } }

/-- Descriptors stop where they are, each line wholly old or wholly new (R398). -/
def State.stopRings (s : State) : State :=
  s.openRings.foldl (fun s r =>
    let s := (s.wr R.SHU.RING_CTRL.STATE ringDetached r).wr R.SHU.RING_STATUS.LAST_STATUS 0x40 r
    (((s.wr R.SHU.RING_STATUS.CQ_FULL 0 r).dropDescs r (fun _ => true)).setRing r
      { serial := (s.ring r).serial, fetchNo := (s.ring r).fetchNo }).count 72) s

/-- Shutdown: thermal hold from any mode, waiting for nothing (R397, R398). Requests held for the round end are judged there
(R26, R462). -/
def State.enterThermal (s : State) : State :=
  let from_ := if s.thermalHold then s.boot.holdFrom else s.mode
  let s := ((s.cancelWaves).abandonSweeps).endPlanning
  let s := s.stopSlots
  let s := (s.squelch.portsOff true).wr R.THM.STATE.THERMTRIP 1
  let s := (s.stopRings).qpsEnd
  let s := s.inMode modeHold
  let s : State := { s with boot := { s.boot with holdFrom := from_ } }
  let s := (s.wr R.MOD.STATUS.THERMAL_HOLD 1).islands
  (s.bump R.THM.EVENTS.SHUTDOWNS).raise Src.thmShutdown

end Sys2Proof.Machine
end

