-- ==== Sys2Proof/Machine/Placement.lean ====
section
/-! DEFINITION. The placement epoch, moves and restitch (09 R238-R259, 13 R337). -/

namespace Sys2Proof.Machine

/-- Move records (R232). -/
def moveRecords : Nat := 512

/-- The share of master 64 for an epoch, in bytes (R243, 11 R291). -/
def State.moveShare (s : State) : Nat := s.rd R.QOS.MASTER_STAT.EFF_GUAR 64 * s.rd R.PLC.CFG.EPOCH_US / 100 * 256

/-- The moves that an epoch may start (R243). -/
def State.moveBudget (s : State) : Nat :=
  min (s.rd R.PLC.CFG.MAX_MOVES) (min (moveRecords - s.mem.moves.length) (s.moveShare / 131072))

/-- The heat-table entry of a swatch. -/
def State.heatOf (s : State) (sw : Nat) : Option Heat := s.mem.heat.find? (fun h => h.swatch == sw)

/-- Hot (R239). -/
def State.hot (s : State) (sw : Nat) : Bool :=
  match s.heatOf sw with | some h => decide (s.rd R.PLC.THRESH.HOT ≤ h.heat) | none => false

/-- Sequential. -/
def State.sequential (s : State) (sw : Nat) : Bool :=
  match s.heatOf sw with | some h => decide (s.rd R.PLC.THRESH.SEQ_FRAC * h.heat ≤ h.ascending * 16) | none => false

/-- Write-heavy. -/
def State.writeHeavy (s : State) (sw : Nat) : Bool :=
  match s.heatOf sw with | some h => decide (s.rd R.PLC.THRESH.WRITE_FRAC * h.heat ≤ h.writes * 16) | none => false

/-- Cold. -/
def State.coldSwatch (s : State) (sw : Nat) : Bool :=
  decide (s.rd R.PLC.THRESH.COLD_AGE ≤ bits (s.dwell sw) 0 4) && !s.hot sw

/-- The class that planning aims at and whether sets of the hottest tier are left out; none where no rule plans a move
(R240, R241, R254). -/
def State.aim (s : State) (b sw : Nat) (evac : Bool) : Option (Nat × Bool) :=
  let h := s.effHint b sw
  if h ≠ 0 then some (s.hintClass h, false)
  else if s.hot sw ∧ s.writeHeavy sw then some (2, true)
  else if s.hot sw ∧ s.sequential sw then some (if s.mem.s32Due then 2 else 3, false)
  else if s.hot sw then some (2, false)
  else if s.coldSwatch sw then some (0, false)
  else if evac then some (2, false)
  else none

/-- The hottest tier, the lowest on a tie. -/
def State.hottestTier (s : State) : Nat :=
  ((sortBy (fun (t : Nat) => [-(s.tierTemp t), (t : Int)]) (List.range 4)).headD 0)

/-- A set uses channels of a tier. -/
def State.setUsesTier (s : State) (cls set t : Nat) : Bool := (s.groupPcs cls set).any (fun q => q / 16 == t)

/-- The sets of a class that planning may choose, best first (R242): every cell holds credit. -/
def State.planSets (s : State) (cls pin : Nat) (cool : Bool) : List Nat :=
  (s.setOrder cls pin).filter (fun k => s.setCredit cls k && !(cool && s.setUsesTier cls k s.hottestTier))

/-- A swatch may stay where it is: in the class aimed at, in the set that S32 and PIN name, and with credit on every cell
of its set, or with no other set to go to (R242). -/
def State.wellPlaced (s : State) (b cls have_ set : Nat) (choice : Option Nat) : Bool :=
  have_ == cls &&
  match cls with
  | 3 => s.on R.PLC.S32_GEN.CURRENT set || choice.isNone
  | 4 => set == s.pinOf b
  | _ => s.setCredit cls set || choice.isNone

/-- The class and set that a candidate moves to, if it moves (R240-R242). -/
def State.moveTarget (s : State) (b sw : Nat) (evac : Bool) : Option (Nat × Nat) :=
  let e := s.mapOf sw
  let set := (frameParts (entryClass e) (entryFrame e)).1
  match s.aim b sw evac with
  | none => none
  | some (cls, cool) =>
    let choice := (s.planSets cls (s.pinOf b) cool).head?
    if s.wellPlaced b cls (entryClass e) set choice then none
    else match choice with
      | some k => if entryClass e = cls ∧ set = k then none else some (cls, k)
      | none => none

/-- The flip of a move returns a whole slot: nothing else stands in the old frame's group (R258). -/
def State.freesSlot (s : State) (sw : Nat) : Bool :=
  let e := s.mapOf sw
  let k := frameGroup (entryClass e) (entryFrame e)
  match s.mem.groups.find? (fun g => g.is k) with
  | some g => g.members.countP (· != .free) == 1
  | none => false

/-- A move starts: its target reserved, its record written, STATE 1 (R248). -/
def State.startMove (s : State) (sw cls set : Nat) : Option State :=
  let e := s.mapOf sw
  match s.takeFrame cls set (.target sw) with
  | none => none
  | some (t, f) =>
    let m : Move := { swatch := sw, oldCls := entryClass e, oldFrame := entryFrame e, newCls := cls, newFrame := f }
    let t := (t.setMoves (t.mem.moves ++ [m])).setMap sw (mapEntry (entryClass e) 1 (entryFrame e))
    some (((t.bump R.PLC.MOVES.STARTED).count 161).seamCheck)

/-- A candidate for a move, and whether it is an evacuation. -/
structure Candidate where
  swatch : Nat
  evac : Bool

/-- A swatch stands in a group that includes a channel without credit for 16 epochs (R254). -/
def State.starvedGroup (s : State) (e : Nat) : Bool :=
  (s.groupPcs (entryClass e) (frameParts (entryClass e) (entryFrame e)).1).any (fun q => 16 ≤ s.mem.idleEpochs.get 0 (q / 2))

/-- The evacuation candidates, by swatch (R254). -/
def State.evacuees (s : State) : List Nat :=
  (s.mem.map.entries.filter (fun m =>
    let e := m.2
    entryState e == 0 && ((entryClass e == 3 && !s.on R.PLC.S32_GEN.CURRENT (frameParts 3 (entryFrame e)).1) ||
      s.starvedGroup e))).map (·.1)

/-- The URGENT swatches, by number (R243). -/
def State.urgentSwatches (s : State) : List Nat :=
  s.mem.dwell.keys.filter (fun sw => (s.boltAt sw).isSome && bit (s.dwell sw) 8)

/-- The cold swatches that the last sweep visited, by falling IDLE_AGE (R239, R243). -/
def State.sweptCold (s : State) : List Nat :=
  if s.mem.epochs = 0 then [] else
  let ks := (s.mem.map.entries.filter (fun m => entryState m.2 == 0 && m.1 % 16 == (s.mem.epochs - 1) % 16 && s.coldSwatch m.1)).map (·.1)
  sortBy (fun (sw : Nat) => [-((bits (s.dwell sw) 0 4 : Nat) : Int), (sw : Int)]) ks

/-- The candidates of an epoch in order, each once; only evacuations while planning is disabled (R243, R245). -/
def State.candidates (s : State) : List Candidate :=
  let ev := s.evacuees
  let hot := (sortBy (fun (h : Heat) => [-(h.heat : Int), (h.swatch : Int)]) s.mem.heat).map (·.swatch)
  let all := if s.on R.PLC.CFG.EN then s.urgentSwatches ++ ev ++ hot ++ s.sweptCold else ev
  all.eraseDups.map (fun sw => ⟨sw, ev.contains sw⟩)

/-- A candidate is considered: it moves where R240 to R242 send it; URGENT is cleared (R243, R244, R258). The budgets are
what is left of the epoch's, and of its half for evacuations. -/
def State.consider (acc : State × Nat × Nat) (c : Candidate) : State × Nat × Nat :=
  let (s, left, evs) := acc
  if left = 0 then acc else
  let sw := c.swatch
  let ready := entryState (s.mapOf sw) = 0 ∧ (c.evac ∨ bits (s.dwell sw) 9 4 = 0) ∧ (¬ c.evac ∨ evs ≠ 0) ∧
    (c.evac ∨ ¬ s.on R.PLC.STATUS.SEAM_LOW ∨ s.freesSlot sw)
  let moved : Option State := match s.boltAt sw with
    | some b => if ready ∧ b ≠ 0 ∧ s.rd R.BLT.BOLT_ATTR.STATE b ≠ 5 then
        (match s.moveTarget b sw c.evac with | some (cls, set) => s.startMove sw cls set | none => none) else none
    | none => none
  let t := moved.getD s
  let t := if bit (t.dwell sw) 8 then t.setDwell sw (setBit (t.dwell sw) 8 false) else t
  if moved.isSome then (t, left - 1, if c.evac then evs - 1 else evs) else (t, left, evs)

/-- The counts of a heat-table entry halved (R239). -/
def Heat.halve (h : Heat) : Heat := { h with reads := h.reads / 2, writes := h.writes / 2, ascending := h.ascending / 2 }

/-- What an epoch start takes as its snapshot, beside the governing values that one step leaves as they are: contention,
for how many epochs each channel has held no credit, and hints and pin sets written since the last epoch (R242, R243, R254, 06
R139). -/
def State.epochSnapshot (s : State) : State :=
  let idle := (List.range 32).foldl (fun (m : SMap Nat) c =>
    m.set 0 c (if s.hasCredit c then 0 else min 16 (m.get 0 c + 1))) s.mem.idleEpochs
  { s with mem := { s.mem with contention := s.mem.contAcc, contAcc := {}, idleEpochs := idle, soft := {} } }

/-- One epoch (R243): budget, candidates, moves, halved heat and the sweep. -/
def State.epoch (s : State) : State :=
  let s := s.epochSnapshot
  let n := s.moveBudget
  let (s, _, _) := s.candidates.foldl State.consider (s, n, n / 2)
  let s : State := { s with mem := { s.mem with heat := s.mem.heat.map Heat.halve, epochs := s.mem.epochs + 1 } }
  (s.wr R.PLC.STATUS.EPOCH (s.rd R.PLC.STATUS.EPOCH + 1)).count 3

/-- EPOCH_START (R243, R245, R259). -/
def execEpochStart (st : State) : Host.Outcome State Fault Refusal := live st (if st.running ∧ ¬ st.leaving then st.epoch else st)

/-- The key of sector l of granule g in a frame. -/
def State.placeKey (s : State) (cls frame g l : Nat) : Nat := s.frameSector cls frame g l

/-- One sector's stored codeword is read from the old frame, corrected through the outer code and encoded anew for its place in the
target, poison where it is uncorrectable; a sector that no write has reached stays a zero line there (R249, 15 R367). -/
def State.copySector (s : State) (b : Nat) (m : Move) (g l : Nat) (noise : ReadNoise) : State :=
  let k := s.placeKey m.oldCls m.oldFrame g l
  let n := m.swatch * 1024 + 4 * g + l
  if s.cleanZero k (noiseAt noise l) then s else
  match s.outer b n k (noiseAt noise l) with
  | (s, some w) =>
    if s.mem.written.get false k then
      s.storeAt (rsEncode (if s.boltMode b = 1 then 4 else 6) w) (s.placeKey m.newCls m.newFrame g l)
    else s
  | (s, none) => s.storeAt (encodePoison (s.boltMode b) n) (s.placeKey m.newCls m.newFrame g l)

/-- One granule of a move: a read and a write of master 64 (R248, R252). -/
def State.copyGranule (s : State) (b : Nat) (m : Move) (g : Nat) : State :=
  let (q, sg) := s.granulePlace m.oldCls m.oldFrame g
  let (q', sg') := s.granulePlace m.newCls m.newFrame g
  let s := (s.owe (slotAt 64 q (m.oldFrame % 2 ^ 15) sg true (.work none))).owe
    (slotAt 64 q' (m.newFrame % 2 ^ 15) sg' false (.work none))
  (List.range 4).foldl (fun (s : State) l => s.copySector b m g l (s.noiseOf (m.swatch * 256 + g))) s

/-- The member in a frame becomes m. -/
def State.setPlace (s : State) (cls frame : Nat) (m : Member) : State :=
  s.setMember (frameGroup cls frame) (frameParts cls frame).2.1 m

/-- The flip: the entry names the target as stable, and the old frame waits for its last requests (R244, R248). -/
def State.flip (s : State) (m : Move) : State :=
  let s := (s.setPlace m.newCls m.newFrame (.swatch m.swatch)).setPlace m.oldCls m.oldFrame (.target m.swatch)
  let s := s.setMap m.swatch (mapEntry m.newCls 0 m.newFrame)
  let s := s.setMoves (s.mem.moves.map (fun x => if x.swatch = m.swatch ∧ ¬ x.flipped then { x with flipped := true } else x))
  let d := s.dwell m.swatch
  let s := s.setDwell m.swatch (d % 512 + s.rd R.PLC.CFG.HOLDOFF * 512)
  (s.bump R.PLC.MOVES.FLIPPED).count 162

/-- The unflipped move of a swatch has been copied, its dirty lines have been written back so many times, and new writes are held or
not (R250). -/
def State.noteMove (s : State) (sw tries : Nat) (held : Bool) : State :=
  { s with mem := { s.mem with moves := s.mem.moves.map (fun x =>
      if x.swatch = sw ∧ ¬ x.flipped then { x with copied := true, tries := tries, held := held } else x) } }

/-- Every granule of a move is copied, once (R248, R249). -/
def State.copyMove (s : State) (m : Move) : State :=
  if m.copied then s else
  (List.range 256).foldl (fun (s : State) g => s.copyGranule ((s.boltAt m.swatch).getD 0) m g) s

/-- A copied move goes on once no write-back of its swatch is open (R248, R250): it flips when no line is dirty; a dirty swatch is
written back for master 64, four times in all; after that new writes to it are held, it is written back once more, and the flip
follows, with a sector whose write-back has failed for good (10 R268; log entry 51). -/
def State.moveSteps : Nat → State → Nat → State
  | 0, s, _ => s
  | n + 1, s, sw =>
    match s.moveOf sw with
    | none => s
    | some m =>
      if ¬ m.copied ∨ s.lng.wbs.any (fun w => w.line / 256 == sw && decide (w.fails < 4)) then s
      else if ¬ s.swatchDirty sw then
        if m.held then ((s.flip m).bump R.PLC.FORCED.FORCED_FLIPS).count 164 else s.flip m
      else
        let t := s.startAll 64 (fun l => l / 256 == sw)
        if m.held ∧ t.lng.wbs = s.lng.wbs then ((t.flip m).bump R.PLC.FORCED.FORCED_FLIPS).count 164
        else State.moveSteps n (t.noteMove sw (m.tries + 1) (decide (4 ≤ m.tries))) sw

/-- A copied move goes on as far as it can: six rounds are the most. -/
def State.moveStep (s : State) (sw : Nat) : State := State.moveSteps 8 s sw

/-- Every granule of a move is copied under master 64's entry, and its dirty lines are written back (R248-R250). -/
def State.moveCopied (s : State) (sw : Nat) : State :=
  match s.moveOf sw with
  | none => s
  | some m =>
    if ¬ s.masterOwns 64 ((s.boltAt sw).getD 0) then s.countMaster
    else if m.copied then s.moveStep sw
    else ((s.copyMove m).noteMove sw 0 false).moveStep sw

/-- Every copied move goes on (R250). -/
def State.movesOn (s : State) : State :=
  (s.mem.moves.filter (fun m => m.copied && !m.flipped)).foldl (fun s m => s.moveStep m.swatch) s

/-- MOVE_COPY_DONE (R248-R250). -/
def execMoveCopyDone (swatch : CopyReport) (st : State) : Host.Outcome State Fault Refusal :=
  live st (if st.running then st.noisy swatch.noise (fun s => s.moveCopied swatch.swatch.toNat) else st)

/-- The old frame of a flipped move is freed, and its record, once no fill of the swatch is in progress (R248). -/
def State.oldFreed (s : State) (sw : Nat) : State :=
  match s.mem.moves.find? (fun m => m.swatch == sw && m.flipped) with
  | none => s
  | some m =>
    if s.lng.fills.any (fun l => l / 256 == sw) then s
    else (s.setMoves (s.mem.moves.erase m)).freeFrame m.oldCls m.oldFrame

/-- OLD_FRAME_FREE (R248). -/
def execOldFrameFree (swatch : BitVec 24) (st : State) : Host.Outcome State Fault Refusal :=
  live st (st.oldFreed swatch.toNat)

/-- A Native bolt's leaf is set up anew under the slot in force for it (R328, R334). -/
def State.renewLeaf (s : State) (leaf : Nat) : State :=
  match s.leafBolt leaf with
  | some b =>
    let n := s.rd R.BLT.BOLT_BASE.BASE_SW b * 1024 + (leaf - s.leafBase b) * 64
    let s : State := { s with guard := { s.guard with nodeTags := s.guard.nodeTags.del leaf } }
    if s.rekeying b then
      let s := s.freshLeaf leaf (s.rd R.PRT.REKEY.STAGING)
      { s with guard := { s.guard with converted := s.guard.converted.put (n / 64) true } }
    else s.freshLeaf leaf (s.rd R.BLT.BOLT_ATTR.KEY_ID b)
  | none => s

/-- A lost node of level 1 to 3 is rebuilt with a major of its own, and every node and leaf beneath it is set up anew (R337). -/
def State.rebuildNode (s : State) (b key : Nat) : State :=
  let level := key / 2 ^ 25
  let idx := key % 2 ^ 25
  let slot := s.rd R.BLT.BOLT_ATTR.KEY_ID b
  let fresh (s : State) (lv i : Nat) : State :=
    let m := s.rd R.PRT.KEY_HWM.M slot + 1
    let s : State := { s with guard := { s.guard with nodeTags := s.guard.nodeTags.del (lv * 2 ^ 25 + i),
                                                      lostNodes := s.guard.lostNodes.filter (· != lv * 2 ^ 25 + i),
                                                      dirtyNodes := if lv ≤ 2 then s.guard.dirtyNodes.put (lv * 2 ^ 25 + i) true
                                                        else s.guard.dirtyNodes } }
    (s.setNode lv i { major := m }).issueMajor slot m
  let s := ((List.range level).map (level - ·)).foldl (fun (s : State) lv =>
    (List.range (64 ^ (level - lv))).foldl (fun (s : State) i => fresh s lv (64 ^ (level - lv) * idx + i)) s) s
  let w := 64 ^ level
  (List.range w).foldl (fun (s : State) i => s.renewLeaf (idx * w + i)) s

/-- The lost nodes above the leaves of a swatch of a Native bolt. -/
def State.lostAbove (s : State) (b sw : Nat) : List Nat :=
  let leaf := s.leafOf b (sw * 1024)
  s.guard.lostNodes.filter (fun k => 1 ≤ k / 2 ^ 25 && k / 2 ^ 25 ≤ 3 && k % 2 ^ 25 == leaf / 64 ^ (k / 2 ^ 25))

/-- The counters of a restitched swatch of a Native bolt: lost nodes above it are rebuilt, and its leaves set up anew
(R337). -/
def State.renewSwatch (s : State) (b sw : Nat) : State :=
  if ¬ s.native b then s else
  let s := (s.lostAbove b sw).foldl (fun (s : State) k => if s.guard.lostNodes.contains k then s.rebuildNode b k else s) s
  let s := (List.range 16).foldl (fun (s : State) j => s.renewLeaf (s.leafOf b (sw * 1024 + 64 * j))) s
  { s with guard := { s.guard with tags := s.guard.tags.keepKeys (fun k => k / 1024 != sw) } }

/-- A torn swatch returns to the zero state with no frame; a pair is told (R256, 18 R424). -/
def State.zeroRestitch (s : State) (sw : Nat) : State :=
  match s.boltAt sw with
  | none => s
  | some b =>
    let s := (s.freeSwatch sw).renewSwatch b sw
    let s := s.clearMap sw
    ((s.bump R.PLC.RESTITCH_STATUS.DONE).count 168).mirror b sw (zeroRecord sw)

/-- The swatch is torn, of a bolt that is not being deleted (R142, R256). -/
def State.isTorn (s : State) (sw : Nat) : Bool :=
  (s.boltAt sw).any (fun b => s.rd R.BLT.BOLT_ATTR.STATE b != 5) && entryState (s.mapOf sw) == 2

/-- The restitch ends: done, or stopped with a status (R257). -/
def State.restitchStop (s : State) (state status : Nat) : State :=
  let s : State := { s with mem := { s.mem with restitchAt := 0, restitchTo := 0, partner := none } }
  (s.wr R.PLC.RESTITCH_STATUS.STATE state).wr R.PLC.RESTITCH_STATUS.STATUS status

/-- The restitch goes on to swatch sw; the swatches between are not torn, and counted (R256). -/
def State.restitchSkip (s : State) (sw : Nat) : State :=
  let s' := s.bump R.PLC.RESTITCH_STATUS.SKIPPED 0 (sw - s.mem.restitchAt)
  { s' with mem := { s'.mem with restitchAt := sw } }

/-- The torn swatches of its range that a restitch has still to process, rising (R256, R257). -/
def State.restitchTorn (s : State) : List Nat :=
  (s.mem.map.entries.filter (fun m => s.mem.restitchAt ≤ m.1 && m.1 < s.mem.restitchTo && s.isTorn m.1)).map (·.1)

/-- The restitch takes up torn swatch sw: it goes past it. -/
def State.restitchTake (s : State) (sw : Nat) : State :=
  let s := s.restitchSkip sw
  { s with mem := { s.mem with restitchAt := sw + 1 } }

/-- Every torn swatch of the range has been processed (R257). -/
def State.restitchDone (s : State) : State := (s.restitchSkip s.mem.restitchTo).restitchStop 2 0

/-- A frame for the next swatch of a PARTNER restitch, as first placement would choose it, with URGENT where it is not of the class of
the hint (R236, R256). -/
def State.restitchFrame (s : State) (b sw : Nat) : Option (State × Nat × Nat) :=
  let pin := s.pinOf b
  let cls := s.hintClass (s.effHint b sw)
  ([cls, 1, 2, 0]).findSome? (fun k => match s.takeClass k pin (.target sw) with
    | some (t, f) => some ((if k = cls then t else t.setDwell sw (setBit (t.dwell sw) 8 true)).seamCheck, k, f)
    | none => none)

/-- A PARTNER restitch takes a frame for a swatch, and new region frames if those over it were lost; none where no frame is left
(R257, 13 R494). -/
def State.restitchFrames (s : State) (b sw : Nat) : Option (State × Nat × Nat) :=
  (s.retakeRegions b sw).bind (fun t => t.restitchFrame b sw)

/-- A PARTNER restitch asks for its next torn swatch in the mirror stream, or stops where no frame is left (R256, R257,
18 R440). -/
def State.restitchNext (s : State) : State :=
  match s.restitchTorn with
  | [] => s
  | sw :: _ =>
    match (s.boltAt sw).bind (fun b => (s.restitchFrames b sw).map (fun x => (b, x))) with
    | none => (s.restitchSkip sw).restitchStop 3 stAdmission
    | some (b, t, cls, f) =>
      let t := t.restitchTake sw
      let t : State := { t with mem := { t.mem with partner := some { swatch := sw, bolt := b, cls := cls, frame := f } } }
      t.addRecord (restitchRecord sw) false

/-- The frame reserved for a PARTNER restitch returns to the pool. -/
def State.dropPartner (s : State) : State :=
  match s.mem.partner with
  | some p => ({ s with mem := { s.mem with partner := none } } : State).freeFrame p.cls p.frame
  | none => s

/-- A PARTNER restitch stops (R257, R440). -/
def State.stopPartner (s : State) (status : Nat) : State := s.dropPartner.restitchStop 3 status

/-- A PARTNER restitch in progress cannot go on without the pair. -/
def State.endPartner (s : State) : State := if s.mem.partner.isSome then s.stopPartner stUnsupported else s

/-- A restitch is possible from the partner: the link carries a pair in SYNCING or PAIRED (R257, 18 R440). -/
def State.partnerReady (s : State) : Bool :=
  s.on R.TCK.STATUS.LINK && (s.rd R.TCK.STATUS.PAIR == 1 || s.rd R.TCK.STATUS.PAIR == 2)

/-- A write of PLC.RESTITCH (R256, R257). -/
def State.writeRestitch (s : State) (v : Nat) : SetupResult :=
  let fs := [R.PLC.RESTITCH.START_SW, R.PLC.RESTITCH.COUNT, R.PLC.RESTITCH.MODE]
  let start := part v R.PLC.RESTITCH.START_SW
  let count := part v R.PLC.RESTITCH.COUNT
  let mode := part v R.PLC.RESTITCH.MODE
  let t := s.takes v 0 fs
  if part v R.PLC.RESTITCH.GO = 0 then t.accept
  else if s.rd R.PLC.RESTITCH_STATUS.STATE = 1 ∨ ¬ s.running then s.refuse stDenied
  else if count = 0 ∨ 2 ^ 24 < start + count ∨ mode = 0 ∨ mode = 3 then s.refuse stMalformed
  else if mode = 2 ∧ ¬ s.partnerReady then s.refuse stUnsupported
  else
    let t := ((t.wr R.PLC.RESTITCH_STATUS.STATE 1).wr R.PLC.RESTITCH_STATUS.STATUS 0).wr R.PLC.RESTITCH_STATUS.DONE 0
    let t := t.wr R.PLC.RESTITCH_STATUS.SKIPPED 0
    let t : State := { t with mem := { t.mem with restitchAt := start, restitchTo := start + count, partner := none,
                                                  zeroMode := mode == 1 } }
    (if mode = 2 then t.restitchNext else t).accept

/-- RESTITCH_GO (R256, R257). -/
def execRestitchGo (v : BitVec 64) (path : Path) (st : State) : Host.Outcome State Fault Refusal :=
  live st (st.setup path 0x8100 (st.writeRestitch v.toNat))

/-- A ZERO restitch over its torn swatches in ascending order; it stops where a lost region frame finds no frame, or where master 69 may
not set up a Native bolt's leaves (R256, R257, 06 R138, 13 R494). -/
def State.zeroRun (s : State) : List Nat → State
  | [] => s.restitchDone
  | sw :: rest =>
    if (s.boltAt sw).any (fun b => s.native b && !s.masterOwns 69 b) then (s.countMaster.restitchSkip sw).restitchStop 3 stDenied else
    match (s.boltAt sw).bind (fun b => s.retakeRegions b sw) with
    | none => (s.restitchSkip sw).restitchStop 3 stAdmission
    | some t => ((t.zeroRestitch sw).restitchTake sw).zeroRun rest

/-- The last swatch of a restitch is processed (R257): ZERO processes them in ascending order; PARTNER has had its answers, or
asks for a swatch torn since. -/
def State.restitchEnd (s : State) : State :=
  if s.rd R.PLC.RESTITCH_STATUS.STATE ≠ 1 then s
  else if s.mem.zeroMode then s.zeroRun s.restitchTorn
  else if s.mem.partner.isSome then s
  else if s.restitchTorn.isEmpty then s.restitchDone
  else s.restitchNext

/-- RESTITCH_END (R257). -/
def execRestitchEnd (st : State) : Host.Outcome State Fault Refusal := live st st.restitchEnd

end Sys2Proof.Machine
end

