-- ==== Sys2Proof/Machine/Takeover.lean ====
section
/-! DEFINITION. How a secondary becomes primary: leaving Shadow, claiming the virtual addresses, and the conditions of an
automatic takeover (18 R433-R438). -/

namespace Sys2Proof.Machine

/-- Bytes a C-tag adds to the frames port p sends (04 R99). -/
def State.tagBytes (s : State) (p : Nat) : Nat := if s.on R.ETH.VLAN.TAG_TX p then 4 else 0

/-- A primary that took over announces the virtual addresses of port p; one that is fenced has stopped using them (R436, R438). -/
def State.claimPort (s : State) (p : Nat) : State :=
  if s.on R.TCK.STATUS.FENCED then s else
  let mac := s.txMac p
  let s := if s.virtIp p false = 0 then s else s.sendFrame p (.gratuitousArp (s.virtIp p false) mac)
  if s.virtIp p true = 0 then s else s.sendFrame p (.unsolicitedAdvert (s.virtIp p true) mac) (90 + s.tagBytes p)

/-- The addresses are announced on both ports; frames leave on a port that is up (R436). -/
def State.claimPorts (s : State) : State := (s.claimPort 0).claimPort 1

/-- The module leaves Shadow, or a change to it, for Serve, or for Ease while Hem holds a point (R436, R442). Where the steward has
asked for it on the backup oscillator, the point stays, and another than P0 is Ease (03 R79; log entry 119). -/
def State.leaveShadow (s : State) (asked : Bool) : State :=
  if s.mode = modeShadow ∨ s.boot.target = 5 then
    if s.on R.HEM.STATUS.FORCED then s.setTarget 2 (s.rd R.HEM.STATUS.FORCED_POINT)
    else if asked ∧ s.on R.CLK.STATUS.REF_SEL ∧ s.rd R.MOD.STATUS.POINT ≠ 0 then s.setTarget 2 (s.rd R.MOD.STATUS.POINT)
    else (s.setTarget 1 0).requestPoint 0
  else s

/-- The module enters Shadow after the end of client service (R27, R412). -/
def State.enterShadow (s : State) : State := if s.mode = modeShadow then s else s.startChange 5 0

/-- Steps 2 and 3 of R436, with the role and its tick. -/
def State.becomePrimary (s : State) (asked : Bool) : State :=
  let s := ((s.wr R.TCK.STATUS.ROLE 1).wr R.TCK.TAKEOVER_TICK.TICK s.tick).leaveShadow asked
  ({ s with tack := { s.tack with claims := 2, claiming := true } } : State).claimPorts

/-- The pair state becomes BROKEN (TCK.STAT.BREAKS). -/
def State.breakPair (s : State) : State :=
  if s.rd R.TCK.STATUS.PAIR = 3 then s else (s.wr R.TCK.STATUS.PAIR 3).bump R.TCK.STAT.BREAKS

/-- A takeover, the secondary's own or one that the steward asks for (R436). Frames received whole have been applied as they came. -/
def State.takeOver (s : State) (asked : Bool) : State :=
  let s := ((s.wr R.TCK.STATUS.EPOCH (s.rd R.TCK.STATUS.EPOCH + 1)).endPartner).breakPair
  let s : State := { s with tack := { s.tack with unacked := [], openRecs := [] } }
  let s := (s.wr R.TCK.STATUS.FULL_RESYNC_DUE 1).becomePrimary asked
  (s.bump R.TCK.STAT.TAKEOVERS).raise Src.pairTakeover

/-- LOS stands on every Tack lane (04 R92). -/
def State.losAll (s : State) : Bool := (List.range 8).all (fun k => s.on R.SDS.STATUS.LOS (8 + k))

/-- PEER_ALIVE counts as showing no edge: for 2 ms, or while it chatters (R435). -/
def State.peerSilent (s : State) : Bool := s.on R.TCK.STATUS.PEER_STOPPED || s.pins.peerAlive.chattering

/-- The secondary decides by itself: it was PAIRED at link loss, DECIDE_MS has not passed, and the three conditions hold
together (R435). -/
def State.mayTakeOver (s : State) : Bool :=
  s.rd R.TCK.STATUS.ROLE == 2 && s.rd R.TCK.STATUS.PAIR == 2 && s.tack.pairedAtLoss && !s.on R.TCK.STATUS.LINK &&
    !s.tack.decided && s.on R.TCK.CFG.TAKEOVER_EN && s.losAll && s.peerSilent && s.on R.TCK.STATUS.HB_LOST

/-- The takeover conditions are looked at after something that can make them hold (R435). -/
def State.judge (s : State) : State := if s.mayTakeOver then s.takeOver false else s

end Sys2Proof.Machine
end

