-- ==== Sys2Proof/Machine/Alarms.lean ====
section
/-! DEFINITION. Fault injection, the watchdog, ALIVE, the entropy source, the epoch note, and the low-speed pins with
power and reset (13 R315, 19 R443-R456, 20 R457, R473, 22 R483-R486). -/

namespace Sys2Proof.Machine

/-- The unit that FLT.INJECT.UNIT names for a source; none where the source's owner does not allow it (R456). -/
def injectUnit (src unit : Nat) : Option Block :=
  match faultRow src with
  | some (.port, _, _) => if unit < 2 then some (.port unit) else none
  | some (.portOrTack, _, _) => if unit < 2 then some (.port unit) else if unit = 2 then some .tack else none
  | some _ => some .other
  | none => none

/-- A write of FLT.INJECT (R456). -/
def State.writeInject (s : State) (v : Nat) : SetupResult :=
  let src := part v R.FLT.INJECT.SOURCE
  if part v R.FLT.INJECT.GO = 0 then s.accept
  else if s.mode ≠ modeMaint then s.refuse stDenied
  else match injectUnit src (part v R.FLT.INJECT.UNIT) with
    | none => s.refuse stMalformed
    | some u => (s.raise src u true).accept

/-- FAULT_INJECT (R456). -/
def execFaultInject (v : BitVec 64) (path : Path) (st : State) : Host.Outcome State Fault Refusal :=
  live st (st.setup path 0x25090 (st.writeInject v.toNat))

/-- The watchdog's hold on ALIVE ends (R451). -/
def State.wdtFree (s : State) : State := (s.wr R.FLT.ALIVE.WDT_HELD 0).aliveFollow

/-- Firmware writes FLT.WDT as master 69 (R450): refused whole when the period is out of range. -/
def State.kick (s : State) (v : Nat) : State :=
  let p := part v R.FLT.WDT.PERIOD_MS
  if p ≠ s.rd R.FLT.WDT.PERIOD_MS ∧ (p < 10 ∨ 10000 < p) then s
  else
    let s := s.wr R.FLT.WDT.PERIOD_MS p
    if part v R.FLT.WDT.KICK = 1 then (s.wr R.FLT.WDT.ARMED 1).wdtFree else s

/-- KICK (R450, R451): a Thimble in block reset, or held in reset until the system PLL is locked, runs no firmware (03 R73, R77). -/
def execKick (v : BitVec 64) (st : State) : Host.Outcome State Fault Refusal :=
  live st (if st.thimble.resetting ∨ ¬ st.sysLocked then st else st.kick v.toNat)

/-- PERIOD_MS has passed without a KICK (R450, R451). -/
def State.wdtExpire (s : State) : State :=
  let again := match s.thimble.lastExpiry with | some t => decide (s.tick - t ≤ 1000000000) | none => false
  let s := ((s.bump R.FLT.WDT.EXPIRIES).wr R.FLT.ALIVE.WDT_HELD 1).aliveFollow
  let s := { s with thimble := { s.thimble with lastExpiry := some s.tick,
                                                expiryReset := s.rd R.FLT.SRC.REACTION Src.thimbleWdt == 3 } }
  let s := s.raise Src.thimbleWdt
  if again then s.raise Src.thimbleLockup else s

/-- WATCHDOG_EXPIRY (R450). -/
def execWatchdogExpiry (st : State) : Host.Outcome State Fault Refusal :=
  live st (if st.on R.FLT.WDT.ARMED then st.wdtExpire else st)

/-- THIMBLE_RESET_DONE (R446, R451, R334): its island is held in reset until the system PLL is judged locked (03 R73, R77). -/
def execThimbleResetDone (st : State) : Host.Outcome State Fault Refusal :=
  live st (if st.thimble.resetting ∧ st.sysLocked then
    let held := st.thimble.expiryReset
    let s : State := { st with thimble := { st.thimble with resetting := false, expiryReset := false },
                               guard := { st.guard with rekeyPaused := false } }
    if held then s.wdtFree else s
  else st)

/-- WATCHDOG_HOLD_TIMEOUT (R451): a hold whose expiry is followed by a block reset ends with that reset instead. -/
def execWatchdogHoldTimeout (st : State) : Host.Outcome State Fault Refusal :=
  live st (if st.on R.FLT.ALIVE.WDT_HELD ∧ ¬ st.thimble.expiryReset then st.wdtFree else st)

/-- ALIVE_TOGGLE (R453). -/
def execAliveToggle (st : State) : Host.Outcome State Fault Refusal :=
  live st (if st.on R.FLT.ALIVE.TOGGLING then
    let s := st.put R.FLT.ALIVE.LEVEL (!st.on R.FLT.ALIVE.LEVEL)
    { s with pins := { s.pins with aliveEdge := s.tick } }
  else st)

/-- One health test of the entropy source (R452). -/
def State.entropyTest (s : State) (pass : Bool) : State :=
  if pass then
    if s.guard.entropyBad then
      let n := s.guard.entropyPasses + 1
      if 1024 ≤ n then { s with guard := { s.guard with entropyBad := false, entropyPasses := 0 } }
      else { s with guard := { s.guard with entropyPasses := n } }
    else s
  else ({ s with guard := { s.guard with entropyBad := true, entropyPasses := 0 } } : State).raise Src.entropyFail

/-- ENTROPY_HEALTH_TEST (R452). -/
def execEntropyHealthTest (pass : Bool) (st : State) : Host.Outcome State Fault Refusal := live st (st.entropyTest pass)

/-- A write of TIM.NOTE (R473). -/
def State.writeNote (s : State) (v : Nat) : SetupResult :=
  ((s.take R.TIM.NOTE.NOTE v).wr R.TIM.NOTE_TICK.TICK s.tick).accept

/-- NOTE_WRITE (R473). -/
def execNoteWrite (v : BitVec 64) (path : Path) (st : State) : Host.Outcome State Fault Refusal :=
  live st (st.setup path 0x39008 (st.writeNote v.toNat))

/-- A filtered edge at a tick, and whether it makes the input chattering: more than 16 edges within 1 ms. Logic sees the
edge unless the input is chattering (R484). -/
def Chat.edge (c : Chat) (tick : Nat) : Chat × Bool :=
  let es := (c.edges.filter (fun t => tick - t ≤ 1000000)) ++ [tick]
  if c.chattering then ({ c with level := !c.level, edges := es }, false)
  else if 16 < es.length then ({ c with level := !c.level, edges := es, chattering := true }, true)
  else ({ c with level := !c.level, seen := !c.level, edges := es }, false)

/-- A chattering input is released at its present level (R484). -/
def Chat.release (c : Chat) : Chat := { c with seen := c.level, edges := [], chattering := false }

/-- The PEER_ALIVE input replaced; an edge that logic sees is noted (R435, R483). -/
def State.setPeer (s : State) (c : Chat) : State :=
  let s' : State := { s with pins := { s.pins with peerAlive := c } }
  if c.seen = s.pins.peerAlive.seen then s'
  else ({ s' with tack := { s'.tack with peerEdge := s.tick } } : State).wr R.TCK.STATUS.PEER_STOPPED 0

/-- An input is declared chattering (R484). -/
def State.chatter (s : State) (declared : Bool) : State := if declared then s.raise Src.inputChatter else s

/-- PEER_ALIVE_EDGE (R483, R484). -/
def execPeerAliveEdge (st : State) : Host.Outcome State Fault Refusal :=
  let (c, d) := st.pins.peerAlive.edge st.tick
  live st ((st.setPeer c).chatter d).judge

/-- TRST_N_EDGE (R483, R484). -/
def execTrstNEdge (st : State) : Host.Outcome State Fault Refusal :=
  let (c, d) := st.pins.trstN.edge st.tick
  live st (({ st with pins := { st.pins with trstN := c } } : State).chatter d)

/-- The OTP word being programmed completes (R485). -/
def State.finishWord (s : State) : State :=
  match s.per.job with
  | some ⟨_, (w, v) :: _⟩ => s.otpStore w v
  | _ => s

/-- Logic sees RST_N go low: an OTP word being programmed completes, and the reset takes effect and holds (R485). -/
def State.resetLow (s : State) : State :=
  let s := s.finishWord.reboot
  { s with boot := { s.boot with resetHeld := true } }

/-- Logic sees RST_N go high: Boot starts (R457). -/
def State.resetHigh (s : State) : State := { s with boot := { s.boot with resetHeld := false } }

/-- Logic follows the RST_N input. -/
def State.setRstN (s : State) (c : Chat) : State :=
  let old := s.pins.rstN.seen
  let s : State := { s with pins := { s.pins with rstN := c } }
  if c.seen = old then s else if c.seen then s.resetHigh else s.resetLow

/-- A filtered edge of RST_N (R483-R485). -/
def State.rstEdge (s : State) : State :=
  let (c, d) := s.pins.rstN.edge s.tick
  (s.setRstN c).chatter d

/-- RST_N_LOW (R485). -/
def execRstNLow (st : State) : Host.Outcome State Fault Refusal :=
  live st (if st.pins.rstN.level then st.rstEdge else st)

/-- RST_N_RELEASE (R457). -/
def execRstNRelease (st : State) : Host.Outcome State Fault Refusal :=
  live st (if st.pins.rstN.level then st else st.rstEdge)

/-- CHATTER_RELEASE (R484). -/
def execChatterRelease (inp : ChatInput) (st : State) : Host.Outcome State Fault Refusal :=
  live st (match inp with
    | .rstN => if st.pins.rstN.chattering then st.setRstN st.pins.rstN.release else st
    | .peerAlive => if st.pins.peerAlive.chattering then st.setPeer st.pins.peerAlive.release else st
    | .trstN =>
      if st.pins.trstN.chattering then { st with pins := { st.pins with trstN := st.pins.trstN.release } } else st)

/-- The majority of seven samples. -/
def majority (bs : List Bool) : Bool := 4 ≤ bs.countP id

/-- The straps that seven samples give (R483). -/
def strapsOf (ss : List Straps) : Straps :=
  { maintN := majority (ss.map (·.maintN)),
    slotId := BitVec.ofNat 6 ((List.range 6).foldl (fun n i => n + 2 ^ i * (majority (ss.map (fun x => bit x.slotId.toNat i))).toNat) 0) }

/-- Seven samples fix the straps; any disagreement among them is chatter (R483). -/
def State.fixStraps (s : State) : State :=
  let ss := s.pins.samples
  let x := strapsOf ss
  let s := (s.put R.MOD.STATUS.MAINT_STRAP (!x.maintN)).wr R.MOD.STATUS.SLOT_ID x.slotId.toNat
  s.chatter (ss.any (fun y => y != ss.headD y))

/-- STRAP_SAMPLE (R483). -/
def execStrapSample (straps : Straps) (st : State) : Host.Outcome State Fault Refusal :=
  live st (if 7 ≤ st.pins.samples.length then st else
    let s : State := { st with pins := { st.pins with samples := st.pins.samples ++ [straps] } }
    if s.pins.samples.length = 7 then s.fixStraps else s)

/-- The module as power-good finds it: what it keeps through power loss, the first strap sample and the level of RST_N
(R457, R472, R485). -/
def State.powerUp (s : State) (straps : Straps) (rstN : Bool) : State :=
  let r : State :=
    { State.reset with
      pending := s.pending, freeCtr := s.freeCtr, out := s.out,
      per := { otp := s.per.otp, pat := s.per.pat, patCount := s.per.patCount, gone := s.per.gone },
      pins := { rstN := { seen := rstN, level := rstN }, samples := [straps] },
      boot := { resetHeld := !rstN } }
  r.otpBoot.patBoot

/-- POWER_GOOD (R457). -/
def execPowerGood (straps : Straps) (rstN : Bool) (st : State) : Host.Outcome State Fault Refusal :=
  .next (if st.powered then st else (st.powerUp straps rstN).ends st)

/-- An OTP word whose programming power loss interrupts reads at the next Boot as unprogrammed, programmed or marginal
(R467). -/
def State.interruptWord (s : State) : State :=
  match s.per.job with
  | some ⟨_, (w, v) :: _⟩ =>
    let s := s.drawn
    match Config.halfWritten s.freeCtr with
    | 0 => s
    | 1 => s.otpStore w v
    | _ => { s with per := { s.per with otp := s.per.otp.put w ⟨(Config.marginalRead s.freeCtr).map BitVec.toNat, none⟩ } }
  | _ => s

/-- All volatile state is lost (R408); the OTP and the stored Pattern words stay. -/
def State.powerDown (s : State) : State :=
  let s := s.interruptWord
  { State.reset with
    pending := s.pending, powered := false, freeCtr := s.freeCtr, out := s.out,
    per := { otp := s.per.otp, pat := s.per.pat, patCount := s.per.patCount, gone := s.per.gone } }

/-- POWER_LOSS (R408). -/
def execPowerLoss (st : State) : Host.Outcome State Fault Refusal := .next (if st.powered then st.powerDown else st)

end Sys2Proof.Machine
end

