-- ==== Sys2Proof/Machine/Boot.lean ====
section
/-! DEFINITION. The steps of Boot, BIST and soft repair (20 R457-R461, R468, R469, 13 R313). -/

namespace Sys2Proof.Machine

/-- What the ROM patch table comes to, entry by entry: entries applied, entries skipped, and whether one was skipped for a
marginal word or a reserved bit (R468). -/
structure PatchScan where
  done : List (Nat × Nat) := []
  skipped : Nat := 0
  raised : Bool := false

/-- Word w reads marginal, or its normal read is uncorrectable (R466, R468). -/
def State.otpBad (s : State) (w : Nat) : Bool := match s.otpWord w with | some x => x.marginal | none => false

/-- The patch entries from e on, ascending, k of them at most (R468). -/
def State.scanPatches (s : State) : Nat → Nat → PatchScan → PatchScan
  | 0, _, a => a
  | k + 1, e, a =>
    let b := s.otpUse (193 + 2 * e)
    if s.otpBad (192 + 2 * e) ∨ s.otpBad (193 + 2 * e) then
      s.scanPatches k (e + 1) { a with skipped := a.skipped + 1, raised := true }
    else if ¬ s.otpSet (193 + 2 * e) then a
    else if bits b 15 48 ≠ 0 then s.scanPatches k (e + 1) { a with skipped := a.skipped + 1, raised := true }
    else if bits b 0 15 / 512 = Config.keyRegion % 64 ∨ ¬ bit b 63 then
      s.scanPatches k (e + 1) { a with skipped := a.skipped + 1 }
    else s.scanPatches k (e + 1) { a with done := a.done ++ [(bits b 0 15, s.otpUse (192 + 2 * e))] }

/-- The patch table is applied to mask ROM (R468). -/
def State.applyPatches (s : State) : State :=
  let a := s.scanPatches 128 0 {}
  let s := (s.wr R.OTP.STATUS.PATCHES a.done.length).wr R.OTP.STATUS.SKIPPED a.skipped
  let s : State := { s with per := { s.per with patches := a.done } }
  if a.raised then s.raise Src.patchSkipped else s

/-- Doubleword i of mask ROM as every Thimble fetch and load takes it: the last patch entry that names it, or what the ROM was made
with (R468). -/
def State.romWord (s : State) (i : Nat) : Nat :=
  match s.per.patches.reverse.find? (fun e => e.1 == i) with
  | some e => e.2
  | none => (Config.maskRom i).toNat

/-- The size of the Thimble's SRAM in bytes (03 R66). -/
def sramBytes : Nat := 2 ^ 20

/-- Byte a of the Thimble's SRAM after a load: what was loaded from byte 0 on, zeros behind it (03 R66; log entry 120). -/
def State.sramByte (s : State) (a : Nat) : Byte :=
  match s.thimble.sram with
  | .cleared => 0
  | .rom => if a < 2 ^ 18 then BitVec.ofNat 8 (bits (s.romWord (a / 8)) (8 * (a % 8)) 8) else 0
  | .image img => if a < sramBytes then img.getD a 0 else 0

/-- Four OTP words from w as 32 bytes, each word low-order byte first (R313). -/
def State.otpBytes (s : State) (w : Nat) : List Byte := ((List.range 4).map (fun k => leBytes 8 (s.otpUse (w + k)))).flatten

/-- Each of four words from w has a correctable normal read (R469). -/
def State.otpReadable (s : State) (w : Nat) : Bool :=
  (List.range 4).all (fun k => match s.otpWord (w + k) with | some x => x.normal.isSome | none => false)

/-- The secret shadow is loaded unless RETURNED, and the KEK derived where R469 lets it be (R313, R457 step 3). -/
def State.deriveKek (s : State) : State :=
  let life := s.rd R.PRT.LIFE.LIFECYCLE
  let bank := bankWord (s.rd R.OTP.STATUS.OWNER_BANK)
  let s : State := if life = 3 then s else { s with per := { s.per with secret := some (s.otpBytes 32) } }
  if (life = 1 ∨ life = 2) ∧ s.otpReadable 32 ∧ s.rd R.OTP.STATUS.OWNER_BANK ≠ 0 ∧ s.otpReadable bank then
    let kek := kdf (s.otpBytes 32) [0x4B, 0x45, 0x4B] (s.otpBytes bank)
    ({ s with per := { s.per with kek := some kek } } : State).wr R.PRT.LIFE.KEK_OK 1
  else s

/-- A Boot failure is recorded; what depends on it is left out, and step 8 follows (R457). -/
def State.bootFail (s : State) (code : Nat) : State := (s.wr R.MOD.STATUS.BOOT_FAIL code).wr R.MOD.STATUS.BOOT_STEP 8

/-- Stored lane repairs of channel c: what the stored assignment carries stays, the rest is repaired, or the channel
starts narrow (R51). A pseudo-channel that was torn is torn for the rest of the module's life (R59). -/
def State.bootLanes (s : State) (c : Nat) : State :=
  let s := ([0, 1].filter (fun pc => s.per.gone.contains (2 * c + pc))).foldl (fun (s : State) pc => s.tear (2 * c + pc)) s
  let failed := [0, 1].flatMap (fun pc => ((List.range 41).filter (s.laneFailed c pc)).map (fun n => (pc, n)))
  if ¬ s.narrowed c ∧ (s.healthySv c).length < failed.length then s.goNarrow true c
  else failed.foldl (fun s l => if (s.carrier c l.1 l.2).isSome then s else s.repairLane c l.1 l.2) s

/-- Boot training leaves a reference on ladder B (16 R382, R387). -/
def State.bootLadder (s : State) (c bitIx : Nat) : State :=
  let key := 8 * c + bitIx / 2
  let w := (s.cal.refs.find key).getD (bootRefs c (bitIx / 2))
  { s with cal := { s.cal with refs := s.cal.refs.put key (setBit w (if bitIx % 2 = 0 then 17 else 23) true) } }

/-- Boot training with what its fill and it itself did: activates, failed lanes and plies, swapped ladders; every set is stamped (R382,
R383, R387). -/
def State.bootTrain (s : State) (r : BootReport) : State :=
  let s := r.acts.foldl State.fillRow s
  let s := r.lanes.foldl (fun s l => s.failLane l.1 l.2.pc l.2.lane) s
  let s := r.plies.foldl (fun s p => (s.tear (2 * p.1.val + p.2.val)).raise Src.calPlyFail) s
  let s := r.swaps.foldl (fun s w => (s.ladderSwap w.1 w.2).bootLadder w.1 w.2) s
  [3, 2, 1, 0].foldl State.trainPoint s

/-- A BIST run starts (R458, R460). -/
def State.bistBegin (s : State) (boot : Bool) : State :=
  let s := ((s.wr R.BST.STATUS.STATE 1).wr R.BST.STATUS.WAVE 0).wr R.BST.STATUS.FAILED 0
  let s := (s.wr R.BST.STATUS.REPAIRED 0).wr R.BST.STATUS.LOST 0
  { s with bist := { s.bist with waves := List.range 8, boot := boot } }

/-- Every pseudo-channel is torn. -/
def State.allTorn (s : State) : Bool := (List.range 64).all s.tornPc

/-- Module metadata is set up: the maps and the tree cleared in every copy, the system bolt zeroed and shown in entry 0, and the
running firmware image, that of mask ROM, copied into metadata and loaded (R457 step 7, R143, 15 R369). -/
def State.bootMeta (s : State) : State :=
  let s : State := { s with mem := { s.mem with map := {}, sysBolt := {}, dwell := {}, rebuilding := [], sysLost := [], sysBad := {} },
                            guard := { s.guard with nodes := {}, nodeTags := {} },
                            fw := { s.fw with active := none, inMeta := true }, thimble := { s.thimble with sram := .rom } }
  ((s.wr R.BLT.BOLT_BASE.BASE_SW 0xFFFF00 0).wr R.BLT.BOLT_BASE.LEN_SW 256 0).wr R.BLT.BOLT_ATTR.STATE 2 0

/-- Step 8: the mode that R461 chooses, and the end of Boot; a QP set up before Maintenance enters ERROR (05 R121, R453, R457). -/
def State.bootEnd (s : State) : State :=
  let maint := s.on R.MOD.STATUS.BOOT_FAIL ||
    (match s.boot.endMaint with | some b => b | none => s.on R.MOD.STATUS.MAINT_STRAP)
  let s : State := { s with boot := { s.boot with endMaint := none } }
  let s := if maint then s.qpsEnd else s
  let s := (s.wr R.MOD.BOOT_END.TICK s.tick).inMode (if maint then modeMaint else modeServe)
  (s.wr R.FLT.ALIVE.BOOT_HELD 0).aliveFollow

/-- The step after step n starts. -/
def State.nextStep (s : State) (n : Nat) : State := s.wr R.MOD.STATUS.BOOT_STEP (n + 1)

/-- Boot step n is done, with what it found (R457). Step 2 waits for the judgement of REFCLK, or its timeout, and of every PLL
(R72, R73); step 6 for its waves. -/
def State.bootStep (s : State) (n : Nat) (r : BootReport) : State :=
  match n with
  | 1 => s.nextStep 1
  | 2 =>
    if (s.on R.CLK.STATUS.REF_OK ∨ s.on R.CLK.STATUS.REF_SEL) ∧ s.rd R.CLK.STATUS.PLL_LOCK = 255 then s.nextStep 2 else s
  | 3 => if r.romOk then (s.applyPatches.deriveKek).nextStep 3 else s.bootFail 1
  | 4 => if r.railsOk then ((List.range 32).foldl State.bootLanes s).nextStep 4 else s.bootFail 2
  | 5 =>
    let s := (s.bootTrain r).nextStep 5
    if s.on R.MOD.BOOT_CFG.BIST_SKIP then s else s.bistBegin true
  | 6 => if ¬ s.bist.waves.isEmpty then s else if s.allTorn then s.bootFail 3 else s.nextStep 6
  | 7 => s.bootMeta.nextStep 7
  | _ => s.bootEnd

/-- BOOT_STEP_DONE (R457). -/
def execBootStepDone (r : BootReport) (st : State) : Host.Outcome State Fault Refusal :=
  live st (if st.booting ∧ ¬ st.boot.resetHeld then st.bootStep (st.rd R.MOD.STATUS.BOOT_STEP) r else st)

/-- The repair records of the bank of a failing row. -/
def State.bankRepairs (s : State) (f : RowFail) : List Nat := s.repairsOf f.channel f.pc f.ply f.bank

/-- Spare n of a bank is marked bad (R459). -/
def badSpare (rs : List Nat) (n : Nat) : Bool := rs.any (fun v => bit v 33 && bits v 27 6 == n)

/-- The row that spare n repairs now, if it repairs one. -/
def spareRow (rs : List Nat) (n : Nat) : Option Nat :=
  let live := rs.filter (fun v => !bit v 33)
  match (live.filter (fun v => bits v 27 6 == n)).getLast? with
  | some v =>
    let row := bits v 12 15
    match (live.filter (fun w => bits w 12 15 == row)).getLast? with
    | some w => if bits w 27 6 = n then some row else none
    | none => none
  | none => none

/-- The lowest spare of a bank that repairs nothing, has repaired nothing and is not bad. -/
def usableSpare (rs : List Nat) : Option Nat :=
  (List.range 64).find? (fun n => !rs.any (fun v => bits v 27 6 == n))

/-- The lowest free record word (R459, R471). -/
def State.freeRecord (s : State) : Option Nat := ((List.range 512).map (3072 + ·)).find? (fun w => !bit (s.pat w) 63)

/-- A soft repair record (R459). -/
def repairRecord (f : RowFail) (row spare : Nat) (bad : Bool) : Nat :=
  f.channel.val + f.pc.val * 2 ^ 5 + f.ply.val * 2 ^ 6 + f.bank.val * 2 ^ 8 + row * 2 ^ 12 + spare * 2 ^ 27 +
    bad.toNat * 2 ^ 33 + 2 ^ 63

/-- A row moves to the lowest usable spare of its bank with a record; none where there is no spare or no record word. -/
def State.repairRow (s : State) (f : RowFail) (row : Nat) : Option State :=
  match usableSpare (s.bankRepairs f), s.freeRecord with
  | some n, some w => some (s.patRecord w (repairRecord f row n false))
  | _, _ => none

/-- A row that no spare can replace: its slot is withheld, or its pseudo-channel torn; the outcome (R459). -/
def State.loseRow (s : State) (f : RowFail) (row : Nat) : State × Nat :=
  let q := 2 * f.channel.val + f.pc.val
  let (s, o) :=
    if 32512 ≤ row then (s.tear q, 2)
    else if s.mem.withheld.contains (q, row) then (s, 1)
    else
      let s : State := { s with mem := { s.mem with withheld := s.mem.withheld ++ [(q, row)] } }
      ((s.bump R.BST.STATUS.WITHHELD).capCheck.seamCheck, 1)
  ((s.raise Src.bistFail).raise Src.spareRowsFull, o)

/-- What R459 does with a failing row; the outcome. -/
def State.handleRow (s : State) (f : RowFail) : State × Nat :=
  let mark (s : State) (n : Nat) : State :=
    match s.freeRecord with | some w => s.patRecord w (repairRecord f 0 n true) | none => s
  if f.spare then
    let n := f.row.val % 64
    let was := spareRow (s.bankRepairs f) n
    let s := mark s n
    match was with
    | some row => (match s.repairRow f row with | some t => (t, 3) | none => s.loseRow f row)
    | none => (s, 3)
  else
    match s.repairRow f f.row.val with
    | some t => (t.bump R.BST.STATUS.REPAIRED, 0)
    | none => s.loseRow f f.row.val

/-- Rows of pseudo-channel q that hold data (R460). -/
def State.dataRows (s : State) (q : Nat) : List Nat := (s.mem.groups.filter (fun g => s.groupOn g q)).map (·.row)

/-- A physical row that a run tests in a bank with some repair records (R458, R460): spares that are not bad; data and metadata
rows not repaired; in Maintenance no metadata, no slot that holds data and no spare in use. -/
def bistTests (boot : Bool) (used rs : List Nat) (r : Nat) : Bool :=
  if 32768 ≤ r then !badSpare rs (r - 32768) && (boot || (spareRow rs (r - 32768)).isNone)
  else r < 32767 && !deadRow rs r && (boot || (r < 32512 && !used.contains r))

/-- The physical row of a failure. -/
def failedRow (f : RowFail) : Nat := if f.spare then 32768 + f.row.val % 64 else f.row.val

/-- The failure is one that the run can find. -/
def State.bistFinds (s : State) (f : RowFail) : Bool :=
  let q := 2 * f.channel.val + f.pc.val
  !s.tornPc q && bistTests s.bist.boot (s.dataRows q) (s.bankRepairs f) (failedRow f)

/-- The rows of a bank that a run tests: spares, data rows, metadata rows (R458). -/
def bistRows (boot : Bool) (used rs : List Nat) : List Nat :=
  ((List.range 64).map (32768 + ·) ++ List.range 32767).filter (bistTests boot used rs)

/-- The slots of a run in one bank: each row is written and read twice, 4 slots at a time, as internal master 70. What is left of
its guarantee is GUARANTEED; of the rest each is issued with the others of the wave in flight (R23, R287, R458; log entry 88). -/
def State.bistSlots (s : State) (c ply rows : Nat) : State :=
  let n := 16 * rows
  let g := min n (s.rd R.QOS.MASTER_STAT.EFF_GUAR 70 - s.reg.total.get 0 70)
  let rest := if s.rd R.QOS.MASTER.BUDGET 70 ≤ s.bistFlight - 1 then 2 else 1
  ((((s.countClass 70 0 g).countClass 70 rest (n - g)).burst c ply true (8 * rows)).burst c ply false (8 * rows)).slotServed 70 n

/-- A run has written the rows that it tests: what they held is gone, and the pattern stands in them (R458). -/
def State.bistWipe (s : State) (used : List Nat) (q : Nat) : State :=
  let tested (k : Nat) : Bool :=
    k / 2 ^ 25 == q && (s.bist.boot || (k / 1024 % 2 ^ 15 < 32512 && !used.contains (k / 1024 % 2 ^ 15)))
  { s with mem := { s.mem with
      cells := s.mem.cells.keepKeys (fun k => !tested (k / 72)), written := s.mem.written.keepKeys (fun k => !tested k),
      patterned := if s.mem.patterned.contains q then s.mem.patterned else s.mem.patterned ++ [q] } }

/-- A wave has used up what its channel's cell had left in the credit period (R288, 17 R406; log entry 88). -/
def State.spendCredit (s : State) (c : Nat) : State := s.setChan c { s.chan c with credit := 0 }

/-- The test of one bank: its repairs, activate table and threshold before it, what its activates come to, and its rows. -/
structure BankRun where
  repairs : List Nat
  table : List RowCount
  thresh : Nat
  trace : RowTrace
  rows : Nat

/-- A bank with some repair records is tested: an activate for each row (R352, R353). -/
def testBank (boot : Bool) (used rs : List Nat) (table : List RowCount) (thresh : Nat) : BankRun :=
  let rows := bistRows boot used rs
  { repairs := rs.map (· / 4096), table := table, thresh := thresh, trace := rowTrace rs thresh table rows, rows := rows.length }

/-- A run tests bank n of channel c. A bank that starts like the one before it ends like it. -/
def State.bistBank (used : List Nat) (c : Nat) (acc : State × Option BankRun) (n : Nat) : State × Option BankRun :=
  let (s, last) := acc
  let x := s.chan c
  let rs := s.repairsOf c (n / 64) (n / 16 % 4) (n % 16)
  let table := x.tables.get [] n
  let again := last.filter (fun b => b.repairs == rs.map (· / 4096) && b.table == table && b.thresh == x.thresh)
  let b := match again with | some b => b | none => testBank s.bist.boot used rs table x.thresh
  let s := (s.takeTrace c n b.trace).bistSlots c (n / 16 % 4) b.rows
  (s.setChan c { s.chan c with openRow := (s.chan c).openRow.del n }, some b)

/-- A run tests the pseudo-channels of channel c that are in service. -/
def State.bistChannel (s : State) (c : Nat) : State :=
  [0, 1].foldl (fun (s : State) pc =>
    if s.tornPc (2 * c + pc) then s
    else
      let used := s.dataRows (2 * c + pc)
      let t := (((List.range 64).map (64 * pc + ·)).foldl (State.bistBank used c) (s, none)).1
      (t.bistWipe used (2 * c + pc)).spendCredit c) s

/-- An entry of the result FIFO, laid out as BST.RESULT. -/
def bistResult (f : RowFail) (outcome : Nat) : Nat :=
  f.channel.val + f.pc.val * 2 ^ 5 + f.ply.val * 2 ^ 6 + f.bank.val * 2 ^ 8 +
    (failedRow f % 2 ^ 15) * 2 ^ 12 + f.spare.toNat * 2 ^ 27 + f.granule.val * 2 ^ 28 +
    f.codeword.val * 2 ^ 30 + f.bitIx.val * 2 ^ 32 + outcome * 2 ^ 42 + 2 ^ 63

/-- A failing row enters the FIFO and is handled; in Maintenance it is repaired only with REPAIR = 1 (R459, R460). -/
def State.rowFailed (s : State) (f : RowFail) : State :=
  let s := s.bump R.BST.STATUS.FAILED
  let (s, o) := if s.bist.boot ∨ s.on R.BST.CTRL.REPAIR then s.handleRow f else (s, 3)
  if s.bist.fifo.length < 64 then { s with bist := { s.bist with fifo := s.bist.fifo ++ [bistResult f o] } }
  else s.wr R.BST.STATUS.LOST 1

/-- A wave ends under master 70's entry, which covers raw frames only: its slots are charged, and its failing rows handled (R23,
R458, R459, 13 R338; log entry 88). -/
def State.bistWave (s : State) (fails : List RowFail) : State :=
  match s.bist.waves with
  | [] => s
  | w :: rest =>
    if ¬ s.waveReady w then s
    else if ¬ (s.on R.PRT.MRIGHTS.READ 70 ∧ s.on R.PRT.MRIGHTS.WRITE 70) then s.countMaster
    else
    let s := (waveChannels w).foldl State.bistChannel s
    let s := fails.foldl (fun s f =>
      if (waveChannels w).contains f.channel.val ∧ s.bistFinds f then s.rowFailed f else s) s
    let s : State := { s with bist := { s.bist with waves := rest } }
    match rest with
    | [] => s.wr R.BST.STATUS.STATE 2
    | n :: _ => s.wr R.BST.STATUS.WAVE n

/-- BIST_WAVE_DONE (R458-R460): a run goes on in Boot and Maintenance only. -/
def execBistWaveDone (fails : List RowFail) (st : State) : Host.Outcome State Fault Refusal :=
  live st (if st.booting ∨ st.mode = modeMaint then st.bistWave fails else st)

/-- A write of BST.CTRL (R459, R460). -/
def State.writeBstCtrl (s : State) (v : Nat) : SetupResult :=
  let start := part v R.BST.CTRL.START == 1
  let t := s.take R.BST.CTRL.REPAIR v
  let t : State := if part v R.BST.CTRL.POP = 1 then { t with bist := { t.bist with fifo := t.bist.fifo.drop 1 } } else t
  s.checked [(start && (s.mode != modeMaint || !s.bist.waves.isEmpty), stDenied)] (if start then t.bistBegin false else t)

/-- BIST_START (R460). -/
def execBistStart (v : BitVec 64) (path : Path) (st : State) : Host.Outcome State Fault Refusal :=
  live st (st.setup path 0x38000 (st.writeBstCtrl v.toNat))

/-- BIST_POP (R459). -/
def execBistPop (v : BitVec 64) (path : Path) (st : State) : Host.Outcome State Fault Refusal :=
  live st (st.setup path 0x38000 (st.writeBstCtrl v.toNat))

end Sys2Proof.Machine
end

