-- ==== Sys2Proof/Machine/Cleaner.lean ====
section
/-! DEFINITION. Write-backs that wait for the channel, the cleaner, and commands that fail CA parity (02 R47, 10 R267-R270,
14 R357). -/

namespace Sys2Proof.Machine

/-- The dirty ways of a set that the cleaner may write back, least recent first (R266, R270). -/
def State.dirtyWays (s : State) (set : Nat) : List Nat :=
  let dirty (w : Nat) : Bool :=
    match s.wayLine set w with
    | some x => !s.keyLost x.addr && x.dirtySecs.any (fun k => (s.wbOf x.addr k).isNone)
    | none => false
  let t := s.lng.lru.get 0 set
  ((List.range 16).foldl (fun (acc : List Nat) _ =>
    match leastRecent t (fun w => dirty w && !acc.contains w) with
    | some w => acc ++ [w]
    | none => acc) [])

/-- The cleaner's visit to a set: at most n of its dirty lines, how many are still to be found, and whether the set is done
(R270). -/
def State.cleanSet (s : State) (set n : Nat) : State × Nat × Bool :=
  let all := s.dirtyWays set
  let ws := all.take n
  (ws.foldl (fun (s : State) w => match s.wayLine set w with | some x => s.startWbs 69 x | none => s) s,
    n - ws.length, decide (all.length ≤ n))

/-- Every slice visits the next set of its cursor, until n lines are found or each slice has gone round (R270). -/
def State.cleanRound : Nat → State → Nat → State
  | 0, s, _ => s
  | k + 1, s, n =>
    if n = 0 then s else
    let (s, n) := (List.range 32).foldl (fun (acc : State × Nat) slice =>
      if acc.2 = 0 then acc else
      let set := acc.1.lng.cursor.get 0 slice
      let (t, n, done) := acc.1.cleanSet (slice * 512 + set) acc.2
      (if done then { t with lng := { t.lng with cursor := t.lng.cursor.set 0 slice ((set + 1) % 512) } } else t, n)) (s, n)
    s.cleanRound k n

/-- Lines that stay DIRTY with no write-back in progress, down to DIRTY_LOW, get one. -/
def State.cleanMore (s : State) : State :=
  let low := s.rd R.LNG.CFG.DIRTY_LOW * 1024
  s.cleanRound 512 (s.dirtyLines - low)

/-- Write-backs in progress that are not stuck. -/
def State.wbsLive (s : State) : Bool := s.lng.wbs.any (fun w => w.fails < 4)

/-- The cleaner goes on, or it or CLEAN_ALL ends once nothing it started is left (R270). -/
def State.cleanNext (s : State) : State :=
  if ¬ s.on R.LNG.STATUS.CLEANING ∨ s.wbsLive then s
  else
    let t := if s.lng.cleanAll then s else s.cleanMore
    if t.wbsLive then t
    else ({ t with lng := { t.lng with cleanAll := false } } : State).wr R.LNG.STATUS.CLEANING 0

/-- CLEANER_START (R270). -/
def execCleanerStart (st : State) : Host.Outcome State Fault Refusal :=
  live st (if st.rd R.LNG.CFG.DIRTY_HIGH * 1024 < st.dirtyLines ∧ ¬ st.on R.LNG.STATUS.CLEANING ∧ st.mode ≠ modeHold then
    ((st.wr R.LNG.STATUS.CLEANING 1).cleanMore).cleanNext
  else st)

/-- Every dirty line gets a write-back (LNG.CMD). -/
def State.cleanEvery (s : State) : State :=
  let s : State := { s with lng := { s.lng with cleanAll := true } }
  ((s.wr R.LNG.STATUS.CLEANING 1).startAll 69 (fun _ => true)).cleanNext

/-- A write of LNG.CMD. -/
def State.writeLngCmd (s : State) (v : Nat) : SetupResult :=
  if part v R.LNG.CMD.CLEAN_ALL = 0 then s.accept
  else if s.on R.LNG.STATUS.CLEANING then s.refuse stDenied
  else s.cleanEvery.accept

/-- CLEAN_ALL (R270). -/
def execCleanAll (v : BitVec 64) (path : Path) (st : State) : Host.Outcome State Fault Refusal :=
  live st (st.setup path 0x9028 (st.writeLngCmd v.toNat))

/-- A sector's write-back is over: stored where the sector is still DIRTY in its line and its key is there (15 R369). -/
def State.storeWb (s : State) (w : WriteBack) : State :=
  let t := s.setWbs (s.lng.wbs.filter (fun b => !(b.line == w.line && b.sector == w.sector)))
  match (if s.keyLost w.line then none else s.lineAt w.line) with
  | none => t
  | some x => if (x.sec w.sector).dirty then s.cleanSector w.master x w.sector else t

/-- The slot of a line's write-backs is complete once the controller has answered every sector of it (R283, R286). -/
def State.backDone (s : State) (l : Nat) : State :=
  if s.lng.wbs.any (fun w => w.line == l && w.flying) then s else
  match s.issuedSlot (.back l) with | some (c, k) => s.slotDone c k | none => s

/-- The commands of a line's write-back are issued by now, where its controller may issue them. -/
def State.runBack (s : State) (l : Nat) : Option State :=
  let t := s.runTo (.back l)
  if (t.issuedSlot (.back l)).isSome then some t else none

/-- A move goes on behind a write-back of its swatch (09 R250). -/
def State.wbEnds (s : State) (l : Nat) : State := ((s.backDone l).renewEntering).moveStep (l / 256)

/-- The channel accepts a sector's write-back: stored, its DIRTY bit clear; the line's write is one slot, whose commands its
controller has issued (R267, R344). -/
def State.acceptWb (s : State) (l k : Nat) : State :=
  match s.wbOf l k with
  | none => s
  | some w =>
    if ¬ w.flying then s else
    match s.runBack l with
    | some t => (t.storeWb w).wbEnds l
    | none => s

/-- WRITE_BACK_ACCEPTED (R267). -/
def execWriteBackAccepted (line : BitVec 32) (sector : Fin 4) (st : State) : Host.Outcome State Fault Refusal :=
  live st (if st.mode = modeHold then st else (st.acceptWb line.toNat sector).cleanNext)

/-- The state with the write-back of a sector changed. -/
def State.setWb (s : State) (l k : Nat) (f : WriteBack → WriteBack) : State :=
  s.setWbs (s.lng.wbs.map (fun b => if b.line = l ∧ b.sector = k then f b else b))

/-- A write-back has met an uncorrectable command error: it waits to be tried again; after the fourth the sector stays DIRTY and
LINING_WB_FAIL is raised (R268). -/
def State.failWb (s : State) (l k : Nat) : State :=
  match s.wbOf l k with
  | none => s
  | some w =>
    if ¬ w.flying then s else
    let n := min 4 (w.fails + 1)
    let s := (s.setWb l k (fun b => { b with fails := n, flying := false })).wbEnds l
    if n = 4 then s.raise Src.liningWbFail else s

/-- The key of sector k of a line where its bolt has it on the stack. -/
def State.lineKey (s : State) (l k : Nat) : Nat := let (q, row, sg) := s.linePlace l; sectorKey q row sg k

/-- A write-back of sector k of line l is on its way again, in a slot of its own (R268). -/
def State.flyAgain (s : State) (l k : Nat) (m : Nat) : State :=
  let s := s.setWb l k (fun b => { b with flying := true })
  if s.slotsFor (.back l) = 0 then s.oweAside m l (.back l) else s

/-- A failed write-back is tried again, in a slot of its own: accepted as soon as the slot's commands are issued (R268, R344). A
command error that it meets again recalibrates the CA lanes of its pseudo-channel and is logged with the lanes that mismatched, like
the first (R47, R357). Where the controller may issue nothing yet, the write-back stays on its way. -/
def State.retryWb (s : State) (l k : Nat) (bad : Option (BitVec 5)) : State :=
  match s.wbOf l k with
  | none => s
  | some w =>
    if w.flying ∨ 4 ≤ w.fails then s else
    let s := ((s.bump R.LNG.EVICT.WB_RETRIES).count 103).flyAgain l k w.master
    match bad with
    | none => (s.acceptWb l k).cleanNext
    | some lanes =>
      match s.runBack l with
      | none => s
      | some t =>
        let q := (t.linePlace l).1
        let t := (t.countChan (q / 2) 9).calUrgent (q / 2) (q % 2) [36, 37, 38, 39, 40]
        ((t.commandError (t.lineKey l k) lanes.toNat 3).failWb l k).cleanNext

/-- WRITE_BACK_RETRY (R268). -/
def execWriteBackRetry (line : BitVec 32) (sector : Fin 4) (commandError : Option (BitVec 5)) (st : State) :
    Host.Outcome State Fault Refusal :=
  live st (if st.mode = modeHold then st else st.retryWb line.toNat sector commandError)

/-- A read of line l whose command has failed at the controller, for no fill: its slot is over, and the descriptor that asked for it
receives UNCORRECTABLE (R357). -/
def State.readFailed (s : State) (l : Nat) : State :=
  let (q, row, sg) := s.linePlace l
  let place := slotAt 0 q row sg true (.work none)
  match (s.chan place.1).admitted.find? (fun k =>
      (match k.use with | .work o => o.isSome | _ => false) && { k with master := 0, use := .work none, cls := 1, dry := false, since := 0 } == place.2) with
  | some k => (s.slotDone place.1 k).failSlot k stUncorrectable
  | none => s

/-- An uncorrectable command error of a command that served a line: a fill's sector will fail, another read fails for its requester; a
write-back fails (R268, R357). -/
def State.commandFailed (s : State) (r : CaReport) : State :=
  let l := r.line.toNat
  let s := s.commandError (s.lineKey l r.sector) r.lanes.toNat r.failures
  if r.isRead then
    if s.lng.fills.contains l then { s with lng := { s.lng with cmdErr := s.lng.cmdErr ++ [(l, r.sector.val)] } } else s.readFailed l
  else ((s.runBack l).getD s).failWb l r.sector

/-- CA_PARITY_ERROR (R47, R357): every CA lane of the pseudo-channel is recalibrated; after three failed reissues the command
has failed. -/
def execCaParityError (c : Fin 32) (pc : Fin 2) (r : CaReport) (st : State) : Host.Outcome State Fault Refusal :=
  live st (
    if st.tornPc (2 * c.val + pc.val) ∨ st.mode = modeHold then st else
    let s := (st.countChan c 9).calUrgent c pc [36, 37, 38, 39, 40]
    if 3 ≤ r.failures ∧ s.onStack r.line.toNat then s.commandFailed r else s)

end Sys2Proof.Machine
end

