-- ==== Sys2Proof/Machine/Clocks.lean ====
section
/-! DEFINITION. The clock monitor: REFCLK and the PLLs against the backup oscillator, the loss of the reference and its return
(03 R62, R70-R80). -/

namespace Sys2Proof.Machine

/-- The clock monitor's state with a change. -/
def State.setClocks (s : State) (f : Clocks → Clocks) : State := { s with clocks := f s.clocks }

/-- A count of one window lies in range: 1600 edges within 2 % (R71). -/
def inRange (n : Nat) : Bool := decide (1568 ≤ n ∧ n ≤ 1632)

/-- The reference mux starts to switch, to the backup oscillator or back (R75, R76, R78). -/
def State.startSwitch (s : State) (backup : Bool) : State := s.setClocks (fun k => { k with moving := some backup })

/-- PLLs leave holdover as a window ends that shows edges of their reference: any window while it is the backup oscillator, else
one with an in-range count, or with some count for a PLL that was in holdover before it began (R77; log entry 87). -/
def State.endHoldover (s : State) (n : Nat) : State :=
  let held := (List.range 8).filter (fun k => s.rdBit R.CLK.STATUS.PLL_HOLDOVER k)
  let stay := held.filter (fun k => !(s.on R.CLK.STATUS.REF_SEL || inRange n || (n != 0 && s.clocks.holding.contains k)))
  let s := held.foldl (fun (s : State) k => s.wrBit R.CLK.STATUS.PLL_HOLDOVER k (stay.contains k)) s
  s.setClocks (fun k => { k with holding := stay })

/-- Both clocks have stopped: every island stops, and ALIVE stops toggling (R80). -/
def State.stopClocks (s : State) : State :=
  ((s.setClocks (fun k => { k with stopped := true })).wr R.FLT.ALIVE.TOGGLING 0).islands

/-- The reference mux has switched, forced or by its handshake; the PLLs leave holdover and their lock judgement runs anew
(R75-R78). -/
def State.switchDone (s : State) (forced : Bool) : State :=
  match s.clocks.moving with
  | none => s
  | some backup =>
    let s := s.setClocks (fun k => { k with moving := none, good := {}, bad := {}, hushed := if backup then k.hushed else [] })
    let s := ((s.put R.CLK.STATUS.REF_SEL backup).put R.CLK.STATUS.FORCED forced).wr R.CLK.STATUS.PLL_HOLDOVER 0
    let s := (s.wr R.CLK.SWITCH_TICK.TICK s.tick).bump (if backup then R.CLK.EVENTS.TO_BACKUP else R.CLK.EVENTS.RETURNS)
    if forced then s.bump R.CLK.EVENTS.FORCED_COUNT else s

/-- A loopback of a lane ends with the reference: its fields read back as zero, and the lane is squelched until the reference
returns (04 R107). -/
def State.endLoop (s : State) (l : Nat) : State :=
  if s.on R.SDS.CTRL.LOOPBACK l then
    (((s.wr R.SDS.CTRL.LOOPBACK 0 l).wr R.SDS.CTRL.PRBS_GEN 0 l).wr R.SDS.CTRL.PRBS_CHK 0 l).setClocks
      (fun k => { k with hushed := k.hushed ++ [l] })
  else s

/-- The mux leaves a lost REFCLK: it starts to switch, or a switch back that is pending is dropped (R75; log entry 30). -/
def State.leaveRef (s : State) : State :=
  if s.on R.CLK.STATUS.REF_SEL then s.setClocks (fun k => { k with moving := none }) else s.startSwitch true

/-- A source is raised beside a trap that takes place whatever its reaction; a trap that the reaction asks for is the same one (19
R448). -/
def State.raiseTrap (s : State) (i : Nat) : State :=
  let t := s.raise i
  { t with due := { t.due with traps := s.due.traps + 1 } }

/-- The reference is lost: the mux leaves it, the Thimble takes a trap, CLK_REF_LOST is raised, both ports and the Tack link drop,
and sweeps are abandoned; loopbacks end (R75, 04 R107, 16 R386). -/
def State.refLost (s : State) : State :=
  let s := ((List.range 16).foldl State.endLoop s).testMark
  (((((s.leaveRef).raiseTrap Src.clkRefLost).portLinkDown 0).portLinkDown 1).tackLinkDown).abandonSweeps

/-- The module returns to REFCLK where it is on the backup oscillator and REFCLK is judged good (R78). -/
def State.returnRef (s : State) : State :=
  if s.on R.CLK.STATUS.REF_SEL ∧ s.on R.CLK.STATUS.REF_OK ∧ s.clocks.moving = none then s.startSwitch false else s

/-- REFCLK's count of a window: 64 windows in range judge it good, 4 out of range end that and are a reference loss, also on the
backup oscillator (R71, R72, R75). -/
def State.judgeRef (s : State) (n : Nat) : State :=
  let s := (s.wr R.CLK.REF_COUNT.LAST n).wr R.CLK.REF_COUNT.MIN (min (n % 65536) (s.rd R.CLK.REF_COUNT.MIN))
  let s := s.wr R.CLK.REF_COUNT.MAX (max (n % 65536) (s.rd R.CLK.REF_COUNT.MAX))
  if inRange n then
    let s := (s.wr R.CLK.STATUS.GOOD_RUN (min 64 (s.rd R.CLK.STATUS.GOOD_RUN + 1))).wr R.CLK.STATUS.BAD_RUN 0
    if s.rd R.CLK.STATUS.GOOD_RUN = 64 then s.wr R.CLK.STATUS.REF_OK 1 else s
  else
    let s := (s.wr R.CLK.STATUS.GOOD_RUN 0).wr R.CLK.STATUS.BAD_RUN (min 4 (s.rd R.CLK.STATUS.BAD_RUN + 1))
    if s.rd R.CLK.STATUS.BAD_RUN = 4 ∧ s.on R.CLK.STATUS.REF_OK then
      (s.wr R.CLK.STATUS.REF_OK 0).refLost
    else s

/-- PLL k is judged locked: its islands leave reset (R73). -/
def State.pllLock (s : State) (k : Nat) : State := s.wrBit R.CLK.STATUS.PLL_LOCK k true

/-- The lock judgement of PLL k fails: PLL_UNLOCK is raised, and what it clocks is held in reset (R77). -/
def State.pllFail (s : State) (k : Nat) : State :=
  let s := (s.wrBit R.CLK.STATUS.PLL_LOCK k false).setClocks (fun x => { x with good := x.good.set 0 k 0 })
  let s := s.raise Src.pllUnlock
  match k with
  | 4 => s.portLinkDown 0
  | 5 => s.portLinkDown 1
  | 6 => s.tackLinkDown
  | 7 => (((s.portLinkDown 0).portLinkDown 1).tackLinkDown).thimbleReset
  | _ => (tierChannels k).foldl State.abandonSweep s

/-- The scaled count of PLL k in a window (R73, R77). -/
def State.judgePll (s : State) (counts : List Nat) (k : Nat) : State :=
  let lock := s.rdBit R.CLK.STATUS.PLL_LOCK k
  if inRange (counts.getD k 0) then
    let g := min 64 (s.clocks.good.get 0 k + 1)
    let s := s.setClocks (fun x => { x with good := x.good.set 0 k g, bad := x.bad.set 0 k 0 })
    if g = 64 ∧ ¬ lock then s.pllLock k else s
  else
    let b := min 4 (s.clocks.bad.get 0 k + 1)
    let s := s.setClocks (fun x => { x with good := x.good.set 0 k 0, bad := x.bad.set 0 k b })
    if b = 4 ∧ lock then s.pllFail k else s

/-- A comparison window ends (R62, R71-R78): in Boot the PLLs have a reference only once REFCLK is judged good or Boot goes
on without it. -/
def State.refWindow (s : State) (w : ClockWindow) : State :=
  let s := (s.judgeRef w.refCount).endHoldover w.refCount
  let s := (s.wr R.CLK.WEAVE_SPEED.SPEED w.speed).wr R.CLK.BKP.ERR w.bkpErr.toNat
  let s := if s.on R.CLK.STATUS.REF_OK ∨ s.on R.CLK.STATUS.REF_SEL ∨ ¬ s.booting then
      (List.range 8).foldl (fun (s : State) k => s.judgePll w.pllCounts k) s
    else s
  let s := if s.on R.CLK.CTRL.AUTO_RETURN then s.returnRef else s
  s.islands

/-- REF_WINDOW_END (R71): without the backup oscillator no window ends (R80). -/
def execRefWindowEnd (w : ClockWindow) (st : State) : Host.Outcome State Fault Refusal :=
  live st (if st.on R.CLK.STATUS.BKP_OK then st.refWindow w else st)

/-- The clock that the PLLs do not take as their reference is running: the backup oscillator beside REFCLK, or REFCLK, judged good,
beside the backup oscillator (R80; log entry 87). -/
def State.otherClock (s : State) : Bool := if s.on R.CLK.STATUS.REF_SEL then s.on R.CLK.STATUS.REF_OK else s.on R.CLK.STATUS.BKP_OK

/-- PLL k's reference shows no edge: it is in holdover, and stays in use while its lock judgement runs anew; where the other clock
is lost too, both have stopped (R77, R80; log entry 87). -/
def State.holdover (s : State) (k : Nat) : State :=
  let s := (s.wrBit R.CLK.STATUS.PLL_HOLDOVER k true).setClocks (fun x => { x with good := x.good.set 0 k 0 })
  if s.otherClock then s else s.stopClocks

/-- REFCLK is running: as the reference it shows edges to every PLL, and beside the backup oscillator it is judged good (R80; log
entry 87). -/
def State.refRuns (s : State) : Bool :=
  if s.on R.CLK.STATUS.REF_SEL then s.on R.CLK.STATUS.REF_OK else s.rd R.CLK.STATUS.PLL_HOLDOVER == 0

/-- The backup oscillator shows no edge: with REFCLK running that is raised, and a module on the backup goes back to REFCLK and stays
in service on it; without, both clocks have stopped (R80; log entry 87). -/
def State.backupLost (s : State) : State :=
  let t := s.wr R.CLK.STATUS.BKP_OK 0
  if ¬ s.refRuns then t.stopClocks
  else if s.on R.CLK.STATUS.REF_SEL then (t.startSwitch false).raise Src.clkBackupLost
  else t.raise Src.clkBackupLost

/-- PLL_HOLDOVER (R77, R80). -/
def execPllHoldover (pll : Fin 8) (st : State) : Host.Outcome State Fault Refusal := live st (st.holdover pll)

/-- REF_MUX_FORCED_SWITCH (R76). -/
def execRefMuxForcedSwitch (st : State) : Host.Outcome State Fault Refusal := live st (st.switchDone true).islands

/-- REF_MUX_SWITCH_DONE (R76, R78). -/
def execRefMuxSwitchDone (st : State) : Host.Outcome State Fault Refusal := live st (st.switchDone false).islands

/-- CLK_BACKUP_LOST (R80). -/
def execClkBackupLost (st : State) : Host.Outcome State Fault Refusal :=
  live st (if st.on R.CLK.STATUS.BKP_OK then st.backupLost else st)

/-- BOOT_REFCLK_TIMEOUT (R72): Boot goes on with the backup oscillator as reference. -/
def execBootRefclkTimeout (st : State) : Host.Outcome State Fault Refusal :=
  live st (if st.booting ∧ ¬ st.on R.CLK.STATUS.REF_OK ∧ ¬ st.on R.CLK.STATUS.REF_SEL then
    (((st.wr R.CLK.STATUS.REF_SEL 1).wr R.CLK.SWITCH_TICK.TICK st.tick).bump R.CLK.EVENTS.TO_BACKUP).raise Src.clkRefLost
  else st)

/-- A write of CLK.CTRL (R78, R81). -/
def State.writeClkCtrl (s : State) (v : Nat) : SetupResult :=
  let s := s.takes v 0 [R.CLK.CTRL.AUTO_RETURN, R.CLK.CTRL.WAKE_PORT]
  let s := s.islands
  (if part v R.CLK.CTRL.RETURN_NOW = 1 then s.returnRef else s).accept

/-- RETURN_NOW (R78): the write changes nothing else in CLK.CTRL. -/
def execReturnNow (path : Path) (st : State) : Host.Outcome State Fault Refusal :=
  live st (st.setup path 0x2028 (st.writeClkCtrl (st.rd R.CLK.CTRL.AUTO_RETURN + 2 + 4 * st.rd R.CLK.CTRL.WAKE_PORT)))

end Sys2Proof.Machine
end

