-- ==== Sys2Proof/Machine/Hem.lean ====
section
/-! DEFINITION. The housekeeping round: sensors and governing temperatures, thresholds, rails, Hem's shares, the energy
budget and the rate reported to regulation (02 R43, 14 R349, 17 R388-R408). Temperatures are in quarter degrees. -/

namespace Sys2Proof.Machine

/-- The node of a sensor: ply * 8 + panel, or 128 + panel on the base die (R388, R390). -/
def sensorNode (i : Nat) : Nat :=
  if i < 64 then i / 4 * 8 + (match i % 4 with | 0 => 0 | 1 => 3 | 2 => 4 | _ => 7) else 128 + (i - 64) / 2

/-- The neighbours of a sensor (R391). -/
def sensorNear (i : Nat) : List Nat :=
  if i < 64 then
    (if 4 ≤ i then [i - 4] else []) ++ (if i < 60 then [i + 4] else []) ++
      ((List.range 4).map (fun j => i / 4 * 4 + j)).filter (· != i)
  else (if i % 2 = 0 then i + 1 else i - 1) ::
    (List.range 4).filter (fun j => sensorNode j == sensorNode i - 128)

/-- The suspect bit of a sensor. -/
def State.suspect (s : State) (i : Nat) : Bool :=
  if i < 64 then s.rdBit R.THM.SUSPECT_LO.SUSPECT i else s.rdBit R.THM.SUSPECT_HI.SUSPECT (i - 64)

/-- Twice the median of a list of numbers: the middle one, or the mean of the middle two. -/
def median2 (l : List Int) : Int :=
  let t := sortBy (fun (x : Int) => [x]) l
  t.getD ((t.length - 1) / 2) 0 + t.getD (t.length / 2) 0

/-- A signed value as a field holds it. -/
def signed (w : Nat) (x : Int) : Nat := (x % (2 ^ w : Int)).toNat

/-- Whole degrees, rounded down, of quarter degrees. -/
def wholeDeg (q : Int) : Int := q / 4

/-- Whole degrees, rounded up, of quarter degrees (R401). -/
def upDeg (q : Int) : Int := (q + 3) / 4

/-- A sensor becomes suspect (R391). -/
def State.makeSuspect (s : State) (i : Nat) : State :=
  let s := if i < 64 then s.wrBit R.THM.SUSPECT_LO.SUSPECT i true else s.wrBit R.THM.SUSPECT_HI.SUSPECT (i - 64) true
  let s := ((s.wr R.THM.SENSOR.SUSPECT 1 i).bump R.THM.EVENTS.SUSPECTS).count 235
  s.raise Src.thmSensorSuspect

/-- The conversion of sensor i: its reading is kept; a failed one, or one outside -40 to 150 degrees, makes it suspect at
once (R391). -/
def State.takeReading (s : State) (rs : List (Option Int)) (i : Nat) : State :=
  match rs.getD i none with
  | some q =>
    let s := s.wr R.THM.SENSOR.READING (signed 12 q) i
    if (q < -160 ∨ 600 < q) ∧ ¬ s.suspect i then (s.makeSuspect i).wr R.THM.SENSOR.READ_FAIL 1 i else s
  | none => if s.suspect i then s else (s.makeSuspect i).wr R.THM.SENSOR.READ_FAIL 1 i

/-- The reading of a sensor in a round. -/
def readingOf (rs : List (Option Int)) (i : Nat) : Int := (rs.getD i none).getD 0

/-- The trusted sensors. -/
def State.trusted (s : State) : List Nat := (List.range 80).filter (fun i => !s.suspect i)

/-- A node's rise above the plate, in quarter degrees (R390): the network holds it in units of 2^-16. -/
def State.riseOf (s : State) (n : Nat) : Int := s.hem.rise.get 0 n / 65536

/-- The plate estimate (R390): the median of readings minus the model's rise, rounded down to a quarter degree; the last
one while no sensor is trusted. -/
def State.plateOf (s : State) (r : RoundReadings) : Int :=
  let xs := s.trusted.map (fun i => readingOf r.sensors i - s.riseOf (sensorNode i))
  if xs.isEmpty then s.hem.plate else median2 xs / 2

/-- The model estimate of a node (R390). -/
def State.model (s : State) (n : Nat) : Int := s.hem.plate + s.riseOf n

/-- Sensor i disagrees in this round (R391). -/
def State.disagrees (s : State) (r : RoundReadings) (i : Nat) : Bool :=
  let lim := 4 * s.rd R.THM.CFG.SUSPECT_C
  let x := readingOf r.sensors i
  let n := sensorNode i
  let preds := ((sensorNear i).filter (fun u => !s.suspect u)).map (fun u =>
    readingOf r.sensors u + s.model n - s.model (sensorNode u))
  decide (lim < (x - s.model n).natAbs) && (preds.isEmpty || decide (2 * lim < (2 * x - median2 preds).natAbs))

/-- The run of disagreeing rounds of sensor i (R391). -/
def State.runSensor (s : State) (i : Nat) (bad : Bool) : State :=
  let n := if bad then min 63 (s.rd R.THM.SENSOR.RUN i + 1) else 0
  let s := s.wr R.THM.SENSOR.RUN n i
  if bad ∧ s.rd R.THM.CFG.SUSPECT_ROUNDS ≤ n then s.makeSuspect i else s

/-- The cross-check (R391): every trusted sensor is judged against the same round. -/
def State.crossCheck (s : State) (r : RoundReadings) : State :=
  let s := (List.range 80).foldl (fun (s : State) i => s.takeReading r.sensors i) s
  let s : State := { s with hem := { s.hem with plate := s.plateOf r } }
  let s := s.wr R.THM.STATE.PLATE (signed 8 (wholeDeg s.hem.plate))
  let s := (List.range 80).foldl (fun (s : State) i => s.wr R.THM.SENSOR.MODEL (signed 12 (s.model (sensorNode i))) i) s
  let judged := s.trusted.map (fun i => (i, s.disagrees r i))
  judged.foldl (fun (s : State) j => s.runSensor j.1 j.2) s

/-- Plies with fewer than two trusted sensors (R393). -/
def State.blindPlies (s : State) : List Nat :=
  (List.range 16).filter (fun k => (List.range 4).countP (fun j => !s.suspect (4 * k + j)) < 2)

/-- The governing temperature of a node (R393). -/
def State.nodeGov (s : State) (r : RoundReadings) (n : Nat) : Int :=
  let m := s.model n + (if n < 128 ∧ s.hem.guarded.contains (n / 8) then 4 * (s.rd R.THM.CFG.GUARD_C : Int) else 0)
  (s.trusted.filter (fun i => sensorNode i == n)).foldl (fun (m : Int) i => max m (readingOf r.sensors i)) m

/-- The highest of a list of temperatures. -/
def hottest (l : List Int) : Int := l.foldl max (l.headD 0)

/-- Governing temperatures of nodes, plies, base die and cells; the guard of plies with too few sensors (R393, 19 R452). -/
def State.govern (s : State) (r : RoundReadings) : State :=
  let blind := s.blindPlies
  let fresh := blind.filter (fun k => !s.hem.guarded.contains k)
  let s : State := { s with hem := { s.hem with guarded := blind } }
  let s := fresh.foldl (fun (s : State) _ => s.raise Src.thmGuardApplied) s
  let nodes := (List.range 136).map (s.nodeGov r)
  let gov := (List.range 17).map (fun k => hottest ((nodes.drop (8 * k)).take 8))
  let cells := (List.range 32).map (fun c => hottest ((List.range 4).map (fun j => nodes.getD ((c / 8 * 4 + j) * 8 + c % 8) 0)))
  let s : State := { s with hem := { s.hem with gov := gov, cellTemp := cells } }
  let s := (List.range 17).foldl (fun (s : State) k => s.wr R.THM.GOV.GOV (signed 8 (wholeDeg (gov.getD k 0))) k) s
  let top := hottest gov
  (s.wr R.THM.STATE.HOTTEST (gov.findIdx (· == top))).wr R.THM.STATE.GOV_MAX (signed 8 (wholeDeg top))

/-- The state of a threshold after a round (R394). -/
def State.threshold (s : State) (was : Bool) (set clear : Nat) : Bool :=
  let top := hottest s.hem.gov
  if 4 * (set : Int) ≤ top then true else if top ≤ 4 * (clear : Int) then false else was

/-- Hem requests operating point p: Serve becomes Ease, Ease and Shadow change point, unless the point in use is already as
slow (R395, 18 R433). BUSY belongs to requests of MOD.REQ and is left as it is (20 R463). -/
def State.forcePoint (s : State) (p : Nat) : State :=
  let s := (s.wr R.HEM.STATUS.FORCED 1).wr R.HEM.STATUS.FORCED_POINT p
  let s : State := { s with hem := { s.hem with reqRounds := some 0 } }
  let bound := s.boot.target = 1 ∨ s.boot.target = 2
  if (s.running ∨ bound) ∧ s.pinRate p < s.pinRate (s.rd R.MOD.STATUS.POINT) then
    let s : State := if bound ∨ (s.mode = modeServe ∧ s.boot.target = 0) then
        { s with boot := { s.boot with target := 2, targetPoint := p } }
      else s
    s.requestPoint p
  else s

/-- Throttle while it is set: P3 after STEP_ROUNDS rounds (R395). -/
def State.stillThrottled (s : State) : State :=
  let n := s.hem.reqRounds.getD 0 + 1
  let s : State := { s with hem := { s.hem with reqRounds := some n } }
  if s.rd R.HEM.CFG.STEP_ROUNDS ≤ n ∧ s.rd R.HEM.STATUS.FORCED_POINT ≠ 3 then s.forcePoint 3 else s

/-- Throttle clear: the forced point is lifted, and from Ease Serve requested at the 1000th round in a row (R396, R461). -/
def State.unthrottled (s : State) (edge : Bool) : State :=
  let n := if edge then 1 else if s.hem.clearRun = 0 then 0 else s.hem.clearRun + 1
  let s : State := { s with hem := { s.hem with clearRun := if n = 1000 then 0 else n, reqRounds := none } }
  let s := (s.wr R.HEM.STATUS.FORCED 0).wr R.HEM.STATUS.FORCED_POINT 0
  if n = 1000 ∧ s.on R.HEM.CFG.AUTO_RESTORE ∧ s.mode = modeEase ∧ s.reqStatus reqServe = 0 then s.startRequest reqServe else s

/-- The Warning and Throttle thresholds (R394-R396). -/
def State.warnThrottle (s : State) : State :=
  let wasW := s.on R.THM.STATE.WARN
  let wasT := s.on R.THM.STATE.THROTTLE
  let w := s.threshold wasW 90 87
  let t := s.threshold wasT 97 93
  let s := (s.put R.THM.STATE.WARN w).put R.THM.STATE.THROTTLE t
  let s := if w ∧ ¬ wasW then ((s.bump R.THM.EVENTS.WARN_CROSS).count 233).raise Src.thmWarn else s
  if t ∧ ¬ wasT then
    let s := ((s.bump R.THM.EVENTS.THROTTLE_CROSS).count 234).raise Src.thmThrottle
    let s : State := { s with hem := { s.hem with clearRun := 0 } }
    s.forcePoint (s.rd R.HEM.CFG.THROTTLE_POINT)
  else if t then s.stillThrottled
  else s.unthrottled wasT

/-- The Shutdown threshold, which also ends a transition out of thermal hold (R463); the first round after a reset in thermal hold
releases THERMTRIP_N or enters it anew (R394, R397, 22 R486). -/
def State.shutdownRule (s : State) : State :=
  let was := s.on R.THM.STATE.SHUTDOWN
  let now := s.threshold was 108 98
  let s := s.put R.THM.STATE.SHUTDOWN now
  if now ∧ ¬ was then s.enterThermal
  else if ¬ s.hem.started ∧ ¬ s.thermalHold then s.wr R.THM.STATE.THERMTRIP 0 else s

/-- The window of a sense point in mV (R42). -/
def railWindow (i : Nat) : Nat × Nat :=
  if i < 16 then (1019, 1082) else if i < 20 then (1710, 1890) else if i < 24 then (700, 800) else (873, 927)

/-- The stack regulator of a sense point: 0-7 VDDC, 8-11 VPP; none for the base rails. -/
def railReg (i : Nat) : Option Nat := if i < 16 then some (i / 2) else if i < 20 then some (8 + (i - 16)) else none

/-- The sense points of a stack regulator. -/
def regPoints (g : Nat) : List Nat := if g < 8 then [2 * g, 2 * g + 1] else [16 + (g - 8)]

/-- One sense point in a round (R43, 19 R452). -/
def State.railPoint (s : State) (mv i : Nat) : State :=
  let (lo, hi) := railWindow i
  let ok := decide (lo ≤ mv ∧ mv ≤ hi)
  let out := if ok then 0 else min 127 (s.rd R.THM.RAIL.OUT_ROUNDS i + 1)
  let s := ((s.wr R.THM.RAIL.MV mv i).put R.THM.RAIL.IN_WINDOW ok i).wr R.THM.RAIL.OUT_ROUNDS out i
  let s : State := { s with hem := { s.hem with railIn := s.hem.railIn.set 0 i (if ok then min 2 (s.hem.railIn.get 0 i + 1) else 0) } }
  if out = 2 then
    match railReg i with
    | some g =>
      let s := s.raise Src.supplyWindow
      { s with hem := { s.hem with railBad := if s.hem.railBad.contains g then s.hem.railBad else g :: s.hem.railBad } }
    | none => s.raise Src.baseRailWindow
  else s

/-- The rail checks: the channels a bad regulator feeds issue no activates until it has been right for two rounds (R43). -/
def State.railCheck (s : State) (mvs : List Nat) : State :=
  let s := (List.range 28).foldl (fun (s : State) i => s.railPoint (mvs.getD i 0) i) s
  let bad := s.hem.railBad.filter (fun g => (regPoints g).any (fun i => s.hem.railIn.get 0 i < 2))
  let s : State := { s with hem := { s.hem with railBad := bad } }
  (List.range 32).foldl (fun (s : State) c =>
    s.put R.CHN.STATUS.ACT_HOLD (bad.contains (c % 8) || bad.contains (8 + c % 8 / 2)) c) s

/-- The input stage: VIN, its temperature, and the power drawn in uW (R403, R408). -/
def State.inputStage (s : State) (r : RoundReadings) : State :=
  let low := if r.vin < 9000 then min 2 (s.hem.vinLow + 1) else 0
  let fresh := low = 2 ∧ s.hem.vinLow ≠ 2
  let top := hottest r.stage
  let hot := if 125 < top then true else if top ≤ 115 then false else s.hem.stageHot
  let rise := hot && !s.hem.stageHot
  let s : State := { s with hem := { s.hem with vinLow := low, stageHot := hot } }
  let s := ((s.wr R.THM.INPUT.VIN_MV (min r.vin 65535)).wr R.THM.INPUT.IIN_MA (min r.iin 65535)).wr R.THM.INPUT.STAGE_C (signed 8 top)
  let s := s.wr R.THM.INPUT.PIN_DW (min 4095 (r.vin * r.iin / 100000))
  let s := if fresh then s.raise Src.vinLow else s
  if rise then s.raise Src.stageHot else s

/-- The share field of a tier's cell. -/
def shareField (t : Nat) : Fld :=
  match t with | 0 => R.HEM.COL.SHARE_T0 | 1 => R.HEM.COL.SHARE_T1 | 2 => R.HEM.COL.SHARE_T2 | _ => R.HEM.COL.SHARE_T3

/-- The cells of a column in order, each taking what is left up to its ceiling; a share above 9 lowers its vertical
neighbours' ceilings (R401). The ceilings are by tier; the last number counts those lowered. -/
def shareOut : List Nat → List Nat → Nat → List (Nat × Nat) × Nat
  | [], _, _ => ([], 0)
  | t :: ts, ceils, left =>
    let v := min (ceils.getD t 0) left
    let near := (List.range 4).filter (fun d => (d + 1 == t || d == t + 1) && decide (9 < ceils.getD d 0))
    let cut := if 9 < v then near else []
    let (rest, n) := shareOut ts (cut.foldl (fun (l : List Nat) d => l.set d 9) ceils) (left - v)
    ((t, v) :: rest, n + cut.length)

/-- The allowance of a column after a round (R401). -/
def State.allowance (s : State) (a : Nat) (t : Int) : Nat :=
  let hot := (s.rd R.HEM.CFG.HOT_C : Int)
  if hot ≤ t then max (s.rd R.HEM.CFG.COL_MIN) (a - 4 * (t - hot + 1).toNat)
  else if t ≤ hot - 3 then min 64 (a + 2) else a

/-- One column's allowance and shares; every share is 0 in Boot and Maintenance while Throttle is set (R401, R406). -/
def State.columnShare (s : State) (p : Nat) : State :=
  let temp (t : Nat) : Int := upDeg (s.cellTemp (8 * t + p))
  let tc := hottest ((List.range 4).map temp)
  let a := s.allowance (s.rd R.HEM.COL.ALLOW p) tc
  let zero := s.on R.THM.STATE.THROTTLE && (s.booting || s.mode == modeMaint)
  let ceils := (List.range 4).map (fun t =>
    if zero ∨ (s.rd R.HEM.CFG.STOP_C : Int) ≤ temp t then 0 else min 16 (s.fillCap t))
  let order := sortBy (fun (t : Nat) => [temp t, (t : Int)]) (List.range 4)
  let (shares, cuts) := shareOut order ceils a
  let s := (s.wr R.HEM.COL.ALLOW a p).wr R.HEM.COL.T_COL (signed 8 tc) p
  let s := shares.foldl (fun (s : State) x => (s.wr (shareField x.1) x.2 p).wrBit R.HEM.COL.CREDIT x.1 (x.2 != 0) p) s
  s.bump R.HEM.STAT.SPACING_CLAMPS 0 cuts

/-- Rounded down to a multiple of 125. -/
def floor125 (n : Nat) : Nat := n / 125 * 125

/-- The energy budget after a round that drew p uW (R403, R404, R408). -/
def State.budget (s : State) (p : Nat) : State :=
  let budget := s.rd R.HEM.ENERGY.BUDGET_W * 1000000
  let sust := s.rd R.HEM.ENERGY.SUST_SLOTS
  let eff := min (s.rd R.HEM.STATUS.SUST_EFF) sust
  let eff := if budget < p then max 500 (floor125 (eff * budget / p))
    else if p + 2000000 ≤ budget then min sust (eff + 125) else eff
  let eff := if s.hem.stageHot then eff / 2 else eff
  let bucket := min (s.hem.bucket + budget - p) (s.rd R.HEM.ENERGY.BUCKET_MJ * 1000000)
  let s : State := { s with hem := { s.hem with bucket := bucket, burstW := s.rd R.HEM.ENERGY.BURST_W } }
  let s := ((s.wr R.HEM.STATUS.SUST_EFF eff).wr R.HEM.STATUS.BUCKET (bucket / 1000000)).put R.HEM.STATUS.BURST (bucket != 0)
  if bucket = 0 then s else s.bump R.HEM.STAT.BURST_ROUNDS

/-- The rate that Hem reports to regulation (R405). -/
def State.reportH (s : State) : State :=
  let sum := (List.range 32).foldl (fun n c => n + s.share c * s.capacity c) 0
  let raw := floor125 (min (s.rd R.HEM.STATUS.SUST_EFF) (sum / 16))
  let raws := (raw :: s.hem.raws).take 10
  let h := s.rd R.HEM.STATUS.H
  let low := raws.foldl min raw
  let next := if ¬ s.hem.started then raw else if raw < h then raw else if raws.length = 10 ∧ h < low then low else h
  let s : State := { s with hem := { s.hem with raws := raws, started := true } }
  let s := (s.wr R.HEM.STATUS.H_RAW raw).wr R.HEM.STATUS.H next
  if next < h then s.bump R.HEM.STAT.H_FALLS else if h < next then s.bump R.HEM.STAT.H_RISES else s

/-- A channel's rate from its next REF on (R349, R356). -/
def State.setFast (on : Bool) (s : State) (c : Nat) : State := s.setChan c { s.chan c with fast := on }

/-- The refresh rate of a tier's channels (R349). -/
def State.refreshRate (s : State) (t : Nat) : State :=
  let temps := s.tierGov t
  if temps.any (fun g => decide (340 < g)) then
    let s : State := { s with hem := { s.hem with coolRun := s.hem.coolRun.set 0 t 0 } }
    (tierChannels t).foldl (State.setFast true) s
  else
    let n := if temps.all (fun g => decide (g ≤ 328)) then min 8 (s.hem.coolRun.get 0 t + 1) else 0
    let s : State := { s with hem := { s.hem with coolRun := s.hem.coolRun.set 0 t n } }
    if n = 8 then (tierChannels t).foldl (State.setFast false) s else s

/-- The RS-FEC codewords of a port in the round (04 R109). -/
def State.fecRound (s : State) (r : RoundReadings) (p : Nat) : State :=
  let ok := r.fecCorrected.getD p 0
  let bad := r.fecUncorrectable.getD p 0
  let s := (s.bump R.ETH.FEC.CORRECTED p ok).bump R.ETH.FEC.UNCORRECTABLE p bad
  let s := (s.countPort p 4 ok).countPort p 5 bad
  if 16 < bad then s.raise Src.ethFecDegraded (.port p) else s

/-- The RS-FEC codewords of the Tack link in the round (12 R306, 18 R414). -/
def State.fecTack (s : State) (r : RoundReadings) : State :=
  (s.count 930 (r.fecCorrected.getD 2 0)).count 931 (r.fecUncorrectable.getD 2 0)

/-- A checker that is locked counts bit errors (04 R108). -/
def State.prbsRound (s : State) (r : RoundReadings) (l : Nat) : State :=
  if s.on R.SDS.PRBS_ERR.LOCKED l then s.bump R.SDS.PRBS_ERR.ERRORS l (r.prbsErrors.getD l 0) else s

/-- The energy of all nodes in a round so far. -/
def State.roundEnergy (s : State) : Nat := s.hem.energy.entries.foldl (fun n e => n + e.2) 0

/-- The interval in ticks at which ply k refreshes itself: 1.95 us in thermal hold, and in Hold where its own sensors read above 85
degrees (14 R351, R397). -/
def State.selfRefreshInterval (s : State) (r : RoundReadings) (k : Nat) : Nat :=
  if s.thermalHold ∨ (List.range 4).any (fun j => decide (340 < readingOf r.sensors (4 * k + j))) then 1950 else 3900

/-- What a round charges beside the channels' commands: the base-die blocks to their panel positions, and self-refresh in Hold and in
thermal hold (R389, R406). Spread over the round's periods it counts in their estimates (R403). -/
def State.chargeRest (s : State) (r : RoundReadings) : State :=
  let put (m : SMap Nat) (p : Nat) : SMap Nat := m.set 0 (128 + p) (m.get 0 (128 + p) + r.baseDie.getD p 0)
  let t : State := { s with hem := { s.hem with energy := (List.range 8).foldl put s.hem.energy } }
  let t := if s.mode = modeHold ∨ s.thermalHold then
      (List.range 128).foldl (fun (t : State) i =>
        t.charge .selfRefresh (i / 4) (i % 4) (1000000 / s.selfRefreshInterval r (i / 4 / 8 * 4 + i % 4))) t
    else t
  { t with hem := { t.hem with spent := s.hem.spent, steady := t.roundEnergy - s.roundEnergy } }

/-- The energy that each panel column was charged, up to the end of this round (R389). -/
def State.columnEnergy (s : State) : State :=
  let sums := s.hem.energy.entries.foldl (fun (m : SMap Nat) e => m.set 0 (e.1 % 8) (m.get 0 (e.1 % 8) + e.2)) s.hem.column
  let s : State := { s with hem := { s.hem with column := sums } }
  (List.range 8).foldl (fun (s : State) p => s.wr R.HEM.COL_ENERGY.UJ (sums.get 0 p / 1000000) p) s

/-- A sum of a map's values, each at a weight. -/
def weighed (weight : Nat → Int) (m : List (Nat × Int)) : Int := m.foldl (fun x e => x + weight e.1 * e.2) 0

/-- The thermal network advances one round: from the rises above the plate and the energy charged to the nodes, at coefficients that
the calibration words of OTP scale (R390); the energy counters start anew. -/
def State.network (s : State) : State :=
  let cal := (List.range 29).map (fun i => s.otpUse (3 + i))
  let heat := s.hem.energy.entries.map (fun e => (e.1, (e.2 : Int)))
  let rise (n : Nat) : Int := (weighed (Config.thermalKeep cal n) s.hem.rise.entries + weighed (Config.thermalHeat cal n) heat) / 65536
  { s with hem := { s.hem with energy := {}, rise := (List.range 136).foldl (fun m n => m.set 0 n (rise n)) {} } }

/-- The model's part of a round, before its results are judged (R389, R390). -/
def State.thermal (s : State) (r : RoundReadings) : State := (s.chargeRest r).columnEnergy.network

/-- The efficiency of the input stage in a round: the power drawn from the source and the power given to the intermediate rail; the last
measure stays where the rail gives none (R403). -/
def State.stageEfficiency (s : State) (r : RoundReadings) : State :=
  let s : State := { s with hem := { s.hem with phases := r.phases } }
  if r.vin * r.iin = 0 ∨ r.busMv * r.busMa = 0 then s
  else { s with hem := { s.hem with drawn := r.vin * r.iin, given := r.busMv * r.busMa } }

/-- The step rate of a round in which Needle took steps: the spec gives no measure of the time it was busy, so the value is
free (08 NDL.STATUS). -/
def State.stepRate (s : State) : State :=
  if s.steps = 0 then s
  else (({ s with steps := 0 } : State).wr R.NDL.STATUS.STEP_RATE (Config.stepRate s.freeCtr).toNat).drawn

/-- The end of a housekeeping round, in the order of R388. -/
def State.houseRound (s : State) (r : RoundReadings) : State :=
  let s : State := { s with hem := { s.hem with ratios := r.ratios } }
  let s := ((s.thermal r).crossCheck r).govern r
  let s := s.warnThrottle.shutdownRule
  let s := ((s.railCheck r.rails).inputStage r).stageEfficiency r
  let s := (List.range 32).foldl State.cutCredit ((List.range 8).foldl State.columnShare s)
  let s := ((s.budget (r.vin * r.iin)).reportH).recompute
  let s := (List.range 4).foldl State.refreshRate s
  let s := ([0, 1].foldl (fun (s : State) p => s.fecRound r p) s).fecTack r
  let s := (List.range 16).foldl (fun (s : State) l => s.prbsRound r l) s
  let s := s.calRound r.busy
  let s := (s.stepRate).wr R.THM.STATE.ROUNDS (s.rd R.THM.STATE.ROUNDS + 1)
  (s.judgeHeld).count 2

end Sys2Proof.Machine
end

