-- ==== Sys2Proof/Machine/Float.lean ====
section
/-! DEFINITION. IEEE 754 arithmetic on bit patterns, rounding to nearest, ties to even (08 R194, R204-R206). -/

namespace Sys2Proof.Machine

/-- A binary format: exponent bits and fraction bits. -/
structure FFmt where
  eb : Nat
  mb : Nat
  deriving DecidableEq, Repr

/-- binary16. -/
def f16 : FFmt := ⟨5, 10⟩
/-- binary32. -/
def f32 : FFmt := ⟨8, 23⟩
/-- binary64. -/
def f64 : FFmt := ⟨11, 52⟩
/-- bf16. -/
def bf16 : FFmt := ⟨8, 7⟩

/-- The number of bits of a format. -/
def FFmt.width (f : FFmt) : Nat := f.eb + f.mb + 1
/-- The exponent bias. -/
def FFmt.bias (f : FFmt) : Nat := 2 ^ (f.eb - 1) - 1
/-- The sign of a pattern. -/
def FFmt.neg (f : FFmt) (v : Nat) : Bool := bit v (f.eb + f.mb)
/-- The exponent field of a pattern. -/
def FFmt.exp (f : FFmt) (v : Nat) : Nat := bits v f.mb f.eb
/-- The fraction field of a pattern. -/
def FFmt.frac (f : FFmt) (v : Nat) : Nat := v % 2 ^ f.mb
/-- All exponent bits set. -/
def FFmt.top (f : FFmt) : Nat := 2 ^ f.eb - 1
/-- A NaN. -/
def FFmt.isNan (f : FFmt) (v : Nat) : Bool := f.exp v == f.top && f.frac v != 0
/-- An infinity. -/
def FFmt.isInf (f : FFmt) (v : Nat) : Bool := f.exp v == f.top && f.frac v == 0
/-- A pattern from its sign, exponent field and fraction. -/
def FFmt.make (f : FFmt) (neg : Bool) (e m : Nat) : Nat := neg.toNat * 2 ^ (f.eb + f.mb) + e * 2 ^ f.mb + m
/-- An infinity of a sign. -/
def FFmt.inf (f : FFmt) (neg : Bool) : Nat := f.make neg f.top 0
/-- A zero of a sign. -/
def FFmt.zero (f : FFmt) (neg : Bool) : Nat := f.make neg 0 0
/-- The canonical quiet NaN (R205). -/
def FFmt.nan (f : FFmt) : Nat := f.make false f.top (2 ^ (f.mb - 1))
/-- The significand of a finite pattern: its value is significand * 2 ^ scale. -/
def FFmt.sig (f : FFmt) (v : Nat) : Nat := if f.exp v = 0 then f.frac v else 2 ^ f.mb + f.frac v
/-- The scale of a finite pattern. -/
def FFmt.scale (f : FFmt) (v : Nat) : Int := (max 1 (f.exp v) : Int) - f.bias - f.mb

/-- m / 2 ^ k rounded to nearest, ties to even. -/
def roundShift (m k : Nat) : Nat :=
  let q := m / 2 ^ k
  let r := 2 * (m % 2 ^ k)
  if 2 ^ k < r ∨ (r = 2 ^ k ∧ 0 < k ∧ q % 2 = 1) then q + 1 else q

/-- The pattern nearest to m * 2 ^ e, with subnormals kept and overflow to infinity (R204). -/
def FFmt.round (f : FFmt) (neg : Bool) (m : Nat) (e : Int) : Nat :=
  if m = 0 then f.zero neg else
  let low : Int := 1 - f.bias - f.mb
  let q := max (e + (Nat.log2 m : Int) - f.mb) low
  let r := if q ≤ e then m * 2 ^ (e - q).toNat else roundShift m (q - e).toNat
  let (r, q) := if r = 2 ^ (f.mb + 1) then (2 ^ f.mb, q + 1) else (r, q)
  if r < 2 ^ f.mb then f.make neg 0 r
  else
    let x := (q - low).toNat + 1
    if f.top ≤ x then f.inf neg else f.make neg x (r - 2 ^ f.mb)

/-- A signed number m * 2 ^ e as a pattern; a zero takes the sign given. -/
def FFmt.roundInt (f : FFmt) (m : Int) (e : Int) (zneg : Bool) : Nat :=
  if m = 0 then f.zero zneg else f.round (decide (m < 0)) m.natAbs e

/-- The signed significand of a finite pattern at a scale not above its own. -/
def FFmt.at (f : FFmt) (v : Nat) (e : Int) : Int :=
  let m : Int := (f.sig v : Int) * 2 ^ (f.scale v - e).toNat
  if f.neg v then -m else m

/-- The sum of two patterns (R204, R206). -/
def FFmt.add (f : FFmt) (a b : Nat) : Nat :=
  if f.isNan a ∨ f.isNan b then f.nan
  else if f.isInf a then (if f.isInf b ∧ f.neg a ≠ f.neg b then f.nan else f.inf (f.neg a))
  else if f.isInf b then f.inf (f.neg b)
  else
    let e := min (f.scale a) (f.scale b)
    f.roundInt (f.at a e + f.at b e) e (f.neg a && f.neg b)

/-- The square of a pattern, rounded (R207). -/
def FFmt.square (f : FFmt) (a : Nat) : Nat :=
  if f.isNan a then f.nan
  else if f.isInf a then f.inf false
  else f.round false (f.sig a * f.sig a) (2 * f.scale a)

/-- A number that orders the patterns that are not NaN: -0 lies below +0 (R206). -/
def FFmt.order (f : FFmt) (v : Nat) : Int :=
  let m : Int := v % 2 ^ (f.eb + f.mb)
  if f.neg v then -m - 1 else m

/-- A pattern in a wider format, exactly (R204). -/
def FFmt.widen (f g : FFmt) (v : Nat) : Nat :=
  if f.isNan v then g.nan
  else if f.isInf v then g.inf (f.neg v)
  else g.round (f.neg v) (f.sig v) (f.scale v)

/-- a < b as IEEE 754 compares: false where either is a NaN; the zeros are equal (R209). -/
def FFmt.lt (f : FFmt) (a b : Nat) : Bool :=
  !f.isNan a && !f.isNan b &&
    decide (f.order a < f.order b) && !(a % 2 ^ (f.eb + f.mb) == 0 && b % 2 ^ (f.eb + f.mb) == 0)

/-- a = b as IEEE 754 compares. -/
def FFmt.eq (f : FFmt) (a b : Nat) : Bool :=
  !f.isNan a && !f.isNan b && (a == b || (a % 2 ^ (f.eb + f.mb) == 0 && b % 2 ^ (f.eb + f.mb) == 0))

end Sys2Proof.Machine
end

