-- ==== Sys2Proof/Machine/Shuttle.lean ====
section
/-! DEFINITION. The Shuttle: doorbells, fetch and release, records, ring states, and event queue control (07 R159-R193). -/

namespace Sys2Proof.Machine

/-- Entries of a ring (R160). -/
def State.ringSize (s : State) (r : Nat) : Nat := 2 ^ s.rd R.SHU.RING_CTRL.RING_LOG2 r

/-- Records of a ring's CQ (R160). -/
def State.cqSize (s : State) (r : Nat) : Nat := 2 ^ s.rd R.SHU.RING_CTRL.CQ_LOG2 r

/-- A ring's command QP (R161). -/
def State.ringQp (s : State) (r : Nat) : Nat := s.rd R.SHU.RING_CTRL.QP r

/-- A ring's state (R182). -/
def State.ringState (s : State) (r : Nat) : Nat := s.rd R.SHU.RING_CTRL.STATE r

/-- Bit k of a descriptor's header (R163). -/
def Desc.flag (d : Desc) (k : Nat) : Bool := bit (d.field 0) k

/-- The 32 bytes of a completion record (R177). -/
def completionRecord (d : Desc) (r : Nat) (phase : Bool) : List Byte :=
  leBytes 8 (d.index + r % 4 * 2 ^ 16 + d.status % 256 * 2 ^ 24 + bits (d.field 0) 48 15 * 2 ^ 32 + phase.toNat * 2 ^ 63) ++
    leBytes 8 d.bytesDone ++ leBytes 8 d.result ++ leBytes 8 d.tick

/-- A descriptor's image with OWN clear (R170). -/
def releaseImage (img : List Byte) : List Byte := img.set 7 (img.getD 7 0 &&& 0x7F)

/-- One release WRITE of at most k descriptors; a run never crosses the end of the ring (R170). -/
def State.releaseRun (s : State) (r k : Nat) : State :=
  let x := s.ring r
  match x.unreleased with
  | [] => s
  | (i, _) :: _ =>
    let n := min k (s.ringSize r - i)
    let s := s.setRing r { x with unreleased := x.unreleased.drop n }
    s.postWrite (s.ringQp r) ((s.rd R.SHU.RING_BASE.VA r + 64 * i) % 2 ^ 64) (s.rd R.SHU.RING_RKEY.WIN_RKEY r)
      ((x.unreleased.take n).flatMap (fun e => releaseImage e.2)) (.release r)

/-- The releases that are due: a run once RELEASE_RUN descriptors are unreleased, everything when head reaches tail or a
record needs it (R170). -/
def State.releases : Nat → State → Nat → Bool → State
  | 0, s, _, _ => s
  | k + 1, s, r, all =>
    let n := (s.ring r).unreleased.length
    let run := max 1 (s.rd R.SHU.CFG.RELEASE_RUN)
    let every := all || s.rd R.SHU.RING_STATUS.HEAD r == s.rd R.SHU.RING_STATUS.TAIL r
    if n = 0 ∨ (¬ every ∧ n < run) then s else State.releases k (s.releaseRun r run) r all

/-- The releases of ring r. -/
def State.release (s : State) (r : Nat) (all : Bool) : State := State.releases ((s.ring r).unreleased.length) s r all

/-- size - 1 records stand beyond the last reported head (R179). -/
def State.cqFull (s : State) (r : Nat) : Bool :=
  s.cqSize r ≤ (s.rd R.SHU.RING_STATUS.CQ_POSTED r + s.cqSize r - (s.ring r).cqHead) % s.cqSize r + 1

/-- A record goes to the next CQ index, after its descriptor's release (R170, R178). -/
def State.writeRecord (s : State) (r : Nat) (d : Desc) : State :=
  let s := if (s.ring r).unreleased.any (fun e => e.1 == d.index) then s.release r true else s
  let i := s.rd R.SHU.RING_STATUS.CQ_POSTED r
  let next := (i + 1) % s.cqSize r
  let phase := s.on R.SHU.RING_STATUS.CQ_PHASE r
  let s := s.postWrite (s.ringQp r) ((s.rd R.SHU.RING_CQ.VA r + 32 * i) % 2 ^ 64) (s.rd R.SHU.RING_RKEY.WIN_RKEY r)
    (completionRecord d r phase) (.record r d.serial d.index d.status (d.flag 11))
  let s := s.wr R.SHU.RING_STATUS.CQ_POSTED next r
  let s := if next = 0 then s.put R.SHU.RING_STATUS.CQ_PHASE (!phase) r else s
  let s := s.count 68
  if d.status = 0 then s else (s.count 69).bump R.SHU.RING_STAT.ERRORS r

/-- A record may be posted: under ORDERED, every earlier descriptor of the ring has completed and posted; those of descriptors
that a halt or a reset ended follow each other in ring order (R174, R183). -/
def Ring.mayPost (x : Ring) (d : Desc) : Bool :=
  (!d.flag 10 || (x.descs ++ x.ended).all (fun e => d.serial ≤ e.serial)) &&
    (d.status != 0x41 || x.ended.all (fun e => e.status != 0x41 || d.serial ≤ e.serial))

/-- Records are posted in the order their descriptors completed, as far as order and CQ space allow; they are discarded only
where the QP is not in RTS (R178, R179, R185-R187). -/
def State.postRecords : Nat → State → Nat → State
  | 0, s, _ => s
  | k + 1, s, r =>
    let x := s.ring r
    let discard : State := (s.wr R.SHU.RING_STATUS.CQ_FULL 0 r).setRing r { x with ended := [] }
    if x.ended.isEmpty then s.wr R.SHU.RING_STATUS.CQ_FULL 0 r
    else if s.ringState r = ringDetached ∨ ¬ s.qpRts (s.ringQp r) then discard
    else match x.ended.find? x.mayPost with
      | none => s.wr R.SHU.RING_STATUS.CQ_FULL 0 r
      | some d =>
        if s.cqFull r then
          if s.on R.SHU.RING_STATUS.CQ_FULL r then s
          else (s.wr R.SHU.RING_STATUS.CQ_FULL 1 r).bump R.SHU.RING_STAT.CQ_STALLS r
        else
          let s := s.setRing r { x with ended := x.ended.filter (fun e => e.serial != d.serial) }
          State.postRecords k (s.writeRecord r d) r

/-- A HALTED ring is ACTIVE again and fetches from the head (R184). -/
def State.resumeRing (s : State) (r : Nat) : State :=
  (s.wr R.SHU.RING_CTRL.STATE ringActive r).setRing r
    { s.ring r with resumePending := false, ownStall := false, fetchPos := s.rd R.SHU.RING_STATUS.HEAD r }

/-- Records of descriptors that the halt ended still wait (R183, R184). -/
def Ring.haltOpen (x : Ring) : Bool := x.ended.any (fun d => d.status == 0x41)

/-- Records are posted, and a RESUME that waited for them takes effect (R178, R184). -/
def State.post (s : State) (r : Nat) : State :=
  let s := State.postRecords ((s.ring r).ended.length + 1) s r
  if (s.ring r).resumePending ∧ ¬ (s.ring r).haltOpen ∧ s.ringState r = ringHalted then s.resumeRing r else s

/-- Consumed descriptors that have not started complete with RING_HALTED, in ring order, and fetches are forgotten (R183,
R186). -/
def State.endConsumed (s : State) (r : Nat) : State :=
  let x := s.ring r
  let cs := x.descs.filter (fun d => d.stage == .consumed)
  let cs := cs.map (fun d => { d with stage := .done, status := 0x41, tick := s.tick })
  s.setRing r { x with descs := x.descs.filter (fun d => d.stage != .consumed), ended := x.ended ++ cs,
                       fetching := [], returned := [], fetchPos := s.rd R.SHU.RING_STATUS.HEAD r }

/-- A ring halts with a status; a ring that is HALTED already only takes the status (R183). -/
def State.haltRing (s : State) (r st : Nat) : State :=
  let s := s.wr R.SHU.RING_STATUS.LAST_STATUS st r
  if s.ringState r = ringActive then
    let s := (s.endConsumed r).wr R.SHU.RING_CTRL.STATE ringHalted r
    (s.count 72).postEvent (r / 4) 1 0x0002 (r % 4) st
  else s

/-- QP q is a CMD QP bound to client c (R113, R161). -/
def State.cmdQpOf (s : State) (q c : Nat) : Bool :=
  s.on R.XPT.QP_STATE.ROLE q && s.on R.XPT.QP_STATE.BOUND q && s.rd R.XPT.QP_STATE.CLIENT q == c

/-- A ring starts from index 0 with nothing held (R162). -/
def State.freshRing (s : State) (r : Nat) : State :=
  let s := ((s.wr R.SHU.RING_STATUS.HEAD 0 r).wr R.SHU.RING_STATUS.TAIL 0 r).wr R.SHU.RING_STATUS.CQ_POSTED 0 r
  let s := (s.wr R.SHU.RING_STATUS.CQ_PHASE 1 r).wr R.SHU.RING_STATUS.CQ_FULL 0 r
  (s.wr R.SHU.RING_CTRL.STATE ringActive r).setRing r { serial := (s.ring r).serial, fetchNo := (s.ring r).fetchNo }

/-- ENABLE (R162): refused in Shadow (R433). -/
def State.enableRing (s : State) (r : Nat) : SetupResult :=
  let n := s.rd R.SHU.RING_CTRL.RING_LOG2 r
  let m := s.rd R.SHU.RING_CTRL.CQ_LOG2 r
  if s.ringState r ≠ ringDisabled ∨ s.limited then s.refuse stDenied
  else if ¬ (6 ≤ n ∧ n ≤ 16 ∧ 6 ≤ m ∧ m ≤ 16) ∨ s.rd R.SHU.RING_BASE.VA r % 64 ≠ 0 ∨ s.rd R.SHU.RING_CQ.VA r % 32 ≠ 0 ∨
      ¬ s.cmdQpOf (s.ringQp r) (r / 4) then s.refuse stMalformed
  else (s.freshRing r).accept

/-- RESET: nothing for a DISABLED ring; otherwise the ring drains (R186). -/
def State.resetRing (s : State) (r : Nat) : State :=
  if s.ringState r = ringDisabled ∨ s.ringState r = ringDraining then s
  else
    let s := (s.endConsumed r).wr R.SHU.RING_CTRL.STATE ringDraining r
    let s := s.setRing r { s.ring r with resumePending := false }
    let s := if s.qpRts (s.ringQp r) then s else s.failTransfers r
    s.post r

/-- SHU.RING_CTRL (R162, R182-R186). -/
def State.writeRingCtrl (s : State) (v : Nat) : SetupResult :=
  let r := s.rd R.SHU.RING_SEL.INDEX
  let fs := [R.SHU.RING_CTRL.QP, R.SHU.RING_CTRL.RING_LOG2, R.SHU.RING_CTRL.CQ_LOG2]
  if s.ringState r ≠ ringDisabled ∧ fs.any (fun f => s.chg f v r) then s.refuse stDenied
  else
    let t := s.takes v r fs
    match part v R.SHU.RING_CTRL.CMD with
    | 1 => match t.enableRing r with | (u, st) => if st = 0 then (u, 0) else s.refuse st
    | 2 => (t.resetRing r).accept
    | 3 => if t.ringState r = ringActive then ((t.haltRing r 0x41).post r).accept else s.refuse stDenied
    | _ => t.accept

/-- SHU.RING_BASE, SHU.RING_CQ and SHU.RING_RKEY: only while DISABLED (R162). -/
def State.writeRingFixed (s : State) (f : Fld) (v : Nat) : SetupResult :=
  let r := s.rd R.SHU.RING_SEL.INDEX
  if s.ringState r ≠ ringDisabled ∧ s.chg f v r then s.refuse stDenied else (s.take f v r).accept

/-- SHU.CFG: each field in its range. -/
def State.writeShuCfg (s : State) (v : Nat) : SetupResult :=
  let h := part v R.SHU.CFG.HELD_LIMIT
  let b := part v R.SHU.CFG.FETCH_BATCH
  let k := part v R.SHU.CFG.RELEASE_RUN
  if 64 ≤ h ∧ h ≤ 2048 ∧ 1 ≤ b ∧ b ≤ 32 ∧ 1 ≤ k ∧ k ≤ 16 then
    (s.takes v 0 [R.SHU.CFG.HELD_LIMIT, R.SHU.CFG.FETCH_BATCH, R.SHU.CFG.RELEASE_RUN]).accept
  else s.refuse stMalformed

/-- SHU.EQ_BASE: only while EN = 0. -/
def State.writeEqBase (s : State) (v : Nat) : SetupResult :=
  let c := s.rd R.SHU.EQ_SEL.CLIENT
  if s.on R.SHU.EQ_CTRL.EN c ∧ s.chg R.SHU.EQ_BASE.VA v c then s.refuse stDenied
  else (s.take R.SHU.EQ_BASE.VA v c).accept

/-- The event queue of client c posts from index 0, phase 1 (R193). -/
def State.openEq (s : State) (c : Nat) : State :=
  let s := ((s.wr R.SHU.EQ_STATUS.POSTED 0 c).wr R.SHU.EQ_STATUS.PHASE 1 c).wr R.SHU.EQ_STATUS.FULL 0 c
  s.setEq c { s.eq c with head := 0, cut := false }

/-- SHU.EQ_CTRL (R192, R193). -/
def State.writeEqCtrl (s : State) (v : Nat) : SetupResult :=
  let c := s.rd R.SHU.EQ_SEL.CLIENT
  let fixed := [R.SHU.EQ_CTRL.QP, R.SHU.EQ_CTRL.LOG2, R.SHU.EQ_CTRL.RKEY]
  let all := fixed ++ [R.SHU.EQ_CTRL.EN, R.SHU.EQ_CTRL.MASK]
  let k := part v R.SHU.EQ_CTRL.LOG2
  if s.on R.SHU.EQ_CTRL.EN c then
    if fixed.any (fun f => s.chg f v c) then s.refuse stDenied else (s.takes v c all).accept
  else if part v R.SHU.EQ_CTRL.EN = 0 then (s.takes v c all).accept
  else if s.rd R.SHU.EQ_BASE.VA c % 32 ≠ 0 ∨ ¬ (6 ≤ k ∧ k ≤ 12) ∨ ¬ s.cmdQpOf (part v R.SHU.EQ_CTRL.QP) c then
    s.refuse stMalformed
  else ((s.openEq c).takes v c all).accept

/-- RING_ENABLE (R162). -/
def execRingEnable (v : BitVec 64) (path : Path) (st : State) : Host.Outcome State Fault Refusal :=
  live st (st.setup path 0xA100 (st.writeRingCtrl v.toNat))

/-- RING_RESET (R186). -/
def execRingReset (v : BitVec 64) (path : Path) (st : State) : Host.Outcome State Fault Refusal :=
  live st (st.setup path 0xA100 (st.writeRingCtrl v.toNat))

/-- RING_HALT (R183). -/
def execRingHalt (v : BitVec 64) (path : Path) (st : State) : Host.Outcome State Fault Refusal :=
  live st (st.setup path 0xA100 (st.writeRingCtrl v.toNat))

/-- EQ_ENABLE (R192). -/
def execEqEnable (v : BitVec 64) (path : Path) (st : State) : Host.Outcome State Fault Refusal :=
  live st (st.setup path 0xA210 (st.writeEqCtrl v.toNat))

/-- Records of ring r below descriptor number n that the client's NIC has not acknowledged. -/
def State.recordsOut (s : State) (r n : Nat) : Bool :=
  let x := s.qp (s.ringQp r)
  (x.waiting ++ x.sent).any (fun q => match q.use with | .record k i _ _ _ => k == r && i < n | _ => false)

/-- A DRAINING ring has nothing left to complete or to post (R186). -/
def State.drained (s : State) (r : Nat) : Bool :=
  s.ringState r == ringDraining && (s.ring r).descs.isEmpty && (s.ring r).ended.isEmpty &&
    !s.recordsOut r (s.ring r).serial

/-- RING_DRAINED (R186). -/
def execRingDrained (ring : Fin 256) (st : State) : Host.Outcome State Fault Refusal :=
  live st (if st.drained ring then st.disableRing ring else st)

/-- x lies in the ring-order range from a to b, both included, in a ring of n (R165). -/
def inRun (x a b n : Nat) : Bool := (x + n - a % n) % n ≤ (b + n - a % n) % n

/-- The checks of a doorbell of client c on ring r (R165). -/
def State.badDoorbell (s : State) (c r v : Nat) : Bool :=
  let st := s.ringState r
  let cq := bits v 20 16
  let eq := bits v 37 12
  bit v 17 || bits v 50 14 != 0 || s.ringSize r ≤ bits v 0 16 || st == ringDisabled || st == ringDraining ||
    st == ringDetached ||
    (bit v 36 && (s.cqSize r ≤ cq || !inRun cq (s.ring r).cqHead (s.rd R.SHU.RING_STATUS.CQ_POSTED r) (s.cqSize r))) ||
    (bit v 49 && (s.eqSize c ≤ eq || !inRun eq (s.eq c).head (s.rd R.SHU.EQ_STATUS.POSTED c) (s.eqSize c)))

/-- The heads a doorbell reports; the space it makes takes an EVENTS_LOST record first (R166, R193). -/
def State.takeHeads (s : State) (c r v : Nat) : State :=
  let s := if bit v 36 then s.setRing r { s.ring r with cqHead := bits v 20 16 } else s
  if bit v 49 then ((s.setEq c { s.eq c with head := bits v 37 12 }).eqRecover c).eqMark c else s

/-- RESUME: a HALTED ring becomes ACTIVE, once its halt has finished (R184). -/
def State.askResume (s : State) (r : Nat) : State :=
  if s.ringState r ≠ ringHalted then s
  else if (s.ring r).haltOpen then s.setRing r { s.ring r with resumePending := true }
  else s.resumeRing r

/-- A doorbell takes effect (R166). -/
def State.processDoorbell (s : State) (c r v : Nat) : State :=
  let s := (s.count 64).takeHeads c r v
  let s := if bit v 16 then s.askResume r else s
  let s := s.wr R.SHU.RING_STATUS.TAIL (bits v 0 16) r
  let x := s.ring r
  let s := s.setRing r { x with ownStall := false,
                                fetchPos := if x.fetching.isEmpty then s.rd R.SHU.RING_STATUS.HEAD r else x.fetchPos }
  s.post r

/-- The ring that a doorbell names: by its offset for a WRITE, by its value for a SEND (R159, R164). -/
def doorbellRing (c : Nat) (form : DoorbellForm) (v : Nat) : Nat :=
  match form with
  | .write r => 4 * c + r.val
  | .send => 4 * c + bits v 18 2

/-- A doorbell of client c reaches the Shuttle; none is processed while service ends (R165, R166, R187; log entry 130). -/
def State.doorbell (s : State) (c : Nat) (form : DoorbellForm) (v : Nat) : State :=
  let r := doorbellRing c form v
  if ¬ s.serving ∨ s.ending then s
  else if s.badDoorbell c r v || r != 4 * c + bits v 18 2 then (s.count 65).bump R.SHU.RING_STAT.BAD_DB r
  else s.processDoorbell c r v

/-- DOORBELL (R166). -/
def execDoorbell (client : Fin 64) (form : DoorbellForm) (v : BitVec 64) (st : State) : Host.Outcome State Fault Refusal :=
  live st (st.doorbell client form v.toNat)

/-- How many more descriptors ring r may hold: 64 of its own, its part of HELD_LIMIT buffers, and of the free pool
(R168). -/
def State.fetchRoom (s : State) (r : Nat) : Nat :=
  let x := s.ring r
  let limit := s.rd R.SHU.CFG.HELD_LIMIT + x.heldBufs - s.poolShuttle
  min 64 (4 * min limit (s.poolFree + x.heldBufs)) - x.heldDescs

/-- The fetches of ring r that are outstanding, those whose descriptors no longer count among them (R168). -/
def State.fetchesOut (s : State) (r : Nat) : Nat :=
  let x := s.qp (s.ringQp r)
  (x.waiting ++ x.sent).countP (fun q => match q.use with | .fetch k _ => k == r | _ => false)

/-- The descriptors that ring r's next fetch takes; a fetch leaves on a QP in RTS only (R116, R168). -/
def State.fetchSize (s : State) (r : Nat) : Nat :=
  let x := s.ring r
  let n := s.ringSize r
  if s.ringState r ≠ ringActive ∨ s.ending ∨ x.ownStall ∨ ¬ s.qpRts (s.ringQp r) ∨ 2 ≤ s.fetchesOut r then 0
  else min (min (s.rd R.SHU.CFG.FETCH_BATCH) ((s.rd R.SHU.RING_STATUS.TAIL r + n - x.fetchPos) % n))
    (min (n - x.fetchPos) (s.fetchRoom r))

/-- One fetch of ring r leaves (R168). -/
def State.fetch (s : State) (r : Nat) : State :=
  let n := s.fetchSize r
  let x := s.ring r
  if n = 0 then s
  else
    let s := s.setRing r { x with fetchPos := (x.fetchPos + n) % s.ringSize r, fetchNo := x.fetchNo + 1,
                                  fetching := x.fetching ++ [(x.fetchNo, x.fetchPos, n)] }
    s.postRead (s.ringQp r) ((s.rd R.SHU.RING_BASE.VA r + 64 * x.fetchPos) % 2 ^ 64) (s.rd R.SHU.RING_RKEY.WIN_RKEY r)
      (64 * n) (.fetch r x.fetchNo)

/-- DESCRIPTOR_FETCH (R168). -/
def execDescriptorFetch (ring : Fin 256) (st : State) : Host.Outcome State Fault Refusal := live st (st.fetch ring)

/-- The 64-byte images of a fetch, up to the first with OWN = 0 (R169). -/
def ownedImages (d : List Byte) (n : Nat) : List (List Byte) :=
  ((List.range n).map (fun i => sliceBytes d (64 * i) 64)).takeWhile (fun img => bit (img.getD 7 0).toNat 7)

/-- Descriptors are consumed: the head moves past each (R170). -/
def State.consume (s : State) (r : Nat) (imgs : List (List Byte)) : State :=
  imgs.foldl (fun (s : State) img =>
    let x := s.ring r
    let i := s.rd R.SHU.RING_STATUS.HEAD r
    let s := s.setRing r { x with serial := x.serial + 1, unreleased := x.unreleased ++ [(i, img)],
                                  descs := x.descs ++ [{ serial := x.serial, index := i, image := img }] }
    s.wr R.SHU.RING_STATUS.HEAD ((i + 1) % s.ringSize r) r) s

/-- A fetch has come back: its descriptors are accepted up to the first with OWN = 0, then released where due (R169,
R170). Once service ends nothing more is consumed (R187). -/
def State.fetched (s : State) (r : Nat) : State :=
  let x := s.ring r
  match x.returned with
  | [] => s
  | (no, d) :: rest =>
    let x := { x with returned := rest }
    match x.fetching.find? (fun f => f.1 == no) with
    | none => s.setRing r x
    | some (_, _, n) =>
      let s := s.setRing r { x with fetching := x.fetching.filter (fun f => f.1 != no) }
      if s.ringState r ≠ ringActive ∨ s.ending then s
      else
        let imgs := ownedImages d n
        let s := (s.count 66 n).consume r imgs
        let s := if imgs.length < n then
            (s.bump R.SHU.RING_STAT.OWN_STALLS r).setRing r
              { s.ring r with ownStall := true, fetching := [], returned := [], fetchPos := s.rd R.SHU.RING_STATUS.HEAD r }
          else s
        s.release r false

/-- DESCRIPTORS_FETCHED (R169). -/
def execDescriptorsFetched (ring : Fin 256) (st : State) : Host.Outcome State Fault Refusal := live st (st.fetched ring)

end Sys2Proof.Machine
end

