-- ==== Sys2Proof/Machine/Tick.lean ====
section
/-! DEFINITION. One tick of the time base: what the per-tick and occupancy counters count (00 R11, 12 R300-R304, R306). -/

namespace Sys2Proof.Machine

/-- QPs in RTS. -/
def State.rtsCount (s : State) : Nat := (s.stored R.XPT.QP_STATE.STATE).countP (fun q => s.qpRts q)

/-- READ and ATOMIC requests outstanding at the responder, all QPs. -/
def State.readsHeld (s : State) : Nat :=
  s.qps.entries.foldl (fun n q => n + q.2.held.countP (fun h => h.isRead)) 0

/-- Rings ACTIVE. -/
def State.activeRings (s : State) : Nat :=
  (s.stored R.SHU.RING_CTRL.STATE).countP (fun r => s.rd R.SHU.RING_CTRL.STATE r == 1)

/-- A Needle descriptor that has started and waits for a slot of the Needle (08 R222). -/
def Desc.waitsNeedle (d : Desc) : Bool := d.needle && d.stage == .started && !d.active

/-- Needle descriptors that hold a slot of the Needle, or that have started and wait for one (08 R222). -/
def State.needleCount (s : State) (active : Bool) : Nat :=
  s.rings.entries.foldl (fun n r => n + r.2.descs.countP (fun d => if active then d.active else d.waitsNeedle)) 0

/-- The occupancy that an occupancy event names (R302, R306). -/
def State.occupancy (s : State) (n : Nat) : Nat :=
  match pmcPlace n with
  | (1, _) => (s.ports.get {} ((n - 16) / 16)).held.entries.foldl (fun m e => m + e.2) 0
  | (2, 11) => s.rtsCount
  | (2, _) => s.readsHeld
  | (3, 9) => s.poolShuttle
  | (3, _) => s.activeRings
  | (4, 5) => s.needleCount true
  | (4, _) => s.needleCount false
  | (5, 12) => s.dirtyLines
  | (5, 13) => s.validLines
  | (5, _) => s.stickyLines
  | (6, 4) => 8192 - s.poolFree
  | (6, _) => s.lng.bufWait.length
  | (7, _) => s.rd R.PLC.STATUS.MOVES_ACTIVE
  | (10, _) => (s.chan ((n - 256) / 16)).admitted.length
  | (12, k) => s.inFlight k
  | (13, _) => s.lagUs
  | _ => 0

/-- A cell of panel column k has work queued and holds no credit for the round (R306, R400). -/
def State.columnStarved (s : State) (k : Nat) : Bool :=
  (List.range 4).any (fun t => !(s.chan (8 * t + k)).waiting.isEmpty && !s.hasCredit (8 * t + k))

/-- The counters that count ticks, while their condition holds (R306). -/
def State.tickEvents (s : State) : List Nat :=
  [0] ++ (if s.on R.CLK.STATUS.REF_SEL then [6] else []) ++
  (if s.mode = modeEase then [10] else []) ++ (if s.mode = modeShadow then [12] else []) ++
  ((List.range 2).filter (fun p =>
    (s.ports.get {} p).paused.get 0 (s.rd R.ETH.QOS_MAP.ROCE_PRIO p) != 0)).map (fun p => 25 + 16 * p) ++
  (if s.rd R.QOS.DELIVER.LIMIT = 0 then [137] else []) ++
  (if s.on R.PLC.STATUS.SEAM_LOW then [170] else []) ++
  ((List.range 8).filter s.columnStarved).map (224 + ·) ++
  (if s.mode = modeEase ∧ s.on R.HEM.STATUS.FORCED then [232] else []) ++
  ((List.range 32).filter (fun c => s.on R.CHN.STATUS.IN_WINDOW c)).map (fun c => 262 + 16 * c)

/-- The occupancy counters that advance in a tick. -/
def State.occEvents (s : State) : List Nat :=
  ((List.range 1024).filter pmcOcc).filter (fun n => s.pmc.thresh.get 0 n < s.occupancy n)

/-- Pool buffers that wait for each channel, summed over the ticks of the epoch (09 R242). -/
def State.waitTick (s : State) : State :=
  let acc := s.chans.entries.foldl (fun m c =>
    if c.2.waiting.isEmpty then m else m.set 0 c.1 (m.get 0 c.1 + c.2.waiting.length)) s.mem.contAcc
  { s with mem := { s.mem with contAcc := acc } }

/-- What a write of PMC.CFG for counter n left to take effect does so; a change of CHAIN clears the counter and its sticky bit
(R302, R303). -/
def State.pmcTake (s : State) (n : Nat) (rechained : Bool) : State :=
  let p := s.pmc
  let p := { p with thresh := p.thresh.set 0 n (s.rd R.PMC.CFG.THRESH n) }
  let p := if rechained then
      { p with chain := p.chain.set false n (s.on R.PMC.CFG.CHAIN n), cnt := p.cnt.set 0 n 0, ovf := p.ovf.set false n false }
    else p
  { s with pmc := p }

/-- The tick boundary of the counters' settings (R302, R303). -/
def State.pmcBoundary (s : State) : State :=
  let t := s.pmc.fresh.foldl (fun s e => s.pmcTake e.1 e.2) s
  { t with pmc := { t.pmc with fresh := [] } }

/-- A dump period that was written takes effect at the next multiple of itself (R311). -/
def State.dumpPeriod (s : State) : State :=
  let p := s.rd R.PMC.CTRL.PERIOD_MS
  if s.tick % (1000000 * p) = 0 then { s with dump := { s.dump with period := p } } else s

/-- One tick passes with no command (R11, R300); settings written in it take effect at its end. With both clocks stopped no tick
passes (R80; log entry 87). -/
def State.tickOn (s : State) : State :=
  let t := (s.tickEvents ++ s.occEvents).foldl (fun s n => s.count n) s
  ({ t.waitTick.pmcBoundary with tick := s.tick + 1 } : State).dumpPeriod.scrubGrant

end Sys2Proof.Machine
end

