-- ==== Sys2Proof/Machine/Descr.lean ====
section
/-! DEFINITION. Descriptors: their fields, their checks, their start and their completion (07 R163, R172-R181, R188, 08
R194-R203, R222, 09 R246, 10 R274). -/

namespace Sys2Proof.Machine

/-- ELEM (R163). -/
def Desc.elem (d : Desc) : Nat := d.byte 2
/-- SRC_A. -/
def Desc.srcA (d : Desc) : Nat := d.field 8
/-- SRC_B. -/
def Desc.srcB (d : Desc) : Nat := d.field 16
/-- DST. -/
def Desc.dst (d : Desc) : Nat := d.field 24
/-- LENGTH. -/
def Desc.length (d : Desc) : Nat := d.field 32
/-- IMM0. -/
def Desc.imm0 (d : Desc) : Nat := d.field 40
/-- IMM1. -/
def Desc.imm1 (d : Desc) : Nat := d.field 48
/-- CW. -/
def Desc.cw (d : Desc) : Nat := d.field 56
/-- CW_RKEY. -/
def Desc.cwRkey (d : Desc) : Nat := d.cw % 2 ^ 32
/-- RESULT_LEN. -/
def Desc.resultLen (d : Desc) : Nat := d.cw / 2 ^ 32
/-- The result destination of a Needle descriptor (R196). -/
def Desc.dest (d : Desc) : Nat := d.subop / 64
/-- A Needle opcode's own options (R196). -/
def Desc.opt (d : Desc) : Nat := d.subop % 64

/-- The element type codes (R194). -/
def elemOk (e : Nat) : Bool := [0x01, 0x02, 0x03, 0x04, 0x11, 0x12, 0x13, 0x14, 0x22, 0x23, 0x24, 0x32].contains e
/-- Bytes of an element (R194). -/
def elemSize (e : Nat) : Nat := 2 ^ (e % 16 - 1)
/-- A floating-point type. -/
def elemFloat (e : Nat) : Bool := e / 16 == 2 || e / 16 == 3
/-- A signed integer type. -/
def elemSigned (e : Nat) : Bool := e / 16 == 1
/-- Bytes of the descriptor's elements. -/
def Desc.size (d : Desc) : Nat := elemSize d.elem
/-- Bytes of an index of GATHER and SCATTER (R211). -/
def Desc.indexSize (d : Desc) : Nat := if d.opt % 2 = 1 then 8 else 4

/-- ELEM and SUBOP that a Needle opcode allows (R194, R196, R197, R200, R202, R209-R215). -/
def Desc.needleForm (d : Desc) : Bool :=
  let o := d.opt
  let t := d.dest
  elemOk d.elem && match d.op with
  | 0x10 => decide (t ≤ 2) && decide (o ≤ 7) && !(elemFloat d.elem && decide (3 ≤ o ∧ o ≤ 5))
  | 0x11 => decide (t ≤ 2) && decide (o % 16 ≤ 7) && decide (o / 16 ≤ 2) && (t != 0 || o / 16 == 0)
  | 0x12 => (t == 1 || t == 2) && decide (o ≤ 1)
  | 0x13 => t == 1 && decide (o ≤ 1)
  | 0x14 => decide (t ≤ 2) && o == 0 && d.elem == 0x01
  | 0x15 => (t == 1 && decide (o ≤ 1)) || (t == 2 && o == 0)
  | _ => decide (t ≤ 2) && o == 0 && (d.elem == 0x04 || d.elem == 0x14)

/-- Check 1: the opcode is known, and it allows ELEM and SUBOP (R172, R174, R188, R246, R274). -/
def Desc.known (d : Desc) : Bool :=
  match d.op with
  | 0x20 => d.elem == 0 && decide (d.subop % 8 ≤ 3) && decide (d.subop < 16)
  | 0x21 => d.elem == 0 && decide (d.subop ≤ 1)
  | 0x22 => d.elem == 0 && decide (d.subop ≤ 1)
  | op => if d.needle then d.needleForm else [0x01, 0x02, 0x03, 0x04, 0x23].contains op && d.elem == 0 && d.subop == 0

/-- Bytes that a Needle descriptor reads from each Fabric Address operand but a destination (R200, R211, R213, R215). -/
def Desc.sources (d : Desc) : List (Nat × Nat) :=
  match d.op with
  | 0x12 => [(d.srcA, d.imm0 * d.size), (d.srcB, d.length * d.indexSize)]
  | 0x13 => [(d.srcA, d.length * d.size), (d.srcB, d.length * d.indexSize)]
  | 0x14 => [(d.srcA, d.length), (d.srcB, 128)]
  | 0x16 => [(d.srcA, 32 * d.length), (d.srcB, d.imm0)]
  | _ => [(d.srcA, d.length * d.size)]

/-- The destination range of a Needle descriptor in a bolt; that of SCATTER is its table (R197, R200). -/
def Desc.target (d : Desc) : Option (Nat × Nat) :=
  if d.op = 0x13 then some (d.dst, d.imm0 * d.size)
  else if d.dest = 1 then some (d.dst, d.resultLen)
  else none

/-- Two byte ranges share a byte. -/
def overlap (a b : Nat × Nat) : Bool :=
  decide (0 < a.2 ∧ 0 < b.2 ∧ faOffset a.1 < faOffset b.1 + b.2 ∧ faOffset b.1 < faOffset a.1 + a.2)

/-- Alignment of the element-typed Fabric Address operands and of the lists (R195, R211, R214, R215; log entry 57). -/
def Desc.aligned (d : Desc) : Bool :=
  match d.op with
  | 0x12 => d.srcA % d.size == 0 && d.srcB % d.indexSize == 0 && (d.dest != 1 || d.dst % d.size == 0)
  | 0x13 => d.srcA % d.size == 0 && d.srcB % d.indexSize == 0 && d.dst % d.size == 0
  | 0x11 => d.srcA % d.size == 0 && (d.dest != 1 || d.opt / 16 != 0 || d.dst % d.size == 0)
  | 0x14 => true
  | 0x15 => d.srcA % d.size == 0 && d.dst % 8 == 0
  | 0x16 => d.srcA % 8 == 0 && d.srcB % 8 == 0
  | _ => d.srcA % d.size == 0

/-- RESULT_LEN of a Needle descriptor (R196, R200, R209). -/
def Desc.capacityOk (d : Desc) : Bool :=
  if d.dest = 0 then d.dst == 0 && d.resultLen == 0
  else match d.op with
  | 0x11 =>
    match d.opt / 16 with
    | 0 => d.resultLen % d.size == 0
    | 1 => d.resultLen % 4 == 0
    | _ => decide (ceilDiv d.length 8 ≤ d.resultLen)
  | 0x12 => decide (d.length * d.size ≤ d.resultLen)
  | 0x13 => d.resultLen == 0
  | 0x15 => decide (2048 ≤ d.resultLen)
  | 0x16 => decide (8 * d.length ≤ d.resultLen)
  | _ => d.resultLen % 8 == 0

/-- LENGTH, immediates and unused operands of a Needle descriptor (R200, R203, R213-R215). -/
def Desc.limitsOk (d : Desc) : Bool :=
  let n := d.length
  let span := decide (n * d.size ≤ 2 ^ 37)
  match d.op with
  | 0x10 => d.srcB == 0 && d.imm1 == 0 && span && (d.dest != 0 || d.imm0 == 0 || decide (n ≤ d.imm0))
  | 0x11 => d.srcB == 0 && span && decide (d.imm0 < 2 ^ (8 * d.size)) && decide (d.imm1 < 2 ^ (8 * d.size)) &&
      (d.opt / 16 != 1 || decide (n ≤ 2 ^ 32))
  | 0x14 => d.imm1 == 0 && decide (1 ≤ d.imm0 ∧ d.imm0 ≤ 64) && decide (n ≤ 2 ^ 37)
  | 0x15 => d.srcB == 0 && d.imm1 == 0 && decide (d.imm0 < d.size) && span
  | 0x16 => d.imm1 == 0 && d.imm0 % 8 == 0 && decide (d.imm0 ≤ 2 ^ 37) && decide (n ≤ 2 ^ 20)
  | _ => d.imm1 == 0 && decide (1 ≤ d.imm0) && decide (d.imm0 * d.size ≤ 2 ^ 37) && decide (n ≤ 2 ^ 32)

/-- Operands, immediates, RESULT_LEN and LENGTH as the opcode needs them (R188, R200, R246, R274). -/
def Desc.operandsOk (d : Desc) : Bool :=
  if d.needle then
    d.limitsOk && d.aligned && d.capacityOk &&
      (match d.target with | some t => !d.sources.any (overlap t) | none => true)
  else match d.op with
  | 0x01 => d.srcB == 0 && d.imm0 == 0 && d.imm1 == 0 && d.cw == 0 && decide (d.length ≤ 2 ^ 37)
  | 0x02 => d.srcA == 0 && d.srcB == 0 && d.imm1 == 0 && d.cw == 0 && decide (d.length ≤ 2 ^ 37)
  | 0x03 => d.srcB == 0 && d.imm0 == 0 && d.imm1 == 0 && d.resultLen == 0 && decide (d.length ≤ 2 ^ 31)
  | 0x04 => d.srcB == 0 && d.imm0 == 0 && d.imm1 == 0 && d.resultLen == 0 && decide (d.length ≤ 2 ^ 31)
  | 0x20 => d.srcB == 0 && d.dst == 0 && d.imm0 == 0 && d.imm1 == 0 && d.cw == 0 && decide (d.length ≤ 2 ^ 37)
  | 0x21 => d.srcA == 0 && d.srcB == 0 && d.imm0 == 0 && d.imm1 == 0 && d.cw == 0 && decide (d.length ≤ 2 ^ 37)
  | _ => d.srcA == 0 && d.srcB == 0 && d.dst == 0 && d.imm0 == 0 && d.imm1 == 0 && d.cw == 0 && d.length == 0

/-- Check 2: the reserved header bits too (R172). -/
def Desc.wellFormed (d : Desc) : Bool := bits (d.field 0) 12 4 == 0 && bits (d.field 0) 32 16 == 0 && d.operandsOk

/-- The Fabric Address operands in the order SRC_A, SRC_B, DST with the rights each needs (R145, R172, R188, R200). -/
def Desc.operands (d : Desc) : List (Nat × Nat × List Nat) :=
  let n := d.length
  match d.op with
  | 0x01 => [(d.srcA, n, [rightRead]), (d.dst, n, [rightWrite])]
  | 0x02 => [(d.dst, n, [rightWrite])]
  | 0x03 => [(d.srcA, n, [rightRead])]
  | 0x04 => [(d.dst, n, [rightWrite])]
  | 0x20 => [(d.srcA, n, [rightRead])]
  | 0x21 => [(d.dst, n, [rightWrite])]
  | 0x22 => []
  | 0x23 => []
  | 0x16 => [(d.srcA, 32 * n, [rightNeedle, rightRead]), (d.srcB, d.imm0, [rightNeedle, rightAtomic])] ++
      (match d.target with | some t => [(t.1, t.2, [rightNeedle, rightWrite])] | none => [])
  | _ => d.sources.map (fun r => (r.1, r.2, [rightNeedle, rightRead])) ++
      (match d.target with | some t => [(t.1, t.2, [rightNeedle, rightWrite])] | none => [])

/-- Check 3: the first operand that fails, or the grants that the descriptor counts in (R146, R172, R220). -/
def State.checkOperands (s : State) (client : Nat) : List (Nat × Nat × List Nat) → List Nat → Nat × List Nat
  | [], gs => (0, gs)
  | (va, n, rights) :: rest, gs =>
    match s.operandRights client va n rights with
    | (st, g) => if st = 0 then s.checkOperands client rest (gs ++ [g]) else (st, [])

/-- The status of a descriptor's checks and its grants; LENGTH 0 skips check 3 (R172). -/
def State.checkDesc (s : State) (client : Nat) (d : Desc) : Nat × List Nat :=
  if ¬ d.known then (stUnsupported, [])
  else if ¬ d.wellFormed then (stMalformed, [])
  else if d.length = 0 then (0, [])
  else s.checkOperands client d.operands []

/-- A ring's descriptor is replaced. -/
def State.setDesc (s : State) (r : Nat) (d : Desc) : State :=
  let x := s.ring r
  s.setRing r { x with descs := x.descs.map (fun e => if e.serial = d.serial then d else e) }

/-- A descriptor's work has ended (R180). -/
def State.finish (s : State) (r : Nat) (d : Desc) (status bytes result : Nat) : State :=
  s.setDesc r { d with stage := .done, status := status, bytesDone := bytes, result := result }

/-- No pool buffer is free for a descriptor of master m that would start: the requests of its class that wait have come before it
(R172, R297). -/
def State.noBuffer (s : State) (m : Nat) : Bool := s.noTurn m s.lng.arrivals

/-- The Needle descriptors that have started and wait for a slot: start number, ring, descriptor. -/
def State.needleWaiting (s : State) : List (Nat × Nat × Desc) :=
  s.rings.entries.flatMap (fun e =>
    (e.2.descs.filter Desc.waitsNeedle).map (fun d => (d.startNo, e.1, d)))

/-- Free slots go to waiting descriptors in the order they started (R222). -/
def State.fillNeedle : Nat → State → State
  | 0, s => s
  | k + 1, s =>
    if s.needleCount true < s.rd R.NDL.CFG.MAX_ACTIVE then
      match sortBy (fun (w : Nat × Nat × Desc) => [(w.1 : Int)]) s.needleWaiting with
      | (_, r, d) :: _ => State.fillNeedle k (s.setDesc r { d with active := true })
      | [] => s
    else s

/-- Slots as they stand after one has freed or a descriptor has started. -/
def State.needleSlots (s : State) : State := State.fillNeedle 128 s

/-- The slots of a descriptor that are under way: at a controller or waiting for a buffer. -/
def State.workSlots (s : State) (r : Nat) (d : Desc) : Nat := s.slotsFor (.work (some (r, d.serial)))

/-- A descriptor has steps to take, and none of its slots waits for a buffer. -/
def State.maySteps (s : State) (r : Nat) (d : Desc) : Bool :=
  d.steps != 0 && !s.lng.bufWait.any (fun w => w.2.use == .work (some (r, d.serial)))

/-- n Needle steps are taken, the last of them with some needles idle or not (R222, NDL.STEPS). -/
def State.takeSteps (s : State) (n : Nat) (partStep : Bool) : State :=
  let s := ((s.count 80 n).count 81 partStep.toNat).bump R.NDL.STEPS.STEPS 0 n
  { s with steps := s.steps + n }

/-- One step of a descriptor: its lines' slots are issued, an even share of what is left in each step; a Needle descriptor that
has taken its last step leaves its slot (R222; DESIGN CHOICE, log entry 85). -/
def State.stepDesc (s : State) (r : Nat) (d : Desc) : State :=
  let n := ceilDiv d.slots.length d.steps
  let last := d.steps == 1
  let s := s.setDesc r { d with slots := d.slots.drop n, steps := d.steps - 1, active := d.active && !last }
  let s := if d.needle then s.takeSteps 1 (last && d.part) else s
  let s := (d.slots.take n).foldl (fun (s : State) x => s.issueSlot x.1 x.2) s
  if last then s.needleSlots else s

/-- The descriptors of every ring that may take a step: ring and descriptor. -/
def State.steppers (s : State) (needle : Bool) : List (Nat × Desc) :=
  s.rings.entries.flatMap (fun e => (e.2.descs.filter (fun d => d.needle == needle && s.maySteps e.1 d)).map (fun d => (e.1, d)))

/-- The next in round robin of start numbers after n. -/
def nextStart (ns : List Nat) (n : Nat) : Nat :=
  match ns.filter (n < ·) with
  | m :: ms => ms.foldl min m
  | [] => ns.foldl min (ns.headD 0)

/-- The Needle's next step goes to the highest class that has one, in round robin, each turn lasting QUANTUM steps (R222, 11
R288). -/
def State.needleStep (s : State) : State :=
  let xs := s.steppers true
  match [0, 1, 2].find? (fun k => xs.any (fun x => s.slotClass (x.1 / 4) == k)) with
  | none => s
  | some k =>
    let ys := xs.filter (fun x => s.slotClass (x.1 / 4) == k)
    let t := s.turn.get {} k
    let stays := t.left != 0 && ys.any (fun y => y.2.startNo == t.start)
    let n := if stays then t.start else nextStart (ys.map (·.2.startNo)) t.start
    let s : State := { s with turn := s.turn.put k { start := n, left := (if stays then t.left else s.rd R.NDL.CFG.QUANTUM) - 1 } }
    match ys.find? (fun y => y.2.startNo == n) with
    | some (r, d) => s.stepDesc r d
    | none => s

/-- The Shuttle's descriptors each go on by one line (07 R175). -/
def State.shuttleSteps (s : State) : State := (s.steppers false).foldl (fun s x => s.stepDesc x.1 x.2) s

/-- The engines go on by one tick (R222; DESIGN CHOICE, log entry 85). -/
def State.engines (s : State) : State := s.shuttleSteps.needleStep

/-- The work of a descriptor of ring r runs, and the slots that it asks for are those of its steps; slots without a step of their
own are issued at once (R222, R283). -/
def State.runWork (s : State) (r : Nat) (d : Desc) (f : State → State) : State :=
  let s := f { s with lng := { s.lng with job := some {} } }
  let j := s.lng.job.getD {}
  let s : State := { s with lng := { s.lng with job := none } }
  let xs := j.slots.map (fun x => (x.1, if x.2.use = .work none then { x.2 with use := .work (some (r, d.serial)) } else x.2))
  let n := if d.needle then j.steps else xs.length
  match (s.ring r).descs.find? (fun e => e.serial == d.serial) with
  | none => s
  | some e =>
    if n = 0 then xs.foldl (fun s x => s.issueSlot x.1 x.2) (s.setDesc r { e with active := e.active && e.stage == .started })
    else s.setDesc r { e with slots := e.slots ++ xs, steps := e.steps + n, part := j.part }

/-- The steps that a Needle descriptor's work takes are planned (R222). -/
def State.planSteps (s : State) (n : Nat) (partStep : Bool) : State :=
  match s.lng.job with
  | some j => { s with lng := { s.lng with job := some { j with steps := j.steps + n, part := partStep } } }
  | none => s

/-- What stops ring r from starting descriptor d now: order, a FENCE, no buffer, or 64 records that wait (R172, R174,
R179). -/
def State.mayStart (s : State) (r : Nat) (d : Desc) : Bool :=
  let x := s.ring r
  s.ringState r == ringActive && x.fence.isNone && !s.noBuffer (r / 4) &&
    !(d.flag 8 && x.descs.any (fun e => e.serial < d.serial)) &&
    !(s.on R.SHU.RING_STATUS.CQ_FULL r && decide (64 ≤ x.ended.length))

/-- The client's other three rings, each with the number of its next descriptor to be consumed (R174). -/
def State.otherRings (s : State) (r : Nat) : List (Nat × Nat) :=
  (((List.range 4).map (4 * (r / 4) + ·)).filter (· != r)).map (fun k => (k, (s.ring k).serial))

/-- A descriptor that passed its checks starts (R172, R174, R220, R222). -/
def State.startDesc (s : State) (r : Nat) (d : Desc) (gs : List Nat) : State :=
  let s : State := { s with starts := s.starts + 1 }
  let s := (gs.foldl State.grantIn s).count 67
  let d := { d with stage := .started, grants := gs, startNo := s.starts }
  let s := if d.needle then s.count 82 else s
  if d.op = 0x22 then
    let s := s.setDesc r d
    s.setRing r { s.ring r with fence := some (d.serial, d.subop), fenceOthers := if d.subop = 1 then s.otherRings r else [] }
  else if d.op ≠ 0x23 ∧ d.length = 0 then s.finish r d 0 0 0
  else (s.setDesc r d).needleSlots

/-- The next consumed descriptor of a ring starts, or completes with the check it fails (R172, R173). -/
def State.startNext (s : State) (r : Nat) : State :=
  match (s.ring r).descs.find? (fun d => d.stage == .consumed) with
  | none => s
  | some d =>
    if ¬ s.mayStart r d then s
    else match s.checkDesc (r / 4) d with
      | (st, gs) =>
        if st = 0 then s.startDesc r d gs
        else
          let s := if 0x10 ≤ st ∧ st ≤ 0x13 then s.countDenied (r / 4) st else s
          s.finish r d st 0 0

/-- DESCRIPTOR_START (R172). -/
def execDescriptorStart (ring : Fin 256) (st : State) : Host.Outcome State Fault Refusal := live st (st.startNext ring)

/-- A descriptor posts a record; CLIENT_XFER_FAILED is never posted (R178, R180). -/
def Desc.posts (d : Desc) : Bool := (d.status != 0 || d.flag 9 || d.flag 11) && d.status != stClientXfer

/-- A Needle descriptor that started has ended (08 NDL.OPS). -/
def State.countNeedle (s : State) (d : Desc) : State :=
  if ¬ d.needle ∨ d.startNo = 0 then s
  else if d.status ≤ 1 then (s.count 83).bump R.NDL.OPS.COMPLETED
  else (s.count 84).bump R.NDL.OPS.FAILED

/-- A descriptor completes: its grants are free, its record waits to be posted, and a status of 0x20 to 0x22 halts the ring
(R174, R178, R183, R220). -/
def State.completeDesc (s : State) (r : Nat) (d : Desc) : State :=
  let d := { d with tick := s.tick }
  let s := d.grants.foldl State.grantOut s
  let x := s.ring r
  let keep := d.posts && s.ringState r != ringDetached
  let s := s.setRing r { x with descs := x.descs.filter (fun e => e.serial != d.serial),
                                ended := if keep then x.ended ++ [d] else x.ended }
  let s := s.countNeedle d
  let s := if d.status = stTorn then s.count 196 else s
  let s := if 0x20 ≤ d.status ∧ d.status ≤ 0x22 ∧ (s.ringState r = ringActive ∨ s.ringState r = ringHalted) then
    s.haltRing r d.status else s
  s.post r

/-- The first descriptor of a ring whose work is done and whose slots are served, whose transfers are acknowledged and whose writes the partner has
committed where it must (R174, R190, 18 R428). -/
def State.readyDesc (s : State) (r : Nat) : Option Desc :=
  (s.ring r).descs.find? (fun d => d.stage == .done && d.outs == 0 && d.steps == 0 && s.workSlots r d == 0 && s.committed d.commit)

/-- DESCRIPTOR_COMPLETE (R178): where none completes, records that waited are posted. -/
def execDescriptorComplete (ring : Fin 256) (st : State) : Host.Outcome State Fault Refusal :=
  live st (match st.readyDesc ring with | some d => st.completeDesc ring d | none => st.post ring)

end Sys2Proof.Machine
end

