-- ==== Sys2Proof/Machine/Moves.lean ====
section
/-! DEFINITION. The descriptors that move data, order work, hint and flush (07 R174, R188-R191, 09 R238, R247, 10
R274-R277). -/

namespace Sys2Proof.Machine

/-- The ranges of bolts that a descriptor's work touches. -/
def Desc.ranges (d : Desc) : List (Nat × Nat) := d.operands.map (fun o => (o.1, o.2.1))

/-- A descriptor of ring r waits: a line of its ranges is busy (10 R263), new writes to a swatch that it writes are held (09 R250), or
what it would write around the Lining finds no pool buffer (10 R271, 11 R297). -/
def State.descWaits (s : State) (r : Nat) (d : Desc) : Bool :=
  d.operands.any (fun o =>
    s.rangeBusy o.1 o.2.1 ||
      (d.op != 0x21 && (o.2.2.contains rightWrite || o.2.2.contains rightAtomic) && (s.rangeHeld o.1 o.2.1 ||
        (s.noBuffer (r / 4) && (match s.boltAt (faOffset o.1 / 65536) with | some b => s.policy b == 1 | none => false)))))

/-- The work of the first started descriptor of ring r with an opcode, once it need not wait. -/
def State.work (s : State) (r op : Nat) (f : State → Desc → State) : State :=
  match (s.ring r).descs.find? (fun d => d.stage == .started && d.op == op) with
  | some d => if s.descWaits r d then s else s.runWork r d (fun s => f s d)
  | none => s

/-- The bolt that a Fabric Address lies in. -/
def State.boltOf (s : State) (va : Nat) : Nat := (s.boltAt (faOffset va / 65536)).getD 0

/-- The frame that must be committed before writes just made to bolt b count as accepted (18 R428). -/
def State.commitFor (s : State) (b : Nat) : Nat := if s.needsCommit b then s.lastSeq else 0

/-- The part of a prefix of n bytes at bolt offset off that ends at a line's end (R181). -/
def wholeLines (off n : Nat) : Nat := n - min n ((off + n) % 64)

/-- COPY: the whole source is read before any byte is written; a source that fails ends the copy at the last whole line of its
prefix (R181, R189). -/
def State.copy (s : State) (r : Nat) (d : Desc) : State :=
  let b := s.boltOf d.dst
  if s.mirrorHold b then s else
  match s.readRange (r / 4) (s.boltOf d.srcA) (faOffset d.srcA) d.length with
  | (s, st, data) =>
    let data := if st = 0 then data else data.take (wholeLines (faOffset d.dst) data.length)
    match s.writeRange (r / 4) b (faOffset d.dst) data with
    | (s, wst, n) => s.finish r { d with commit := s.commitFor b } (if wst = 0 then st else wst) n 0

/-- COPY (R189). -/
def execCopy (ring : Fin 256) (noise : List LineNoise) (st : State) : Host.Outcome State Fault Refusal :=
  live st (st.work ring 0x01 (fun s d => s.noisy noise (fun s => s.copy ring d)))

/-- Bytes i to i + n of a FILL: byte i takes byte i % 8 of IMM0 (R189). -/
def fillBytes (imm i n : Nat) : List Byte := (List.range n).map (fun k => BitVec.ofNat 8 (imm / 2 ^ (8 * ((i + k) % 8))))

/-- A whole swatch returns to the zero state and its frame is free (R238). -/
def State.zeroSwatch (s : State) (b sw : Nat) : State :=
  let s := (s.dropLines (fun l => l / 256 == sw)).freeSwatch sw
  let s := s.clearMap sw
  s.mirror b sw (zeroRecord sw)

/-- FILL over the swatches of its range, in order: a whole swatch filled with zeros goes to the zero state, or stays in it
(R189, R238). -/
def State.fillSwatches (s : State) (m b off len imm : Nat) : List Nat → State × Nat × Nat
  | [] => (s, 0, len)
  | sw :: rest =>
    let a := max off (65536 * sw)
    let z := min (off + len) (65536 * sw + 65536)
    let st := entryState (s.mapOf sw)
    if imm = 0 ∧ z - a = 65536 ∧ b ≠ 0 ∧ (st = 0 ∨ st = 3) then
      State.fillSwatches (if st = 0 then s.zeroSwatch b sw else s) m b off len imm rest
    else
      match s.writeRange m b a (fillBytes imm (a - off) (z - a)) with
      | (s, wst, n) => if wst = 0 then s.fillSwatches m b off len imm rest else (s, wst, a - off + n)

/-- Swatches that bytes [off, off + len) touch, ascending. -/
def swatchRun (off len : Nat) : List Nat :=
  if len = 0 then [] else
  let first := off / 65536
  (List.range ((off + len - 1) / 65536 + 1 - first)).map (first + ·)

/-- FILL (R189). -/
def State.fill (s : State) (r : Nat) (d : Desc) : State :=
  let b := s.boltOf d.dst
  let off := faOffset d.dst
  if s.mirrorHold b then s else
  match s.fillSwatches (r / 4) b off d.length d.imm0 (swatchRun off d.length) with
  | (s, st, n) => s.finish r { d with commit := s.commitFor b } st n 0

/-- FILL (R189). -/
def execFill (ring : Fin 256) (noise : List LineNoise) (st : State) : Host.Outcome State Fault Refusal :=
  live st (st.work ring 0x02 (fun s d => s.noisy noise (fun s => s.fill ring d)))

/-- The rkey of descriptor data: CW_RKEY, or WIN_RKEY where it is 0 (R161). -/
def State.dataRkey (s : State) (r : Nat) (d : Desc) : Nat :=
  if d.cwRkey = 0 then s.rd R.SHU.RING_RKEY.WIN_RKEY r else d.cwRkey

/-- Bytes in one message of descriptor data (R190). -/
def msgBytes : Nat := 65536

/-- Output data goes to the client in WRITE messages of at most 64 KiB, ascending; the descriptor ends when all are
acknowledged; a QP that has left RTS takes none (R190, R198). -/
def State.sendOut (s : State) (r : Nat) (d : Desc) (data : List Byte) (status result : Nat) : State :=
  let n := ceilDiv data.length msgBytes
  if ¬ s.qpRts (s.ringQp r) then s.finish r d stClientXfer 0 0 else
  let s := s.finish r { d with outs := n, issued := true } status data.length result
  (List.range n).foldl (fun (s : State) i =>
    s.postWrite (s.ringQp r) ((d.dst + msgBytes * i) % 2 ^ 64) (s.dataRkey r d)
      ((data.drop (msgBytes * i)).take msgBytes) (.dataOut r d.serial)) s

/-- READ_OUT: what was read before a line that fails is sent (R181, R190). -/
def State.readOut (s : State) (r : Nat) (d : Desc) : State :=
  match s.readRange (r / 4) (s.boltOf d.srcA) (faOffset d.srcA) d.length with
  | (s, st, data) => s.sendOut r d data st 0

/-- READ_OUT (R190). -/
def execReadOut (ring : Fin 256) (noise : List LineNoise) (st : State) : Host.Outcome State Fault Refusal :=
  live st (st.work ring 0x03 (fun s d => s.noisy noise (fun s => s.readOut ring d)))

/-- The arrived data of a WRITE_IN that can be written: up to the end of its last whole line, all of it once nothing is
outstanding (R175, R190). -/
def Desc.writable (d : Desc) : List Byte :=
  if d.outs = 0 then d.arrived else d.arrived.take (wholeLines (faOffset d.dst + d.bytesDone) d.arrived.length)

/-- A WRITE_IN goes on: the lines whose data has arrived are written in order, up to one that fails, unless the pair holds writes;
with nothing outstanding it is done (R175, R181, R190). -/
def State.pumpIn (s : State) (r : Nat) (d : Desc) : State :=
  let b := s.boltOf d.dst
  let data := d.writable
  if s.mirrorHold b then s else
  match s.writeRange (r / 4) b (faOffset d.dst + d.bytesDone) data with
  | (s, st, n) =>
    let d := { d with arrived := d.arrived.drop data.length, bytesDone := d.bytesDone + n,
                      commit := if data.isEmpty then d.commit else s.commitFor b }
    if st ≠ 0 ∨ d.outs = 0 then s.finish r { d with arrived := [] } st d.bytesDone 0 else s.setDesc r d

/-- WRITE_IN: its data is asked for in READ requests of at most 64 KiB, ascending (R190). -/
def State.writeIn (s : State) (r : Nat) (d : Desc) : State :=
  if d.issued then s.pumpIn r d
  else
    let n := ceilDiv d.length msgBytes
    if ¬ s.qpRts (s.ringQp r) then s.finish r d stClientXfer 0 0 else
    let s := s.setDesc r { d with issued := true, outs := n }
    (List.range n).foldl (fun (s : State) i =>
      s.postRead (s.ringQp r) ((d.srcA + msgBytes * i) % 2 ^ 64) (s.dataRkey r d) (min msgBytes (d.length - msgBytes * i))
        (.dataIn r d.serial)) s

/-- WRITE_IN (R190). -/
def execWriteIn (ring : Fin 256) (noise : List LineNoise) (st : State) : Host.Outcome State Fault Refusal :=
  live st (st.work ring 0x04 (fun s d => s.noisy noise (fun s => s.writeIn ring d)))

/-- Data for a WRITE_IN has arrived, the last of a message or not, or is dropped where the descriptor has ended; its lines are written
at once unless it waits (R190). -/
def State.dataArrived (s : State) (r serial : Nat) (data : List Byte) (last : Bool) : State :=
  match (s.ring r).descs.find? (fun d => d.serial == serial) with
  | none => s
  | some d =>
    let d := { d with outs := d.outs - last.toNat }
    if d.stage = .started then
      let d := { d with arrived := d.arrived ++ data }
      let s := s.setDesc r d
      if s.descWaits r d then s else s.runWork r d (fun s => s.pumpIn r d)
    else s.setDesc r d

/-- A WRITE of descriptor data is acknowledged. -/
def State.dataAcked (s : State) (r serial : Nat) : State :=
  match (s.ring r).descs.find? (fun d => d.serial == serial) with
  | none => s
  | some d => s.setDesc r { d with outs := d.outs - 1 }

/-- Every earlier descriptor of a ring below number n has completed, and its records are acknowledged (R174). -/
def State.allBefore (s : State) (r n : Nat) : Bool :=
  let x := s.ring r
  x.descs.all (fun d => n ≤ d.serial) && x.ended.all (fun d => n ≤ d.serial) && !s.recordsOut r n

/-- FENCE d of ring r is one of SUBOP 1 that waits for descriptor n of ring k, or will once it starts (R174). -/
def State.fenceWaits (s : State) (r : Nat) (d : Desc) (k n : Nat) : Bool :=
  d.op == 0x22 && d.subop == 1 && d.known && d.wellFormed &&
    (d.stage == .consumed || (d.stage == .started && (s.ring r).fenceOthers.any (fun o => o.1 == k && decide (n < o.2))))

/-- The descriptors of ring k that FENCE n of ring r, of SUBOP 1, waits for are those below this number: what ring k had consumed, but
for a FENCE that waits for FENCE n itself and for what stands behind that one (R174; DESIGN CHOICE, log entry 93). -/
def State.fenceLimit (s : State) (r n k m : Nat) : Nat :=
  ((s.ring k).descs.filter (fun d => s.fenceWaits k d r n)).foldl (fun m d => min m d.serial) m

/-- FENCE: it completes once what it waits for has, and later descriptors may start (R174). -/
def State.endFence (s : State) (r : Nat) (d : Desc) : State :=
  let x := s.ring r
  if s.allBefore r d.serial && x.fenceOthers.all (fun o => s.allBefore o.1 (s.fenceLimit r d.serial o.1 o.2)) then
    let s := s.finish r d 0 0 0
    s.setRing r { s.ring r with fence := none, fenceOthers := [] }
  else s

/-- FENCE (R174). -/
def execFence (ring : Fin 256) (st : State) : Host.Outcome State Fault Refusal :=
  live st (st.work ring 0x22 (fun s d => s.endFence ring d))

/-- NOP (R191). -/
def execNop (ring : Fin 256) (st : State) : Host.Outcome State Fault Refusal :=
  live st (st.work ring 0x23 (fun s d => s.finish ring d 0 0 0))

/-- A dwell record after a HINT with SUBOP v: the swatch hint in bits 7:5, URGENT in bit 8 (R233, R246, R247). -/
def hintDwell (x v : Nat) : Nat :=
  let h := v % 8
  let x := x - bits x 5 3 * 32 + h * 32
  if h = 0 then setBit x 8 false else if bit v 3 then setBit x 8 true else x

/-- HINT on one swatch; a PINNED bolt keeps its hints (R247). -/
def State.hintSwatch (s : State) (b v sw : Nat) : State :=
  if b = 0 ∨ (s.softOf b).1 = 4 then s else s.setDwell sw (hintDwell (s.dwell sw) v)

/-- HINT (R247). -/
def State.hint (s : State) (r : Nat) (d : Desc) : State :=
  let sws := swatchRun (faOffset d.srcA) d.length
  let b := s.boltOf d.srcA
  (sws.foldl (fun s sw => s.hintSwatch b d.subop sw) s).finish r d 0 d.length sws.length

/-- HINT (R247). -/
def execHint (ring : Fin 256) (st : State) : Host.Outcome State Fault Refusal :=
  live st (st.work ring 0x20 (fun s d => s.hint ring d))

/-- The first torn swatch of a range of swatches (R277). -/
def State.firstTorn (s : State) (first last : Nat) : Option Nat :=
  (s.mem.map.entries.find? (fun e => decide (first ≤ e.1 ∧ e.1 ≤ last) && entryState e.2 == 2)).map (·.1)

/-- The lines of the Lining that a FLUSH of lines first to last writes back: those below the first torn swatch it meets (R275, R277). -/
def State.flushMeets (s : State) (first last l : Nat) : Bool :=
  decide (first ≤ l ∧ l ≤ last) && (match s.firstTorn (first / 256) (last / 256) with | some t => decide (l / 256 < t) | none => true)

/-- The DIRTY sectors of the lines that pass a test, those counted that a second test takes. -/
def State.dirtyIn (s : State) (p : Nat → Bool) (take : Nat → Nat → Bool) : Nat :=
  (s.allLines.filter (fun x => p x.addr)).foldl (fun n x => n + x.dirtySecs.countP (take x.addr)) 0

/-- A FLUSH waits for the write-backs that are open in its range and for the no-allocate writes held for it (R268, R275). -/
def State.flushWaits (s : State) (met : Nat → Bool) : Bool :=
  s.lng.wbs.any (fun w => met w.line && decide (w.fails < 4)) || s.lng.around.any (fun a => met a.line)

/-- FLUSH starts: the write-backs of the DIRTY sectors that it meets, charged to its client (R269, R275). -/
def State.flushStart (s : State) (r : Nat) (d : Desc) (met : Nat → Bool) : State × Desc :=
  let d := { d with flushed := some (s.dirtyIn met (fun _ _ => true)) }
  ((s.startAll (r / 4) met).setDesc r d, d)

/-- FLUSH ends, or waits: TORN_RANGE at a torn swatch, UNCORRECTABLE at a sector whose write-back has failed four times below it;
INVALIDATE clears the lines that nothing has dirtied since (R275-R277). RESULT is the number of sectors written back. -/
def State.flushEnd (s : State) (r : Nat) (d : Desc) (first last : Nat) (met : Nat → Bool) : State :=
  if s.flushWaits met then s else
  let all := d.flushed.getD 0
  let lost := s.dirtyIn met s.stuck
  if lost ≠ 0 then s.finish r d stUncorrectable 0 (all - lost)
  else if (s.firstTorn (first / 256) (last / 256)).isSome then s.finish r d stTorn 0 all
  else
    let inside (l : Nat) : Bool := decide (first ≤ l ∧ l ≤ last) && !(s.lineAt l).any Line.anyDirty
    (if d.subop % 2 = 1 then s.dropLines inside else s).finish r d 0 d.length all

/-- FLUSH over the whole lines that its range touches (R274-R277). -/
def State.flush (s : State) (r : Nat) (d : Desc) : State :=
  let first := faOffset d.dst / 256
  let last := (faOffset d.dst + d.length - 1) / 256
  let met := s.flushMeets first last
  if d.flushed.isSome then s.flushEnd r d first last met
  else match s.flushStart r d met with | (s, d) => s.flushEnd r d first last met

/-- FLUSH (R275). -/
def execFlush (ring : Fin 256) (st : State) : Host.Outcome State Fault Refusal :=
  live st (st.work ring 0x21 (fun s d => s.flush ring d))

end Sys2Proof.Machine
end

