-- ==== Sys2Proof/Machine/Needle.lean ====
section
/-! DEFINITION. The Needle opcodes (08 R194-R223). -/

namespace Sys2Proof.Machine

/-- The format of a floating-point element type (R194). -/
def elemFmt (e : Nat) : FFmt := match e with | 0x22 => f16 | 0x23 => f32 | 0x24 => f64 | _ => bf16

/-- The work of the first Needle descriptor of ring r with an opcode that holds a slot (R222). -/
def State.needleWork (s : State) (r op : Nat) (f : State → Desc → State) : State :=
  let s := s.needleSlots
  match (s.ring r).descs.find? (fun d => d.stage == .started && d.op == op && d.active) with
  | some d => if s.descWaits r d then s else (s.runWork r d (fun s => f s d)).needleSlots
  | none => s

/-- Steps over n lines or entries, eight to a step. -/
def State.stepsOver (s : State) (n : Nat) : State := s.planSteps (ceilDiv n 8) (n % 8 != 0)

/-- What a needle finds in the sectors ks of one source line: a hit is served from the Lining, a miss is read and not
installed; either is an access to a resident line (R217, R218, 10 R273). -/
def State.needleLine (s : State) (m b l : Nat) (ks : List Nat) : State × List SecGot :=
  let hit := s.hasSecs l ks
  let s := ((s.countRead b hit).count 87).count 88 hit.toNat
  if hit then
    let s := s.touchLine b l
    (s, (List.range 4).map (fun k => (k, s.lookSec l [] k)))
  else
    let s := if b = 0 then s else s.lookupMap m l false
    let (s, gs) := (s.decideMark b l).fillNow m b l (fun _ => true)
    (s.countFill gs, (List.range 4).map (fun k => (k, s.lookSec l gs k)))

/-- One of a line's sectors as it was found. -/
def pickSec (gs : List SecGot) (k : Nat) : Got := match gs.find? (fun g => g.1 == k) with | some g => g.2 | none => bad stTorn

/-- Source bytes line by line, up to the first that fails: the status, the bytes before it, the lines read (R219; log entry 57). -/
def State.needleRuns (s : State) (m b : Nat) : List (Nat × Nat × Nat) → List Byte → Nat → State × Nat × List Byte × Nat
  | [], acc, n => (s, 0, acc, n)
  | (l, o, k) :: rest, acc, n =>
    match s.needleLine m b l (touched o k) with
    | (s, gs) =>
      let g := joinSecs (pickSec gs) o k
      if g.status = 0 then s.needleRuns m b rest (acc ++ g.data) (n + 1) else (s, g.status, acc ++ g.data, n + 1)

/-- A source operand read for ring r (R217-R219; log entry 57). -/
def State.needleRead (s : State) (r va len : Nat) : State × Nat × List Byte × Nat :=
  s.needleRuns (r / 4) (s.boltOf va) (lineRuns (faOffset va) len) [] 0

/-- Whole items of k bytes in a run of bytes, as numbers (R195). -/
def items (k : Nat) (bs : List Byte) : List Nat := (List.range (bs.length / k)).map (fun i => leNat ((bs.drop (i * k)).take k))

/-- The bolt that a Needle descriptor writes. -/
def State.outBolt (s : State) (d : Desc) : Option Nat :=
  if d.op = 0x13 ∨ d.dest = 1 then some (s.boltOf d.dst) else if d.op = 0x16 then some (s.boltOf d.srcB) else none

/-- The pair holds writes that the descriptor would make (18 R429, R430). -/
def State.needleHeld (s : State) (d : Desc) : Bool :=
  (match s.outBolt d with | some b => s.mirrorHold b | none => false) || (d.op == 0x16 && s.mirrorHold (s.boltOf d.srcB))

/-- Output of entries of k bytes goes where SUBOP sends it: the longest whole-entry prefix that fits, PARTIAL where it does not
all fit, nothing but RESULT inline; after a failure RESULT is 0, and a device bolt gets the whole lines of the prefix (R181,
R196-R199, R219). -/
def State.emitOut (s : State) (r : Nat) (d : Desc) (status result k : Nat) (out : List Byte) : State :=
  let result := if status = 0 then result else 0
  if d.dest = 0 then s.finish r d status 0 result
  else
    let room := d.resultLen / k * k
    let data := out.take room
    let cut := wholeLines (faOffset d.dst) data.length
    let data := if status = 0 ∨ d.dest = 2 then data else data.take cut
    let status := if status = 0 ∧ room < out.length then 0x01 else status
    if d.dest = 2 then s.sendOut r d data status result
    else
      let b := s.boltOf d.dst
      match s.writeRange (r / 4) b (faOffset d.dst) data with
      | (s, wst, n) =>
        let c := max d.commit (s.commitFor b)
        if wst = 0 then s.finish r { d with commit := c } status n result
        else s.finish r { d with commit := c } wst n 0

/-- A raw element extended to 64 bits (R202). -/
def extend64 (e raw : Nat) : Nat :=
  let w := 8 * elemSize e
  if elemSigned e ∧ bit raw (w - 1) then raw + 2 ^ 64 - 2 ^ w else raw

/-- A number that orders 64-bit integers of an element type. -/
def intOrder (e v : Nat) : Int := if elemSigned e ∧ 2 ^ 63 ≤ v then (v : Int) - 2 ^ 64 else v

/-- The format that Sum and Sum of squares compute in (R204). -/
def sumFmt (e : Nat) : FFmt := if e = 0x24 then f64 else f32

/-- An element as an operation takes it (R202, R204, R205, R207). -/
def reducePrep (e op raw : Nat) : Nat :=
  let f := elemFmt e
  if op = 6 then (if (if elemFloat e then raw % 2 ^ (f.eb + f.mb) else raw) = 0 then 0 else 1)
  else if elemFloat e then
    match op with
    | 0 => f.widen (sumFmt e) raw
    | 7 => (sumFmt e).square (f.widen (sumFmt e) raw)
    | _ => raw
  else match op with
    | 7 => extend64 e raw * extend64 e raw % 2 ^ 64
    | 3 => raw
    | 4 => raw
    | 5 => raw
    | _ => extend64 e raw

/-- How an operation combines two values, the first from the lower address (R202, R204, R206). -/
def reduceOp (e op a b : Nat) : Nat :=
  if op = 6 then a + b
  else if elemFloat e then
    let f := elemFmt e
    match op with
    | 1 => if f.order b < f.order a then b else a
    | 2 => if f.order a < f.order b then b else a
    | _ => (sumFmt e).add a b
  else match op with
    | 1 => if intOrder e b < intOrder e a then b else a
    | 2 => if intOrder e a < intOrder e b then b else a
    | 3 => a &&& b
    | 4 => a ||| b
    | 5 => a ^^^ b
    | _ => (a + b) % 2 ^ 64

/-- The identity that pads a line (R207). -/
def reduceIdent (e op : Nat) : Nat :=
  let w := 8 * elemSize e
  if op = 6 then 0
  else if elemFloat e then
    match op with
    | 1 => (elemFmt e).inf false
    | 2 => (elemFmt e).inf true
    | _ => (sumFmt e).zero true
  else match op with
    | 1 => if elemSigned e then 2 ^ (w - 1) - 1 else 2 ^ w - 1
    | 2 => if elemSigned e then 2 ^ 64 - 2 ^ (w - 1) else 0
    | 3 => 2 ^ w - 1
    | _ => 0

/-- One level of the fixed tree (R207). -/
def pairUp (f : Nat → Nat → Nat) : List Nat → List Nat
  | a :: b :: rest => f a b :: pairUp f rest
  | xs => xs

/-- The fixed tree (R207). -/
def combine (f : Nat → Nat → Nat) : Nat → List Nat → Nat
  | 0, xs => xs.headD 0
  | k + 1, xs => if xs.length ≤ 1 then xs.headD 0 else combine f k (pairUp f xs)

/-- The value of line l of a segment: its lanes, those outside the segment padded (R207). -/
def lineValue (e op off i n : Nat) (xs : List Nat) (l : Nat) : Nat :=
  let k := elemSize e
  let lanes := (List.range (256 / k)).map (fun j =>
    let a := 256 * l + j * k
    if off + i * k ≤ a ∧ a < off + (i + n) * k then xs.getD ((a - off) / k) 0 else reduceIdent e op)
  combine (reduceOp e op) 8 lanes

/-- The value of the segment of n elements from element i on, before NaN (R207). -/
def segmentTree (e op off i n : Nat) (xs : List Nat) : Nat :=
  let k := elemSize e
  let first := (off + i * k) / 256
  let last := (off + (i + n) * k - 1) / 256
  let ls := (List.range (last + 1 - first)).map (fun j => lineValue e op off i n xs (first + j))
  combine (reduceOp e op) ls.length ls

/-- The format of a floating-point result; none for one that is no float (R202). -/
def resultFmt (e op : Nat) : Option FFmt :=
  if ¬ elemFloat e ∨ op = 6 then none else if op = 1 ∨ op = 2 then some (elemFmt e) else some (sumFmt e)

/-- The result of a segment: the canonical NaN if an element is a NaN (R205). -/
def segmentResult (e op off i n : Nat) (raws : List Nat) : Nat :=
  match resultFmt e op with
  | some g =>
    if ((raws.drop i).take n).any (elemFmt e).isNan then g.nan
    else segmentTree e op off i n (raws.map (reducePrep e op))
  | none => segmentTree e op off i n (raws.map (reducePrep e op))

/-- Results that are NaN or an infinity are counted (NDL.FP). -/
def State.countFp (s : State) (e op : Nat) (vs : List Nat) : State :=
  match resultFmt e op with
  | none => s
  | some g => (s.bump R.NDL.FP.NAN_RESULTS 0 (vs.countP g.isNan)).bump R.NDL.FP.INF_RESULTS 0 (vs.countP g.isInf)

/-- REDUCE: every segment that the source gives whole has its result (R202-R208, R219). -/
def State.reduce (s : State) (r : Nat) (d : Desc) : State :=
  if s.needleHeld d then s else
  match s.needleRead r d.srcA (d.length * d.size) with
  | (s, st, bs, lines) =>
    let s := s.stepsOver lines
    let raws := items d.size bs
    let seg := if d.imm0 = 0 then d.length else min d.imm0 d.length
    let total := ceilDiv d.length seg
    let whole := (List.range total).filter (fun j => min ((j + 1) * seg) d.length ≤ raws.length)
    let vs := whole.map (fun j =>
      segmentResult d.elem d.opt (faOffset d.srcA) (j * seg) (min seg (d.length - j * seg)) raws)
    let s := s.countFp d.elem d.opt vs
    s.emitOut r d st (if d.dest = 0 then vs.headD 0 else total) 8 (vs.flatMap (leBytes 8))

/-- REDUCE (R207). -/
def execReduce (ring : Fin 256) (noise : List LineNoise) (st : State) : Host.Outcome State Fault Refusal :=
  live st (st.needleWork ring 0x10 (fun s d => s.noisy noise (fun s => s.reduce ring d)))

/-- x < y in an element type (R209). -/
def elemLt (e x y : Nat) : Bool :=
  if elemFloat e then (elemFmt e).lt x y else decide (intOrder e (extend64 e x) < intOrder e (extend64 e y))

/-- x = y in an element type (R209). -/
def elemEq (e x y : Nat) : Bool := if elemFloat e then (elemFmt e).eq x y else x == y

/-- x ≤ y in an element type. -/
def elemLe (e x y : Nat) : Bool := elemLt e x y || elemEq e x y

/-- A SELECT predicate on element x with values a and b (R209). -/
def selectTest (e p a b x : Nat) : Bool :=
  match p with
  | 0 => elemEq e x a
  | 1 => !elemEq e x a
  | 2 => elemLt e x a
  | 3 => elemLe e x a
  | 4 => elemLt e a x
  | 5 => elemLe e a x
  | 6 => elemLe e a x && elemLe e x b
  | _ => x &&& a == b

/-- A bitmap of n flags: bit i % 8 of byte i / 8 (R209). -/
def bitmap (flags : List Bool) (n : Nat) : List Byte :=
  (List.range (ceilDiv n 8)).map (fun i =>
    BitVec.ofNat 8 ((List.range 8).foldl (fun v j => v + (flags.getD (8 * i + j) false).toNat * 2 ^ j) 0))

/-- SELECT (R209, R210, R219). -/
def State.select (s : State) (r : Nat) (d : Desc) : State :=
  if s.needleHeld d then s else
  match s.needleRead r d.srcA (d.length * d.size) with
  | (s, st, bs, lines) =>
    let s := s.stepsOver lines
    let raws := items d.size bs
    let flags := raws.map (selectTest d.elem (d.opt % 16) d.imm0 d.imm1)
    let sel := (List.range raws.length).filter (fun i => flags.getD i false)
    match d.opt / 16 with
    | 0 => s.emitOut r d st sel.length d.size (sel.flatMap (fun i => leBytes d.size (raws.getD i 0)))
    | 1 => s.emitOut r d st sel.length 4 (sel.flatMap (leBytes 4))
    | _ =>
      let out := bitmap flags raws.length
      s.emitOut r d st sel.length 1 (if st = 0 then out else out.take (raws.length / 8))

/-- SELECT (R209). -/
def execSelect (ring : Fin 256) (noise : List LineNoise) (st : State) : Host.Outcome State Fault Refusal :=
  live st (st.needleWork ring 0x11 (fun s d => s.noisy noise (fun s => s.select ring d)))

/-- Table indices cut into steps: at most 64 indices and 8 distinct lines each; `line` names an index's line, none for one
out of range (R223). -/
def tableSteps (line : Nat → Option Nat) : List Nat → List Nat → List Nat → List (List Nat)
  | [], cur, _ => if cur.isEmpty then [] else [cur]
  | x :: xs, cur, ls =>
    let ls' := match line x with | some l => if ls.contains l then ls else ls ++ [l] | none => ls
    if 64 ≤ cur.length ∨ 8 < ls'.length then
      cur :: tableSteps line xs [x] (match line x with | some l => [l] | none => [])
    else tableSteps line xs (cur ++ [x]) ls'

/-- The distinct lines of a step. -/
def stepLines (line : Nat → Option Nat) (xs : List Nat) : List Nat := (xs.filterMap line).eraseDups

/-- The steps in which the first n entries of a list are taken up. -/
def stepsTo : Nat → List (List Nat) → List (List Nat)
  | _, [] => []
  | 0, _ => []
  | n + 1, g :: gs => g :: stepsTo (n + 1 - g.length) gs

/-- The steps over a table. -/
def State.tableStepsOver (s : State) (line : Nat → Option Nat) (groups : List (List Nat)) : State :=
  s.planSteps groups.length (match groups.getLast? with | some g => decide ((stepLines line g).length < 8) | none => false)

/-- Table lines that a GATHER has read, with what it found in them. -/
abbrev TableLines := List (Nat × List SecGot)

/-- One GATHER step over indices xs of the list `all`: every line of it that no step has read is read once, then the elements in
list order up to one that fails; zero bytes for an index out of range (R211, R212, R217, R219). -/
def State.gatherStep (s : State) (m b off k n : Nat) (all xs : List Nat) (was : TableLines) :
    State × Nat × List Byte × TableLines :=
  let line (x : Nat) : Option Nat := if x < n then some ((off + x * k) / 256) else none
  let sec (x : Nat) : Nat := (off + x * k) % 256 / 64
  let fresh := (stepLines line xs).filter (fun l => !was.any (fun g => g.1 == l))
  let (s, gots) := fresh.foldl (fun (acc : State × TableLines) l =>
    let ks := ((all.filter (fun x => line x == some l)).map sec).eraseDups
    match acc.1.needleLine m b l ks with | (s, gs) => (s, acc.2 ++ [(l, gs)])) (s, was)
  let got (x : Nat) : Got :=
    match line x with
    | none => good (List.replicate k 0)
    | some l =>
      match gots.find? (fun g => g.1 == l) with
      | some (_, gs) =>
        let g := pickSec gs (sec x)
        if g.status = 0 then good ((g.data.drop ((off + x * k) % 64)).take k) else g
      | none => bad stTorn
  let ok := xs.takeWhile (fun x => (got x).status == 0)
  (s, if ok.length = xs.length then 0 else (got (xs.getD ok.length 0)).status, ok.flatMap (fun x => (got x).data), gots)

/-- GATHER step by step, up to one that fails. -/
def State.gatherSteps (s : State) (m b off k n : Nat) (all : List Nat) :
    List (List Nat) → TableLines → List Byte → State × Nat × List Byte
  | [], _, acc => (s, 0, acc)
  | g :: gs, was, acc =>
    match s.gatherStep m b off k n all g was with
    | (s, st, d, was) => if st = 0 then s.gatherSteps m b off k n all gs was (acc ++ d) else (s, st, acc ++ d)

/-- GATHER (R211, R212, R219). -/
def State.gather (s : State) (r : Nat) (d : Desc) : State :=
  if s.needleHeld d then s else
  match s.needleRead r d.srcB (d.length * d.indexSize) with
  | (s, ist, ibs, _) =>
    let idx := items d.indexSize ibs
    let off := faOffset d.srcA
    let line (x : Nat) : Option Nat := if x < d.imm0 then some ((off + x * d.size) / 256) else none
    let groups := tableSteps line idx [] []
    match s.gatherSteps (r / 4) (s.boltOf d.srcA) off d.size d.imm0 idx groups [] [] with
    | (s, st, out) =>
      let done := idx.take (out.length / d.size)
      let oor := done.countP (fun x => d.imm0 ≤ x)
      let groups := if st = 0 then groups else stepsTo (done.length + 1) groups
      let s := (s.tableStepsOver line groups).bump R.NDL.SKIPPED.OUT_OF_RANGE 0 oor
      s.emitOut r d (if st = 0 then ist else st) oor d.size out

/-- GATHER (R211). -/
def execGather (ring : Fin 256) (noise : List LineNoise) (st : State) : Host.Outcome State Fault Refusal :=
  live st (st.needleWork ring 0x12 (fun s d => s.noisy noise (fun s => s.gather ring d)))

/-- SCATTER's writes in list order, up to one that fails: the status, bytes written, indices out of range (R211, R212). -/
def State.scatterRun (s : State) (m b off k n : Nat) : List (Nat × Nat) → Nat → Nat → State × Nat × Nat × Nat
  | [], done, oor => (s, 0, done, oor)
  | (x, v) :: rest, done, oor =>
    if x < n then
      match s.writeRange m b (off + x * k) (leBytes k v) with
      | (s, st, _) => if st = 0 then s.scatterRun m b off k n rest (done + k) oor else (s, st, done, oor)
    else s.scatterRun m b off k n rest done (oor + 1)

/-- SCATTER: positions that both lists give before a failure are written (R199, R211, R212, R219; log entry 57). -/
def State.scatter (s : State) (r : Nat) (d : Desc) : State :=
  if s.needleHeld d then s else
  match s.needleRead r d.srcA (d.length * d.size) with
  | (s, vst, vbs, _) =>
    match s.needleRead r d.srcB (d.length * d.indexSize) with
    | (s, ist, ibs, _) =>
      let vals := items d.size vbs
      let idx := items d.indexSize ibs
      let off := faOffset d.dst
      let b := s.boltOf d.dst
      let src := if idx.length < vals.length then ist else vst
      let line (x : Nat) : Option Nat := if x < d.imm0 then some ((off + x * d.size) / 256) else none
      match s.scatterRun (r / 4) b off d.size d.imm0 (idx.zip vals) 0 0 with
      | (s, wst, n, oor) =>
        let groups := tableSteps line idx [] []
        let groups := if wst = 0 then groups else stepsTo (n / d.size + oor + 1) groups
        let s := (s.tableStepsOver line groups).bump R.NDL.SKIPPED.OUT_OF_RANGE 0 oor
        let st := if wst = 0 then src else wst
        s.finish r { d with commit := s.commitFor b } st (if st = 0 then n else 0) (if st = 0 then oor else 0)

/-- SCATTER (R211). -/
def execScatter (ring : Fin 256) (noise : List LineNoise) (st : State) : Host.Outcome State Fault Refusal :=
  live st (st.needleWork ring 0x13 (fun s d => s.noisy noise (fun s => s.scatter ring d)))

/-- A pattern of p masked bytes matches at the head of a run of bytes (R213). -/
def matchAt (p : Nat) (pat msk src : List Byte) : Bool :=
  (List.range p).all (fun j => src.getD j 0 &&& msk.getD j 0 == pat.getD j 0 &&& msk.getD j 0)

/-- The offsets at which a pattern matches wholly inside a run of bytes, from offset o on (R213). -/
def matchOffsets (p : Nat) (pat msk : List Byte) : List Byte → Nat → List Nat
  | [], _ => []
  | b :: bs, o =>
    if bs.length + 1 < p then []
    else if matchAt p pat msk (b :: bs) then o :: matchOffsets p pat msk bs (o + 1)
    else matchOffsets p pat msk bs (o + 1)

/-- MATCH (R213, R219). -/
def State.matchBytes (s : State) (r : Nat) (d : Desc) : State :=
  if s.needleHeld d then s else
  match s.needleRead r d.srcB 128 with
  | (s, pst, blk, _) =>
    if pst ≠ 0 then s.emitOut r d pst 0 8 []
    else
      match s.needleRead r d.srcA d.length with
      | (s, st, bs, lines) =>
        let s := s.stepsOver lines
        let os := matchOffsets d.imm0 (blk.take 64) (blk.drop 64) bs 0
        s.emitOut r d st os.length 8 (os.flatMap (leBytes 8))

/-- MATCH (R213). -/
def execMatchOp (ring : Fin 256) (noise : List LineNoise) (st : State) : Host.Outcome State Fault Refusal :=
  live st (st.needleWork ring 0x14 (fun s d => s.noisy noise (fun s => s.matchBytes ring d)))

/-- 8 bytes at offset off change from v to f v if f gives one, atomically: the status and the old value (R214, R216). -/
def State.atomic8 (s : State) (m b off : Nat) (f : Nat → Option Nat) : State × Nat × Nat :=
  match s.readLine m b (off / 256) (off % 256) 8 with
  | (s, g) =>
    if g.status ≠ 0 then (s, g.status, 0)
    else
      let v := leNat g.data
      match f v with
      | none => (s, 0, v)
      | some w => match s.writeLine m b (off / 256) (off % 256) (leBytes 8 w) with | (s, st, _) => (s, st, v)

/-- Bins added to those in memory, up to one that fails: the status, and the bins added (R214). -/
def State.addBins (s : State) (m b off : Nat) : List Nat → Nat → State × Nat × Nat
  | [], n => (s, 0, n)
  | c :: cs, n =>
    match s.atomic8 m b (off + 8 * n) (fun v => some ((v + c) % 2 ^ 64)) with
    | (s, st, _) => if st = 0 then s.addBins m b off cs (n + 1) else (s, st, n)

/-- HISTOGRAM (R214, R219). -/
def State.histogram (s : State) (r : Nat) (d : Desc) : State :=
  if s.needleHeld d then s else
  match s.needleRead r d.srcA (d.length * d.size) with
  | (s, st, bs, lines) =>
    let s := s.stepsOver lines
    if st ≠ 0 then s.finish r d st 0 0
    else
      let keys := (items d.size bs).map (fun x => x / 2 ^ (8 * d.imm0) % 256)
      let bins := (List.range 256).map (fun k => keys.countP (· == k))
      if d.opt = 1 then
        let b := s.boltOf d.dst
        match s.addBins (r / 4) b (faOffset d.dst) bins 0 with
        | (s, ast, n) => s.finish r { d with commit := s.commitFor b } ast (8 * n) (if ast = 0 then d.length else 0)
      else s.emitOut r d 0 d.length 8 (bins.flatMap (leBytes 8))

/-- HISTOGRAM (R214). -/
def execHistogram (ring : Fin 256) (noise : List LineNoise) (st : State) : Host.Outcome State Fault Refusal :=
  live st (st.needleWork ring 0x15 (fun s d => s.noisy noise (fun s => s.histogram ring d)))

/-- The new value that an ATOMIC_BATCH entry makes of v; none where CAS does not write (R215). -/
def batchOp (e op x cmp v : Nat) : Option Nat :=
  match op with
  | 0 => some ((v + x) % 2 ^ 64)
  | 1 => some (v &&& x)
  | 2 => some (v ||| x)
  | 3 => some (v ^^^ x)
  | 4 => some x
  | 5 => if v = cmp then some x else none
  | 6 => some (if intOrder e x < intOrder e v then x else v)
  | _ => some (if intOrder e v < intOrder e x then x else v)

/-- ATOMIC_BATCH entries in list order, up to one that fails: the status, old values, entries out of range and bad
(R215, R216). -/
def State.batchRun (s : State) (m b base e n : Nat) : List (List Byte) → List Nat → Nat → Nat → State × Nat × List Nat × Nat × Nat
  | [], olds, oor, wrong => (s, 0, olds, oor, wrong)
  | x :: rest, olds, oor, wrong =>
    let off := leNat (x.take 8)
    let op := (x.getD 24 0).toNat
    if n ≤ off then s.batchRun m b base e n rest (olds ++ [0]) (oor + 1) wrong
    else if off % 8 ≠ 0 ∨ 7 < op ∨ (x.drop 25).any (· != 0) then s.batchRun m b base e n rest (olds ++ [0]) oor (wrong + 1)
    else
      match s.atomic8 m b (base + off) (batchOp e op (leNat ((x.drop 8).take 8)) (leNat ((x.drop 16).take 8))) with
      | (s, st, v) =>
        if st = 0 then (s.count 89).batchRun m b base e n rest (olds ++ [v]) oor wrong
        else (s, st, olds, oor, wrong)

/-- ATOMIC_BATCH: after a failure BYTES_DONE is 0 and the entries applied stay applied (R215, R216, R219). -/
def State.batch (s : State) (r : Nat) (d : Desc) : State :=
  if s.needleHeld d then s else
  match s.needleRead r d.srcA (32 * d.length) with
  | (s, est, bs, _) =>
    let n := bs.length / 32
    let entries := (List.range n).map (fun i => (bs.drop (32 * i)).take 32)
    let b := s.boltOf d.srcB
    match s.batchRun (r / 4) b (faOffset d.srcB) d.elem d.imm0 entries [] 0 0 with
    | (s, ast, olds, oor, wrong) =>
      let s := ((s.stepsOver (if ast = 0 then n else olds.length + 1)).bump R.NDL.SKIPPED.OUT_OF_RANGE 0 oor).bump R.NDL.SKIPPED.BAD_ENTRY 0 wrong
      let st := if ast = 0 then est else ast
      let d := { d with commit := s.commitFor b }
      if st ≠ 0 then s.finish r d st 0 0
      else s.emitOut r d 0 (oor + wrong * 2 ^ 32) 8 (olds.flatMap (leBytes 8))

/-- ATOMIC_BATCH (R216). -/
def execAtomicBatch (ring : Fin 256) (noise : List LineNoise) (st : State) : Host.Outcome State Fault Refusal :=
  live st (st.needleWork ring 0x16 (fun s d => s.noisy noise (fun s => s.batch ring d)))

/-- NDL.CFG: each field in its range. -/
def State.writeNdlCfg (s : State) (v : Nat) : SetupResult :=
  let n := part v R.NDL.CFG.MAX_ACTIVE
  let q := part v R.NDL.CFG.QUANTUM
  if 1 ≤ n ∧ n ≤ 128 ∧ 1 ≤ q ∧ q ≤ 63 then (s.takes v 0 [R.NDL.CFG.MAX_ACTIVE, R.NDL.CFG.QUANTUM]).accept
  else s.refuse stMalformed

end Sys2Proof.Machine
end

