-- ==== Sys2Proof/Machine/Ecdsa.lean ====
section
/-! DEFINITION. ECDSA over the curve P-384 with SHA-384, which checks the signature of a firmware image (20 R470). -/

namespace Sys2Proof.Machine

/-- The prime of the field of P-384. -/
def p384 : Nat := 2 ^ 384 - 2 ^ 128 - 2 ^ 96 + 2 ^ 32 - 1

/-- The order of the group of P-384. -/
def n384 : Nat :=
  0xFFFFFFFFFFFFFFFFFFFFFFFFFFFFFFFFFFFFFFFFFFFFFFFFC7634D81F4372DDF581A0DB248B0A77AECEC196ACCC52973

/-- The coefficient b of P-384; the other is -3. -/
def b384 : Nat :=
  0xB3312FA7E23EE7E4988E056BE3F82D19181D9C6EFE8141120314088F5013875AC656398D8A2ED19D2A85C8EDD3EC2AEF

/-- A point in Jacobian coordinates; z = 0 is the point at infinity. -/
structure CurvePt where
  x : Nat
  y : Nat
  z : Nat

/-- The base point of P-384. -/
def g384 : CurvePt :=
  { x := 0xAA87CA22BE8B05378EB1C71EF320AD746E1D3B628BA79B9859F741E082542A385502F25DBF55296C3A545E3872760AB7,
    y := 0x3617DE4A96262C6F5D9E98BF9292DC29F8F41DBD289A147CE9DA3113B5F0B8C00A60B1CE1D7E819D7A431D7C90EA0E5F,
    z := 1 }

/-- A difference in the field, of numbers below the prime. -/
def fsub (a b : Nat) : Nat := (a + (p384 - b)) % p384

/-- A product in the field. -/
def fmul (a b : Nat) : Nat := a * b % p384

/-- A power modulo m, its exponent's bits from the highest, of k bits. -/
def powMod (m b e : Nat) : Nat → Nat
  | 0 => 1
  | k + 1 =>
    let r := powMod m b (e / 2) k
    let r := r * r % m
    if e % 2 = 1 then r * b % m else r

/-- Twice a point. -/
def CurvePt.dbl (a : CurvePt) : CurvePt :=
  let zz := fmul a.z a.z
  let yy := fmul a.y a.y
  let s := fmul 4 (fmul a.x yy)
  let m := fmul 3 (fmul (fsub a.x zz) ((a.x + zz) % p384))
  let x := fsub (fmul m m) (fmul 2 s)
  { x := x, y := fsub (fmul m (fsub s x)) (fmul 8 (fmul yy yy)), z := fmul 2 (fmul a.y a.z) }

/-- The sum of two points. -/
def CurvePt.add (a b : CurvePt) : CurvePt :=
  if a.z = 0 then b else if b.z = 0 then a else
  let za := fmul a.z a.z
  let zb := fmul b.z b.z
  let u := fmul a.x zb
  let s := fmul a.y (fmul zb b.z)
  let h := fsub (fmul b.x za) u
  let r := fsub (fmul b.y (fmul za a.z)) s
  if h = 0 then (if r = 0 then a.dbl else { x := 1, y := 1, z := 0 }) else
  let hh := fmul h h
  let hhh := fmul h hh
  let v := fmul u hh
  let x := fsub (fsub (fmul r r) hhh) (fmul 2 v)
  { x := x, y := fsub (fmul r (fsub v x)) (fmul s hhh), z := fmul h (fmul a.z b.z) }

/-- A multiple of a point by a number of k bits. -/
def CurvePt.mul (a : CurvePt) (e : Nat) : Nat → CurvePt
  | 0 => { x := 1, y := 1, z := 0 }
  | k + 1 =>
    let d := (a.mul (e / 2) k).dbl
    if e % 2 = 1 then d.add a else d

/-- The affine x of a point that is not at infinity. -/
def CurvePt.affineX (a : CurvePt) : Nat := fmul a.x (powMod p384 (fmul a.z a.z) (p384 - 2) 384)

/-- The signature (r, s) of a message verifies under the public key (x, y). -/
def ecdsaOk (x y : Nat) (msg : List Byte) (r s : Nat) : Bool :=
  if r = 0 ∨ n384 ≤ r ∨ s = 0 ∨ n384 ≤ s ∨ p384 ≤ x ∨ p384 ≤ y ∨
      fmul y y ≠ (fsub (fmul x (fmul x x)) (fmul 3 x) + b384) % p384 then false
  else
    let w := powMod n384 s (n384 - 2) 384
    let u := beNat (sha384 msg) * w % n384
    let v := r * w % n384
    let p := (g384.mul u 384).add (CurvePt.mul { x := x, y := y, z := 1 } v 384)
    p.z != 0 && p.affineX % n384 == r

end Sys2Proof.Machine
end

