-- ==== Sys2Proof/Machine/Otp.lean ====
section
/-! DEFINITION. OTP commands and firmware updates (20 R467, R469, R470). -/

namespace Sys2Proof.Machine

/-- Word w is unprogrammed and not marginal, so a command may program it (R467). -/
def State.otpBlank (s : State) (w : Nat) : Bool := !s.otpSet w

/-- The set-up writes to OTP.DATA0-3 as the 32 bytes of a command (R467). -/
def State.otpData (s : State) : List Byte := (s.per.data.map (leBytes 8)).flatten

/-- The first owner bank whose four words are all unprogrammed (R467). -/
def State.freeBank (s : State) : Option Nat :=
  [1, 2].find? (fun b => (List.range 4).all (fun k => s.otpBlank (bankWord b + k)))

/-- The words that command `code` programs, in order, with their values; none where it names a word that it may not program
(R467). -/
def State.otpWords (s : State) (code lock : Nat) : Option (List (Nat × Nat)) :=
  let one (w v : Nat) : Option (List (Nat × Nat)) := if s.otpBlank w then some [(w, v)] else none
  match code with
  | 1 =>
    let w := s.rd R.OTP.SEL.WORD
    if w < 192 ∨ 447 < w then none
    else if w % 2 = 1 ∧ s.otpBlank (w - 1) then none
    else one w (s.rd R.OTP.PROG_DATA.DATA)
  | 2 =>
    match s.freeBank with
    | some b =>
      if s.otpBlank 64 then some ((List.range 4).map (fun k => (bankWord b + k, s.per.data.getD k 0)) ++ [(64, b)]) else none
    | none => none
  | 4 => one 65 1
  | 5 => one 66 1
  | 6 => one (67 + lock) 1
  | 7 => some (((List.range (s.rd R.MOD.FW_STATUS.RUN_SVN)).filter (fun k => s.otpBlank (128 + k))).map (fun k => (128 + k, 1)))
  | _ => some []

/-- The lifecycle condition of command `code` (R467). -/
def State.otpLife (s : State) (code : Nat) : Bool :=
  let life := s.rd R.PRT.LIFE.LIFECYCLE
  match code with
  | 1 => !s.per.patchLock
  | 2 => life == 0 && s.on R.OTP.STATUS.SECRET_SET
  | 3 => life == 1 && s.on R.PRT.LIFE.KEK_OK
  | 4 => life == 1
  | 5 => decide (life < 3)
  | _ => true

/-- A command ends with a result; OTP.DATA0-3 are cleared (R467). -/
def State.otpEnd (s : State) (result : Nat) : State :=
  ({ s with per := { s.per with job := none, data := [0, 0, 0, 0] } } : State).wr R.OTP.CMD.RESULT result

/-- The KEK, wrapped under the transport key, is placed in OTP.KEK_OUT0-4 (R467). -/
def State.exportKek (s : State) : State :=
  let out := keyWrap s.otpData (s.per.kek.getD [])
  (List.range 5).foldl (fun (s : State) n => s.wr R.OTP.KEK_OUT.DATA (leNat ((out.drop (8 * n)).take 8)) n) s

/-- The key store and the OTP secret shadow are cleared at once (R467). -/
def State.otpClear (s : State) : State :=
  let s := s.clearKeys
  ({ s with per := { s.per with secret := none, kek := none } } : State).wr R.PRT.LIFE.KEK_OK 0

/-- An accepted command starts on its words; one with no words ends at once. -/
def State.otpGo (s : State) (code : Nat) (words : List (Nat × Nat)) : State :=
  let s := if code = 3 then s.exportKek else if code = 5 then s.otpClear else s
  if words.isEmpty then s.otpEnd 0
  else ({ s with per := { s.per with job := some ⟨code, words⟩ } } : State).wr R.OTP.CMD.RESULT 1

/-- A write of OTP.CMD, with whether the programming supply and VDDC lie inside their windows (R467). -/
def State.writeOtpCmd (s : State) (v : Nat) (supplyOk : Bool) : SetupResult :=
  let code := part v R.OTP.CMD.CMD
  let lock := part v R.OTP.CMD.LOCK
  if code = 0 then s.accept
  else if s.mode ≠ modeMaint ∨ s.rd R.OTP.CMD.RESULT = 1 then s.refuse stDenied
  else if lock = 3 then s.refuse stMalformed
  else
    let s := s.put R.OTP.STATUS.SUPPLY_OK supplyOk
    if ¬ s.otpLife code then s.refuse stUnsupported
    else
      match s.otpWords code lock with
      | none => s.refuse stDenied
      | some ws =>
        if ¬ supplyOk then ((s.wr R.OTP.CMD.RESULT 2).raise Src.otpProgBlocked).refuse stUnsupported
        else (s.otpGo code ws).accept

/-- The shared form of the seven command rows. -/
def State.otpCmd (s : State) (supplyOk : Bool) (v : BitVec 64) (path : Path) : State :=
  s.setup path 0x28020 (s.writeOtpCmd v.toNat supplyOk)

/-- OTP_PROG (R467). -/
def execOtpProg (supplyOk : Bool) (v : BitVec 64) (path : Path) (st : State) : Host.Outcome State Fault Refusal :=
  live st (st.otpCmd supplyOk v path)

/-- OTP_PROVISION (R467). -/
def execOtpProvision (supplyOk : Bool) (v : BitVec 64) (path : Path) (st : State) : Host.Outcome State Fault Refusal :=
  live st (st.otpCmd supplyOk v path)

/-- OTP_EXPORT_KEK (R467). -/
def execOtpExportKek (supplyOk : Bool) (v : BitVec 64) (path : Path) (st : State) : Host.Outcome State Fault Refusal :=
  live st (st.otpCmd supplyOk v path)

/-- OTP_DEPLOY (R467). -/
def execOtpDeploy (supplyOk : Bool) (v : BitVec 64) (path : Path) (st : State) : Host.Outcome State Fault Refusal :=
  live st (st.otpCmd supplyOk v path)

/-- OTP_RETURN (R467). -/
def execOtpReturn (supplyOk : Bool) (v : BitVec 64) (path : Path) (st : State) : Host.Outcome State Fault Refusal :=
  live st (st.otpCmd supplyOk v path)

/-- OTP_LOCK (R467). -/
def execOtpLock (supplyOk : Bool) (v : BitVec 64) (path : Path) (st : State) : Host.Outcome State Fault Refusal :=
  live st (st.otpCmd supplyOk v path)

/-- OTP_RAISE_SVN (R467). -/
def execOtpRaiseSvn (supplyOk : Bool) (v : BitVec 64) (path : Path) (st : State) : Host.Outcome State Fault Refusal :=
  live st (st.otpCmd supplyOk v path)

/-- A word ends programming and is verified at the tight reference; before the next word the supplies are checked
(R467, R469). -/
def State.wordProgrammed (s : State) (verified supplyOk : Bool) : State :=
  match s.per.job with
  | some ⟨code, (w, v) :: ws⟩ =>
    let s := s.put R.OTP.STATUS.PENDING true
    if verified then
      let s := s.otpStore w v
      if ws.isEmpty then s.otpEnd 0
      else
        let s := s.put R.OTP.STATUS.SUPPLY_OK supplyOk
        if supplyOk then { s with per := { s.per with job := some ⟨code, ws⟩ } }
        else (s.otpEnd 2).raise Src.otpProgBlocked
    else
      let s := s.drawn
      let x : OtpWord := ⟨(Config.marginalRead s.freeCtr).map BitVec.toNat, none⟩
      (({ s with per := { s.per with otp := s.per.otp.put w x } } : State).otpEnd 3).raise Src.otpMarginal
  | _ => s

/-- OTP_WORD_PROGRAMMED (R467). -/
def execOtpWordProgrammed (verified supplyOk : Bool) (st : State) : Host.Outcome State Fault Refusal :=
  live st (st.wordProgrammed verified supplyOk)

/-- The modes in which a firmware update runs (R470). -/
def State.fwMode (s : State) : Bool := s.running || s.mode == modeMaint

/-- BEGIN: the staging area is cleared for an image of LENGTH bytes (R470). -/
def State.fwBegin (s : State) : State :=
  let n := s.rd R.MOD.FW_CTRL.LENGTH
  (({ s with fw := { s.fw with staged := [], length := n } } : State).wr R.MOD.FW_STATUS.STATE 1).wr R.MOD.FW_STATUS.RECEIVED 0

/-- The identity of a firmware image (R470). -/
def fwIdent : Nat := 0x4642454400160001

/-- A field of an image, low-order byte first. -/
def imageNat (img : List Byte) (off n : Nat) : Nat := leNat ((img.drop off).take n)

/-- An image's signature, r and s of 48 bytes with the high-order byte first, verifies over what stands before it (R470; PRESUMED,
log entry 7). -/
def signatureOk (msg sig : List Byte) : Bool :=
  ecdsaOk Config.signingKey.1.toNat Config.signingKey.2.toNat msg (beNat (sig.take 48)) (beNat (sig.drop 48))

/-- The staged image passes the checks of VERIFY (R470). -/
def State.imageOk (s : State) : Bool :=
  let img := s.fw.staged
  let n := img.length
  let body := imageNat img 16 4
  imageNat img 0 8 == fwIdent && n == s.fw.length && n == 352 + body && body % 8 == 0 && decide (body ≤ 524288) &&
    sha384 ((img.drop 256).take body) == (img.drop 64).take 48 &&
    signatureOk (img.take (n - 96)) (img.drop (n - 96)) &&
    decide (s.rd R.MOD.FW_STATUS.MIN_SVN ≤ imageNat img 12 1)

/-- VERIFY (R470). -/
def State.fwVerify (s : State) : State :=
  if s.imageOk then s.wr R.MOD.FW_STATUS.STATE 2 else (s.wr R.MOD.FW_STATUS.STATE 3).raise Src.fwImageBad

/-- ACTIVATE: the staged image becomes the running one, and the Thimble is block-reset into it (R446, R470). -/
def State.fwActivate (s : State) : State :=
  let img := s.fw.staged
  let s : State := { s with fw := { s.fw with active := some img, inMeta := true } }
  let s := (s.wr R.MOD.FW_STATUS.RUN_SVN (imageNat img 12 1)).wr R.MOD.FW_STATUS.RUN_VERSION (imageNat img 8 4)
  (s.wr R.MOD.STATUS.FW_UPDATED 1).thimbleReset

/-- A write of MOD.FW_CTRL (R470). -/
def State.writeFwCtrl (s : State) (v : Nat) : SetupResult :=
  let cmd := part v R.MOD.FW_CTRL.CMD
  let len := part v R.MOD.FW_CTRL.LENGTH
  let t := s.take R.MOD.FW_CTRL.LENGTH v
  if cmd ≠ 0 ∧ ¬ s.fwMode then s.refuse stDenied
  else if (cmd = 1 ∨ s.chg R.MOD.FW_CTRL.LENGTH v) ∧ (len < 360 ∨ 524640 < len) then s.refuse stMalformed
  else
    match cmd with
    | 0 => t.accept
    | 1 => t.fwBegin.accept
    | 2 => t.fwVerify.accept
    | _ => if s.rd R.MOD.FW_STATUS.STATE = 2 ∧ ¬ s.on R.MOD.STATUS.BUSY then t.fwActivate.accept else s.refuse stDenied

/-- A write of MOD.FW_DATA (R470). -/
def State.writeFwData (s : State) (v : Nat) : SetupResult :=
  if ¬ s.fwMode then s.refuse stDenied
  else if s.fw.length < s.fw.staged.length + 8 then s.refuse stMalformed
  else if s.rd R.MOD.FW_STATUS.STATE ≠ 1 then s.refuse stDenied
  else
    let s : State := { s with fw := { s.fw with staged := s.fw.staged ++ leBytes 8 v } }
    (s.wr R.MOD.FW_STATUS.RECEIVED s.fw.staged.length).accept

/-- FW_BEGIN (R470). -/
def execFwBegin (v : BitVec 64) (path : Path) (st : State) : Host.Outcome State Fault Refusal :=
  live st (st.setup path 0x1020 (st.writeFwCtrl v.toNat))

/-- FW_VERIFY (R470). -/
def execFwVerify (v : BitVec 64) (path : Path) (st : State) : Host.Outcome State Fault Refusal :=
  live st (st.setup path 0x1020 (st.writeFwCtrl v.toNat))

/-- FW_ACTIVATE (R470). -/
def execFwActivate (v : BitVec 64) (path : Path) (st : State) : Host.Outcome State Fault Refusal :=
  live st (st.setup path 0x1020 (st.writeFwCtrl v.toNat))

/-- FW_DATA (R470). -/
def execFwData (v : BitVec 64) (path : Path) (st : State) : Host.Outcome State Fault Refusal :=
  live st (st.setup path 0x1028 (st.writeFwData v.toNat))

end Sys2Proof.Machine
end

