-- ==== Sys2Proof/Machine/Eth.lean ====
section
/-! DEFINITION. The Ethernet ports and the SerDes lanes: bring-up, lane failure and fallback, received frames, priority flow
control, the wake frame and lane tests (04 R85-R110, 18 R436, R437). -/

namespace Sys2Proof.Machine

/-- The owner of a lane as the unit of its faults (R85, 19 R446). -/
def laneUnit (l : Nat) : Block := if l < 8 then .port (l / 4) else .tack

/-- The conditions of R88 for port p. -/
def State.portReady (s : State) (p : Nat) : Bool :=
  s.running && s.on R.ETH.CTRL.ADMIN_UP p && !s.on R.CLK.STATUS.REF_SEL && s.rdBit R.CLK.STATUS.PLL_LOCK (4 + p) &&
    s.sysLocked && !s.portTest p

/-- A lane pair of port p (0 the lower, 1 the upper) holds a failed lane. -/
def State.pairFailed (s : State) (p k : Nat) : Bool :=
  s.on R.SDS.STATUS.FAILED (4 * p + 2 * k) || s.on R.SDS.STATUS.FAILED (4 * p + 2 * k + 1)

/-- How port p runs with its present failed lanes (R94, R96): none where it stays down, else the pair it runs on, or all four
lanes. -/
def State.portPlan (s : State) (p : Nat) : Option (Option Nat) :=
  match s.pairFailed p 0, s.pairFailed p 1 with
  | false, false => some (s.port p).pair
  | true, true => none
  | low, _ => if s.on R.ETH.CTRL.FALLBACK_EN p then some (some low.toNat) else none

/-- The line rate in Gb/s that a width gives. -/
def widthRate (pair : Option Nat) : Nat := if pair.isSome then 200 else 400

/-- The lanes in use of a width, one bit for each port-lane. -/
def widthLanes (pair : Option Nat) : Nat := match pair with | none => 15 | some 0 => 3 | some _ => 12

/-- No QP of port p sends faster than a rate (05 R131). -/
def State.clampRates (s : State) (p rate : Nat) : State :=
  ((s.stored R.XPT.QP_RATE.RATE).filter (fun q => s.rd R.XPT.QP_STATE.PORT q == p)).foldl
    (fun (s : State) q => s.wr R.XPT.QP_RATE.RATE (min rate (s.rd R.XPT.QP_RATE.RATE q)) q) s

/-- Port p falls back to a pair of lanes (R94, R95): steps 1 and 2. -/
def State.fallBack (s : State) (p k : Nat) : State :=
  let s := s.setPort p { s.port p with pair := some k }
  let s := (s.bump R.ETH.LINK_EVT.FALLBACKS p).wr R.ETH.STATUS.ACTIVE_LANES (widthLanes (some k)) p
  (s.clampRates p 200).raise Src.ethFallback (.port p)

/-- Port p takes the width its failed lanes leave it; one that falls back by it says so (R94, R95). -/
def State.takePlan (s : State) (p : Nat) (plan : Option Nat) : State :=
  match plan with
  | some k => if (s.port p).pair = some k then s else s.fallBack p k
  | none => s

/-- The one technology that port p advertises: what it intends to run (R87). -/
def State.anTech (s : State) (p : Nat) : AnTech :=
  match decide (s.rd R.ETH.CTRL.MEDIA p = 1), (s.port p).pair with
  | true, none => .kr4
  | true, some _ => .kr2
  | false, none => .cr4
  | false, some _ => .cr2

/-- A bring-up attempt of port p starts (R88): media with training advertise and train the lanes (R87). A port whose failed lanes
leave it no width stays down and says so (R94; log entry 128). -/
def State.startAttempt (s : State) (p : Nat) : State :=
  if (s.port p).attempt ∨ s.on R.ETH.STATUS.LINK p ∨ ¬ s.portReady p then s else
  match s.portPlan p with
  | none => s.raise Src.ethPortFailed (.port p)
  | some plan =>
    let s := s.takePlan p plan
    let train := s.rd R.ETH.CTRL.MEDIA p != 0 && s.on R.ETH.CTRL.AN_EN p
    let s := s.setPort p { s.port p with attempt := true, waiting := false, training := train }
    let s := s.wr R.ETH.STATUS.BRINGUP 1 p
    if train then s.emit (.autoNeg p (s.anTech p) true) else s

/-- PORT_BRINGUP_START (R88, R89). -/
def execPortBringupStart (p : Fin 2) (st : State) : Host.Outcome State Fault Refusal :=
  live st (if (st.port p).waiting then st else st.startAttempt p)

/-- What a lane in use reads back once its link is up: the adapted receiver, the eye, and after training its taps (R110). -/
def State.laneUp (s : State) (training : Bool) (l : Nat) : State :=
  let rx := (Config.rxAdapted s.freeCtr).toNat
  let eye := (Config.eyeMargin s.freeCtr).toNat
  let tx := (Config.trainedTaps s.freeCtr).toNat
  let s := s.drawn
  let s := ((s.wr R.SDS.RX_EQ.CTLE (bits rx 0 5) l).wr R.SDS.RX_EQ.VGA (bits rx 5 8) l).wr R.SDS.RX_EQ.DFE1 (bits rx 13 8) l
  let s := (s.wr R.SDS.EYE.HEIGHT (bits eye 0 8) l).wr R.SDS.EYE.WIDTH (bits eye 8 10) l
  let s := s.put R.SDS.STATUS.TRAINED training l
  if training then
    (((s.wr R.SDS.TX_EQ.C_M2 (bits tx 0 6) l).wr R.SDS.TX_EQ.C_M1 (bits tx 6 6) l).wr R.SDS.TX_EQ.C0 (bits tx 12 6) l).wr
      R.SDS.TX_EQ.C_P1 (bits tx 18 6) l
  else s

/-- The link of port p is up, and requests that waited for it leave (R88, R95, 05 R128). -/
def State.portUp (s : State) (p : Nat) : State :=
  let x := s.port p
  let s := s.setPort p { x with attempt := false, lastFail := none, untrained := {} }
  let s := ((s.wr R.ETH.STATUS.BRINGUP 0 p).wr R.ETH.STATUS.LINK 1 p).wr R.ETH.STATUS.SPEED (if x.pair.isSome then 1 else 2) p
  let s := (s.wr R.ETH.STATUS.LOCAL_FAULT 0 p).wr R.ETH.STATUS.REMOTE_FAULT 0 p
  let s := (s.wr R.ETH.STATUS.ACTIVE_LANES (widthLanes x.pair) p).wr R.ETH.LINK_TICK.TICK s.tick p
  let s := ((portLanes p).filter (fun l => bit (widthLanes x.pair) (l % 4))).foldl (State.laneUp · x.training ·) s
  let s := s.portRate p (widthRate x.pair)
  let s := if s.on R.XPT.CC.CC_EN then s.clampRates p (widthRate x.pair) else
    ((s.stored R.XPT.QP_RATE.RATE).filter (fun q => s.rd R.XPT.QP_STATE.PORT q == p)).foldl
      (fun (s : State) q => s.wr R.XPT.QP_RATE.RATE (widthRate x.pair) q) s
  let s := s.postAll 2 0x0011 p (s.rd R.ETH.STATUS.SPEED p)
  let s := (s.qpsOnPort p).foldl State.drainQp s
  if s.tack.claiming then s.claimPort p else s

/-- LINK_UP (R88). -/
def execLinkUp (p : Fin 2) (st : State) : Host.Outcome State Fault Refusal :=
  live st (if (st.port p).attempt ∧ st.portReady p then st.portUp p else st)

/-- A lane in use whose training failed in an attempt while it succeeded on every other one counts it; all other counts start
anew (R93). -/
def Port.trained (x : Port) (untrained : BitVec 4) : Port :=
  let used := (List.range 4).filter (bit (widthLanes x.pair))
  match used.filter (bit untrained.toNat) with
  | [k] => if x.training ∧ used ≠ [k] then { x with untrained := ({} : SMap Nat).set 0 k (x.untrained.get 0 k + 1) }
           else { x with untrained := {} }
  | _ => { x with untrained := {} }

/-- An attempt of port p is abandoned, with the port-lanes whose training failed in it; ETH_LINK_DOWN is raised at most once per
60 s while attempts keep failing (R89, R93). -/
def State.abandonAttempt (s : State) (p : Nat) (untrained : BitVec 4) : State :=
  if ¬ (s.port p).attempt then s else
  let x := (s.port p).trained untrained
  let due := match x.lastFail with | none => true | some t => 60000000000 ≤ s.tick - t
  let s := (s.setPort p { x with
    attempt := false, waiting := true, lastFail := if due then some s.tick else x.lastFail }).wr R.ETH.STATUS.BRINGUP 0 p
  if due then s.raise Src.ethLinkDown (.port p) else s

/-- BRINGUP_ABANDON (R89). -/
def execBringupAbandon (p : AbandonReport) (st : State) : Host.Outcome State Fault Refusal :=
  live st (st.abandonAttempt p.port p.untrained)

/-- The wait after an abandoned attempt ends and, if R88 still holds, the next attempt starts (R89). -/
def State.retryAttempt (s : State) (p : Nat) : State :=
  if (s.port p).waiting then (s.setPort p { s.port p with waiting := false }).startAttempt p else s

/-- BRINGUP_RETRY (R89). -/
def execBringupRetry (p : Fin 2) (st : State) : Host.Outcome State Fault Refusal := live st (st.retryAttempt p)

/-- A loss of alignment is attributed to port-lanes: the ticks of the last three of each are kept (R93). -/
def Port.misaligned (x : Port) (tick : Nat) (lanes : BitVec 4) : Port :=
  { x with unaligned := ((List.range 4).filter (bit lanes.toNat)).foldl (fun m k =>
      let ts := m.get [] k ++ [tick]
      m.set [] k (ts.drop (ts.length - 3))) x.unaligned }

/-- What a cause of a link loss signals. -/
def State.linkFault (s : State) (p : Nat) : LinkCause → State
  | .localFault => s.wr R.ETH.STATUS.LOCAL_FAULT 1 p
  | .remoteFault => s.wr R.ETH.STATUS.REMOTE_FAULT 1 p
  | .alignment lanes => s.setPort p ((s.port p).misaligned s.tick lanes)
  | .condition => s

/-- LINK_DOWN (R90). -/
def execLinkDown (p : Fin 2) (cause : LinkCause) (st : State) : Host.Outcome State Fault Refusal :=
  live st (if st.on R.ETH.STATUS.LINK p then (st.linkFault p cause).portLinkDown p else st)

/-- A write of ETHn.CTRL for port p (R91, R96). -/
def State.writeEthCtrl (s : State) (p v : Nat) : SetupResult :=
  let full := part v R.ETH.CTRL.RESTORE_FULL = 1
  if s.chg R.ETH.CTRL.MEDIA v p ∧ part v R.ETH.CTRL.MEDIA = 3 then s.refuse stMalformed
  else if full ∧ (portLanes p).any (fun l => s.on R.SDS.STATUS.FAILED l) then s.refuse stDenied
  else
    let s := s.takes v p [R.ETH.CTRL.ADMIN_UP, R.ETH.CTRL.MEDIA, R.ETH.CTRL.AN_EN, R.ETH.CTRL.FALLBACK_EN,
      R.ETH.CTRL.ECT_EN, R.ETH.CTRL.ICMP_ECHO]
    let s := if full ∨ ¬ s.on R.ETH.CTRL.ADMIN_UP p then s.portLinkDown p else s
    if full then ((s.setPort p { s.port p with pair := none }).startAttempt p).accept else s.accept

/-- The set-up offset of a register of port p. -/
def ethOff (p off : Nat) : Nat := 0x3000 + 0x1000 * p + off

/-- ADMIN_UP_WRITE (R91). -/
def execAdminUpWrite (p : Fin 2) (v : BitVec 64) (path : Path) (st : State) : Host.Outcome State Fault Refusal :=
  live st (st.setup path (ethOff p 0) (st.writeEthCtrl p v.toNat))

/-- RESTORE_FULL (R96). -/
def execRestoreFull (p : Fin 2) (v : BitVec 64) (path : Path) (st : State) : Host.Outcome State Fault Refusal :=
  live st (st.setup path (ethOff p 0) (st.writeEthCtrl p v.toNat))

/-- A detector of a lane asserts (R92). -/
def State.assertLane (s : State) (l : Nat) (now sticky : Fld) (src : Nat) : State :=
  if s.on now l then s else ((s.wr now 1 l).wr sticky 1 l).raise src (laneUnit l)

/-- LOS_ASSERT (R92): loss of signal on the Tack lanes is a condition of a takeover (18 R435). -/
def execLosAssert (lane : Fin 16) (st : State) : Host.Outcome State Fault Refusal :=
  live st (st.assertLane lane R.SDS.STATUS.LOS R.SDS.STATUS.LOS_STICKY Src.sdsLos).judge

/-- LOS_DEASSERT (R92). -/
def execLosDeassert (lane : Fin 16) (st : State) : Host.Outcome State Fault Refusal :=
  live st (st.wr R.SDS.STATUS.LOS 0 lane)

/-- LOL_ASSERT (R92). -/
def execLolAssert (lane : Fin 16) (st : State) : Host.Outcome State Fault Refusal :=
  live st (st.assertLane lane R.SDS.STATUS.LOL R.SDS.STATUS.LOL_STICKY Src.sdsLol)

/-- LOL_DEASSERT (R92). -/
def execLolDeassert (lane : Fin 16) (st : State) : Host.Outcome State Fault Refusal :=
  live st (st.wr R.SDS.STATUS.LOL 0 lane)

/-- A lane holds lock. -/
def State.locked (s : State) (l : Nat) : Bool := !s.on R.SDS.STATUS.LOS l && !s.on R.SDS.STATUS.LOL l

/-- Lane l has lost signal or lock while another lane of its port, or of the Tack link, holds lock (R93). -/
def State.laneDark (s : State) (l : Nat) : Bool :=
  !s.locked l && (if l < 8 then portLanes (l / 4) else (List.range 8).map (8 + ·)).any s.locked

/-- A lane meets a condition of R93, or of 18 R417, for being declared failed; how long LOS or LOL has lasted is the sender's to
say. -/
def State.laneFails (s : State) (l : Nat) : Bool :=
  s.laneDark l ||
    (if l < 8 then
      let x := s.port (l / 4)
      let ts := x.unaligned.get [] (l % 4)
      decide (3 ≤ x.untrained.get 0 (l % 4)) || (ts.length == 3 && decide (s.tick - ts.headD 0 ≤ 1000000000))
    else decide (3 ≤ s.tack.failRun.get 0 (l - 8)))

/-- A port-lane is declared failed: its link and any attempt end, and the port falls back or stays down (R93-R97). -/
def State.declareLane (s : State) (l : Nat) : State :=
  let p := l / 4
  let x := s.port p
  let s := s.setPort p { x with untrained := x.untrained.del (l % 4), unaligned := x.unaligned.del (l % 4) }
  let s := (s.wr R.SDS.STATUS.FAILED 1 l).portLinkDown p
  match s.portPlan p with
  | some (some k) => s.fallBack p k
  | some none => s
  | none => s.raise Src.ethPortFailed (.port p)

/-- A Tack lane is declared failed: a link that uses it goes down (18 R417, R419). -/
def State.declareTackLane (s : State) (l : Nat) : State :=
  let s := s.wr R.SDS.STATUS.FAILED 1 l
  if s.tack.lanes.contains (l - 8) then s.tackLinkDown else s

/-- LANE_DECLARED_FAILED (R93, 18 R417). -/
def execLaneDeclaredFailed (lane : Fin 16) (st : State) : Host.Outcome State Fault Refusal :=
  live st (if st.on R.SDS.STATUS.FAILED lane ∨ ¬ st.laneFails lane then st
    else if lane.val < 8 then st.declareLane lane else st.declareTackLane lane)

/-- A received frame is discarded and counted (R98, R102). -/
def State.dropFrame (s : State) (p : Nat) (f : Fld) : State := (s.bump f p).countPort p 6

/-- The destination address of PFC frames. -/
def pfcMac : Nat := 0x0180C2000001

/-- The tags of a frame let it in (R98): untagged, or one C-tag of the port's VID. -/
def State.tagsOk (s : State) (p : Nat) (tags : List Tag) : Bool :=
  match tags with
  | [] => s.on R.ETH.VLAN.UNTAGGED_OK p
  | [t] => t.tpid == 0x8100 && t.tci % 4096 == s.rd R.ETH.VLAN.VID p
  | _ => false

/-- A destination MAC address of the module on port p (R98). -/
def State.macOk (s : State) (p dst : Nat) : Bool :=
  dst == s.rd R.ETH.MAC.ADDR p || (s.useVirtual && s.rd R.TCK.VMAC.ADDR p != 0 && dst == s.rd R.TCK.VMAC.ADDR p)

/-- An IP address of the module on port p: its own, or as primary the virtual one (R98, 18 R437). -/
def State.ipOk (s : State) (p : Nat) (v6 : Bool) (ip : Nat) : Bool :=
  ip != 0 && (ip == s.ownIp p v6 || (s.useVirtual && ip == s.virtIp p v6))

/-- The MAC address that answers for an IP address of port p. -/
def State.answerMac (s : State) (p : Nat) (v6 : Bool) (ip : Nat) : Nat :=
  if ip = s.ownIp p v6 then s.rd R.ETH.MAC.ADDR p else s.txMac p

/-- The priority of a received frame (R100). -/
def State.framePrio (s : State) (p : Nat) (f : Frame) : Nat :=
  match f.tags, f.body with
  | t :: _, _ => bits t.tci 13 3
  | [], .roce _ _ _ => s.rd R.ETH.QOS_MAP.ROCE_PRIO p
  | [], _ => 0

/-- Buffers held by received frames of port p. -/
def State.portBufs (s : State) (p : Nat) : Nat := (s.port p).held.entries.foldl (fun n e => n + e.2) 0

/-- The buffers of a received frame would pass RX_LIMIT (R102). -/
def State.overrun (s : State) (p : Nat) (f : Frame) : Bool :=
  decide (s.rd R.ETH.PFC.RX_LIMIT p < s.portBufs p + ceilDiv f.len 256)

/-- A frame that the port answers itself, whose buffers are free again as it is answered; or an overrun (R98, R102). -/
def State.answerWith (s : State) (p : Nat) (f : Frame) (t : TxFrame) (n : Nat := 64) : State :=
  if s.overrun p f then s.dropFrame p R.ETH.RX_DROP.OVERRUN else s.sendFrame p t n

/-- A frame for transport takes its buffers until transport consumes it, or is an overrun (R101, R102). -/
def State.deliver (s : State) (p : Nat) (f : Frame) : State :=
  if s.overrun p f then s.dropFrame p R.ETH.RX_DROP.OVERRUN
  else
    let n := ceilDiv f.len 256
    let x := s.port p
    let k := s.framePrio p f
    let s := s.setPort p { x with held := x.held.set 0 k (x.held.get 0 k + n), rx := x.rx ++ [(k, n)] }
    s.wr R.ETH.STATUS.RX_BUFFERS (s.portBufs p) p

/-- Transport has consumed a frame delivered on port p, the oldest unless another is named (R101). -/
def State.consumeFrame (s : State) (p : Nat) (i : Nat := 0) : State :=
  let x := s.port p
  match x.rx[i]? with
  | none => s
  | some (k, n) =>
    let s := s.setPort p { x with rx := x.rx.eraseIdx i, held := x.held.set 0 k (x.held.get 0 k - n) }
    s.wr R.ETH.STATUS.RX_BUFFERS (s.portBufs p) p

/-- The first packet of the QP that comes next after `last` in the order of QP numbers, and the other packets (05 R131). -/
def nextInTurn (last : Nat) (xs : List (Nat × TxPacket)) : Option ((Nat × TxPacket) × List (Nat × TxPacket)) :=
  match sortBy (fun (e : Nat × TxPacket) => [(((e.1 + 1023 - last) % 1024 : Nat) : Int)]) xs with
  | [] => none
  | e :: rest => some (e, rest)

/-- Packets that several QPs have ready leave in round-robin order, and the QP served last (05 R131). -/
def State.serveReady : Nat → State → Nat → List (Nat × TxPacket) → State × Nat
  | 0, s, last, _ => (s, last)
  | k + 1, s, last, xs =>
    match nextInTurn last xs with
    | none => (s, last)
    | some (e, rest) => State.serveReady k (s.putPacket e.1 e.2) e.1 rest

/-- What a pause of port p held leaves: the port's own frames, then the packets (R103). -/
def State.resumePort (s : State) (p : Nat) : State :=
  if s.rocePaused p then s else
  let x := s.port p
  let s := x.frames.foldl (fun (s : State) e => s.putFrame p e.1 e.2) (s.setPort p { x with txq := [], frames := [] })
  match State.serveReady x.txq.length s x.served x.txq with
  | (s, last) => s.setPort p { s.port p with served := last }

/-- A received PFC frame pauses or resumes the priorities of its vector (R103). -/
def State.applyPfc (s : State) (p vec : Nat) (quanta : List Nat) : State :=
  let s := ((List.range 8).filter (bit vec)).foldl (fun (s : State) k =>
    let n := quanta.getD k 0 % 2 ^ 16
    let x := s.port p
    (s.setPort p { x with paused := x.paused.set 0 k n }).wrBit R.ETH.STATUS.PFC_RX_PAUSED k (n != 0) p) (s.countPort p 8)
  s.resumePort p

/-- An answer of the port to a frame for it (R98). -/
def State.answer (s : State) (p : Nat) (f : Frame) : State :=
  match f.body with
  | .roce v6 ip _ => if s.macOk p f.dst ∧ s.ipOk p v6 ip then s.deliver p f else s.dropFrame p R.ETH.RX_DROP.FILTERED
  | .echo v6 ip src data =>
    if s.macOk p f.dst ∧ s.ipOk p v6 ip ∧ s.on R.ETH.CTRL.ICMP_ECHO p ∧ f.len ≤ 4200 then
      s.answerWith p f (.echoReply v6 src ip data) (max 64 (f.len - 4 * f.tags.length + s.tagBytes p))
    else s.dropFrame p R.ETH.RX_DROP.FILTERED
  | .arpRequest ip senderIp senderMac =>
    if f.dst = 2 ^ 48 - 1 ∧ s.ipOk p false ip then
      s.answerWith p f (.arpReply senderIp senderMac ip (s.answerMac p false ip))
    else s.dropFrame p R.ETH.RX_DROP.FILTERED
  | .neighbourSolicit ip src =>
    if f.dst = 0x3333FF000000 + ip % 2 ^ 24 ∧ s.ipOk p true ip then
      s.answerWith p f (.neighbourAdvert src ip (s.answerMac p true ip)) (90 + s.tagBytes p)
    else s.dropFrame p R.ETH.RX_DROP.FILTERED
  | _ => s.dropFrame p R.ETH.RX_DROP.FILTERED

/-- The receive filter of port p, in the order of its table (R98). -/
def State.filter (s : State) (p : Nat) (f : Frame) : State :=
  if ¬ f.fcsOk ∨ f.len < 64 then s.dropFrame p R.ETH.RX_DROP.BAD_FCS
  else if 9216 < f.len then s.dropFrame p R.ETH.RX_DROP.OVERSIZE
  else match f.body with
    | .pfc vec quanta =>
      if f.dst = pfcMac then s.applyPfc p vec.toNat quanta else s.dropFrame p R.ETH.RX_DROP.FILTERED
    | .macControl _ => s.dropFrame p R.ETH.RX_DROP.FILTERED
    | _ => if s.tagsOk p f.tags then s.answer p f else s.dropFrame p R.ETH.RX_DROP.FILTERED

/-- A frame reaches port p: only a port whose link is up passes frames (R88). -/
def State.frameIn (s : State) (p : Nat) (f : Frame) : State :=
  if s.on R.ETH.STATUS.LINK p then ((s.countPort p 0).countPort p 2 (ceilDiv f.len 64)).filter p f else s

/-- FRAME_RECEIVED (R98). -/
def execFrameReceived (p : Fin 2) (f : Frame) (st : State) : Host.Outcome State Fault Refusal := live st (st.frameIn p f)

/-- PFC_FRAME_RECEIVED (R103): a frame of 64 bytes whose FCS is good. -/
def execPfcFrameReceived (p : Fin 2) (vec : BitVec 8) (quanta : List Nat) (st : State) : Host.Outcome State Fault Refusal :=
  live st (st.frameIn p { fcsOk := true, len := 64, dst := pfcMac, src := 0, tags := [], body := .pfc vec quanta })

/-- The pause of a priority expires (R103). -/
def State.pauseEnds (s : State) (p k : Nat) : State :=
  let x := s.port p
  ((s.setPort p { x with paused := x.paused.set 0 k 0 }).wrBit R.ETH.STATUS.PFC_RX_PAUSED k false p).resumePort p

/-- PAUSE_EXPIRY (R103). -/
def execPauseExpiry (p : Fin 2) (prio : Fin 8) (st : State) : Host.Outcome State Fault Refusal :=
  live st (st.pauseEnds p prio)

/-- A PFC frame leaves port p (R101). -/
def State.sendPfc (s : State) (p k quanta : Nat) : State := (s.sendFrame p (.pfc k quanta)).countPort p 7

/-- The pause of priority k of port p is being sent. -/
def State.pausing (s : State) (p k : Nat) : Bool := s.rdBit R.ETH.STATUS.PFC_TX_XOFF k p

/-- PFC_XOFF (R101). -/
def execPfcXoff (p : Fin 2) (prio : Fin 8) (st : State) : Host.Outcome State Fault Refusal :=
  live st (if st.on R.ETH.STATUS.LINK p ∧ st.rdBit R.ETH.QOS_MAP.LOSSLESS prio p ∧ ¬ st.pausing p prio ∧
      st.rd R.ETH.PFC.XOFF p ≤ (st.port p).held.get 0 prio then
    (st.sendPfc p prio (st.rd R.ETH.PFC.QUANTA p)).wrBit R.ETH.STATUS.PFC_TX_XOFF prio true p
  else st)

/-- PFC_REPEAT (R101). -/
def execPfcRepeat (p : Fin 2) (prio : Fin 8) (st : State) : Host.Outcome State Fault Refusal :=
  live st (if st.on R.ETH.STATUS.LINK p ∧ st.pausing p prio ∧ st.rd R.ETH.PFC.XON p ≤ (st.port p).held.get 0 prio then
    st.sendPfc p prio (st.rd R.ETH.PFC.QUANTA p)
  else st)

/-- PFC_XON (R101). -/
def execPfcXon (p : Fin 2) (prio : Fin 8) (st : State) : Host.Outcome State Fault Refusal :=
  live st (if st.on R.ETH.STATUS.LINK p ∧ st.pausing p prio ∧ (st.port p).held.get 0 prio < st.rd R.ETH.PFC.XON p then
    (st.sendPfc p prio 0).wrBit R.ETH.STATUS.PFC_TX_XOFF prio false p
  else st)

/-- A frame that wakes port p from Hold; the port is down without the reference (R105, 03 R79). -/
def State.wakes (s : State) (p : Nat) (f : Frame) : Bool :=
  s.mode == modeHold && !s.thermalHold && !s.on R.CLK.STATUS.REF_SEL && s.rd R.CLK.CTRL.WAKE_PORT == p && s.on R.ETH.WAKE.EN p && f.fcsOk &&
    f.dst == s.rd R.ETH.MAC.ADDR p &&
    (match f.tags with | [] => true | [t] => t.tpid == 0x8100 && t.tci % 4096 == s.rd R.ETH.VLAN.VID p | _ => false) &&
    (match f.body with | .wake pay => 6 ≤ pay.length && leNat (pay.take 6) == s.rd R.ETH.WAKE.CODE p | _ => false)

/-- A wake frame requests Serve; the request waits for the end of a housekeeping round in progress (R105, 20 R462). -/
def State.wakeBy (s : State) : State :=
  if s.inRound then { s with boot := { s.boot with held := s.boot.held ++ [(reqServe, none)] } } else s.wakeReq

/-- WAKE_FRAME (R105). -/
def execWakeFrame (p : Fin 2) (f : Frame) (st : State) : Host.Outcome State Fault Refusal :=
  live st (if st.wakes p f then st.wakeBy else st)

/-- The set-up offset of a register of lane l. -/
def sdsOff (l off : Nat) : Nat := 0x40000 + 0x400 * l + off

/-- Tests may run on lane l (R107). -/
def State.mayTest (s : State) (l : Nat) : Bool :=
  s.mode == modeMaint || (if l < 8 then !s.on R.ETH.CTRL.ADMIN_UP (l / 4) else !s.on R.TCK.CTRL.EN)

/-- The word boundary of a lane moves by one bit: only on a Tack lane whose PCS is not aligned (R108). -/
def State.slip (s : State) (l : Nat) : State :=
  if 8 ≤ l ∧ ¬ s.tack.aligned.contains (l - 8) then s.wr R.SDS.STATUS.SLIP_POS ((s.rd R.SDS.STATUS.SLIP_POS l + 1) % 64) l else s

/-- A write of SDS.CTRL for lane l (R106-R108). -/
def State.writeSdsCtrl (s : State) (l v : Nat) : SetupResult :=
  let loop := part v R.SDS.CTRL.LOOPBACK
  let gen := part v R.SDS.CTRL.PRBS_GEN
  let chk := part v R.SDS.CTRL.PRBS_CHK
  if (s.chg R.SDS.CTRL.LOOPBACK v l ∧ 4 ≤ loop) ∨ (s.chg R.SDS.CTRL.PRBS_GEN v l ∧ gen = 3) ∨
      (s.chg R.SDS.CTRL.PRBS_CHK v l ∧ chk = 3) then s.refuse stMalformed
  else if ((s.chg R.SDS.CTRL.LOOPBACK v l ∧ loop ≠ 0) ∨ (s.chg R.SDS.CTRL.PRBS_GEN v l ∧ gen ≠ 0) ∨
      (s.chg R.SDS.CTRL.PRBS_CHK v l ∧ chk ≠ 0)) ∧ ¬ s.mayTest l then s.refuse stDenied
  else
    let s := s.takes v l [R.SDS.CTRL.TX_INV, R.SDS.CTRL.RX_INV, R.SDS.CTRL.TX_SQUELCH, R.SDS.CTRL.LOOPBACK,
      R.SDS.CTRL.PRBS_GEN, R.SDS.CTRL.PRBS_CHK]
    let s := s.wr R.SDS.PRBS_ERR.LOCKED 0 l
    let s := if part v R.SDS.CTRL.BITSLIP = 1 then s.slip l else s
    s.testMark.accept

/-- The value of SDS.CTRL of lane l as it stands, with BITSLIP. -/
def State.slipValue (s : State) (l : Nat) : Nat :=
  [R.SDS.CTRL.TX_INV, R.SDS.CTRL.RX_INV, R.SDS.CTRL.TX_SQUELCH, R.SDS.CTRL.LOOPBACK, R.SDS.CTRL.PRBS_GEN,
    R.SDS.CTRL.PRBS_CHK].foldl (fun v f => v + s.rd f l * 2 ^ f.lo) (2 ^ 10)

/-- BITSLIP (R108): a write of SDS.CTRL that changes nothing else. -/
def execBitslip (lane : Fin 16) (path : Path) (st : State) : Host.Outcome State Fault Refusal :=
  live st (st.setup path (sdsOff lane 0) (st.writeSdsCtrl lane (st.slipValue lane)))

/-- What the transmit pins of a lane do (R106). -/
inductive TxDrive where
  | squelched | data | pattern | retransmit
  deriving DecidableEq, Repr

/-- A lane that its port, or the Tack link, has in use while its link is up or coming up (R94, 18 R418, 22). -/
def State.laneInUse (s : State) (l : Nat) : Bool :=
  if l < 8 then
    let p := l / 4
    (s.on R.ETH.STATUS.LINK p || (s.port p).attempt) && bit (widthLanes (s.port p).pair) (l % 4)
  else if s.tack.coded then s.tack.lanes.contains (l - 8) else s.tack.attempt

/-- The transmit pins of lane l (R94, R106, R107); in Hold and thermal hold the module transmits nothing (R105, 17 R397). -/
def State.txDrive (s : State) (l : Nat) : TxDrive :=
  let own : TxDrive :=
    if s.on R.SDS.CTRL.PRBS_GEN l then .pattern
    else if s.laneInUse l ∨ s.on R.SDS.CTRL.LOOPBACK l then .data
    else .squelched
  if s.mode = modeHold ∨ s.on R.SDS.CTRL.TX_SQUELCH l ∨ s.clocks.hushed.contains l then .squelched
  else match s.rd R.SDS.CTRL.LOOPBACK l with
    | 2 => .squelched
    | 3 => .retransmit
    | _ => own

/-- What the receive PCS and the checker of a lane get (R106): what comes from the pins, the lane's own signal through the analog
front end, or its own words before the serializer. -/
inductive RxFrom where
  | pins | analog | parallel
  deriving DecidableEq, Repr

/-- The receive path of lane l (R106). -/
def State.rxFrom (s : State) (l : Nat) : RxFrom :=
  match s.rd R.SDS.CTRL.LOOPBACK l with
  | 1 => .analog
  | 2 => .parallel
  | _ => .pins

/-- A checker that gets its own lane's signal finds its pattern only if the lane generates it (R106, R108). -/
def State.seesPattern (s : State) (l : Nat) : Bool :=
  s.rxFrom l == .pins || s.rd R.SDS.CTRL.PRBS_GEN l == s.rd R.SDS.CTRL.PRBS_CHK l

/-- PRBS_CHECKER_LOCK (R108): errors are counted since the lock. -/
def execPrbsCheckerLock (lane : Fin 16) (st : State) : Host.Outcome State Fault Refusal :=
  live st (if st.on R.SDS.CTRL.PRBS_CHK lane ∧ st.seesPattern lane ∧ ¬ st.on R.SDS.PRBS_ERR.LOCKED lane then
    (st.wr R.SDS.PRBS_ERR.LOCKED 1 lane).wr R.SDS.PRBS_ERR.ERRORS 0 lane
  else st)

/-- A six-bit signed tap's magnitude. -/
def tapSize (t : Nat) : Nat := if t < 32 then t else 64 - t

/-- A write of SDS.TX_EQ for lane l (R110): the rule is of the four taps together. -/
def State.writeTxEq (s : State) (l v : Nat) : SetupResult :=
  let fs := [R.SDS.TX_EQ.C_M2, R.SDS.TX_EQ.C_M1, R.SDS.TX_EQ.C0, R.SDS.TX_EQ.C_P1]
  let sum := tapSize (part v R.SDS.TX_EQ.C_M2) + tapSize (part v R.SDS.TX_EQ.C_M1) + part v R.SDS.TX_EQ.C0 +
    tapSize (part v R.SDS.TX_EQ.C_P1)
  if fs.any (fun f => s.chg f v l) ∧ 64 < sum then s.refuse stMalformed else (s.takes v l fs).accept

/-- A write of ETHn.PFC for port p (R104). -/
def State.writePfc (s : State) (p v : Nat) : SetupResult :=
  let lim := part v R.ETH.PFC.RX_LIMIT
  let xoff := part v R.ETH.PFC.XOFF
  let xon := part v R.ETH.PFC.XON
  let fs := [R.ETH.PFC.RX_LIMIT, R.ETH.PFC.XOFF, R.ETH.PFC.XON]
  if fs.any (fun f => s.chg f v p) ∧ (xoff ≤ xon ∨ lim < xoff ∨ 4096 < lim + s.rd R.ETH.PFC.RX_LIMIT (1 - p)) then
    s.refuse stMalformed
  else (s.takes v p (fs ++ [R.ETH.PFC.QUANTA])).accept

/-- A write of ETHn.QOS_MAP for port p: packets held for a priority that RoCEv2 no longer uses leave (R91, R103). -/
def State.writeQosMap (s : State) (p v : Nat) : SetupResult :=
  ((s.takes v p [R.ETH.QOS_MAP.ROCE_PRIO, R.ETH.QOS_MAP.DSCP, R.ETH.QOS_MAP.LOSSLESS]).resumePort p).accept

end Sys2Proof.Machine
end

