-- ==== Sys2Proof/Machine/Pair.lean ====
section
/-! DEFINITION. The Tack link and the pair: bring-up and alignment, IDENT and the roles it settles, the copy, what a
received frame does, and the commands of TCK.CTRL (18 R412-R442). -/

namespace Sys2Proof.Machine

/-- The conditions of R416; without a nonce the link does not come up (19 ENTROPY_FAIL). -/
def State.tackReady (s : State) : Bool :=
  s.running && s.on R.TCK.CTRL.EN && !s.on R.CLK.STATUS.REF_SEL && s.rdBit R.CLK.STATUS.PLL_LOCK 6 && s.sysLocked &&
    !((List.range 8).any (fun k => s.laneTest (8 + k))) && !s.guard.entropyBad

/-- The failed Tack lanes of this module, one bit each (R418). -/
def State.tackFailed (s : State) : Nat :=
  (List.range 8).foldl (fun n k => n + 2 ^ k * (s.on R.SDS.STATUS.FAILED (8 + k)).toNat) 0

/-- The lanes that a union of failed lanes leaves in use (R418). -/
def lanesUsed (failed : Nat) (half : Bool) : List Nat :=
  if failed = 0 then List.range 8
  else if failed % 16 = 0 ∧ half then [0, 1, 2, 3]
  else if failed / 16 = 0 ∧ half then [4, 5, 6, 7]
  else []

/-- The lanes in use as far as this module knows: the partner's mask and flag join once its TRAIN has come (R418). -/
def State.tackLanes (s : State) : List Nat :=
  let own := s.tackFailed
  match s.tack.peerTrain with
  | some t => lanesUsed (own ||| t.failed.toNat) (s.on R.TCK.CFG.HALF_EN && t.halfEn)
  | none => lanesUsed own (s.on R.TCK.CFG.HALF_EN)

/-- Every receive lane in use is aligned. -/
def State.tackAligned (s : State) : Bool :=
  !s.tackLanes.isEmpty && s.tackLanes.all (fun n => s.tack.aligned.contains n)

/-- A TRAIN with this module's flags, on every lane that may come into use (R414, R418). -/
def State.sendTrain (s : State) : State :=
  s.sendStitch (.train s.tackAligned (s.on R.TCK.CFG.HALF_EN) s.tackFailed) s.tackLanes.length

/-- While TRAIN stitches go out, a change of what they say is put out at once: they follow one another back to back (R414, R418). -/
def State.retrain (s old : State) : State :=
  if s.tack.attempt ∧ ¬ s.tack.coded ∧ (s.tackAligned ≠ old.tackAligned ∨ s.tackFailed ≠ old.tackFailed) then s.sendTrain else s

/-- Stitch times of one lane that end in tick t: one in 10.24 ns in service, one in 9.64 ns uncoded (R414, R417). -/
def stitchTimes (coded : Bool) (t : Nat) : Nat :=
  let p := if coded then 1024 else 964
  (t + 1) * 100 / p - t * 100 / p

/-- A tick of the link: every stitch time of a lane in use carries a stitch, IDLE or a repeated TRAIN where nothing else goes out; those
that were counted ahead are not counted again (R414, R417, 12 R306; log entry 74). -/
def State.stitchTick (s : State) : State :=
  let coded := s.on R.TCK.STATUS.LINK || (s.tack.attempt && s.tack.coded)
  let n := stitchTimes coded s.tick
  let tx := n * (if coded then s.tack.lanes.length else if s.tack.attempt then s.tackLanes.length else 0)
  let rx := n * (if coded then s.tack.lanes.length else if s.tack.attempt ∧ s.tack.peerTrain.isSome then s.tack.aligned.length else 0)
  let t := (s.count 928 (tx - s.tack.txLead)).count 929 (rx - s.tack.rxLead)
  let live := coded || s.tack.attempt
  { t with tack := { t.tack with txLead := if live then s.tack.txLead - tx else 0, rxLead := if live then s.tack.rxLead - rx else 0 } }

/-- The working state of an attempt starts anew (R416, R419). -/
def State.freshAttempt (s : State) : State :=
  { s with tack := { s.tack with aligned := [], counting := none, tries := {}, peerTrain := none, lanes := [], coded := false,
                                 deskewed := false, peer := none, settled := none } }

/-- TACK_BRINGUP_START (R416). -/
def execTackBringupStart (st : State) : Host.Outcome State Fault Refusal :=
  live st (if st.tackReady ∧ ¬ st.on R.TCK.STATUS.LINK ∧ ¬ st.tack.attempt then
    let s := st.freshAttempt
    ({ s with tack := { s.tack with attempt := true, waiting := false } } : State).sendTrain
  else st)

/-- An attempt ends without a link; the next one starts 10 ms later (R416, R418). -/
def State.endAttempt (s : State) : State :=
  let s := s.freshAttempt
  ({ s with tack := { s.tack with attempt := false, waiting := true } } : State).raise Src.tackLinkDown

/-- TACK_BRINGUP_TIMEOUT (R416). -/
def execTackBringupTimeout (st : State) : Host.Outcome State Fault Refusal :=
  live st (if st.tack.attempt then st.endAttempt else st)

/-- The MARKER that starts coded stitches, or one in service, on every lane in use (R415, R419). -/
def State.sendMarker (s : State) : State :=
  let n := (s.tack.marker + 1) % 2 ^ 16
  ({ s with tack := { s.tack with marker := n } } : State).sendStitch (.marker n) s.tack.lanes.length

/-- The lanes are decided: none leaves the link down, and both sides aligned switch to coded stitches (R418, R419). -/
def State.decideLanes (s : State) : State :=
  match s.tack.peerTrain with
  | some t =>
    if ¬ s.tack.attempt ∨ s.tack.coded then s
    else if s.tackLanes.isEmpty then s.endAttempt
    else if t.aligned ∧ s.tackAligned then
      ({ s with tack := { s.tack with coded := true, lanes := s.tackLanes } } : State).sendMarker
    else s
  | none => s

/-- TRAIN_STITCH_RECEIVED (R418, R419). -/
def execTrainStitchReceived (t : TrainFlags) (st : State) : Host.Outcome State Fault Refusal :=
  live st (if st.tack.attempt then
    let s := st.gotStitch st.tackLanes.length
    let u : State := { s with tack := { s.tack with peerTrain := some t } }
    (u.retrain s).decideLanes
  else st)

/-- A write of TCK.ALIGN: START makes the lane count (R417). -/
def State.writeAlign (s : State) (v : Nat) : SetupResult :=
  let s := s.take R.TCK.ALIGN.LANE v
  if part v R.TCK.ALIGN.START = 0 then s.accept
  else
    let n := s.rd R.TCK.ALIGN.LANE
    let s := (s.wr R.TCK.ALIGN.MATCH 0).wr R.TCK.ALIGN.DONE 0
    let s : State := { s with tack := { s.tack with
      counting := some n, tries := s.tack.tries.set 0 n (s.tack.tries.get 0 n + 1) } }
    s.accept

/-- ALIGN_START (R417): the write is the firmware's. -/
def execAlignStart (v : BitVec 64) (st : State) : Host.Outcome State Fault Refusal := live st (st.writeAlign v.toNat).1

/-- A lane that has failed all its tries counts one alignment failure; the third in a row declares it failed (R417). -/
def State.alignFailed (s : State) (n : Nat) : State :=
  let k := s.tack.failRun.get 0 n + 1
  let s : State := { s with tack := { s.tack with failRun := s.tack.failRun.set 0 n k } }
  if 3 ≤ k then s.declareTackLane (8 + n) else s

/-- An alignment count ends (R417). -/
def State.alignCounted (s : State) (n matched : Nat) : State :=
  let s := (s.wr R.TCK.ALIGN.MATCH (min matched 1024)).wr R.TCK.ALIGN.DONE 1
  let s : State := { s with tack := { s.tack with counting := none } }
  if ¬ s.tack.attempt then s
  else if 1000 ≤ matched then
    let s : State := { s with tack := { s.tack with
      aligned := s.tack.aligned.filter (· != n) ++ [n], failRun := s.tack.failRun.del n } }
    (if s.tackAligned then s.sendTrain else s).decideLanes
  else if s.tack.tries.get 0 n = 64 then ((s.alignFailed n).retrain s).decideLanes
  else s

/-- ALIGN_COUNT_DONE (R417). -/
def execAlignCountDone (lane : Fin 8) (matched : Nat) (st : State) : Host.Outcome State Fault Refusal :=
  live st (if st.tack.counting = some lane.val then st.alignCounted lane matched else st)

/-- The role that IDENT shows: that of the pair, or while UNPAIRED the one that a PAIR or JOIN asks for (R422, R441). -/
def State.identRole (s : State) : Nat :=
  if s.on R.TCK.STATUS.PAIR then s.rd R.TCK.STATUS.ROLE
  else if s.tack.pairing then 1 else if s.tack.joining then 2 else 0

/-- This module's IDENT (R414). -/
def State.ident (s : State) : Ident :=
  { kcv := BitVec.ofNat 24 (s.rd R.TCK.PKEY.KCV), nonce := BitVec.ofNat 128 s.tack.nonce,
    epoch := BitVec.ofNat 32 (s.rd R.TCK.STATUS.EPOCH), role := BitVec.ofNat 2 s.identRole,
    pair := BitVec.ofNat 3 (s.rd R.TCK.STATUS.PAIR), fullDue := s.on R.TCK.STATUS.FULL_RESYNC_DUE }

/-- A fresh nonce goes out in IDENT (R421). None is drawn, and no IDENT sent, while the entropy source fails (19 R452). -/
def State.sendIdent (s : State) : State :=
  if s.guard.entropyBad then s else
  let n := (Config.draw s.freeCtr).toNat
  let s := ({ s with tack := { s.tack with nonce := n } } : State).drawn
  s.sendStitch (.ident s.ident)

/-- What IDENT settles (R441): nothing, a split, or the role and epoch of this module and whether the copy is of
everything. -/
inductive Settle where
  | wait
  | split
  | roles (role epoch : Nat) (full : Bool)
  deriving DecidableEq, Repr

/-- The outcome of R441, from what the two modules show: role, pair state and epoch of each. -/
def settleOf (r p e r' p' e' : Nat) : Settle :=
  if p = 0 ∧ p' = 0 then
    if r = 0 ∨ r' = 0 then .wait
    else if r = r' then .split else .roles r 1 true
  else if p = 0 then
    if r = 2 ∧ r' = 1 ∧ p' = 3 then .roles 2 e' true else .split
  else if p' = 0 then
    if r' = 2 ∧ r = 1 ∧ p = 3 then .roles 1 e true else .split
  else if e < e' then (if r' = 1 then .roles 2 e' true else .split)
  else if e' < e then (if r = 1 then .roles 1 e true else .split)
  else if r ≠ r' then .roles r e false else .split

/-- The link can carry frames in settled roles (R421, R441). -/
def State.carry (s : State) (peerNonce role epoch : Nat) (full : Bool) : State :=
  let t := s.linkKeys peerNonce role
  { t with tack := { t.tack with carries := true, settled := some (role, epoch, full) } }

/-- The partner's IDENT is held against this module's (R421, R441). -/
def State.settleIdent (s : State) : State :=
  match s.tack.peer with
  | none => s
  | some i =>
    match settleOf s.identRole (s.rd R.TCK.STATUS.PAIR) (s.rd R.TCK.STATUS.EPOCH) i.role.toNat i.pair.toNat i.epoch.toNat with
    | .wait => if i.kcv.toNat ≠ s.rd R.TCK.PKEY.KCV then s.raise Src.pairKeyMismatch else s
    | .split => if i.kcv.toNat ≠ s.rd R.TCK.PKEY.KCV then s.raise Src.pairKeyMismatch else s.raise Src.pairSplit
    | .roles role epoch full =>
      if i.kcv.toNat ≠ s.rd R.TCK.PKEY.KCV ∨ s.tack.key.isNone then s.raise Src.pairKeyMismatch
      else s.carry i.nonce.toNat role epoch full

/-- Numbers of the things a copy sends: a logical swatch below 2^24, then a key slot, a client, a bolt, a grant, the virtual
addresses, a word of TCK.MIRMODE, and a rekey in progress. -/
def itemBase : Nat := 2 ^ 24

/-- Every mirrored table entry and every key slot, keys first (R422, R432). -/
def copyTables : List Nat := (List.range (4096 + 64 + 1024 + 4096 + 1 + 16 + 1)).map (itemBase + ·)

/-- The swatches of every bolt but the system bolt, ascending (R423). -/
def State.copySwatches (s : State) : List Nat :=
  let runs := (s.bolts.filter (· != 0)).map (fun b => (s.rd R.BLT.BOLT_BASE.BASE_SW b, s.rd R.BLT.BOLT_BASE.LEN_SW b))
  (sortBy (fun (r : Nat × Nat) => [(r.1 : Int)]) runs).flatMap (fun r => (List.range r.2).map (r.1 + ·))

/-- The records of entries of registers, one for each offset. -/
def State.sendEntries (s : State) (e : Nat) (offs : List Nat) : State :=
  offs.foldl (fun (s : State) off => s.addRecord (s.entryRecord off e) false) s

/-- A loaded key goes to the partner under the pair key (R424, R432). -/
def State.sendKey (s : State) (k : Nat) : State :=
  if s.on R.PRT.KEY_CTRL.STATE k then
    let x := s.slotKeys k
    s.addRecord (keyRecord 0 k 0 (keyWrap (s.tack.key.getD []) (x.kd ++ x.km))) false
  else s

/-- The key, client, bolt, grant or register that a number of the copy names. -/
def State.sendTable (s : State) (n : Nat) : State :=
  if n < 4096 then s.sendKey n
  else if n < 4160 then s.sendEntries (n - 4096) [0x6010, 0x6018, 0x6008]
  else if n < 5184 then (if n = 4160 then s else s.sendEntries (n - 4160) [0x6108, 0x6110])
  else if n < 9280 then s.sendEntries (n - 5184) [0x6210, 0x6208]
  else if n = 9280 then
    let s := ((s.sendEntries 0 [0x24080, 0x24090, 0x24098, 0x240A0]).sendEntries 1 [0x24080, 0x24098, 0x240A0])
    s
  else if n < 9297 then s.sendEntries (n - 9281) [0x24100]
  else if s.rekeyOn then
    s.addRecord (keyRecord 2 (s.rd R.PRT.REKEY.TARGET) (s.rd R.PRT.REKEY.STAGING) []) false
  else s

/-- The sectors of a line that can be read, for master m (R423). -/
def State.readSecs (s : State) (m b l : Nat) : State × List (Nat × List Byte) :=
  if ¬ s.masterMay m 0 b then (s.countMaster, []) else
  match s.readLine m b l 0 256 with
  | (s, g) =>
    if g.status = 0 then (s, (List.range 4).map (fun k => (k, sliceBytes g.data (64 * k) 64)))
    else (List.range 4).foldl (fun (acc : State × List (Nat × List Byte)) k =>
      match acc.1.readLine m b l (64 * k) 64 with
      | (s, g) => (s, if g.status = 0 then acc.2 ++ [(k, g.data)] else acc.2)) (s, [])

/-- The records of one swatch: ZERO, TORN, or its 256 lines (R423, R440). -/
def State.sendSwatch (s : State) (sw : Nat) : State :=
  match s.boltAt sw with
  | none => s.addRecord (tornRecord sw) false
  | some b =>
    match entryState (s.mapOf sw) with
    | 3 => s.addRecord (zeroRecord sw) false
    | 2 => s.addRecord (tornRecord sw) false
    | _ => (List.range 256).foldl (fun (s : State) g =>
        match s.readSecs 67 b (256 * sw + g) with
        | (s, secs) => s.addRecord (lineRecord (256 * sw + g) secs) false) s

/-- One thing of the copy is sent; a swatch that no bolt holds any more is passed over (R423). -/
def State.sendItem (s : State) (n : Nat) : State :=
  if itemBase ≤ n then s.sendTable (n - itemBase)
  else
    let s := if (s.boltAt n).isSome then s.sendSwatch n else s
    s.wr R.TCK.RESYNC.DONE (s.rd R.TCK.RESYNC.DONE + 1)

/-- A line of swatch n is in a fill or waits for a write-back: its copy waits (10 R263). -/
def State.swatchBusy (s : State) (n : Nat) : Bool :=
  decide (n < itemBase) && (s.lng.fills ++ s.lng.wbs.map (·.line)).any (fun l => l / 256 == n && s.lineBusy l)

/-- The copy goes on while the frames it fills stay below QUEUE_LIMIT and its next swatch is not busy (R423, R430). -/
def State.pumpItems : Nat → State → State
  | 0, s => s
  | k + 1, s =>
    match s.tack.copy with
    | [] => s
    | n :: rest =>
      if s.frameBufs < s.rd R.TCK.CFG.QUEUE_LIMIT ∧ ¬ s.swatchBusy n then
        State.pumpItems k (({ s with tack := { s.tack with copy := rest } } : State).sendItem n)
      else s

/-- The copy goes on; its end notes the frame after which the pair is PAIRED (R422). -/
def State.pumpCopy (s : State) : State :=
  if s.rd R.TCK.STATUS.ROLE ≠ 1 ∨ s.rd R.TCK.STATUS.PAIR ≠ 1 ∨ ¬ s.on R.TCK.STATUS.LINK then s else
  let s := State.pumpItems s.tack.copy.length s
  if s.tack.copy.isEmpty ∧ s.tack.copyEnd.isNone then { s with tack := { s.tack with copyEnd := some s.lastSeq } } else s

/-- Frames kept from before are sent again, numbered from 1 (R421, R427). -/
def State.renumber (s : State) : State :=
  let first := match s.tack.unacked with | (n, _, _) :: _ => n | [] => s.tack.sendSeq
  let s : State := { s with tack := { s.tack with base := first - 1, expect := 1, lastResend := none } }
  let s := (s.wr R.TCK.SEQ.SENT 0).wr R.TCK.SEQ.COMMITTED 0
  s.tack.unacked.foldl (fun (s : State) f => s.sendFrameSeq f.1 f.2.2) s

/-- The swatches of the resync map, ascending. -/
def State.resyncSwatches (s : State) : List Nat := s.tack.resync.keys

/-- What the primary sends now that the roles are settled: everything, or the resync map and the tables if they are due,
after what an interrupted copy left (R441). -/
def State.startCopy (s : State) (full : Bool) : State :=
  let left := if s.mirroring ∧ ¬ full then s.tack.copy else []
  let sws := if full then s.copySwatches else s.resyncSwatches
  let tables := if full ∨ s.on R.TCK.STATUS.FULL_RESYNC_DUE then copyTables else []
  let s : State := { s with tack := { s.tack with copy := left ++ tables ++ sws, copyEnd := none, resync := {} } }
  let s : State := if full then { s with tack := { s.tack with unacked := [], openRecs := [] } } else s
  let n := s.tack.copy.countP (fun n => decide (n < itemBase))
  (((s.wr R.TCK.RESYNC.TOTAL n).wr R.TCK.RESYNC.DONE 0).wr R.TCK.STATUS.PAIR 1).renumber.pumpCopy

/-- The secondary waits for frames in Shadow (R422, R441). -/
def State.startShadow (s : State) : State :=
  let s : State := { s with tack := { s.tack with unacked := [], openRecs := [], copy := [], resync := {}, claiming := false,
                                                  claims := 0 } }
  let s := (s.renumber).wr R.TCK.STATUS.FULL_RESYNC_DUE 0
  if s.mode = modeShadow then s.wr R.TCK.STATUS.PAIR 1 else s.enterShadow

/-- The link is up and IDENT has settled the roles: SYNCING starts, and no module stays fenced (R422, R438, R441). -/
def State.startPair (s : State) : State :=
  match s.tack.settled with
  | none => s
  | some (role, epoch, full) =>
    if ¬ s.on R.TCK.STATUS.LINK then s else
    let s := ((s.wr R.TCK.STATUS.ROLE role).wr R.TCK.STATUS.EPOCH epoch).wr R.TCK.STATUS.FENCED 0
    let s : State := { s with tack := { s.tack with settled := none, pairing := false, joining := false } }
    if role = 1 then s.startCopy full else s.startShadow

/-- The lanes of a marker differ by more than the FIFO holds, or are in step (R419). -/
def State.deskew (s : State) (waits : List Nat) : State :=
  let ws := s.tack.lanes.map (fun n => waits.getD n 0)
  let hi := ws.foldl max 0
  let lo := ws.foldl min hi
  if 63 < hi - lo then ((s.freshAttempt).sendTrain).raise Src.tackDeskewFail
  else
    let s := s.tack.lanes.foldl (fun (s : State) n => s.wr R.TCK.DESKEW.SKEW (waits.getD n 0 - lo) n) s
    ({ s with tack := { s.tack with deskewed := true } } : State).sendIdent.settleIdent

/-- STITCH_MARKER (R415, R419). -/
def execStitchMarker (waits : List Nat) (st : State) : Host.Outcome State Fault Refusal :=
  live st (if st.tack.attempt ∧ st.tack.coded ∧ ¬ st.tack.deskewed then (st.gotStitch st.tack.lanes.length).deskew waits
    else if st.on R.TCK.STATUS.LINK ∨ (st.tack.attempt ∧ st.tack.coded) then st.gotStitch st.tack.lanes.length
    else st)

/-- STITCH_IDENT (R421, R441). -/
def execStitchIdent (i : Ident) (st : State) : Host.Outcome State Fault Refusal :=
  live st (if st.tack.coded then
    let s : State := { st.gotStitch with tack := { st.tack with peer := some i } }
    if s.tack.deskewed then s.settleIdent.startPair else s
  else st)

/-- TCK.STATUS.WIDTH of the lanes in use. -/
def widthOf (lanes : List Nat) : Nat :=
  if lanes = [0, 1, 2, 3] then 1 else if lanes = [4, 5, 6, 7] then 2 else 3

/-- The link is up (R419). -/
def State.tackUp (s : State) : State :=
  let s := (s.wr R.TCK.STATUS.LINK 1).wr R.TCK.STATUS.WIDTH (widthOf s.tack.lanes)
  let s : State := { s with tack := { s.tack with attempt := false, waiting := false, downTick := none, pairedAtLoss := false,
                                                  decided := false } }
  s.startPair

/-- TACK_LINK_UP (R419). -/
def execTackLinkUp (st : State) : Host.Outcome State Fault Refusal :=
  live st (if st.tack.attempt ∧ st.tack.deskewed ∧ st.tack.peer.isSome ∧ st.tackReady then st.tackUp else st)

/-- TACK_LINK_DOWN (R419). -/
def execTackLinkDown (st : State) : Host.Outcome State Fault Refusal :=
  live st (if st.on R.TCK.STATUS.LINK then st.tackLinkDown.judge else st)

/-- MARKER_SEND (R415). -/
def execMarkerSend (st : State) : Host.Outcome State Fault Refusal :=
  live st (if st.on R.TCK.STATUS.LINK then st.sendMarker else st)

/-- HEARTBEAT_SEND (R415). -/
def execHeartbeatSend (st : State) : Host.Outcome State Fault Refusal :=
  live st (if st.on R.TCK.STATUS.LINK then
    st.sendStitch (.heartbeat (st.rd R.TCK.STATUS.ROLE) (st.rd R.TCK.STATUS.PAIR) (st.rd R.TCK.STATUS.EPOCH) (st.tick % 2 ^ 32))
  else st)

/-- The partner's HEARTBEAT: a secondary in SYNCING learns from it that the copy is committed (R415, R422, R435). -/
def State.heartbeat (s : State) (h : Heartbeat) : State :=
  let s := ((s.gotStitch).count 932).wr R.TCK.STATUS.HB_LOST 0
  let s : State := { s with tack := { s.tack with lastHb := some s.tick } }
  if s.rd R.TCK.STATUS.ROLE = 2 ∧ s.rd R.TCK.STATUS.PAIR = 1 ∧ s.mode = modeShadow ∧ h.role = 1 ∧ h.pair = 2 then
    ({ s with tack := { s.tack with unsynced := false } } : State).wr R.TCK.STATUS.PAIR 2
  else s

/-- STITCH_HEARTBEAT (R415). -/
def execStitchHeartbeat (h : Heartbeat) (st : State) : Host.Outcome State Fault Refusal :=
  live st (if st.on R.TCK.STATUS.LINK then st.heartbeat h else st)

/-- HEARTBEAT_LOST (R435). -/
def execHeartbeatLost (st : State) : Host.Outcome State Fault Refusal := live st (st.wr R.TCK.STATUS.HB_LOST 1).judge

/-- PEER_ALIVE_STOPPED (R435). -/
def execPeerAliveStopped (st : State) : Host.Outcome State Fault Refusal :=
  live st (st.wr R.TCK.STATUS.PEER_STOPPED 1).judge

/-- DECIDE_MS has passed: the secondary is BROKEN and waits for the steward; one whose copy was not whole never takes over (R435). -/
def State.endDecision (s : State) : State :=
  let syncing := s.rd R.TCK.STATUS.PAIR = 1
  let s := ({ s with tack := { s.tack with decided := true, unsynced := syncing } } : State).endPartner.breakPair
  if syncing then s.raise Src.pairLostUnsynced else s

/-- DECIDE_TIMEOUT (R435). -/
def execDecideTimeout (st : State) : Host.Outcome State Fault Refusal :=
  live st (if st.rd R.TCK.STATUS.ROLE = 2 ∧ (st.rd R.TCK.STATUS.PAIR = 1 ∨ st.rd R.TCK.STATUS.PAIR = 2) ∧
      ¬ st.on R.TCK.STATUS.LINK ∧ ¬ st.tack.decided then st.endDecision else st)

/-- The copy has ended and its last frame is committed (R422). -/
def State.copyDone (s : State) : Bool := match s.tack.copyEnd with | some n => s.committed n | none => false

/-- SYNC_COMPLETE (R422). -/
def execSyncComplete (st : State) : Host.Outcome State Fault Refusal :=
  live st (if st.rd R.TCK.STATUS.ROLE = 1 ∧ st.rd R.TCK.STATUS.PAIR = 1 ∧ st.on R.TCK.STATUS.LINK ∧
      st.copyDone then
    (st.wr R.TCK.STATUS.PAIR 2).wr R.TCK.STATUS.FULL_RESYNC_DUE 0
  else st)

/-- ADDRESS_CLAIM_REPEAT (R436). -/
def execAddressClaimRepeat (st : State) : Host.Outcome State Fault Refusal :=
  live st (if st.tack.claims = 0 then st
    else ({ st with tack := { st.tack with claims := st.tack.claims - 1 } } : State).claimPorts)

/-- PAIR_FENCED (R438). -/
def execPairFenced (st : State) : Host.Outcome State Fault Refusal :=
  live st (if st.rd R.TCK.STATUS.ROLE = 1 ∧ ¬ st.on R.TCK.STATUS.FENCED ∧ ¬ st.on R.FLT.ALIVE.TOGGLING then
    (st.wr R.TCK.STATUS.FENCED 1).raise Src.pairFenced
  else st)

/-- STITCH_HANDOVER (R442): a takeover is not counted, the pair stays PAIRED, and the keys of the link follow the roles (R421). A module
that is no secondary in PAIRED only counts the stitch. -/
def execStitchHandover (epoch : BitVec 32) (st : State) : Host.Outcome State Fault Refusal :=
  live st (if st.on R.TCK.STATUS.LINK ∧ st.rd R.TCK.STATUS.ROLE = 2 ∧ st.rd R.TCK.STATUS.PAIR = 2 then
    let s := st.gotStitch
    let s := match s.tack.peer with | some i => s.linkKeys i.nonce.toNat 1 | none => s
    (s.wr R.TCK.STATUS.EPOCH epoch.toNat).becomePrimary false
  else if st.on R.TCK.STATUS.LINK then st.gotStitch
  else st)

/-- FRAME_CLOSE (R426). -/
def execFrameClose (st : State) : Host.Outcome State Fault Refusal := live st st.closeFrame

/-- Frames from number n on are sent again (R427). -/
def State.resendFrom (s : State) (n : Nat) : State :=
  if ¬ s.on R.TCK.STATUS.LINK ∨ ¬ s.tack.carries then s else
  (s.tack.unacked.filter (fun f => n ≤ f.1)).foldl (fun (s : State) f =>
    (s.sendFrameSeq f.1 f.2.2).bump R.TCK.STAT.RESENT) s

/-- STITCH_RESEND (R427). -/
def execStitchResend (seq : BitVec 64) (st : State) : Host.Outcome State Fault Refusal :=
  live st (if st.on R.TCK.STATUS.LINK then (st.gotStitch).resendFrom (seq.toNat + st.tack.base) else st)

/-- RESEND_TIMEOUT (R427). -/
def execResendTimeout (st : State) : Host.Outcome State Fault Refusal := live st (st.resendFrom 0)

/-- The flip of a PARTNER restitch: the frame is the swatch's, under its own slot and counters (09 R256, R440). -/
def State.partnerFlip (s : State) (p : Fetching) : State :=
  let s : State := { s with mem := { s.mem with partner := none } }
  let s := (s.freeSwatch p.swatch).renewSwatch p.bolt p.swatch
  (s.setMember (frameGroup p.cls p.frame) (frameParts p.cls p.frame).2.1 (.swatch p.swatch)).setMap p.swatch
    (mapEntry p.cls 0 p.frame)

/-- A swatch fetched from the partner is complete: new leaves, new frame, its data under this module's keys; sectors the
partner could not read are poisoned (R337, R440). -/
def State.partnerDone (s : State) (p : Fetching) : State :=
  if ¬ s.masterMay 67 1 p.bolt then s.countMaster.stopPartner stDenied else
  let s := s.partnerFlip p
  let s := (List.range 1024).foldl (fun (s : State) i =>
    match (p.lines.get [] (i / 4)).find? (fun e => e.1 == i % 4) with
    | some (_, d) => s.storeSector 67 p.bolt (256 * p.swatch + i / 4) (i % 4) d
    | none => if p.zero then s else s.poison p.bolt (1024 * p.swatch + i)) s
  let s := (List.range 256).foldl (fun (s : State) i => s.oweWrite 67 (256 * p.swatch + i) (.work none)) s
  ((s.bump R.PLC.RESTITCH_STATUS.DONE).count 168).restitchNext

/-- The sectors of a LINE record: line and data (R424). -/
def recordLine (r : List Byte) : Nat × List (Nat × List Byte) :=
  let h := leNat (r.take 8)
  let ks := (List.range 4).filter (bit (bits h 4 4))
  (bits h 8 32, (List.range ks.length).map (fun i => (ks.getD i 0, sliceBytes r (8 + 64 * i) 64)))

/-- Sectors that came later replace those that came before. -/
def mergeSecs (old new : List (Nat × List Byte)) : List (Nat × List Byte) :=
  old.filter (fun e => !new.any (fun n => n.1 == e.1)) ++ new

/-- The frame that a PARTNER restitch reserved has been torn (R58). -/
def State.partnerLost (s : State) (p : Fetching) : Bool :=
  s.mem.groups.any (fun g => g.is (frameGroup p.cls p.frame) && g.lost)

/-- A swatch fetched from the partner is complete, but its frame has been torn: it takes another, or the restitch stops (R256, R257). -/
def State.partnerEnd (s : State) (p : Fetching) : State :=
  if ¬ s.partnerLost p then s.partnerDone p else
  match s.dropPartner.restitchFrame p.bolt p.swatch with
  | some (t, cls, f) => t.partnerDone { p with cls := cls, frame := f }
  | none => s.stopPartner stAdmission

/-- The partner's answer for the swatch that a restitch waits for (R440); one that is torn no more, as its bolt was deleted, is
passed over. -/
def State.partnerAnswer (s : State) (p : Fetching) (r : List Byte) : State :=
  if s.boltAt p.swatch ≠ some p.bolt ∨ ¬ s.isTorn p.swatch then (s.dropPartner.bump R.PLC.RESTITCH_STATUS.SKIPPED).restitchNext else
  match leNat (r.take 8) % 16 with
  | 1 =>
    let (l, secs) := recordLine r
    let p := { p with lines := p.lines.put (l % 256) (mergeSecs (p.lines.get [] (l % 256)) secs) }
    if l % 256 = 255 ∧ p.lines.entries.length = 256 then s.partnerEnd p
    else { s with mem := { s.mem with partner := some p } }
  | 2 => s.partnerEnd { p with lines := {}, zero := true }
  | _ => s.stopPartner stTorn

/-- A LINE record on the receiver: VALID and DIRTY sectors without a fill (R427). -/
def State.applyLine (s : State) (r : List Byte) : State :=
  let (l, secs) := recordLine r
  match s.boltAt (l / 256) with
  | none => s
  | some b =>
    if b = 0 ∨ s.rd R.BLT.BOLT_ATTR.STATE b = 5 then s
    else if ¬ s.masterMay 67 1 b then s.countMaster
    else match s.readyToWrite b l with
    | (s, st) =>
      if st ≠ 0 then s.raise Src.pairSecondaryTorn
      else
        let hit := (s.wayOf l).isSome
        let s := s.countWrite b hit
        (if hit then s else s.lookupMap 67 l true).acceptWrite 67 b l secs

/-- A ZERO record on the receiver (R238, R427). -/
def State.applyZero (s : State) (sw : Nat) : State :=
  match s.boltAt sw with
  | none => s
  | some b =>
    if b = 0 ∨ s.rd R.BLT.BOLT_ATTR.STATE b = 5 then s
    else if entryState (s.mapOf sw) = 3 then s
    else
      let torn := entryState (s.mapOf sw) = 2
      let s := (s.cancelMove sw).zeroSwatch b sw
      if torn then s.renewSwatch b sw else s

/-- A TORN record on the receiver (R423, R427). -/
def State.applyTorn (s : State) (sw : Nat) : State :=
  match s.boltAt sw with
  | none => s
  | some b => if b = 0 ∨ s.rd R.BLT.BOLT_ATTR.STATE b = 5 then s else s.tearSwatch sw

/-- A bolt of the receiver ends at once where the partner's entry no longer stands for it. -/
def State.removeBolt (s : State) (b : Nat) : State :=
  if s.on R.BLT.BOLT_ATTR.STATE b then
    let s := (s.mem.moves.filter (fun m => s.boltHolds b m.swatch)).foldl (fun (s : State) m => s.cancelMove m.swatch) s
    s.deleted b
  else s

/-- A bolt is created with the attributes that are written, each module placing its own leaves and frames (R431). -/
def State.makeBolt (s : State) (b : Nat) : State :=
  if s.rd R.BLT.BOLT_ATTR.MODE b = 2 then
    match s.createNative b with | some t => t.createBolt b | none => s
  else s.createBolt b

/-- The attributes of a bolt as the primary holds them (R427, R431). -/
def State.applyBolt (s : State) (b v : Nat) : State :=
  let all := [R.BLT.BOLT_ATTR.KEY_ID, R.BLT.BOLT_ATTR.MODE] ++ softFields
  let have_ := s.rd R.BLT.BOLT_ATTR.STATE b
  let want := part v R.BLT.BOLT_ATTR.STATE
  let same := !s.chg R.BLT.BOLT_ATTR.KEY_ID v b && !s.chg R.BLT.BOLT_ATTR.MODE v b
  if b = 0 then s
  else if want = 0 then (s.removeBolt b).takes v b all
  else if want = 5 then (s.delete b).1
  else if have_ ≠ 0 ∧ have_ ≠ 5 ∧ same then s.takeSoft b v
  else ((s.removeBolt b).takes v b all).makeBolt b

/-- An entry of a table as the primary holds it (R427, R431, R432). -/
def State.applyTable (s : State) (r : List Byte) : State :=
  let h := leNat (r.take 8)
  let e := bits h 6 12
  let off := bits h 18 20
  let v := leNat (sliceBytes r 8 8)
  match mirrorRow off with
  | none => s
  | some (_, fs) =>
    if off = 0x6110 then s.applyBolt (e % 1024) v
    else if off = 0x6108 then
      let b := e % 1024
      (if fs.any (fun f => s.chg f v b) then s.removeBolt b else s).takes v b fs
    else s.takes v e fs

/-- A KEY record: a LOAD of the keys that the slot holds already changes nothing; other keys replace what was stored under
the slot's (R427, R431). While the entropy source fails nothing is loaded, as no nonce is drawn (19 R452). -/
def State.applyKey (s : State) (r : List Byte) : State :=
  let h := leNat (r.take 8)
  let k := bits h 6 12
  match bits h 4 2 with
  | 0 =>
    match keyUnwrap (s.tack.key.getD []) (r.drop 8) with
    | none => s
    | some plain =>
      let x := s.slotKeys k
      if s.guard.entropyBad then s
      else if s.on R.PRT.KEY_CTRL.STATE k ∧ x.kd ++ x.km = plain then s
      else ((s.keyBolts k).foldl State.removeBolt s).loadSlot k plain
  | 1 => s.emptySlot k
  | _ =>
    let t := bits h 18 12
    if s.rekeyOn then s else ((s.wr R.PRT.REKEY.TARGET k).wr R.PRT.REKEY.STAGING t).rekeyStart k t

/-- The pair ends on this module (R442): role, pair state, virtual addresses and resync map are cleared; a secondary leaves
Shadow. -/
def State.unpairHere (s : State) : State :=
  let s := s.endPartner
  let s := (((s.wr R.TCK.STATUS.PAIR 0).wr R.TCK.STATUS.ROLE 0).wr R.TCK.STATUS.FENCED 0).wr R.TCK.STATUS.FULL_RESYNC_DUE 0
  let s := [0, 1].foldl (fun (s : State) n =>
    ((s.clr R.TCK.VMAC.ADDR n).clr R.TCK.VIP6_HI.ADDR_HI n).clr R.TCK.VIP6_LO.ADDR_LO n)
    ((s.clr R.TCK.VIP4.PORT0).clr R.TCK.VIP4.PORT1)
  let s := (s.wr R.TCK.RESYNC.TOTAL 0).wr R.TCK.RESYNC.DONE 0
  { s with tack := { s.tack with carries := false, settled := none, resync := {}, copy := [], copyEnd := none, unacked := [],
                                 openRecs := [], claiming := false, claims := 0, pairing := false, joining := false } }

/-- A record is applied (R427, R440). Records other than answers and requests come from the primary. -/
def State.applyRecord (s : State) (r : List Byte) : State :=
  let h := leNat (r.take 8)
  let answer := match s.mem.partner with | some p => if recordSwatch r = some p.swatch then some p else none | none => none
  match answer with
  | some p => s.partnerAnswer p r
  | none =>
    if h % 16 = 6 then s.sendSwatch (bits h 4 24)
    else if s.rd R.TCK.STATUS.ROLE ≠ 2 then s
    else match h % 16 with
      | 1 => s.applyLine r
      | 2 => s.applyZero (bits h 4 24)
      | 3 => if bits h 18 20 = 0x24000 then s.unpairHere.leaveShadow true else s.applyTable r
      | 4 => s.applyKey r
      | 5 => s.applyTorn (bits h 4 24)
      | _ => s

/-- A RESEND for the next frame expected, at most once per 10 us (R427). -/
def State.askResend (s : State) : State :=
  let soon := match s.tack.lastResend with | some t => decide (s.tick - t < 10000) | none => false
  if soon then s
  else ({ s with tack := { s.tack with lastResend := some s.tick } } : State).sendStitch (.resend s.tack.expect)

/-- An authentic frame in sequence: its records in order, then its ACK (R415, R427). -/
def State.applyFrame (s : State) (seq : Nat) (recs : List Byte) : State :=
  let s : State := { s with tack := { s.tack with expect := seq + 1 } }
  let s := (recordsOf recs).foldl State.applyRecord s
  ({ s with tack := { s.tack with lastAck := seq } } : State).sendStitch (.ack seq)

/-- A mirror frame arrives (R427). A secondary that has not reached Shadow leaves it for a later resend. -/
def State.frameArrives (s : State) (f : List Byte) (clean : Bool) : State :=
  let s := s.gotStitch (ceilDiv f.length stitchBytes)
  if ¬ clean then s.askResend
  else match openFrame s.tack.rxKey f with
    | none => (s.bump R.TCK.STAT.TAG_FAILS).askResend
    | some (seq, recs) =>
      if seq ≠ s.tack.expect then s.askResend
      else if s.rd R.TCK.STATUS.ROLE = 2 ∧ s.mode ≠ modeShadow then s
      else s.applyFrame seq recs

/-- TACK_FRAME_RECEIVED (R427). -/
def execTackFrameReceived (f : List (BitVec 8)) (clean : Bool) (st : State) : Host.Outcome State Fault Refusal :=
  live st (if st.on R.TCK.STATUS.LINK ∧ st.tack.carries then st.frameArrives f clean else st)

/-- A write of TCK.MIRMODE word n; bit 0 of word 0 reads 0. -/
def State.writeMirmode (s : State) (n v : Nat) : SetupResult :=
  (s.take R.TCK.MIRMODE.SYNC (if n = 0 then v - v % 2 else v) n).accept

/-- A held set-up write that the partner has taken takes effect here (R431): as the write, or where its own check would refuse it by now,
as the record that the partner applied. -/
def State.tookEffect (s : State) (path : Path) (off : Nat) (record : List Byte) (r : SetupResult) : State :=
  if r.2 = 0 then r.1.respond path off 0
  else (if (record.headD 0).toNat % 16 = 4 then s.applyKey record else s.applyTable record).respond path off 0

/-- A held set-up write takes effect and is answered (R431). -/
def State.applyHold (s : State) : HoldUse → State
  | .setup off e v data path record =>
    let took := s.tookEffect path off record
    match off with
    | 0x6008 => took (s.writeClient e v)
    | 0x6010 => took (s.writeGid e v R.BLT.CLIENT_GID_HI.GID_HI)
    | 0x6018 => took (s.writeGid e v R.BLT.CLIENT_GID_LO.GID_LO)
    | 0x6108 => took (s.writeBoltBase e v)
    | 0x6110 => took (s.writeBoltAttr e v)
    | 0x6208 => took (s.writeGrant e v)
    | 0x6210 => took (s.writeGrantRange e v)
    | 0xD060 => took (s.writeKeyCtrl e v data)
    | 0xD078 => took (s.writeRekey v)
    | 0x24000 => s.unpairHere.respond path off stOk
    | _ => took (s.writeMirmode e v)

/-- The held writes that a test passes take effect, in order. -/
def State.applyHolds (s : State) (p : Nat → Bool) : State :=
  let hs := s.tack.holds.filter (fun h => p h.1)
  let s : State := { s with tack := { s.tack with holds := s.tack.holds.filter (fun h => !p h.1) } }
  hs.foldl (fun (s : State) h => s.applyHold h.2) s

/-- The partner has committed frames up to a sequence of this link (R427, R431). -/
def State.acked (s : State) (seq : Nat) : State :=
  let n := seq + s.tack.base
  let gone := s.tack.unacked.countP (fun f => decide (f.1 ≤ n))
  if gone = 0 then s else
  let s : State := { s with tack := { s.tack with unacked := s.tack.unacked.filter (fun f => decide (n < f.1)) } }
  let s := (s.wr R.TCK.SEQ.COMMITTED seq).count 935 gone
  (s.applyHolds (fun k => s.committed k)).pumpCopy

/-- The swatches of the records of frames that are discarded, and those the copy has not sent (R434). -/
def State.lostSwatches (s : State) : List Nat :=
  let frames := s.tack.unacked.map (·.2.2) ++ [s.tack.openRecs.flatten]
  frames.flatMap (fun f => (recordsOf f).filterMap recordSwatch) ++ s.tack.copy.filter (fun n => decide (n < itemBase))

/-- The primary is BROKEN: unmirrored from here on, with a map of what the partner lacks (R434). -/
def State.breakPrimary (s : State) : State :=
  let syncing := s.rd R.TCK.STATUS.PAIR = 1
  let lost := s.lostSwatches
  let tables := s.tack.copy.any (fun n => decide (itemBase ≤ n)) ∨ s.tack.holds.length ≠ 0
  let s := s.endPartner
  let s : State := { s with tack := { s.tack with
    resync := lost.foldl (fun (m : SMap Bool) k => m.put k true) s.tack.resync, unacked := [], openRecs := [], copy := [],
    copyEnd := none } }
  let s := s.breakPair
  let s := if syncing ∨ tables then s.wr R.TCK.STATUS.FULL_RESYNC_DUE 1 else s
  (s.applyHolds (fun _ => true)).raise Src.pairBroken

/-- A write of TCK.CFG. -/
def State.writeTckCfg (s : State) (v : Nat) : SetupResult :=
  let fs := [R.TCK.CFG.LAG_MAX_US, R.TCK.CFG.TAKEOVER_EN, R.TCK.CFG.HALF_EN, R.TCK.CFG.DECIDE_MS, R.TCK.CFG.BREAK_MS,
    R.TCK.CFG.QUEUE_LIMIT]
  let d := part v R.TCK.CFG.DECIDE_MS
  let b := part v R.TCK.CFG.BREAK_MS
  s.checked
    [ (s.badRange R.TCK.CFG.LAG_MAX_US v 0 (fun x => x == 0 || 64 < x), stMalformed),
      (s.badRange R.TCK.CFG.DECIDE_MS v 0 (fun x => x < 4 || 50 < x), stMalformed),
      (s.chgAny v 0 [R.TCK.CFG.DECIDE_MS, R.TCK.CFG.BREAK_MS] && (b < d + 2 || 100 < b), stMalformed),
      (s.badRange R.TCK.CFG.QUEUE_LIMIT v 0 (fun x => x < 64 || 2047 < x), stMalformed) ]
    (s.takes v 0 fs)

/-- The blob in TCK.PKEY_WRAP0 to 4. -/
def State.pkeyBlob (s : State) : List Byte := ((List.range 5).map (fun n => leBytes 8 (s.rd R.TCK.PKEY_WRAP.DATA n))).flatten

/-- TCK.PKEY_WRAP0 to 4 are cleared by every PKEY_LOAD. -/
def State.clearPkey (s : State) : State := (List.range 5).foldl (fun (s : State) n => s.clr R.TCK.PKEY_WRAP.DATA n) s

/-- PKEY_LOAD (R420). -/
def State.pkeyLoad (s : State) : SetupResult :=
  let t := s.clearPkey
  if s.noLoad then t.refuse stUnsupported
  else if s.on R.TCK.STATUS.PAIR then t.refuse stDenied
  else match keyUnwrap (s.per.kek.getD []) s.pkeyBlob with
    | none => (t.bump R.PRT.TREE_STAT.UNWRAP_FAILS).refuse stMalformed
    | some key =>
      let t := (t.wr R.TCK.PKEY.KCV (keyCheck key)).wr R.TCK.PKEY.LOADED 1
      ({ t with tack := { t.tack with key := some key } } : State).accept

/-- No pair key, or less than 100 per mille guaranteed to master 67 (R422). -/
def State.pairUnready (s : State) : Bool := s.tack.key.isNone || decide (s.rd R.QOS.MASTER.GUAR 67 < 100)

/-- A JOIN or PAIR is taken: while the link is up, a new IDENT says so (R421, R422). -/
def State.askPair (s : State) (primary : Bool) : State :=
  let s : State := { s with tack := { s.tack with pairing := primary, joining := !primary } }
  if s.on R.TCK.STATUS.LINK then s.sendIdent.settleIdent.startPair else s

/-- JOIN finds bolts or keys of its own (R422). -/
def State.joinBusy (s : State) : Bool := s.bolts.any (· != 0) || s.loadedSlots.any (fun k => s.on R.PRT.KEY_CTRL.STATE k)

/-- The value of TCK.CTRL that asks for UNPAIR, as the record to the partner carries it. -/
def unpairValue : Nat := 6

/-- UNPAIR (R442): on a primary with its link up it goes to both; on a BROKEN or FENCED module it is local. -/
def State.unpair (s : State) (path : Path) (v : Nat) : Option State :=
  if s.mirroring ∧ s.on R.TCK.STATUS.LINK ∧ s.tack.carries then
    let s := s.addRecord (tableRecord 3 0 0x24000 unpairValue) false
    some { s with tack := { s.tack with holds := s.tack.holds ++ [(s.lastSeq, .setup 0x24000 0 v [] path [])] } }
  else none

/-- UNPAIR on this module alone. -/
def State.unpairLocal (s : State) : State :=
  let t := s.unpairHere.applyHolds (fun _ => true)
  if s.rd R.TCK.STATUS.ROLE = 2 then t.leaveShadow true else t

/-- The effect of a command of TCK.CTRL (R420, R422, R438, R442). -/
def State.tckCommand (s : State) (cmd : Nat) : SetupResult :=
  let free := !s.on R.TCK.STATUS.PAIR && !s.on R.TCK.STATUS.ROLE
  let pair := s.rd R.TCK.STATUS.PAIR
  let role := s.rd R.TCK.STATUS.ROLE
  match cmd with
  | 1 => s.checked [(!free, stDenied), (s.pairUnready, stMalformed)] (s.askPair true)
  | 2 => s.checked [(!free || s.joinBusy, stDenied), (s.pairUnready, stMalformed)] (s.askPair false)
  | 3 => s.checked [(!(pair == 3 || s.on R.TCK.STATUS.FENCED || (role == 1 && s.on R.TCK.STATUS.LINK)), stDenied)] s.unpairLocal
  | 4 => s.checked [(!(role == 1 && pair == 2 && s.on R.TCK.STATUS.LINK), stDenied)]
      (({ s with tack := { s.tack with handover := true } } : State).startChange 5 0)
  | 5 => s.checked [(!(role == 2 && pair == 3 && !s.tack.unsynced && s.on R.TCK.STATUS.HB_LOST), stDenied)] (s.takeOver true)
  | 6 => s.checked [(!(s.on R.TCK.STATUS.FENCED && s.on R.TCK.STATUS.HB_LOST), stDenied)] (s.wr R.TCK.STATUS.FENCED 0)
  | 7 => s.pkeyLoad
  | _ => s.accept

/-- EN as a write of TCK.CTRL sets it; without it the link is disabled (R416). -/
def State.takeTckEn (s : State) (v : Nat) : State :=
  let t := s.take R.TCK.CTRL.EN v
  if t.on R.TCK.CTRL.EN then t else t.tackLinkDown

/-- A write of TCK.CTRL on its path (R416, R422, R442). -/
def State.setTckCtrl (s : State) (path : Path) (v : Nat) : State :=
  let cmd := part v R.TCK.CTRL.CMD
  if ¬ s.pathOk path then s.turnAway path else
  match (if cmd = 3 then s.unpair path v else none) with
  | some t => t.takeTckEn v
  | none =>
    let r := s.tckCommand cmd
    if r.2 = 0 then (r.1.takeTckEn v).respond path 0x24000 0 else r.1.respond path 0x24000 r.2

/-- PAIR (R422). -/
def execPair (v : BitVec 64) (path : Path) (st : State) : Host.Outcome State Fault Refusal := live st (st.setTckCtrl path v.toNat)

/-- JOIN (R422). -/
def execJoin (v : BitVec 64) (path : Path) (st : State) : Host.Outcome State Fault Refusal := live st (st.setTckCtrl path v.toNat)

/-- UNPAIR (R442). -/
def execUnpair (v : BitVec 64) (path : Path) (st : State) : Host.Outcome State Fault Refusal :=
  live st (st.setTckCtrl path v.toNat)

/-- HANDOVER (R442). -/
def execHandover (v : BitVec 64) (path : Path) (st : State) : Host.Outcome State Fault Refusal :=
  live st (st.setTckCtrl path v.toNat)

/-- TAKEOVER (R435, R436). -/
def execTakeover (v : BitVec 64) (path : Path) (st : State) : Host.Outcome State Fault Refusal :=
  live st (st.setTckCtrl path v.toNat)

/-- CLAIM (R438). -/
def execClaim (v : BitVec 64) (path : Path) (st : State) : Host.Outcome State Fault Refusal :=
  live st (st.setTckCtrl path v.toNat)

/-- PKEY_LOAD (R420). -/
def execPkeyLoad (v : BitVec 64) (path : Path) (st : State) : Host.Outcome State Fault Refusal :=
  live st (st.setTckCtrl path v.toNat)

/-- The registers that change only while UNPAIRED: the virtual addresses. -/
def State.writeVirtual (s : State) (v e : Nat) (fs : List Fld) : SetupResult :=
  s.checked [(s.chgAny v e fs && s.on R.TCK.STATUS.PAIR, stDenied)] (s.takes v e fs)

end Sys2Proof.Machine
end

