-- ==== Sys2Proof/Machine/Setup.lean ====
section
/-! DEFINITION. Set-up accesses by offset: which register an offset names, what a read shows and clears, and what a write
of any register does (00 R15-R19, 06 R152-R157, 21 R474-R476). -/

namespace Sys2Proof.Machine

/-- The entry at a distance from a register's base, if one lies exactly there. -/
def entryAt : List (Nat × Nat) → Nat → Nat → Option Nat
  | [], rest, acc => if rest = 0 then some acc else none
  | (stride, n) :: ds, rest, acc =>
    let k := rest / stride
    if k < n then entryAt ds (rest - k * stride) (acc * n + k) else none

/-- The register at an offset, and its place among its like; none where no register lies (R474). -/
def regAt (off : Nat) : Option (RegDef × Nat) :=
  regTable.findSome? (fun d => if off < d.base then none else (entryAt d.dims (off - d.base) 0).map (fun k => (d, k)))

/-- The entry that an access reaches: a window's is the one its select register names at that moment (R133, R476). -/
def State.entryOf (s : State) (d : RegDef) (k : Nat) : Nat :=
  match d.ix with
  | .win sel bias => s.rd sel + bias
  | _ => k

/-- Progress of the scrubber's lap in per mille, from the slowest cursor (ECC.SCRUB_PROG). -/
def State.lapPermille (s : State) : Nat :=
  let open_ := (List.range 32).filter (fun c => !s.scrub.wrapped.contains c && !(s.tornPc (2 * c) && s.tornPc (2 * c + 1)))
  (open_.map (fun c => s.scrub.cursor.get 0 c * 1000 / 2 ^ 24)).foldl min (if open_.isEmpty then 0 else 1000)

/-- Whole degrees of quarter degrees, as eight bits of two's complement. -/
def degField (q : Int) : Nat := (BitVec.ofInt 8 (q / 4)).toNat

/-- The lane codes shown for CAL.SEL, as CAL.TRIM lays them out: those of the current point (16 R376, R387). -/
def State.trimShown (s : State) : Nat :=
  let c := s.rd R.CAL.SEL.CHANNEL
  let n := s.rd R.CAL.SEL.LANE
  let key := trimKey (s.chanPoint c) c (s.rd R.CAL.SEL.PC) n (s.rd R.CAL.SEL.PLY)
  match s.cal.trims.find key with
  | some w => w
  | none =>
    if (s.cal.stamps.find (4 * c + s.chanPoint c)).isNone then 0
    else
      let w := (Config.bootTrim key).toNat
      if 36 ≤ n ∧ n < 41 then bits w 0 6 + bits w 12 8 * 2 ^ 12 else w

/-- The timing of ply n of the channel selected, as CAL.PLY_TIMING lays it out: the strobe delay, clock phase and eye of the current
point, and the references, which Boot trains last at P0 (16 R374, R387). -/
def State.timingShown (s : State) (n : Nat) : Nat :=
  let c := s.rd R.CAL.SEL.CHANNEL
  let trained (p : Nat) : Nat :=
    if (s.cal.stamps.find (4 * c + p)).isNone then 0 else (Config.bootTiming ((p * 32 + c) * 8 + n)).toNat
  let w := (s.cal.timing.find ((s.chanPoint c * 32 + c) * 8 + n)).getD (trained (s.chanPoint c))
  let refs := (s.cal.refs.find (c * 8 + n)).getD (if (s.cal.stamps.find (4 * c)).isNone then 0 else bootRefs c n)
  bits w 0 12 + bits refs 12 12 * 2 ^ 12 + bits w 24 8 * 2 ^ 24

/-- A row field of CHNc.TIMING for point p: the custom point's clock where it replaces the point (14 R347, 03 R83). -/
def State.timingCycles (s : State) (i p : Nat) : Nat :=
  if s.on R.CLK.CUSTOM_OP.EN ∧ s.rd R.CLK.CUSTOM_OP.SLOT = p ∧ p ≠ 0 then
    dramCyclesAt i (s.rd R.CLK.CUSTOM_OP.CC_CLK) 1000
  else dramCycles i p

/-- A value's parts, field by field, at their bits. -/
def partsOf (v : Nat) (fs : List Fld) : List (Fld × Nat) := fs.map (fun f => (f, part v f))

/-- Fields that a read works out from the state behind them, for the register with a base and an entry. -/
def State.derived (s : State) (base e : Nat) : List (Fld × Nat) :=
  match base with
  | 0x6008 => [(R.BLT.CLIENT.QPS, (s.clientQps e).length), (R.BLT.CLIENT.GRANTS, (s.clientGrants e).length)]
  | 0x6300 => [(R.BLT.CAP.LIMIT_KIB, s.capLimit), (R.BLT.CAP.CHARGED_KIB, s.charged)]
  | 0x8010 => [(R.PLC.STATUS.PLANNING, (s.running && s.on R.PLC.CFG.EN).toNat)]
  | 0x8018 => if s.booting then [] else [(R.PLC.FREE.FREE_FRAMES, s.freeFrames), 
      (R.PLC.FREE.MAPPED, s.mappedFrames), (R.PLC.FREE.TORN_PC, s.mem.torn.length)]
  | 0x8040 => [(R.PLC.PIN_MASK.FRAMES, s.setFrames 4 e)]
  | 0x8080 => [(R.PLC.S32_GEN.FRAMES, s.setFrames 3 e)]
  | 0x8118 => [(R.PLC.PROBE.ENTRY, s.mapOf e), (R.PLC.PROBE.DWELL, s.dwell e),
      (R.PLC.PROBE.IN_HEAT, (s.mem.heat.any (fun h => h.swatch == e)).toNat)]
  | 0x9008 => [(R.LNG.STATUS.VALID_LINES, s.validLines), (R.LNG.STATUS.DIRTY_LINES, s.dirtyLines),
      (R.LNG.STATUS.STICKY_LINES, s.stickyLines)]
  | 0xB008 => [(R.NDL.STATUS.ACTIVE, s.needleCount true), (R.NDL.STATUS.WAITING, s.needleCount false)]
  | 0xC008 => [(R.QOS.DELIVER.GUAR_SUM, s.guarSum)]
  | 0xC108 => [(R.QOS.MASTER.INFLIGHT, min 4095 (s.inFlight e))]
  | 0xC018 => [(R.QOS.POOL.FREE, s.poolFree), (R.QOS.POOL.RX, s.poolRx), (R.QOS.POOL.SHUTTLE, s.poolShuttle),
      (R.QOS.POOL.CHANNEL, s.poolChannel)]
  | 0xD060 => [(R.PRT.KEY_CTRL.BOLTS, (s.keyBolts e).length)]
  | 0x10008 => [(R.CHN.STATUS.CREDIT, (s.hasCredit e).toNat), (R.CHN.STATUS.QUEUED, (s.chan e).admitted.length)]
  | 0x10018 => partsOf (s.pat (3 * e + 1)) [R.CHN.FAILED0.LANES, R.CHN.FAILED0.SV_FAILED]
  | 0x10020 => partsOf (s.pat (3 * e + 2)) [R.CHN.FAILED1.LANES]
  | 0x10030 =>
    ([R.CHN.TIMING.T_RCD, R.CHN.TIMING.T_RP, R.CHN.TIMING.T_CL, R.CHN.TIMING.T_WR, R.CHN.TIMING.T_RAS, R.CHN.TIMING.T_RC,
      R.CHN.TIMING.T_FAW, R.CHN.TIMING.T_RFC].zip (List.range 8)).map (fun x => (x.1, s.timingCycles x.2 (e % 4)))
  | 0x10050 =>
    match (s.chan e).log with
    | h :: _ => [(R.CHN.ERRLOG_ADDR.ADDR, h.addr), (R.CHN.ERRLOG_ADDR.PC, h.pc), (R.CHN.ERRLOG_ADDR.KIND, h.kind),
        (R.CHN.ERRLOG_ADDR.VALID, 1), (R.CHN.ERRLOG_ADDR.SPARE, h.spare.toNat)]
    | [] => []
  | 0x10058 =>
    match (s.chan e).log with
    | h :: _ => [(R.CHN.ERRLOG_SYN.SYNDROME, h.syndrome), (R.CHN.ERRLOG_SYN.LOCATED, h.located)]
    | [] => []
  | 0x10060 => match (s.chan e).log with | h :: _ => [(R.CHN.ERRLOG_TICK.TICK, h.tick)] | [] => []
  | 0x10068 => [(R.CHN.ERRLOG_CTRL.COUNT, (s.chan e).log.length)]
  | 0x10078 =>
    let x := s.chan e
    [(R.CHN.REF_STAT.POINTER, x.pointer.get 0 0),
     (R.CHN.REF_STAT.DEBT_MAX, ((List.range 8).map (x.postponed.get 0)).foldl max 0),
     (R.CHN.REF_STAT.AHEAD_MAX, ((List.range 8).map (x.pulled.get 0)).foldl max 0)]
  | 0x20048 => [(R.ECC.SCRUB_PROG.PERMILLE, s.lapPermille), (R.ECC.SCRUB_PROG.PAUSED, (!s.scrubbing).toNat)]
  | 0x21020 =>
    match s.cal.stamps.find (4 * e + s.chanPoint e) with
    | some st => [(R.CAL.STAMP.PLY_MAX_C, degField (st.plies.foldl max (st.plies.headD 0))), (R.CAL.STAMP.BASE_C, degField st.base),
        (R.CAL.STAMP.RATIO, st.ratio), (R.CAL.STAMP.POINT, s.chanPoint e)]
    | none => [(R.CAL.STAMP.POINT, s.chanPoint e)]
  | 0x21028 => match s.cal.stamps.find (4 * e + s.chanPoint e) with | some st => [(R.CAL.LAST_TICK.TICK, st.tick)] | none => []
  | 0x24010 => [(R.TCK.STATUS.LOS_ALL, s.losAll.toNat), (R.TCK.STATUS.LAG_US, min 127 s.lagUs)]
  | 0x25040 => partsOf (s.pat 128) [R.FLT.RESET_CAUSE.SOURCE, R.FLT.RESET_CAUSE.VALID, R.FLT.RESET_CAUSE.COUNT]
  | 0x26000 => [(R.PMC.VAL.LOW, s.counter (2 * e)), (R.PMC.VAL.HIGH, s.counter (2 * e + 1))]
  | 0x27020 => [(R.PMC.CFG.ASSIGNED, (pmcAssigned e).toNat)]
  | 0x27100 => [(R.PMC.OVF.OVF, (List.range 64).foldl (fun v i => setBit v i (s.pmc.ovf.get false (64 * e + i))) 0)]
  | 0x1040 => [(R.MOD.PAT_STAT.COUNT, s.patCount e), (R.MOD.PAT_STAT.FROZEN, (s.patFrozen e).toNat)]
  | 0x28008 =>
    let w := s.rd R.OTP.SEL.WORD
    [(R.OTP.SEL.PROGRAMMED, (s.otpSet w).toNat), (R.OTP.SEL.MARGINAL, (s.otpMarginals.contains w).toNat)]
  | 0x28010 => [(R.OTP.WORD.VALUE, if 32 ≤ e ∧ e ≤ 43 then 0 else s.otpUse e)]
  | 0x30000 => [(R.PAT.WORD.VALUE, s.pat e)]
  | 0x38008 => [(R.BST.STATUS.QUEUED, s.bist.fifo.length)]
  | 0x38010 =>
    match s.bist.fifo with
    | v :: _ => partsOf v [R.BST.RESULT.CHANNEL, R.BST.RESULT.PC, R.BST.RESULT.PLY, R.BST.RESULT.BANK, R.BST.RESULT.ROW,
        R.BST.RESULT.SPARE, R.BST.RESULT.GRANULE, R.BST.RESULT.CODEWORD, R.BST.RESULT.BIT, R.BST.RESULT.OUTCOME, R.BST.RESULT.VALID]
    | [] => []
  | 0x39000 => [(R.TIM.TICK.TICK, s.tick)]
  | _ => []

/-- The value of a field at its place, worked out or stored; a write-only field reads zero (R16). -/
def State.placeValue (s : State) (shown : List (Fld × Nat)) (e : Nat) (p : Place) : Nat :=
  if p.fld.acc = .wo then 0
  else match shown.find? (fun o => o.1.id == p.fld.id) with
    | some o => o.2 % 2 ^ p.fld.width
    | none => s.rd p.fld (e * p.mul + p.add)

/-- The whole value of a register (R15, R17); three registers are shown as the words behind them lie. -/
def State.regValue (s : State) (d : RegDef) (k : Nat) : Nat :=
  if d.base = 0x10010 then s.pat (3 * k)
  else if d.base = 0x21030 then s.timingShown k
  else if d.base = 0x21078 then s.trimShown
  else
    let e := s.entryOf d k
    let shown := s.derived d.base e
    d.places.foldl (fun v p => v + s.placeValue shown e p * 2 ^ p.lo) 0

/-- The read-and-clear fields of a register clear as they are read (R16). -/
def State.clearRead (s : State) (d : RegDef) (k : Nat) : State :=
  let e := s.entryOf d k
  d.places.foldl (fun (s : State) p => if p.fld.acc = .rc then s.wr p.fld 0 (e * p.mul + p.add) else s) s

/-- A read of the set-up space: 0 where no register lies (R154). -/
def State.readReg (s : State) (off : Nat) : State × Nat :=
  match regAt off with
  | some (d, k) => (s.clearRead d k, s.regValue d k % 2 ^ 64)
  | none => (s, 0)

/-- What a write does where no rule says more: fields that store take their parts, others are left (R16). -/
def State.plain (s : State) (d : RegDef) (k v : Nat) : State :=
  let e := s.entryOf d k
  d.places.foldl (fun (s : State) p =>
    let x := bits v p.lo p.fld.width
    let n := e * p.mul + p.add
    match p.fld.acc with
    | .rw => s.wr p.fld x n
    | .w1c => s.wr p.fld (s.rd p.fld n - (s.rd p.fld n &&& x)) n
    | _ => s) s

/-- A field would change to a value outside lo to hi (R157). -/
def State.outside (s : State) (v lo hi : Nat) (f : Fld) (e : Nat := 0) : Bool :=
  s.badRange f v e (fun x => x < lo || hi < x)

/-- The range rules of registers that have no other: each holds as R157 says, on a change (the field tables). -/
def State.rangeBad (s : State) (base e v : Nat) : Bool :=
  let o := s.outside v
  match base with
  | 0xC100 => o 0 79 R.QOS.MASTER_SEL.INDEX
  | 0x22030 => o 0 79 R.THM.SENSOR_SEL.INDEX
  | 0x22058 => o 0 27 R.THM.RAIL_SEL.INDEX
  | 0x21010 => o 0 48 R.CAL.SEL.LANE
  | 0x21000 => o 2 31 R.CAL.CFG.DRIFT_C || o 1 255 R.CAL.CFG.AGE_PPM || o 1 255 R.CAL.CFG.MAX_INTERVAL_H ||
      o 10 100 R.CAL.CFG.LOAD_STEP || o 10 65535 R.CAL.CFG.DEFER_MS
  | 0x22000 => o 3 15 R.THM.CFG.SUSPECT_C || o 2 63 R.THM.CFG.SUSPECT_ROUNDS
  | 0x23000 =>
    o 80 96 R.HEM.CFG.HOT_C || o 0 16 R.HEM.CFG.COL_MIN || o 1 3 R.HEM.CFG.THROTTLE_POINT || o 1 1000 R.HEM.CFG.STEP_ROUNDS ||
      (s.chgAny v 0 [R.HEM.CFG.HOT_C, R.HEM.CFG.STOP_C] &&
        (part v R.HEM.CFG.STOP_C ≤ part v R.HEM.CFG.HOT_C || 96 < part v R.HEM.CFG.STOP_C))
  | 0x23008 =>
    o 20 92 R.HEM.ENERGY.BUDGET_W || o 0 1000 R.HEM.ENERGY.BUCKET_MJ || o 500 6250 R.HEM.ENERGY.SUST_SLOTS ||
      (s.chgAny v 0 [R.HEM.ENERGY.BUDGET_W, R.HEM.ENERGY.BURST_W] &&
        (part v R.HEM.ENERGY.BURST_W < part v R.HEM.ENERGY.BUDGET_W || 92 < part v R.HEM.ENERGY.BURST_W))
  | 0x10000 => s.outside v 500 8000 R.CHN.CTRL.RH_THRESH e
  | 0x20000 =>
    o 2 255 R.ECC.CFG.DEPTH || o 1 255 R.ECC.CFG.LEAK_MS || o 1 255 R.ECC.CFG.SCRUB_RATE || o 60 65535 R.ECC.CFG.LAP_WARN_S ||
      (s.chgAny v 0 [R.ECC.CFG.DEPTH, R.ECC.CFG.REARM] && part v R.ECC.CFG.DEPTH ≤ part v R.ECC.CFG.REARM)
  | 0x8000 => o 0 12 R.PLC.CFG.SAMPLE_SHIFT || o 100 10000 R.PLC.CFG.EPOCH_US || o 0 2048 R.PLC.CFG.MAX_MOVES
  | 0x8008 => o 1 4095 R.PLC.THRESH.HOT || o 1 15 R.PLC.THRESH.COLD_AGE || o 1 15 R.PLC.THRESH.SEQ_FRAC ||
      o 1 15 R.PLC.THRESH.WRITE_FRAC
  | 0x9000 =>
    o 0 16 R.LNG.CFG.STICKY_MIB || (s.chgAny v 0 [R.LNG.CFG.DIRTY_HIGH, R.LNG.CFG.DIRTY_LOW] &&
      part v R.LNG.CFG.DIRTY_HIGH ≤ part v R.LNG.CFG.DIRTY_LOW)
  | 0xC000 => o 1 255 R.QOS.CFG.AGE_US
  | 0xC020 =>
    let sum := s.rd R.ETH.PFC.RX_LIMIT 0 + s.rd R.ETH.PFC.RX_LIMIT 1 + s.rd R.SHU.CFG.HELD_LIMIT + s.rd R.XPT.CFG.RNR_RESERVE
    s.badRange R.QOS.POOL_CFG.GUAR_RESERVE v 0 (fun x => 6144 < sum + x)
  | 0x27000 => o 1 10000 R.PMC.CTRL.PERIOD_MS
  | _ => false

/-- A write of FLT.SRC for source i (19 R446, R448). -/
def State.writeFltSrc (s : State) (i v : Nat) : SetupResult :=
  let fs := [R.FLT.SRC.REACTION, R.FLT.SRC.PIN, R.FLT.SRC.CLIENT, R.FLT.SRC.ALERT]
  let block := match faultRow i with | some (.other, _, _) => false | some _ => true | none => false
  s.checked
    [ (s.chgAny v i fs && faultReserved i, stMalformed),
      (s.badRange R.FLT.SRC.REACTION v i (fun x => 5 ≤ x || (x == 3 && !block)), stMalformed) ]
    (s.takes v i fs)

/-- A write of PMC.CFG for counter n takes effect at the next tick boundary (12 R302, R303). -/
def State.writePmcCfg (s : State) (n v : Nat) : SetupResult :=
  let t := s.takes v n [R.PMC.CFG.CHAIN, R.PMC.CFG.THRESH]
  s.checked
    [ (s.badRange R.PMC.CFG.THRESH v n (fun x => x != 0 && !pmcOcc n), stMalformed),
      (s.badRange R.PMC.CFG.CHAIN v n (fun x => x == 1 && n % 2 == 0), stMalformed) ]
    { t with pmc := { t.pmc with fresh := t.pmc.fresh ++ [(n, s.chg R.PMC.CFG.CHAIN v n)] } }

/-- A write of PMC.OVF word m (12 R304). -/
def State.writePmcOvf (s : State) (m v : Nat) : SetupResult :=
  let ovf := (List.range 64).foldl (fun (o : SMap Bool) i => if bit v i then o.set false (64 * m + i) false else o) s.pmc.ovf
  State.accept { s with pmc := { s.pmc with ovf := ovf } }

/-- A sensor is trusted again and checked afresh (17 R392). -/
def State.trustSensor (s : State) (i : Nat) : State :=
  ((s.wr R.THM.SENSOR.SUSPECT 0 i).wr R.THM.SENSOR.READ_FAIL 0 i).wr R.THM.SENSOR.RUN 0 i

/-- A write of THM.SUSPECT_LO or THM.SUSPECT_HI, whose bit 0 is sensor `first` (17 R392). -/
def State.writeSuspect (s : State) (f : Fld) (first v : Nat) : SetupResult :=
  (((List.range f.width).filter (fun i => bit v i && s.rdBit f i)).foldl (fun (s : State) i => s.trustSensor (first + i))
    (s.w1c f v)).accept

/-- A write of CLK.CUSTOM_OP (03 R84). -/
def State.writeCustomOp (s : State) (v : Nat) : SetupResult :=
  let fs := [R.CLK.CUSTOM_OP.PIN_RATE, R.CLK.CUSTOM_OP.CC_CLK, R.CLK.CUSTOM_OP.MAC_CLK, R.CLK.CUSTOM_OP.TPCS_CLK,
    R.CLK.CUSTOM_OP.SLOT, R.CLK.CUSTOM_OP.EN]
  s.checked
    [ (s.chgAny v 0 fs && s.mode != modeMaint, stDenied), (s.outside v 48 96 R.CLK.CUSTOM_OP.PIN_RATE, stMalformed),
      (s.chgAny v 0 [R.CLK.CUSTOM_OP.EN, R.CLK.CUSTOM_OP.SLOT] && part v R.CLK.CUSTOM_OP.EN == 1 &&
        part v R.CLK.CUSTOM_OP.SLOT == 0, stMalformed) ]
    (s.takes v 0 fs)

/-- A steward's write of Pattern store word w (20 R472): a changed value is committed, unless the word is frozen. -/
def State.stewardWord (s : State) (w v : Nat) : SetupResult :=
  if s.pat w = v then s.accept
  else if s.patFrozen w then (s.raise Src.patWordFrozen).refuse stDenied
  else (s.patCommit w v).accept

/-- A write of PAT.WORD n: words below 3584 are read only. -/
def State.writePatWord (s : State) (n v : Nat) : SetupResult := if n < 3584 then s.accept else s.stewardWord n v

/-- A write of MOD.BOOT_CFG, which Pattern store word 129 holds. -/
def State.writeBootCfg (s : State) (v : Nat) : SetupResult :=
  match s.stewardWord 129 (part v R.MOD.BOOT_CFG.BIST_SKIP) with
  | (t, 0) => (t.take R.MOD.BOOT_CFG.BIST_SKIP v).accept
  | r => r

/-- A write of OTP.DATA n (20 R467). -/
def State.writeOtpData (s : State) (n v : Nat) : SetupResult :=
  State.accept { s with per := { s.per with data := s.per.data.set n v } }

/-- A write of PLC.PIN_MASK n: set 0 stays 0, and a set in use keeps its mask. -/
def State.writePinMask (s : State) (n v : Nat) : SetupResult :=
  if n = 0 then s.accept
  else s.checked [(s.chg R.PLC.PIN_MASK.MASK v n && s.setFrames 4 n != 0, stDenied)] (s.take R.PLC.PIN_MASK.MASK v n)

/-- A write of TCK.CFG, after which the secondary may take over (18 R435). -/
def State.changeTckCfg (s : State) (v : Nat) : SetupResult :=
  match s.writeTckCfg v with | (t, st) => if st = 0 then (t.judge, 0) else (t, st)

/-- The entry of a window whose writes have a rule of their own, and what the write leaves. -/
def State.writeOwn (s : State) (d : RegDef) (k v : Nat) : SetupResult :=
  let e := s.entryOf d k
  match d.base with
  | 0x1010 => s.writeBootCfg v
  | 0x1020 => s.writeFwCtrl v
  | 0x1028 => s.writeFwData v
  | 0x2028 => s.writeClkCtrl v
  | 0x2048 => s.writeCustomOp v
  | 0x3000 => s.writeEthCtrl k v
  | 0x3038 => s.writeQosMap k v
  | 0x3040 => s.writePfc k v
  | 0x40000 => s.writeSdsCtrl k v
  | 0x40010 => s.writeTxEq k v
  | 0x5000 => s.writeXptCfg v
  | 0x5008 => s.writeXptCc v
  | 0x5100 => s.writeQpState e v
  | 0x5108 => s.writeQpInit e v [R.XPT.QP_DEST.DEST_QPN, R.XPT.QP_DEST.PKEY, R.XPT.QP_DEST.HOP_LIMIT, R.XPT.QP_DEST.IPV6] true
  | 0x5110 => s.writeQpInit e v [R.XPT.QP_DMAC.DMAC] false
  | 0x5118 => s.writeQpInit e v [R.XPT.QP_DIP_HI.ADDR_HI] false
  | 0x5120 => s.writeQpInit e v [R.XPT.QP_DIP_LO.ADDR_LO] false
  | 0x5128 => s.writeQpPsn e v
  | 0x6028 => s.writeQpBind v
  | 0x8040 => s.writePinMask k v
  | 0x8100 => s.writeRestitch v
  | 0x9000 => if s.rangeBad d.base e v then s.refuse stMalformed else (s.plain d k v).settleCap.accept
  | 0x9028 => s.writeLngCmd v
  | 0xA000 => s.writeShuCfg v
  | 0xA100 => s.writeRingCtrl v
  | 0xA108 => s.writeRingFixed R.SHU.RING_BASE.VA v
  | 0xA110 => s.writeRingFixed R.SHU.RING_CQ.VA v
  | 0xA118 => s.writeRingFixed R.SHU.RING_RKEY.WIN_RKEY v
  | 0xA208 => s.writeEqBase v
  | 0xA210 => s.writeEqCtrl v
  | 0xB000 => s.writeNdlCfg v
  | 0xC108 => s.writeQosMaster e v
  | 0xD000 => s.writePrtCfg v
  | 0xD018 => (s.take R.PRT.KEY_WRAP.DATA v k).accept
  | 0xD090 => s.writeMrights e v
  | 0x10068 => s.writeErrlog k v
  | 0x21008 => s.writeCalCmd v
  | 0x22040 => s.writeSuspect R.THM.SUSPECT_LO.SUSPECT 0 v
  | 0x22048 => s.writeSuspect R.THM.SUSPECT_HI.SUSPECT 64 v
  | 0x24008 => s.changeTckCfg v
  | 0x24018 => s.writeAlign v
  | 0x24028 => (s.take R.TCK.PKEY_WRAP.DATA v k).accept
  | 0x24080 => s.writeVirtual v k [R.TCK.VMAC.ADDR]
  | 0x24090 => s.writeVirtual v 0 [R.TCK.VIP4.PORT0, R.TCK.VIP4.PORT1]
  | 0x24098 => s.writeVirtual v k [R.TCK.VIP6_HI.ADDR_HI]
  | 0x240A0 => s.writeVirtual v k [R.TCK.VIP6_LO.ADDR_LO]
  | 0x25010 => (s.w1c R.FLT.PIN_HOLD0.HOLD v).aliveFollow.accept
  | 0x25018 => (s.w1c R.FLT.PIN_HOLD1.HOLD v).aliveFollow.accept
  | 0x25030 => s.refuse stDenied
  | 0x25088 => s.writeFltSrc e v
  | 0x25090 => s.writeInject v
  | 0x27020 => s.writePmcCfg e v
  | 0x27100 => s.writePmcOvf k v
  | 0x28028 => s.writeOtpData k v
  | 0x30000 => s.writePatWord k v
  | 0x38000 => s.writeBstCtrl v
  | 0x39008 => s.writeNote v
  | _ => if s.rangeBad d.base e v then s.refuse stMalformed else (s.plain d k v).accept

/-- A write of the set-up space on a path (R153, R157): a mirrored table or key also goes to the partner (18 R431), and a
mode request may wait for a round end (20 R462). Programming through OTP.CMD finds its supplies as SUPPLY_OK shows. -/
def State.writeReg (s : State) (path : Path) (off v : Nat) : State :=
  match regAt off with
  | none => s.setup path off (s.refuse stBadAddress)
  | some (d, k) =>
    let e := s.entryOf d k
    match d.base with
    | 0x1008 => s.modReq path v
    | 0x6008 => s.mirrored path off e v (s.writeClient e v)
    | 0x6010 => s.mirrored path off e v (s.writeGid e v R.BLT.CLIENT_GID_HI.GID_HI)
    | 0x6018 => s.mirrored path off e v (s.writeGid e v R.BLT.CLIENT_GID_LO.GID_LO)
    | 0x6108 => s.mirrored path off e v (s.writeBoltBase e v)
    | 0x6110 => s.setBoltAttr path v
    | 0x6208 => s.setGrant path v
    | 0x6210 => s.mirrored path off e v (s.writeGrantRange e v)
    | 0xD060 => s.setKeyCtrl path v
    | 0xD078 => s.setRekey path v
    | 0x24000 => s.setTckCtrl path v
    | 0x24100 => s.mirrored path off k v (s.writeMirmode k v)
    | 0x28020 => s.otpCmd (s.on R.OTP.STATUS.SUPPLY_OK) (BitVec.ofNat 64 v) path
    | _ => s.setup path off (s.writeOwn d k v)

end Sys2Proof.Machine
end

