-- ==== Sys2Proof/Machine/Transport.lean ====
section
/-! DEFINITION. The responder: inbound packet checks, admission, rights, and the execution of a QP's requests in PSN order
(05 R111-R127, R129, R130, 06 R146, R151-R154, 18 R433). -/

namespace Sys2Proof.Machine

/-- Module QPNs start here (R112). -/
def qpnBase : Nat := 0x100

/-- SEND Only. -/
def opSend : Nat := 0x04
/-- RDMA WRITE First. -/
def opWriteFirst : Nat := 0x06
/-- RDMA WRITE Middle. -/
def opWriteMiddle : Nat := 0x07
/-- RDMA WRITE Last. -/
def opWriteLast : Nat := 0x08
/-- RDMA WRITE Only. -/
def opWriteOnly : Nat := 0x0A
/-- RDMA READ Request. -/
def opRead : Nat := 0x0C
/-- Acknowledge. -/
def opAck : Nat := 0x11
/-- ATOMIC Acknowledge. -/
def opAtomicAck : Nat := 0x12
/-- ATOMIC CompareSwap. -/
def opSwap : Nat := 0x13
/-- ATOMIC FetchAdd. -/
def opAdd : Nat := 0x14
/-- CNP. -/
def opCnp : Nat := 0x81

/-- A WRITE opcode. -/
def isWriteOp (op : Nat) : Bool := op == opWriteFirst || op == opWriteMiddle || op == opWriteLast || op == opWriteOnly

/-- An ATOMIC opcode. -/
def isAtomicOp (op : Nat) : Bool := op == opSwap || op == opAdd

/-- A packet in the middle or at the end of a WRITE message. -/
def isMore (op : Nat) : Bool := op == opWriteMiddle || op == opWriteLast

/-- A packet that answers the module's own requests, or a CNP. -/
def isAnswer (op : Nat) : Bool := (0x0D ≤ op && op ≤ opAtomicAck) || op == opCnp

/-- An IP address as a GID: IPv4 mapped into IPv6 (R117). -/
def gidOf (v6 : Bool) (ip : Nat) : Nat := if v6 then ip else 0xFFFF * 2 ^ 32 + ip % 2 ^ 32

/-- QP q in RTR or RTS. -/
def State.qpOpen (s : State) (q : Nat) : Bool := s.rd R.XPT.QP_STATE.STATE q == 2 || s.qpRts q

/-- The client that QP q is bound to. -/
def State.qpClient (s : State) (q : Nat) : Nat := s.rd R.XPT.QP_STATE.CLIENT q

/-- A transport event that counts packets sent (R306): none is sent while the link is down. -/
def State.countTx (s : State) (q n : Nat) (k : Nat := 1) : State := if s.qpLink q then s.count n k else s

/-- A CE mark on a request or response of QP q: a CNP, at most one per CNP_INTERVAL; within it the packet is counted (R130). -/
def State.noteCe (s : State) (q : Nat) : State :=
  let x := s.qp q
  let soon : Bool := match x.lastCnp with
    | some t => decide (s.tick - t < s.rd R.XPT.CC.CNP_INTERVAL * 1000)
    | none => false
  if soon then s.setQp q { x with marked := x.marked + 1 }
  else (((s.setQp q { x with lastCnp := some s.tick }).sendPacket q .cnp).countTx q 55).bump R.XPT.QP_RATE.CNP_TX q

/-- Checks 1 to 4 of R117: the QP that a packet reaches. While the port's link is down only a packet whose frame was fully buffered
before arrives (04 R90). -/
def State.inbound (s : State) (p : Packet) : State × Option Nat :=
  if ¬ s.on R.ETH.STATUS.LINK p.port ∧ (s.port p.port).rx.isEmpty then (s, none) else
  let s := (s.consumeFrame p.port).count 48
  let q := p.destQpn - qpnBase
  if ¬ p.icrcOk then (s.bump R.XPT.DROP.ICRC, none)
  else if p.version ≠ 0 ∨ p.destQpn < qpnBase ∨ qpnBase + 1024 ≤ p.destQpn then (s.bump R.XPT.DROP.BAD_QP, none)
  else if ¬ s.qpOpen q then (s.bump R.XPT.DROP.BAD_QP, none)
  else if s.rd R.XPT.QP_STATE.PORT q ≠ p.port.val ∨ gidOf p.ipv6 p.srcIp ≠ gidOf (s.on R.XPT.QP_DEST.IPV6 q) (s.qpDip q) ∨
      s.rd R.XPT.QP_DEST.PKEY q ≠ p.pkey then (s.bump R.XPT.DROP.PKEY_GID, none)
  else (if p.ce ∧ p.opcode ≠ opCnp then s.noteCe q else s, some q)

/-- Check 5: the opcode is one that the QP accepts (R111, R113). -/
def State.opOk (s : State) (q op : Nat) : Bool :=
  isWriteOp op || op == opRead || isAtomicOp op || (op == opSend && s.on R.XPT.QP_STATE.ROLE q)

/-- READ and ATOMIC requests outstanding at the responder of a QP (R111, R119). -/
def Qp.readsHeld (x : Qp) : Nat := x.held.countP HeldReq.isRead

/-- Check 7: a malformed request (R119); a packet that does not continue the message in progress counts as one. -/
def State.malformed (s : State) (q : Nat) (p : Packet) : Bool :=
  let x := s.qp q
  let op := p.opcode
  let n := p.payload.length
  let mtu := s.mtu q
  let left := match x.msg with | some m => m.left | none => 0
  decide (mtu < n) || ((op == opWriteFirst || op == opWriteMiddle) && n != mtu) || isMore op != x.msg.isSome ||
    ((op == opWriteFirst || op == opWriteOnly || op == opRead) && decide (2 ^ 31 < p.dmaLen)) ||
    (op == opWriteFirst && decide (p.dmaLen < n)) || (op == opWriteOnly && p.dmaLen != n) ||
    (op == opWriteMiddle && decide (left < n)) || (op == opWriteLast && left != n) ||
    (isAtomicOp op && (p.va % 8 != 0 || p.dmaLen != 8)) || (op == opSend && n != 8) ||
    ((op == opRead || isAtomicOp op) && decide (64 ≤ x.readsHeld))

/-- Buffers that the first packet of a message reserves (R126). -/
def State.firstBuffers (s : State) (q : Nat) (p : Packet) : Nat :=
  if isWriteOp p.opcode then ceilDiv p.payload.length 256
  else if p.opcode = opRead then ceilDiv (min p.dmaLen (s.mtu q)) 256
  else 1

/-- Check 8: admission to the Bobbin pool (R126); none while service ends (R121). -/
def State.admits (s : State) (n : Nat) : Bool := !s.ending && decide (n + s.rd R.XPT.CFG.RNR_RESERVE ≤ s.poolFree)

/-- The length that a message's rights are checked over. -/
def msgLength (p : Packet) : Nat := if isAtomicOp p.opcode then 8 else p.dmaLen

/-- The right that a message needs (R145). -/
def msgRight (op : Nat) : Nat := if isAtomicOp op then rightAtomic else if op = opRead then rightRead else rightWrite

/-- An access to the set-up window (R152). -/
def State.windowStatus (s : State) (client : Nat) (p : Packet) (len : Nat) : Nat :=
  let off := faOffset p.va
  if ¬ s.on R.BLT.CLIENT.STEWARD client ∨ isAtomicOp p.opcode then stDenied
  else if off % 8 ≠ 0 ∨ len % 8 ≠ 0 ∨ 4096 < len ∨ 2 ^ 20 < off + len then stBadAddress
  else 0

/-- An access to doorbell space (R151). -/
def bellStatus (client : Nat) (p : Packet) (len : Nat) : Nat :=
  let off := faOffset p.va
  if isWriteOp p.opcode ∧ len = 8 ∧ off / 4096 = client ∧ off % 64 = 0 ∧ off % 4096 < 256 then 0 else stDenied

/-- Where an admitted message goes. -/
inductive MsgTarget where
  | nothing
  | bolt (grant : Nat)
  | window
  | bell
  deriving DecidableEq, Repr

/-- Check 9 with R120, R151, R152 and R433: the status of a message and where it goes. -/
def State.target (s : State) (client : Nat) (p : Packet) : Nat × MsgTarget :=
  let len := msgLength p
  let key := faKey p.va
  let window := key == keySetup && (isWriteOp p.opcode || p.opcode == opRead)
  if s.limited ∧ (p.opcode = opSend ∨ ¬ window) then (stDenied, .nothing)
  else if p.opcode = opSend then (0, .bell)
  else if len = 0 then (0, .nothing)
  else if ¬ faInside p.va len then (stBadAddress, .nothing)
  else if key = keyDoorbell then (bellStatus client p len, .bell)
  else if key = keySetup then (s.windowStatus client p len, .window)
  else match s.directRights client p.va len p.rkey (msgRight p.opcode) with | (st, g) => (st, .bolt g)

/-- A fatal NAK waits in QP q's answers: requests after it are dropped (R116). -/
def State.doomed (s : State) (q : Nat) : Bool := (s.qp q).held.any (fun h => h.kind == .nak && h.arg0 != 0x60)

/-- The first of QP q's held requests is replaced. -/
def State.setHead (s : State) (q : Nat) (h : HeldReq) : State :=
  let x := s.qp q
  match x.held with
  | [] => s
  | _ :: rest => s.setQp q { x with held := h :: rest }

/-- The first of QP q's held requests ends, and the grant it was checked under no longer counts it (R145). -/
def State.popHead (s : State) (q : Nat) : State :=
  let x := s.qp q
  match x.held with
  | [] => s
  | h :: rest =>
    let s := match h.grant with | some g => s.grantOut g | none => s
    s.setQp q { x with held := rest }

/-- An ACK of every packet up to a PSN (R123). -/
def State.sendAck (s : State) (q psn : Nat) : State :=
  let x := s.qp q
  let s := s.setQp q { x with unacked := x.unacked.filter (fun k => decide (2 ^ 23 ≤ psnDist k psn)) }
  (s.sendPacket q (.ack psn 0x1F)).countTx q 50

/-- The first held request, a WRITE or SEND, is accepted (R123). -/
def State.acceptHead (s : State) (q : Nat) (h : HeldReq) : State :=
  let s := s.popHead q
  let x := s.qp q
  let s := s.setQp q { x with unacked := x.unacked ++ [h.psn] }
  if h.ackReq ∨ s.rd R.XPT.CFG.ACK_PKTS ≤ (s.qp q).unacked.length then s.sendAck q h.psn else s

/-- A NAK leaves on QP q; every one but 0x60 ends the QP (R116, R127). -/
def State.sendNak (s : State) (q psn syn : Nat) : State :=
  let up := s.qpLink q
  let s := s.sendPacket q (.nak psn syn)
  if syn = 0x60 then (if up then (s.count 51).bump R.XPT.NAK_TX.SEQ else s)
  else
    let f := if syn = 0x61 then R.XPT.NAK_TX.INV_REQ else if syn = 0x62 then R.XPT.NAK_TX.ACCESS else R.XPT.NAK_TX.OPER
    let s := if up then (s.count 52).bump f else s
    s.qpError q syn 0

/-- An RNR NAK leaves on QP q (R126). -/
def State.sendRnr (s : State) (q psn : Nat) : State :=
  ((s.sendPacket q (.rnrNak psn (s.rd R.XPT.CFG.RNR_TIMER))).countTx q 53).bump R.XPT.RNR.RNR_TX

/-- The syndrome of a status (R127). -/
def nakOf (st : Nat) : Nat :=
  if st = stMalformed ∨ st = stUnsupported then 0x61 else if 0x20 ≤ st ∧ st ≤ 0x22 then 0x63 else 0x62

/-- The first held request fails at a PSN (R124, R127). -/
def State.failHead (s : State) (q psn st : Nat) : State :=
  let s := if st = stTorn then s.count 196 else s
  s.sendNak q psn (nakOf st)

/-- What a held request has found of a line, as sectors. -/
def HeldReq.found (h : HeldReq) (l : Nat) : Option (List SecGot) :=
  (h.got.find? (fun g => g.1 == l)).map (fun g => g.2.map (fun e => (e.1, ⟨e.2.1, e.2.2⟩)))

/-- The four sectors of a line as an access finds them, in the form a held request keeps. -/
def State.keepLine (s : State) (l : Nat) (gs : List SecGot) : Nat × List (Nat × Nat × List Byte) :=
  (l, (List.range 4).map (fun k => let g := s.lookSec l gs k; (k, g.status, g.data)))

/-- A fill of line l for master m: one read of the granule, whoever waits for it (R263, R264). -/
def State.startFill (s : State) (m l : Nat) : State :=
  if s.lng.fills.contains l then s.count 111
  else ({ s with lng := { s.lng with
    fills := s.lng.fills ++ [l], cmdErr := s.lng.cmdErr.filter (fun e => e.1 != l), bufErr := s.lng.bufErr.filter (· != l) } } : State).oweRead m l (.fill l)

/-- The first of QP q's held requests waits for lines, in its place among all that wait (R263). -/
def State.waitHead (s : State) (q : Nat) (h : HeldReq) : State :=
  ({ s with lng := { s.lng with arrivals := s.lng.arrivals + 1 } } : State).setHead q { h with came := s.lng.arrivals }

/-- Some sectors of line l for a held request of master m: what it found before, what the Lining holds, what a line that is
not on the stack gives, or none while a fill is on its way: a request that the Lining could serve waits for the fill as well, behind
those that came before it (R263). -/
def State.seek (s : State) (h : HeldReq) (m l : Nat) (ks : List Nat) : State × Option (List SecGot) :=
  match h.found l with
  | some gs => (s, some gs)
  | none =>
    if s.hasSecs l ks then if s.lng.fills.contains l then (s, none) else (s, some (ks.map (fun k => (k, s.lookSec l [] k))))
    else if s.onStack l then (s.startFill m l, none)
    else
      let (s, gs) := s.readGranule h.bolt l (fun k => (s.secData l k).isNone) {}
      (s.installFill m h.bolt l gs, some ((List.range 4).map (fun k => (k, s.lookSec l gs k))))

/-- The map is looked up for a line request that the Lining does not serve (09 R239). -/
def State.missLookup (s : State) (m b l : Nat) (write hit : Bool) : State :=
  if hit || b == 0 then s else s.lookupMap m l write

/-- One line of a WRITE packet, or the end of the packet (R122, R124, R265, 18 R428-R430). -/
def State.writeStep (s : State) (q : Nat) (h : HeldReq) : State × Bool :=
  let m := s.qpClient q
  let b := h.bolt
  match lineRuns h.off h.data.length with
  | [] => if s.committed h.commit then (s.acceptHead q h, true) else (s, false)
  | (l, o, n) :: _ =>
    if s.mirrorHold b ∨ s.moveHolds (l / 256) then (s.setHead q { h with waits := [], got := [] }, false)
    else
      let zero := b ≠ 0 ∧ entryState (s.mapOf (l / 256)) = 3
      match s.readyToWrite b l with
      | (s, st) =>
        if st ≠ 0 then (s.failHead q h.psn st, false)
        else
          let d := h.data.take n
          let part := (touched o n).filter (fun k => !(covered o n).contains k)
          let hit := (s.wayOf l).isSome && s.hasSecs l part
          let s := if h.started then s else (s.countWrite b hit).missLookup m b l true hit
          let inFill := s.lng.fills.contains l
          let sought := if part.isEmpty then (if inFill && (h.found l).isNone then (s, none) else (s, some []))
            else if zero ∧ ¬ s.hasSecs l part then
              (match s.zeroFill m b l (covered o n) with | (s, gs) => (s, some gs))
            else s.seek h m l part
          match sought with
          | (s, none) => (s.waitHead q { h with started := true, waits := [l], got := [], paid := !inFill }, false)
          | (s, some gs) =>
            let look := s.lookSec l gs
            let bad := (failedSec look o d).map (fun k => (look k).status)
            let s := s.acceptWrite m b l (newSecs look o d) (h.paid && (h.found l).isSome)
            match bad with
            | some st => (s.failHead q h.psn st, false)
            | none =>
              let rest := h.data.drop n
              let commit := if rest.isEmpty && s.needsCommit b then s.lastSeq else 0
              (s.setHead q { h with off := h.off + n, data := rest, started := false, waits := [], got := [], paid := false,
                                    commit := commit }, true)

/-- A READ response packet leaves, and the READ goes on or ends (R123). -/
def State.respondRead (s : State) (q : Nat) (h : HeldReq) (data : List Byte) : State :=
  let n := min h.len (s.mtu q)
  let last := decide (h.len = n)
  let op := if last then (if h.first then 0x10 else 0x0F) else (if h.first then 0x0D else 0x0E)
  let s := s.sendPacket q (.readResponse op h.psn data)
  if last then s.popHead q
  else s.setHead q { h with psn := psnAdd h.psn 1, off := h.off + n, len := h.len - n, first := false, started := false,
                            waits := [], got := [] }

/-- The bytes of a READ packet from what was found of its lines, up to the first that fails. -/
def foundRuns (h : HeldReq) : List (Nat × Nat × Nat) → List Byte → Nat × List Byte
  | [], acc => (0, acc)
  | (l, o, n) :: rest, acc =>
    let gs := (h.found l).getD []
    let g := joinSecs (fun k => match gs.find? (fun g => g.1 == k) with | some g => g.2 | none => bad stTorn) o n
    if g.status = 0 then foundRuns h rest (acc ++ g.data) else (g.status, acc)

/-- The lines of a READ packet are sought: what is found is kept, and the others are waited for. -/
def State.seekRuns (s : State) (m : Nat) (h : HeldReq) : List (Nat × Nat × Nat) → State × HeldReq
  | [] => (s, h)
  | (l, o, n) :: rest =>
    if (h.found l).isSome then s.seekRuns m h rest
    else match s.seek h m l (touched o n) with
      | (s, some gs) => (s.touchLine h.bolt l).seekRuns m { h with got := h.got ++ [s.keepLine l gs] } rest
      | (s, none) => s.seekRuns m { h with waits := h.waits ++ [l] } rest

/-- One response packet of a READ (R122-R124, R264). -/
def State.readStep (s : State) (q : Nat) (h : HeldReq) : State × Bool :=
  let m := s.qpClient q
  let b := h.bolt
  let runs := lineRuns h.off (min h.len (s.mtu q))
  let s := if h.started then s else runs.foldl (fun (s : State) r =>
    let hit := s.hasSecs r.1 (touched r.2.1 r.2.2)
    (s.countRead b hit).missLookup m b r.1 false hit) s
  match s.seekRuns m { h with started := true, waits := [] } runs with
  | (s, h) =>
    if ¬ h.waits.isEmpty then (s.waitHead q h, false)
    else match foundRuns h runs [] with
      | (0, data) => (s.respondRead q h data, true)
      | (st, _) => (s.failHead q h.psn st, false)

/-- Registers from an offset upward, read one at a time (06 R153). -/
def State.readRegs : Nat → State → Nat → List Byte → State × List Byte
  | 0, s, _, acc => (s, acc)
  | k + 1, s, off, acc => match s.readReg off with | (s, v) => State.readRegs k s (off + 8) (acc ++ leBytes 8 v)

/-- One response packet of a READ of the set-up window (06 R152-R154). -/
def State.setReadStep (s : State) (q : Nat) (h : HeldReq) : State × Bool :=
  match State.readRegs (min h.len (s.mtu q) / 8) s h.off [] with
  | (s, data) => (s.respondRead q h data, true)

/-- The path of a set-up access through the window on QP q. -/
def State.qpPath (s : State) (q : Nat) : Path := .rdma (Fin.ofNat 64 (s.qpClient q))

/-- A mode request of this path waits for a round end (20 R462). -/
def State.requestHeld (s : State) (path : Path) : Bool := s.boot.held.any (fun r => r.2 == some path)

/-- One register of a WRITE to the set-up window (06 R153): its message goes on once the write has taken effect or been
refused (18 R431, 20 R462). -/
def State.setWriteStep (s : State) (q : Nat) (h : HeldReq) : State × Bool :=
  let path := s.qpPath q
  if ¬ s.committed h.commit ∨ (h.started ∧ s.requestHeld path) then (s, false)
  else if h.data.isEmpty then (s.acceptHead q h, true)
  else
    let next := { h with off := h.off + 8, data := h.data.drop 8, started := false, commit := 0 }
    let holds := s.tack.holds.length
    let reqs := s.boot.held.length
    let s := (s.setHead q next).asAdmitted path (fun s => s.writeReg path h.off (leNat (h.data.take 8)))
    let commit := if holds < s.tack.holds.length then s.lastSeq else 0
    let wait := decide (reqs < s.boot.held.length)
    if (s.qp q).held.isEmpty then (s, false) else (s.setHead q { next with commit := commit, started := wait }, true)

/-- What an ATOMIC leaves in its 8 bytes that held `old`; none where it writes nothing (R122). -/
def HeldReq.newValue (h : HeldReq) (old : Nat) : Option Nat :=
  match h.kind with
  | .swap => if old = h.arg0 then some (h.arg1 % 2 ^ 64) else none
  | _ => some ((old + h.arg0) % 2 ^ 64)

/-- An ATOMIC is answered with the value it found; the results of the last 64 are kept (R118, R123). -/
def State.answerAtomic (s : State) (q : Nat) (h : HeldReq) : State :=
  let old := leNat h.data
  let s := (s.popHead q).sendPacket q (.atomicAck h.psn old)
  let x := s.qp q
  let kept := x.atomics.filter (fun a => a.1 != h.psn) ++ [(h.psn, old)]
  s.setQp q { x with atomics := kept.drop (kept.length - 64) }

/-- An ATOMIC is executed, or waits (R122, R124, 18 R428-R430). -/
def State.atomicStep (s : State) (q : Nat) (h : HeldReq) : State × Bool :=
  let m := s.qpClient q
  let b := h.bolt
  let l := h.off / 256
  let o := h.off % 256
  if h.len = 0 then (if s.committed h.commit then (s.answerAtomic q h, true) else (s, false))
  else if s.mirrorHold b ∨ s.moveHolds (l / 256) then (s.setHead q { h with waits := [], got := [] }, false)
  else
    let ks := touched o 8
    let hit := s.hasSecs l ks
    let s := if h.started then s else (s.countRead b hit).missLookup m b l false hit
    let inFill := s.lng.fills.contains l
    match s.seek h m l ks with
    | (s, none) => (s.waitHead q { h with started := true, waits := [l], got := [], paid := !inFill }, false)
    | (s, some gs) =>
      let look := s.lookSec l gs
      let g := joinSecs look o 8
      if g.status ≠ 0 then (s.failHead q h.psn g.status, false)
      else
        let s := s.touchLine b l
        let done (commit : Nat) : HeldReq := { h with len := 0, data := g.data, waits := [], got := [], commit := commit }
        match h.newValue (leNat g.data) with
        | none => (s.setHead q (done 0), true)
        | some v =>
          match s.readyToWrite b l with
          | (s, st) =>
            if st ≠ 0 then (s.failHead q h.psn st, false)
            else
              let s := (s.countWrite b (s.hasSecs l ks)).acceptWrite m b l (newSecs look o (leBytes 8 v))
                (h.paid && (h.found l).isSome)
              (s.setHead q (done (if s.needsCommit b then s.lastSeq else 0)), true)

/-- One step of the first request that QP q holds, and whether it may go on. -/
def State.pumpStep (s : State) (q : Nat) : State × Bool :=
  match (s.qp q).held with
  | [] => (s, false)
  | h :: _ =>
    if h.spoilt then (s.failHead q h.psn stUncorrectable, true)
    else if h.waits.any s.lng.fills.contains then (s, false)
    else if h.needsBuffer then
      if s.noTurn (s.qpClient q) h.came (ceilDiv h.data.length 256) then (s, false)
      else (s.setHead q { h with buffers := ceilDiv h.data.length 256 }, true)
    else match h.kind with
      | .write => s.writeStep q h
      | .read => s.readStep q h
      | .swap => s.atomicStep q h
      | .add => s.atomicStep q h
      | .sendBell => ((s.doorbell (s.qpClient q) .send (leNat h.data)).acceptHead q h, true)
      | .writeBell => ((s.doorbell (s.qpClient q) (.write (Fin.ofNat 4 h.arg0)) (leNat h.data)).acceptHead q h, true)
      | .setWrite => s.setWriteStep q h
      | .setRead => s.setReadStep q h
      | .nak => ((s.popHead q).sendNak q h.psn h.arg0, true)
      | .rnr => ((s.popHead q).sendRnr q h.psn, true)

/-- The requests of QP q go on as far as they can, in PSN order (R122). -/
def State.pumpQp : Nat → State → Nat → State
  | 0, s, _ => s
  | k + 1, s, q => match s.pumpStep q with | (t, on) => if on then State.pumpQp k t q else t

/-- Steps that QP q's held requests can take at most. -/
def Qp.work (x : Qp) : Nat := x.held.foldl (fun n h => n + h.len + h.data.length + 4) 1

/-- The held requests of QP q go on. -/
def State.pump (s : State) (q : Nat) : State := State.pumpQp (s.qp q).work s q

/-- The held requests of every QP go on: what held them may have gone (R125). -/
def State.pumpAll (s : State) : State := s.qps.keys.foldl State.pump s

/-- A request joins those that QP q executes in order, in its place among all that have come (R122, 11 R297). -/
def State.enqueue (s : State) (q : Nat) (h : HeldReq) : State :=
  let x := s.qp q
  let n := s.lng.arrivals
  (({ s with lng := { s.lng with arrivals := n + 1 } } : State).setQp q { x with held := x.held ++ [{ h with came := n }] }).pump q

/-- A NAK at a PSN takes its place among QP q's answers (R117). -/
def State.nakAt (s : State) (q psn syn : Nat) : State := s.enqueue q { kind := .nak, psn := psn, arg0 := syn }

/-- The expected PSN moves on by n (R117). -/
def State.expectNext (s : State) (q n : Nat) : State :=
  s.wr R.XPT.QP_PSN.RQ_PSN (psnAdd (s.rd R.XPT.QP_PSN.RQ_PSN q) n) q

/-- The bolt that a byte offset lies in. -/
def State.grantBolt (s : State) (off grant : Nat) : Nat := (s.boltAt (off / 65536)).getD (s.rd R.BLT.GRANT.BOLT grant)

/-- The first packet of a WRITE message whose checks passed (R117, R122). -/
def State.beginWrite (s : State) (q : Nat) (p : Packet) (psn n : Nat) (t : MsgTarget) : State :=
  let off := faOffset p.va
  let k := p.payload.length
  let last := p.opcode == opWriteOnly
  let s := s.expectNext q 1
  let put (s : State) (mode g : Nat) : State :=
    if last then s else s.setQp q { s.qp q with msg := some { off := off + k, left := p.dmaLen - k, grant := g, mode := mode } }
  let base : HeldReq := { kind := .write, psn := psn, ackReq := p.ackReq, data := p.payload, off := off, buffers := n }
  match t with
  | .nothing => s.enqueue q base
  | .bell => s.enqueue q { base with kind := .writeBell, arg0 := off % 4096 / 64 }
  | .window => (put s 1 0).enqueue q { base with kind := .setWrite }
  | .bolt g => (put (s.grantIn g) 0 g).enqueue q
      { base with bolt := s.grantBolt off g, grant := if last then some g else none }

/-- A READ whose checks passed, from a PSN (R118, R122). -/
def State.beginRead (s : State) (q : Nat) (p : Packet) (psn n : Nat) (t : MsgTarget) : State :=
  let off := faOffset p.va
  let base : HeldReq :=
    { kind := .read, psn := psn, off := off, len := p.dmaLen, arg0 := psn, arg1 := max 1 (ceilDiv p.dmaLen (s.mtu q)),
      buffers := n }
  match t with
  | .window => s.enqueue q { base with kind := .setRead }
  | .bolt g => (s.grantIn g).enqueue q { base with bolt := s.grantBolt off g, grant := some g }
  | _ => s.enqueue q base

/-- An ATOMIC whose checks passed (R122). -/
def State.beginAtomic (s : State) (q : Nat) (p : Packet) (psn n g : Nat) : State :=
  let off := faOffset p.va
  let swap := p.opcode == opSwap
  ((s.expectNext q 1).grantIn g).enqueue q
    { kind := if swap then .swap else .add, psn := psn, off := off, len := 8, bolt := s.grantBolt off g, buffers := n,
      arg0 := (if swap then p.compare else p.swapAdd) % 2 ^ 64, arg1 := p.swapAdd % 2 ^ 64, grant := some g }

/-- A message that is not admitted (R126). -/
def State.notAdmitted (s : State) (q psn op : Nat) : State :=
  if s.on R.XPT.CFG.RNR_MODE ∧ op ≠ opSend then (s.count 54).bump R.XPT.RNR.RNR_DROP
  else s.enqueue q { kind := .rnr, psn := psn }

/-- Checks 8 and 9 of a message's first packet, and its execution (R117). -/
def State.firstPacket (s : State) (q : Nat) (p : Packet) (psn : Nat) : State :=
  let c := s.qpClient q
  let n := s.firstBuffers q p
  if ¬ s.admits n then s.notAdmitted q psn p.opcode
  else match s.target c p with
    | (0, t) =>
      if isWriteOp p.opcode then s.beginWrite q p psn n t
      else if p.opcode = opRead then (s.expectNext q (max 1 (ceilDiv p.dmaLen (s.mtu q)))).beginRead q p psn n t
      else match t with
        | .bolt g => s.beginAtomic q p psn n g
        | _ => (s.expectNext q 1).enqueue q { kind := .sendBell, psn := psn, ackReq := p.ackReq, data := p.payload, buffers := n }
    | (st, _) => (s.countDenied c st).nakAt q psn (nakOf st)

/-- A later packet of a WRITE message (R117, R126). -/
def State.morePacket (s : State) (q : Nat) (p : Packet) (psn : Nat) : State :=
  match (s.qp q).msg with
  | none => s
  | some m =>
    let k := p.payload.length
    let last := p.opcode == opWriteLast
    let s := (s.expectNext q 1).setQp q { s.qp q with
      msg := if last then none else some { m with off := m.off + k, left := m.left - k } }
    let base : HeldReq := { kind := .write, psn := psn, ackReq := p.ackReq, data := p.payload, off := m.off, first := false }
    if m.mode = 1 then s.enqueue q { base with kind := .setWrite }
    else s.enqueue q { base with bolt := s.grantBolt m.off m.grant, grant := if last then some m.grant else none }

/-- A request that covers a PSN is still held (R118). -/
def State.stillHeld (s : State) (q psn : Nat) : Bool :=
  (s.qp q).held.any (fun h =>
    match h.kind with
    | .read => decide (psnDist h.arg0 psn < h.arg1)
    | .setRead => decide (psnDist h.arg0 psn < h.arg1)
    | .nak => false
    | .rnr => false
    | _ => h.psn == psn)

/-- A duplicate READ is executed again from its own PSN, its rights checked again (R118). -/
def State.readAgain (s : State) (q : Nat) (p : Packet) (psn : Nat) : State :=
  match s.target (s.qpClient q) p with
  | (0, t) => s.beginRead q p psn (s.firstBuffers q p) t
  | (st, _) => (s.countDenied (s.qpClient q) st).nakAt q psn (nakOf st)

/-- A duplicate request (R118). -/
def State.duplicate (s : State) (q : Nat) (p : Packet) (psn : Nat) : State :=
  if s.stillHeld q psn then s
  else if p.opcode = opRead then s.readAgain q p psn
  else if isAtomicOp p.opcode then
    match (s.qp q).atomics.find? (fun a => a.1 == psn) with
    | some (_, old) => s.sendPacket q (.atomicAck psn old)
    | none => s
  else s.sendAck q psn

/-- A packet whose PSN is not the expected one (R118). -/
def State.offSequence (s : State) (q : Nat) (p : Packet) (psn : Nat) : State :=
  let e := s.rd R.XPT.QP_PSN.RQ_PSN q
  if psnDist psn e ≤ 2 ^ 23 then s.duplicate q p psn
  else if (s.qp q).nakSent then s
  else (s.setQp q { s.qp q with nakSent := true }).nakAt q e 0x60

/-- A request packet on QP q: checks 5 to 9 of R117, and its execution. A context that has lost a word answers it with a NAK (15 R369). -/
def State.requestIn (s : State) (q : Nat) (p : Packet) : State :=
  let psn := p.psn % 2 ^ 24
  if s.doomed q then s.bump R.XPT.DROP.BAD_QP
  else if (s.qp q).broken then s.nakAt q psn 0x63
  else if ¬ s.opOk q p.opcode then s.nakAt q psn 0x61
  else if psn ≠ s.rd R.XPT.QP_PSN.RQ_PSN q then s.offSequence q p psn
  else
    let s := s.setQp q { s.qp q with nakSent := false }
    if s.malformed q p then s.nakAt q psn 0x61
    else if isMore p.opcode then s.morePacket q p psn
    else s.firstPacket q p psn

/-- ACK_DELAY_EXPIRY (R123). -/
def execAckDelayExpiry (qp : Fin 1024) (st : State) : Host.Outcome State Fault Refusal :=
  live st (match (st.qp qp).unacked.getLast? with | some psn => st.sendAck qp psn | none => st)

end Sys2Proof.Machine
end

