-- ==== Sys2Proof/Machine/Fills.lean ====
section
/-! DEFINITION. The end of a Lining fill: its sectors, and the requests that waited for it (10 R263-R265, R271, R279). -/

namespace Sys2Proof.Machine

/-- The QPs whose first held request waits for line l, in the order in which they came to wait (R263). -/
def State.waitersOf (s : State) (l : Nat) : List Nat :=
  sortBy (fun q => [(((s.qp q).held.head?.map (·.came)).getD 0 : Int)])
    (s.qps.keys.filter (fun q => match (s.qp q).held with | h :: _ => h.waits.contains l | [] => false))

/-- Sector k of line l is one that the first request of QP q writes whole (R265). -/
def State.writesWhole (s : State) (q l k : Nat) : Bool :=
  match (s.qp q).held with
  | h :: _ =>
    h.kind == .write && (lineRuns h.off h.data.length).any (fun r => r.1 == l && (covered r.2.1 r.2.2).contains k)
  | [] => false

/-- The first request of QP q gets line l. -/
def State.giveLine (s : State) (l : Nat) (gs : List SecGot) (q : Nat) : State :=
  match (s.qp q).held with
  | [] => s
  | h :: _ => (s.touchLine h.bolt l).setHead q { h with waits := h.waits.filter (· != l), got := h.got ++ [s.keepLine l gs] }

/-- Every request that waits for line l gets it, and takes its step in the order in which they came; what one of them writes the
later ones find (R263, 01 R24). Then each goes on. -/
def State.serveWaiters (s : State) (l : Nat) (gs : List SecGot) : State :=
  let qs := s.waitersOf l
  let s := qs.foldl (fun s q => s.giveLine l gs q) s
  let s := qs.foldl (fun s q => (s.pumpStep q).1) s
  qs.foldl State.pump s

/-- A fill returns (R264): the sectors that are neither VALID nor about to be written whole are read, those of a failed
command or of a bad pool buffer fail, and those that pass enter the Lining (15 R369). -/
def State.fillDone (s : State) (l c : Nat) (k : Slot) (noise : ReadNoise) : State :=
  let s := s.slotDone c k
  let failed := (s.lng.cmdErr.filter (fun e => e.1 == l)).map (·.2)
  let gone := s.lng.bufErr.contains l
  let ws := s.waitersOf l
  let whole (k : Nat) : Bool := !ws.isEmpty && ws.all (fun q => s.writesWhole q l k)
  let need (k : Nat) : Bool := (s.secData l k).isNone && !whole k
  let s : State := { s with lng := { s.lng with
    fills := s.lng.fills.filter (· != l), cmdErr := s.lng.cmdErr.filter (fun e => e.1 != l),
    bufErr := s.lng.bufErr.filter (· != l) } }
  match s.boltAt (l / 256) with
  | none => s.serveWaiters l []
  | some b =>
    match s.readGranule b l (fun k => need k && !failed.contains k && !gone) noise with
    | (s, gs) =>
      let lost := (List.range 4).filter (fun k => need k && failed.contains k)
      let gs := gs ++ ((List.range 4).filter (fun k => need k && (failed.contains k || gone))).map (fun k => (k, bad stUncorrectable))
      ((s.count 195 lost.length).installFill k.master b l gs).serveWaiters l gs

/-- The read of line l returns: its controller has admitted it, and no write-back of the line is open (R263). -/
def State.fillReturns (s : State) (l : Nat) (noise : ReadNoise) : State :=
  if ¬ s.lng.fills.contains l ∨ s.wbOpen l then s else
  let t := s.runTo (.fill l)
  match t.issuedSlot (.fill l) with
  | some (c, k) => t.fillDone l c k noise
  | none => s

/-- FILL_COMPLETE (R263, R264). -/
def execFillComplete (line : BitVec 32) (noise : ReadNoise) (st : State) : Host.Outcome State Fault Refusal :=
  live st (st.fillReturns line.toNat noise)

/-- Fills that have lost their slot, as their pseudo-channel is torn, are over: who waited looks again (R58, R279). -/
def State.endFills (s : State) : State :=
  { s with lng := { s.lng with fills := s.lng.fills.filter (fun l => s.slotsFor (.fill l) != 0) } }

/-- Held no-allocate writes and write-backs whose slots have gone, as their pseudo-channel was torn or the module has been in
thermal hold, ask for them again; the slot of a line that has nothing left to write back is complete (R58, R267, R271, 17 R398). -/
def State.renewSlots (s : State) : State :=
  let ls := (s.lng.around.map (·.line)).eraseDups
  let s := ls.foldl (fun (s : State) l =>
    if s.slotsFor (.around l) + s.slotsFor (.merged l) < s.lng.around.countP (fun a => a.line == l) then
      s.oweAside ((s.lng.around.find? (fun a => a.line == l)).elim 69 (fun a => a.master)) l (.around l)
    else s) s
  let s := ((s.lng.wbs.filter (·.flying)).map (fun w => (w.line, w.master))).eraseDups.foldl (fun (s : State) w =>
    if s.slotsFor (.back w.1) = 0 then s.oweAside w.2 w.1 (.back w.1) else s) s
  s.chans.entries.foldl (fun s c => (c.2.admitted.filter (fun k => k.issued)).foldl (fun (s : State) k =>
    match k.use with
    | .back l => if s.lng.wbs.any (fun w => w.line == l && w.flying) then s else s.slotDone c.1 k
    | _ => s) s) s

/-- One tick passes with no command: what is counted by ticks is counted, the engines and the channels go on, and held requests
whose hold has gone go on (00 R11, 05 R125, 08 R222, 14 R345). In Hold the stack rests. -/
def State.idle (s : State) : State :=
  let s := s.stitchTick.tickOn.judge.endFills
  let s := if s.mode = modeHold then s else (s.renewSlots.renewEntering.engines.runBuses).restClean.debugAgain.movesOn.cleanNext.pumpCopy
  s.pumpAll

end Sys2Proof.Machine
end

