-- ==== Sys2Proof/Machine/Access.lean ====
section
/-! DEFINITION. Set-up accesses as commands: the SMBus slave, the register reads and writes without a row of their own, and
what lets held requests go on (00 R16, 05 R125, 06 R155-R157, 11 R297, 17 R388, 18 R427, R434, 19 R455). -/

namespace Sys2Proof.Machine

/-- SETUP_WRITE (R152, R157). -/
def execSetupWrite (off : BitVec 20) (v : BitVec 64) (path : Path) (st : State) : Host.Outcome State Fault Refusal :=
  live st (st.writeReg path off.toNat v.toNat)

/-- The SMBus packet error code of bytes: CRC-8 with the polynomial x^8 + x^2 + x + 1 (log entry 92). -/
def pecOf (bytes : List Byte) : Byte :=
  bytes.foldl (fun c b => (List.range 8).foldl (fun (c : Byte) _ =>
    if c.msb then (c <<< 1) ^^^ 7#8 else c <<< 1) (c ^^^ b)) 0#8

/-- The module's SMBus address (R155). -/
def State.smbAddr (s : State) : Nat := 0x50 + s.rd R.MOD.STATUS.SLOT_ID % 8

/-- The packet error code that ends a Block Read by a command: over the address, the command, the address again, the count and the
data (R156). -/
def State.readPec (s : State) (cmd : Nat) (data : List Byte) : Byte :=
  pecOf ([BitVec.ofNat 8 (2 * s.smbAddr), BitVec.ofNat 8 cmd, BitVec.ofNat 8 (2 * s.smbAddr + 1), 8#8] ++ data)

/-- A register read on a path: what it returns goes out where the access came from, on the SMBus by a DATA or a RESP command with a
packet error code (R16, R155, R156). -/
def State.readOn (s : State) (path : Path) (off : Nat) (cmd : Nat := 2) : State :=
  if ¬ s.pathOk path then s.turnAway path
  else match s.readReg off with
    | (s, v) => match path with
      | .smb => s.emit (.smbRead (leBytes 8 v) (s.readPec cmd (leBytes 8 v)))
      | .rdma c => s.emit (.windowRead c.val (leBytes 8 v))

/-- RC_READ (R16). -/
def execRcRead (off : BitVec 20) (path : Path) (st : State) : Host.Outcome State Fault Refusal :=
  live st (st.readOn path off.toNat)

/-- A write transaction whose PEC is wrong or absent: the one is NACKed, the other discarded, and both are counted (R156). -/
def State.pecFail (s : State) (p : Pec) : State :=
  let s := s.bump R.GLB.SETUP_RESP_SMB.PEC_ERR
  match p with
  | .wrong => s.emit .smbNack
  | _ => s

/-- A block write is NACKed and changes nothing (R156). -/
def State.smbRefuse (s : State) : State := s.emit .smbNack

/-- A SET_ADDR (R155, R156). -/
def State.smbSetAddr (s : State) (w : SmbBlock) : State :=
  let a := leNat (w.data.take 3)
  if w.count ≠ 4 ∨ w.data.length ≠ 4 ∨ a % 8 ≠ 0 ∨ bits a 20 4 ≠ 0 then s.smbRefuse
  else if w.pec ≠ .good then s.pecFail w.pec
  else { s with smb := { addr := a, autoInc := bit (w.data.getD 3 0).toNat 0 } }

/-- SMB_SET_ADDR (R155, R156). -/
def execSmbSetAddr (w : SmbBlock) (st : State) : Host.Outcome State Fault Refusal := live st (st.smbSetAddr w)

/-- With AUTO_INC the indirect address moves on after a DATA access (R156). -/
def State.smbAdvance (s : State) : State :=
  if s.smb.autoInc then { s with smb := { s.smb with addr := (s.smb.addr + 8) % 2 ^ 20 } } else s

/-- A DATA block write (R155, R156). -/
def State.smbWrite (s : State) (w : SmbBlock) : State :=
  if w.count ≠ 8 ∨ w.data.length ≠ 8 then s.smbRefuse
  else if w.pec ≠ .good then s.pecFail w.pec
  else (s.writeReg .smb s.smb.addr (leNat w.data)).smbAdvance

/-- SMB_DATA_WRITE (R155, R156). -/
def execSmbDataWrite (w : SmbBlock) (st : State) : Host.Outcome State Fault Refusal := live st (st.smbWrite w)

/-- SMB_DATA_READ (R155). -/
def execSmbDataRead (st : State) : Host.Outcome State Fault Refusal := live st (st.readOn .smb st.smb.addr).smbAdvance

/-- SMB_RESP_READ (R155): a read of GLB.SETUP_RESP_SMB, at its offset. -/
def execSmbRespRead (st : State) : Host.Outcome State Fault Refusal := live st (st.readOn .smb 0x100 3)

/-- SMB_TIMEOUT (R156): an abandoned transaction has no effect. -/
def execSmbTimeout (st : State) : Host.Outcome State Fault Refusal := live st st

/-- SMB_ALERT_RESPONSE (R455): the module answers while it drives ALERT_N. -/
def execSmbAlertResponse (st : State) : Host.Outcome State Fault Refusal :=
  live st (if st.alertN then st else st.emit (.smbAddress st.smbAddr))

/-- BOBBIN_BUFFER_FREED (R297). -/
def execBobbinBufferFreed (st : State) : Host.Outcome State Fault Refusal := live st st.bufferFreed.pumpAll

/-- HOUSEKEEPING_ROUND (R388): requests that waited for the round's end go on. -/
def execHousekeepingRound (r : RoundReadings) (st : State) : Host.Outcome State Fault Refusal :=
  live st (st.houseRound r).pumpAll

/-- STITCH_ACK (R427, R428): writes that waited for the partner's commit go on. -/
def execStitchAck (seq : BitVec 64) (st : State) : Host.Outcome State Fault Refusal :=
  live st (if st.on R.TCK.STATUS.LINK then (st.gotStitch.acked seq.toNat).pumpAll else st)

/-- BREAK_TIMEOUT (R434). -/
def execBreakTimeout (st : State) : Host.Outcome State Fault Refusal :=
  live st (if st.mirroring ∧ ¬ st.on R.TCK.STATUS.LINK then st.breakPrimary.pumpAll else st)

end Sys2Proof.Machine
end

