-- ==== Sys2Proof/Machine/Answers.lean ====
section
/-! DEFINITION. The module as requester: what the client answers, retransmission, and the transmit rate; and the received
packet as a whole (05 R117, R128, R131). -/

namespace Sys2Proof.Machine

/-- A request of the module has been answered whole: what Shuttle does with it (07 R168, R169, R178, R190). -/
def State.answered (s : State) (r : Req) : State :=
  match r.use with
  | .fetch k n => s.setRing k { s.ring k with returned := (s.ring k).returned ++ [(n, r.data)] }
  | .record k _ i st notify => if notify then s.postEvent (k / 4) 0 0x0001 (i + k % 4 * 2 ^ 16) st else s
  | .dataOut k n => s.dataAcked k n
  | .dataIn k n => s.dataArrived k n [] true
  | .release _ => s
  | .event _ => s

/-- Requests leave the outstanding ones of QP q as answered; the retries start anew (R128). -/
def State.retire (s : State) (q : Nat) (done rest : List Req) : State :=
  let s := s.setQp q { s.qp q with sent := rest, retries := 0, rnrRetries := 0 }
  done.foldl State.answered s

/-- Requests acknowledged through a PSN: the WRITEs that end at or below it, and what is left. A READ is answered by its
responses only; a WRITE may be acknowledged in part. -/
def ackThrough (psn : Nat) : List Req → List Req × List Req
  | [] => ([], [])
  | r :: rest =>
    let k := psnDist r.psn psn + 1
    if 2 ^ 23 < k ∨ ¬ r.isWrite then ([], r :: rest)
    else if k < r.pkts then ([], { r with acked := max r.acked k } :: rest)
    else match ackThrough psn rest with | (done, left) => (r :: done, left)

/-- A PSN that some outstanding request of QP q holds (R128). -/
def State.outstanding (s : State) (q psn : Nat) : Bool :=
  match (s.qp q).sent with
  | [] => false
  | r :: _ => decide (psnDist r.psn psn < psnDist r.psn (s.rd R.XPT.QP_PSN.SQ_PSN q))

/-- An acknowledgement through a PSN takes effect, where it brings anything new (R128). -/
def State.acknowledge (s : State) (q psn : Nat) : State :=
  let x := s.qp q
  match ackThrough psn x.sent with
  | (done, rest) => if rest = x.sent then s else s.retire q done rest

/-- The outstanding packets of QP q leave again, go-back-N (R128). -/
def State.retransmit (s : State) (q : Nat) : State :=
  (s.qp q).sent.foldl (fun (s : State) r => (s.transmit q r).countTx q 58 (reqPackets (s.mtu q) r).length) s

/-- An ACK for the module's own requests (R128). -/
def State.ackIn (s : State) (q psn : Nat) : State :=
  if s.outstanding q psn then (s.acknowledge q psn).drainQp q else s

/-- A NAK for the module's own requests: everything before its PSN is acknowledged (R128). -/
def State.nakIn (s : State) (q psn syn : Nat) : State :=
  if ¬ s.outstanding q psn then s
  else
    let s := s.acknowledge q (psnAdd psn (2 ^ 24 - 1))
    if syn = 0x60 then (s.retransmit q).drainQp q
    else if 0x61 ≤ syn ∧ syn ≤ 0x63 then s.qpError q syn 1
    else s

/-- An RNR NAK for the module's own requests (R128). -/
def State.rnrIn (s : State) (q psn : Nat) : State :=
  let s := s.bump R.XPT.RETRY.RNR_RX
  if ¬ s.outstanding q psn then s
  else
    let s := s.acknowledge q (psnAdd psn (2 ^ 24 - 1))
    let x := s.qp q
    let limit := s.rd R.XPT.QP_STATE.RNR_RETRY q
    if limit ≠ 7 ∧ limit ≤ x.rnrRetries then s.qpError q 0xFF 1
    else s.setQp q { x with rnrRetries := x.rnrRetries + 1, rnrWait := true }

/-- An acknowledge packet, by its syndrome. -/
def State.aethIn (s : State) (q : Nat) (p : Packet) : State :=
  let psn := p.psn % 2 ^ 24
  match bits p.syndrome 5 2 with
  | 0 => s.ackIn q psn
  | 1 => s.rnrIn q psn
  | 3 => s.nakIn q psn (p.syndrome % 256)
  | _ => s

/-- The outstanding requests of a QP up to its oldest READ: the WRITEs before it, the READ, and the rest. -/
def oldestRead : List Req → Option (List Req × Req × List Req)
  | [] => none
  | r :: rest =>
    if ¬ r.isWrite then some ([], r, rest)
    else match oldestRead rest with
      | some (ws, x, more) => some (r :: ws, x, more)
      | none => none

/-- A part of a READ's data is here; a WRITE_IN takes it at once (07 R190). -/
def State.partIn (s : State) (r : Req) (data : List Byte) : State :=
  match r.use with
  | .dataIn k n => s.dataArrived k n data false
  | _ => s

/-- A READ response: it must carry the PSN and the length that the oldest READ expects next; WRITEs before it are
acknowledged by it (R128). -/
def State.readResponseIn (s : State) (q : Nat) (p : Packet) : State :=
  match oldestRead (s.qp q).sent with
  | none => s
  | some (ws, r, rest) =>
    let got := r.data.length
    if p.psn % 2 ^ 24 ≠ psnAdd r.psn (got / s.mtu q) ∨ p.payload.length ≠ min (s.mtu q) (r.len - got) then s
    else
      let s := s.partIn r p.payload
      let r := { r with data := r.data ++ p.payload }
      let s := if r.data.length = r.len then s.retire q (ws ++ [r]) rest else s.retire q ws (r :: rest)
      s.drainQp q

/-- The lowest rate that a cut leaves (R131). -/
def State.cutRate (s : State) (q : Nat) : Nat := max (s.rd R.XPT.QP_RATE.RATE q / 2) (s.rd R.XPT.CC.MIN_RATE)

/-- A CNP: the increase period starts anew, and the rate is cut unless the last cut is too near (R131). -/
def State.cnpIn (s : State) (q : Nat) : State :=
  let s := (s.bump R.XPT.QP_RATE.CNP_RX q).count 56
  let x := { s.qp q with period := some s.tick }
  let soon : Bool := match x.lastCut with
    | some t => decide (s.tick - t < s.rd R.XPT.CC.CNP_INTERVAL * 1000)
    | none => false
  if soon || !s.on R.XPT.CC.CC_EN || !s.qpRts q then s.setQp q x
  else (s.setQp q { x with lastCut := some s.tick }).wr R.XPT.QP_RATE.RATE (s.cutRate q) q

/-- A received RoCEv2 packet: the packet checks, then the responder or the requester (R117). -/
def State.packetIn (s : State) (p : Packet) : State :=
  match s.inbound p with
  | (s, none) => s
  | (s, some q) =>
    if p.opcode = opCnp then s.cnpIn q
    else if p.opcode = opAck then s.aethIn q p
    else if p.opcode = opAtomicAck then s
    else if isAnswer p.opcode then s.readResponseIn q p
    else s.requestIn q p

/-- SEND_ONLY (R113, R117, 07 R164). -/
def execSendOnly (pkt : Packet) (st : State) : Host.Outcome State Fault Refusal := live st (st.packetIn pkt)

/-- RDMA_WRITE (R117, R122). -/
def execRdmaWrite (pkt : Packet) (st : State) : Host.Outcome State Fault Refusal := live st (st.packetIn pkt)

/-- RDMA_READ_REQUEST (R117, R122). -/
def execRdmaReadRequest (pkt : Packet) (st : State) : Host.Outcome State Fault Refusal := live st (st.packetIn pkt)

/-- ATOMIC_COMPARE_SWAP (R117, R122). -/
def execAtomicCompareSwap (pkt : Packet) (st : State) : Host.Outcome State Fault Refusal := live st (st.packetIn pkt)

/-- ATOMIC_FETCH_ADD (R117, R122). -/
def execAtomicFetchAdd (pkt : Packet) (st : State) : Host.Outcome State Fault Refusal := live st (st.packetIn pkt)

/-- READ_RESPONSE_RECEIVED (R128). -/
def execReadResponseReceived (pkt : Packet) (st : State) : Host.Outcome State Fault Refusal := live st (st.packetIn pkt)

/-- ACK_RECEIVED (R128). -/
def execAckReceived (pkt : Packet) (st : State) : Host.Outcome State Fault Refusal := live st (st.packetIn pkt)

/-- NAK_RECEIVED (R128). -/
def execNakReceived (pkt : Packet) (st : State) : Host.Outcome State Fault Refusal := live st (st.packetIn pkt)

/-- RNR_NAK_RECEIVED (R128). -/
def execRnrNakReceived (pkt : Packet) (st : State) : Host.Outcome State Fault Refusal := live st (st.packetIn pkt)

/-- CNP_RECEIVED (R131). -/
def execCnpReceived (pkt : Packet) (st : State) : Host.Outcome State Fault Refusal := live st (st.packetIn pkt)

/-- The RNR wait of QP q ends: what is outstanding leaves again (R128). -/
def State.rnrOver (s : State) (q : Nat) : State :=
  if (s.qp q).rnrWait then ((s.setQp q { s.qp q with rnrWait := false }).retransmit q).drainQp q else s

/-- RNR_WAIT_EXPIRY (R128). -/
def execRnrWaitExpiry (qp : Fin 1024) (st : State) : Host.Outcome State Fault Refusal := live st (st.rnrOver qp)

/-- Packets of QP q that a pause holds: their timer has not started (R103, R128). -/
def State.pausedFor (s : State) (q : Nat) : Bool := s.ports.entries.any (fun p => p.2.txq.any (fun e => e.1 == q))

/-- The acknowledgement timer of QP q expires (R128). -/
def State.timeout (s : State) (q : Nat) : State :=
  let x := s.qp q
  if ¬ s.qpRts q ∨ x.sent.isEmpty ∨ x.rnrWait ∨ s.pausedFor q then s
  else
    let s := (s.bump R.XPT.RETRY.TIMEOUTS).count 57
    if s.rd R.XPT.QP_STATE.RETRY_CNT q ≤ x.retries then s.qpError q 0xFF 0
    else (s.setQp q { x with retries := x.retries + 1 }).retransmit q

/-- ACK_TIMEOUT (R128, R129). -/
def execAckTimeout (qp : Fin 1024) (st : State) : Host.Outcome State Fault Refusal := live st (st.timeout qp)

/-- An increase period of QP q is over: STEP_PERIOD has passed since it started, if it has (R131). -/
def State.periodOver (s : State) (q : Nat) : Bool :=
  match (s.qp q).period with
  | some t => decide (s.rd R.XPT.CC.STEP_PERIOD * 1000 ≤ s.tick - t)
  | none => true

/-- RATE_STEP (R131): the next period starts. -/
def execRateStep (qp : Fin 1024) (st : State) : Host.Outcome State Fault Refusal :=
  live st (if st.qpRts qp ∧ st.on R.XPT.CC.CC_EN ∧ st.periodOver qp then
    (st.setQp qp { st.qp qp with period := some st.tick }).wr R.XPT.QP_RATE.RATE
      (min (st.rd R.XPT.QP_RATE.RATE qp + st.rd R.XPT.CC.RATE_STEP) (st.lineRate (st.rd R.XPT.QP_STATE.PORT qp))) qp
  else st)

end Sys2Proof.Machine
end

