-- ==== Sys2Proof/Machine/Dump.lean ====
section
/-! DEFINITION. The counter dumper: latches and dump records (12 R307-R311). -/

namespace Sys2Proof.Machine

/-- The master number of the counter dumper (R307). -/
def dumpMaster : Nat := 66

/-- The offset of slot j of the dump ring (R308). -/
def dumpSlot (j : Nat) : Nat := 0xFFFF000000 + 8192 * j

/-- The slot of the record with sequence q (R308). -/
def slotOfSeq (q : Nat) : Nat := (q - 1) % 2048

/-- Bytes written at an offset of the system bolt for the dumper. -/
def State.dumpWrite (s : State) (off : Nat) (d : List Byte) : State := (s.writeRange dumpMaster 0 off d).1

/-- The sequence number of the record being written. -/
def State.dumpSeq (s : State) : Nat := s.dump.seq + 1

/-- The INFO word of a record latched now, with the period in effect (R309, R311). -/
def State.dumpInfo (s : State) : Nat :=
  s.dump.period + min s.dump.skips 65535 * 2 ^ 16 + s.mode % 8 * 2 ^ 32 + s.rd R.CLK.STATUS.REF_SEL * 2 ^ 35

/-- The pairs m whose counter 2m + 1 is chained. -/
def State.chainPairs (s : State) : List Nat := (List.range 512).filter (fun m => s.chained (2 * m + 1))

/-- A latch is skipped and counted (R307). -/
def State.dumpSkip (s : State) : State :=
  ({ s with dump := { s.dump with skips := s.dump.skips + 1 } }.count 5).bump R.PMC.DUMP.SKIPPED

/-- The line of SEQ_END of the record's slot, or the whole slot, is busy: the dumper waits for it (10 R263). -/
def State.dumpWaits (s : State) (whole : Bool) : Bool :=
  let base := dumpSlot (slotOfSeq s.dumpSeq)
  if whole then s.rangeBusy base 8192 else s.rangeBusy (base + 8184) 8

/-- The first write of a record, SEQ_END := 0, goes out unless it has to wait (R310). -/
def State.dumpOpen (s : State) : State :=
  if s.dumpWaits false then s
  else ({ s with dump := { s.dump with opened := true } } : State).dumpWrite (dumpSlot (slotOfSeq s.dumpSeq) + 8184) (leBytes 8 0)

/-- All counters, their sticky bits and chain settings are latched at one tick, and the first write of the record goes out (R307,
R310). -/
def State.dumpTake (s : State) : State :=
  let d : Dump := { s.dump with cnt := s.pmc.cnt, ovf := s.pmc.ovf, chain := s.chainPairs, tick := s.tick,
                                note := s.rd R.TIM.NOTE.NOTE, info := s.dumpInfo, busy := true, opened := false, skips := 0 }
  let s : State := { s with dump := d }
  (s.wr R.PMC.DUMP.BUSY 1).dumpOpen

/-- DUMP_LATCH (R307). -/
def State.dumpLatch (s : State) : State :=
  if ¬ s.on R.PMC.CTRL.DUMP_EN then s
  else if ¬ s.running ∨ s.dump.busy then s.dumpSkip
  else s.dumpTake

/-- DUMP_LATCH (R307). -/
def execDumpLatch (st : State) : Host.Outcome State Fault Refusal := live st st.dumpLatch

/-- Eight flags as one byte, the first in bit 0. -/
def flagByte (p : Nat → Bool) (i : Nat) : Byte :=
  BitVec.ofNat 8 ((List.range 8).foldl (fun v j => v + (p (8 * i + j)).toNat * 2 ^ j) 0)

/-- Bytes 8 to 8183 of a record (R309). -/
def Dump.body (d : Dump) : List Byte :=
  leBytes 8 d.tick ++ leBytes 8 d.note ++ leBytes 8 d.info ++ List.replicate 32 0 ++
    (List.range 128).map (flagByte (d.ovf.get false)) ++ (List.range 64).map (flagByte d.chain.contains) ++
    (List.range 1024).flatMap (fun n => leBytes 4 (d.cnt.get 0 n)) ++ List.replicate 3832 0

/-- The record's bytes, then SEQ, then SEQ_END, each accepted before the next; the record is then complete (R308, R310). -/
def State.dumpFinish (s : State) : State :=
  let s := if s.dump.opened then s else s.dumpOpen
  let q := s.dumpSeq
  let base := dumpSlot (slotOfSeq q)
  let s := s.dumpWrite (base + 8) s.dump.body
  let s := (s.dumpWrite base (leBytes 8 q)).dumpWrite (base + 8184) (leBytes 8 q)
  let s := ((s.wr R.PMC.DUMP.SEQ q).wr R.PMC.DUMP.SLOT (slotOfSeq (q + 1))).wr R.PMC.DUMP.BUSY 0
  let s : State := { s with dump := { s.dump with busy := false, seq := q } }
  (s.wr R.PMC.DUMP_TICK.TICK s.dump.tick).count 4

/-- DUMP_RECORD_DONE (R310, R311): a latch already taken completes its record even with DUMP_EN clear; with the stack in
retention nothing is written (17 R406), and a busy line of the record holds it (10 R263). -/
def execDumpRecordDone (st : State) : Host.Outcome State Fault Refusal :=
  live st (if st.dump.busy ∧ st.mode ≠ modeHold ∧ ¬ st.dumpWaits true then st.dumpFinish else st)

end Sys2Proof.Machine
end

