-- ==== Sys2Proof/Machine/Sram.lean ====
section
/-! DEFINITION. Uncorrectable words of the on-die memories (15 R369, 13 R335). -/

namespace Sys2Proof.Machine

/-- Sector k of line l is bad in the Lining: a clean one is not VALID any more, a dirty one goes to the stack as poison; a request that
has found it finds it UNCORRECTABLE (R363, R369). -/
def State.sramSector (s : State) (l k : Nat) : State :=
  match s.lineAt l with
  | none => s
  | some x =>
    if ¬ (x.sec k).valid then s else
    let dirty := (x.sec k).dirty
    let s := (s.putLine (x.setSec k { valid := false, dirty := false, data := zeroSector })).settleWays
    if ¬ dirty then s else
    let s := if x.bolt = 0 then s.poisonSys (4 * l + k) else s.poison x.bolt (4 * l + k)
    let spoil (h : HeldReq) : HeldReq := { h with got := h.got.map (fun g =>
      if g.1 = l then (l, g.2.map (fun e => if e.1 = k then (k, stUncorrectable, zeroSector) else e)) else g) }
    { s with lng := { s.lng with wbs := s.lng.wbs.filter (fun b => !(b.line == l && b.sector == k)) },
             qps := s.qps.mapVals (fun _ q => { q with held := q.held.map spoil }) }

/-- A request that QP q holds is spoilt where the test passes: it fails when the answers before it are given (R369, 05 R127). -/
def State.spoil (s : State) (q : Nat) (p : Nat → HeldReq → Bool) : State :=
  let x := s.qp q
  let hs := x.held.mapIdx (fun i h => if p i h && h.kind != .nak && h.kind != .rnr then { h with spoilt := true } else h)
  (s.setQp q { x with held := hs }).pump q

/-- The pool buffer of a request that QP q holds is bad (R369). -/
def State.sramRequest (s : State) (q i : Nat) : State := s.spoil q (fun j _ => j == i)

/-- The pool buffer of the oldest no-allocate write held for line l is bad: what it held is lost, and its sectors are poison (R363,
R369). -/
def State.sramHeld (s : State) (l : Nat) : State :=
  match s.lng.around.find? (fun a => a.line == l) with
  | none => s
  | some a => a.secs.foldl (fun s d => if a.bolt = 0 then s.poisonSys (4 * l + d.1) else s.poison a.bolt (4 * l + d.1))
      (s.setAround (s.lng.around.erase a))

/-- The pool buffer of a descriptor is bad: it ends UNCORRECTABLE, with what a WRITE_IN has written so far (R369, 07 R181). -/
def State.sramDesc (s : State) (r i : Nat) : State :=
  match (s.ring r).descs[i]? with
  | some d => if d.stage = .done then s else s.finish r d stUncorrectable d.bytesDone 0
  | none => s

/-- The pool buffer of a frame held on port p is bad: the frame is discarded (R369). -/
def State.sramFrame (s : State) (p i : Nat) : State :=
  if (s.port p).rx.length ≤ i then s else (s.consumeFrame p i).dropFrame p R.ETH.RX_DROP.FILTERED

/-- The pool buffer of a slot at channel c is bad: the requests that wait for a fill, and the descriptor of an engine's access, get
UNCORRECTABLE, and a write-back has failed (R369, 10 R264, R268). -/
def State.sramSlot (s : State) (c i : Nat) : State :=
  match (s.chan c).slots[i]? with
  | none => s
  | some k =>
    match k.use with
    | .fill l => { s with lng := { s.lng with bufErr := s.lng.bufErr ++ [l] } }
    | .back l => (List.range 4).foldl (fun s j => s.failWb l j) ((s.runBack l).getD s)
    | .work (some _) => s.failSlot k stUncorrectable
    | .work none => s
    | .around _ => s
    | .merged _ => s
    | .twin => s

/-- Mirror frame i, the open one after all that are not acknowledged, is lost from its pool buffer: what waits for its commit fails,
and its swatches are noted for the next resync (R369; log entry 125). -/
def State.sramMirror (s : State) (i : Nat) : State :=
  let t := s.tack
  let (seq, recs) := match t.unacked[i]? with
    | some f => (f.1, f.2.2)
    | none => (t.sendSeq, if i = t.unacked.length then t.openRecs.flatten else [])
  if recs.isEmpty then s else
  let lost := (recordsOf recs).filterMap recordSwatch
  let s : State := { s with tack := { t with
    unacked := t.unacked.map (fun f => if f.1 = seq then (f.1, f.2.1, []) else f),
    openRecs := if seq = t.sendSeq then [] else t.openRecs,
    resync := lost.foldl (fun (m : SMap Bool) k => m.put k true) t.resync,
    holds := t.holds.filter (fun h => h.1 != seq) } }
  let s := (t.holds.filter (fun h => h.1 == seq)).foldl (fun (s : State) h =>
    match h.2 with | .setup off _ _ _ path _ => s.respond path off stUncorrectable) s
  let late (d : Desc) : Desc := if d.commit = seq ∧ d.status = 0 then { d with status := stUncorrectable, commit := 0 } else d
  let s : State := { s with rings := s.rings.mapVals (fun _ r => { r with descs := r.descs.map late }) }
  s.qps.keys.foldl (fun (s : State) q => s.spoil q (fun _ h => h.commit == seq)) s

/-- A node in the counter cache is bad: a dirty one is lost, a clean one fetched and verified again at once, so that it stays above its
resident children (13 R324, R335). -/
def State.sramNode (s : State) (level idx : Nat) : State :=
  let key := level * 2 ^ 25 + idx
  if ¬ s.guard.cache.contains key then s
  else if s.guard.dirtyNodes.get false key then s.loseNode level idx
  else
    let s : State := { s with guard := { s.guard with cache := s.guard.cache.filter (· != key) } }
    match level with
    | 0 => (s.fetchLeaf idx).1
    | 1 => (s.fetchMid idx).1
    | _ => (s.fetchTop idx).1

/-- A copy of a key slot is bad: it is written anew from the other; where both are, the slot fails until power-good (R369). -/
def State.sramKey (s : State) (k : Nat) (copy : Option (Fin 2)) : State :=
  let put (m : SMap KeySlot) (x : Option KeySlot) : SMap KeySlot := match x with | some v => m.put k v | none => m.del k
  match copy with
  | some 0 => { s with guard := { s.guard with keys := put s.guard.keys (s.guard.keys2.find k) } }
  | some _ => { s with guard := { s.guard with keys2 := put s.guard.keys2 (s.guard.keys.find k) } }
  | none =>
    let t := s.putKey k none
    ({ t with guard := { t.guard with badKeys := if t.guard.badKeys.contains k then t.guard.badKeys else t.guard.badKeys ++ [k] } } : State).retagNodes (fun lv _ => lv == 2)

/-- A copy of a node of level 4 or of the root is bad: it is written anew from the other two, and the event raises a fault (13 R335). -/
def State.sramTop (s : State) (level idx : Nat) : State := (s.setNode level idx (s.node level idx)).raise Src.treeVoteRepaired

/-- An uncorrectable word (R369). -/
def State.sramBad (s : State) (w : SramWord) : State :=
  let s := match w with
    | .treeCopy _ _ _ => s
    | _ => (s.bump R.ECC.SRAM.UNCORR).raise Src.sramUc
  match w with
  | .lining l k => s.sramSector l.toNat k
  | .request q i => s.sramRequest q i
  | .heldWrite l => s.sramHeld l.toNat
  | .descriptor r i => s.sramDesc r i
  | .frame p i => s.sramFrame p i
  | .slot c i => s.sramSlot c i
  | .mirrorFrame i => s.sramMirror i
  | .counter lv i => s.sramNode lv i.toNat
  | .level3 i => if (s.swatchesUnder 3 i).isEmpty then s else s.loseNode 3 i
  | .treeCopy root i _ => s.sramTop (if root then 5 else 4) (if root then 0 else i)
  | .mapLine k => { s with mem := { s.mem with mapCache := s.mem.mapCache.filter (· != k.toNat) } }
  | .key k c => s.sramKey k c
  | .qpContext q => s.setQp q { s.qp q with broken := true }

/-- SRAM_WALK (R369). -/
def execSramWalk (corrected : SramReport) (st : State) : Host.Outcome State Fault Refusal :=
  live st (corrected.bad.foldl State.sramBad (st.bump R.ECC.SRAM.CORRECTED 0 corrected.corrected))

/-- THIMBLE_FETCH_UC (R369): a trap of the Thimble beside the reaction to the fault; its handler loads the page again from the
firmware image in metadata, but nothing for mask ROM. -/
def execThimbleFetchUc (kind : ThimbleMem) (st : State) : Host.Outcome State Fault Refusal :=
  let s := (st.bump R.ECC.SRAM.UNCORR).bump R.ECC.SRAM.THIMBLE_TRAPS
  let sram := if kind = .firmware ∧ s.fw.inMeta then s.fw.load else s.thimble.sram
  live st ((({ s with thimble := { s.thimble with traps := s.thimble.traps + 1, sram := sram } } : State)).raise Src.thimbleFetchUc)

end Sys2Proof.Machine
end

