-- ==== Sys2Proof/Machine/Dispatch.lean ====
section
/-! DEFINITION. One arm for each command. -/

namespace Sys2Proof.Machine

/-- The effect of a command on everything but the queue. -/
def exec (i : Instr) (st : State) : Host.Outcome State Fault Refusal :=
  match i with
  | .powerGood straps rstN => Sys2Proof.Machine.execPowerGood straps rstN st
  | .powerLoss => Sys2Proof.Machine.execPowerLoss st
  | .rstNLow => Sys2Proof.Machine.execRstNLow st
  | .rstNRelease => Sys2Proof.Machine.execRstNRelease st
  | .strapSample straps => Sys2Proof.Machine.execStrapSample straps st
  | .chatterRelease inp => Sys2Proof.Machine.execChatterRelease inp st
  | .bootStepDone r => Sys2Proof.Machine.execBootStepDone r st
  | .bootRefclkTimeout => Sys2Proof.Machine.execBootRefclkTimeout st
  | .s32GenerationFormed => Sys2Proof.Machine.execS32GenerationFormed st
  | .refWindowEnd w => Sys2Proof.Machine.execRefWindowEnd w st
  | .pllHoldover pll => Sys2Proof.Machine.execPllHoldover pll st
  | .refMuxForcedSwitch => Sys2Proof.Machine.execRefMuxForcedSwitch st
  | .refMuxSwitchDone => Sys2Proof.Machine.execRefMuxSwitchDone st
  | .clkBackupLost => Sys2Proof.Machine.execClkBackupLost st
  | .returnNow path => Sys2Proof.Machine.execReturnNow path st
  | .portBringupStart p => Sys2Proof.Machine.execPortBringupStart p st
  | .linkUp p => Sys2Proof.Machine.execLinkUp p st
  | .bringupAbandon p => Sys2Proof.Machine.execBringupAbandon p st
  | .bringupRetry p => Sys2Proof.Machine.execBringupRetry p st
  | .linkDown p cause => Sys2Proof.Machine.execLinkDown p cause st
  | .adminUpWrite p v path => Sys2Proof.Machine.execAdminUpWrite p v path st
  | .restoreFull p v path => Sys2Proof.Machine.execRestoreFull p v path st
  | .losAssert lane => Sys2Proof.Machine.execLosAssert lane st
  | .losDeassert lane => Sys2Proof.Machine.execLosDeassert lane st
  | .lolAssert lane => Sys2Proof.Machine.execLolAssert lane st
  | .lolDeassert lane => Sys2Proof.Machine.execLolDeassert lane st
  | .laneDeclaredFailed lane => Sys2Proof.Machine.execLaneDeclaredFailed lane st
  | .frameReceived p f => Sys2Proof.Machine.execFrameReceived p f st
  | .pfcFrameReceived p vec quanta => Sys2Proof.Machine.execPfcFrameReceived p vec quanta st
  | .pauseExpiry p prio => Sys2Proof.Machine.execPauseExpiry p prio st
  | .pfcXoff p prio => Sys2Proof.Machine.execPfcXoff p prio st
  | .pfcRepeat p prio => Sys2Proof.Machine.execPfcRepeat p prio st
  | .pfcXon p prio => Sys2Proof.Machine.execPfcXon p prio st
  | .wakeFrame p f => Sys2Proof.Machine.execWakeFrame p f st
  | .bitslip lane path => Sys2Proof.Machine.execBitslip lane path st
  | .prbsCheckerLock lane => Sys2Proof.Machine.execPrbsCheckerLock lane st
  | .sendOnly pkt => Sys2Proof.Machine.execSendOnly pkt st
  | .rdmaWrite pkt => Sys2Proof.Machine.execRdmaWrite pkt st
  | .rdmaReadRequest pkt => Sys2Proof.Machine.execRdmaReadRequest pkt st
  | .atomicCompareSwap pkt => Sys2Proof.Machine.execAtomicCompareSwap pkt st
  | .atomicFetchAdd pkt => Sys2Proof.Machine.execAtomicFetchAdd pkt st
  | .ackDelayExpiry qp => Sys2Proof.Machine.execAckDelayExpiry qp st
  | .readResponseReceived pkt => Sys2Proof.Machine.execReadResponseReceived pkt st
  | .ackReceived pkt => Sys2Proof.Machine.execAckReceived pkt st
  | .nakReceived pkt => Sys2Proof.Machine.execNakReceived pkt st
  | .rnrNakReceived pkt => Sys2Proof.Machine.execRnrNakReceived pkt st
  | .rnrWaitExpiry qp => Sys2Proof.Machine.execRnrWaitExpiry qp st
  | .ackTimeout qp => Sys2Proof.Machine.execAckTimeout qp st
  | .cnpReceived pkt => Sys2Proof.Machine.execCnpReceived pkt st
  | .rateStep qp => Sys2Proof.Machine.execRateStep qp st
  | .qpStateWrite v path => Sys2Proof.Machine.execQpStateWrite v path st
  | .qpBind v path => Sys2Proof.Machine.execQpBind v path st
  | .qpUnbind v path => Sys2Proof.Machine.execQpUnbind v path st
  | .boltCreate v path => Sys2Proof.Machine.execBoltCreate v path st
  | .boltCreateDone bolt => Sys2Proof.Machine.execBoltCreateDone bolt st
  | .boltDelete v path => Sys2Proof.Machine.execBoltDelete v path st
  | .boltDeleteDone bolt => Sys2Proof.Machine.execBoltDeleteDone bolt st
  | .grantIssue v path => Sys2Proof.Machine.execGrantIssue v path st
  | .grantRevoke v path => Sys2Proof.Machine.execGrantRevoke v path st
  | .smbSetAddr w => Sys2Proof.Machine.execSmbSetAddr w st
  | .smbDataWrite w => Sys2Proof.Machine.execSmbDataWrite w st
  | .smbDataRead => Sys2Proof.Machine.execSmbDataRead st
  | .smbRespRead => Sys2Proof.Machine.execSmbRespRead st
  | .smbTimeout => Sys2Proof.Machine.execSmbTimeout st
  | .smbAlertResponse => Sys2Proof.Machine.execSmbAlertResponse st
  | .setupWrite off v path => Sys2Proof.Machine.execSetupWrite off v path st
  | .rcRead off path => Sys2Proof.Machine.execRcRead off path st
  | .doorbell client form v => Sys2Proof.Machine.execDoorbell client form v st
  | .ringEnable v path => Sys2Proof.Machine.execRingEnable v path st
  | .ringReset v path => Sys2Proof.Machine.execRingReset v path st
  | .ringDrained ring => Sys2Proof.Machine.execRingDrained ring st
  | .ringHalt v path => Sys2Proof.Machine.execRingHalt v path st
  | .eqEnable v path => Sys2Proof.Machine.execEqEnable v path st
  | .descriptorFetch ring => Sys2Proof.Machine.execDescriptorFetch ring st
  | .descriptorsFetched ring => Sys2Proof.Machine.execDescriptorsFetched ring st
  | .descriptorStart ring => Sys2Proof.Machine.execDescriptorStart ring st
  | .descriptorComplete ring => Sys2Proof.Machine.execDescriptorComplete ring st
  | .copy ring noise => Sys2Proof.Machine.execCopy ring noise st
  | .fill ring noise => Sys2Proof.Machine.execFill ring noise st
  | .readOut ring noise => Sys2Proof.Machine.execReadOut ring noise st
  | .writeIn ring noise => Sys2Proof.Machine.execWriteIn ring noise st
  | .fence ring => Sys2Proof.Machine.execFence ring st
  | .nop ring => Sys2Proof.Machine.execNop ring st
  | .hint ring => Sys2Proof.Machine.execHint ring st
  | .flush ring => Sys2Proof.Machine.execFlush ring st
  | .reduce ring noise => Sys2Proof.Machine.execReduce ring noise st
  | .select ring noise => Sys2Proof.Machine.execSelect ring noise st
  | .gather ring noise => Sys2Proof.Machine.execGather ring noise st
  | .scatter ring noise => Sys2Proof.Machine.execScatter ring noise st
  | .matchOp ring noise => Sys2Proof.Machine.execMatchOp ring noise st
  | .histogram ring noise => Sys2Proof.Machine.execHistogram ring noise st
  | .atomicBatch ring noise => Sys2Proof.Machine.execAtomicBatch ring noise st
  | .fillComplete line noise => Sys2Proof.Machine.execFillComplete line noise st
  | .writeBackAccepted line sector => Sys2Proof.Machine.execWriteBackAccepted line sector st
  | .writeBackRetry line sector commandError => Sys2Proof.Machine.execWriteBackRetry line sector commandError st
  | .cleanerStart => Sys2Proof.Machine.execCleanerStart st
  | .cleanAll v path => Sys2Proof.Machine.execCleanAll v path st
  | .bobbinBufferFreed => Sys2Proof.Machine.execBobbinBufferFreed st
  | .slotIssue c => Sys2Proof.Machine.execSlotIssue c st
  | .rowIdlePrecharge c bank => Sys2Proof.Machine.execRowIdlePrecharge c bank st
  | .refDue c pc ply blocked => Sys2Proof.Machine.execRefDue c pc ply blocked st
  | .rhWindowBoundary => Sys2Proof.Machine.execRhWindowBoundary st
  | .caParityError c pc r => Sys2Proof.Machine.execCaParityError c pc r st
  | .errlogPop c path => Sys2Proof.Machine.execErrlogPop c path st
  | .bucketLeak => Sys2Proof.Machine.execBucketLeak st
  | .scrubReadDone c noise => Sys2Proof.Machine.execScrubReadDone c noise st
  | .scrubLapWarn => Sys2Proof.Machine.execScrubLapWarn st
  | .sramWalk corrected => Sys2Proof.Machine.execSramWalk corrected st
  | .thimbleFetchUc kind => Sys2Proof.Machine.execThimbleFetchUc kind st
  | .epochStart => Sys2Proof.Machine.execEpochStart st
  | .moveCopyDone swatch => Sys2Proof.Machine.execMoveCopyDone swatch st
  | .oldFrameFree swatch => Sys2Proof.Machine.execOldFrameFree swatch st
  | .restitchGo v path => Sys2Proof.Machine.execRestitchGo v path st
  | .restitchEnd => Sys2Proof.Machine.execRestitchEnd st
  | .metadataRebuilt => Sys2Proof.Machine.execMetadataRebuilt st
  | .windowBoundary => Sys2Proof.Machine.execWindowBoundary st
  | .demotedSlotAged c master => Sys2Proof.Machine.execDemotedSlotAged c master st
  | .guaranteeWrite v path => Sys2Proof.Machine.execGuaranteeWrite v path st
  | .creditPeriod => Sys2Proof.Machine.execCreditPeriod st
  | .dumpLatch => Sys2Proof.Machine.execDumpLatch st
  | .dumpRecordDone => Sys2Proof.Machine.execDumpRecordDone st
  | .keyLoad v path => Sys2Proof.Machine.execKeyLoad v path st
  | .keyClear v path => Sys2Proof.Machine.execKeyClear v path st
  | .keyLimitWrite v path => Sys2Proof.Machine.execKeyLimitWrite v path st
  | .rekeyGo v path => Sys2Proof.Machine.execRekeyGo v path st
  | .rekeyConversionDone => Sys2Proof.Machine.execRekeyConversionDone st
  | .scanEnter readback => Sys2Proof.Machine.execScanEnter readback st
  | .waveStart => Sys2Proof.Machine.execWaveStart st
  | .waveEnd => Sys2Proof.Machine.execWaveEnd st
  | .housekeepingRound r => Sys2Proof.Machine.execHousekeepingRound r st
  | .sweepStart c => Sys2Proof.Machine.execSweepStart c st
  | .calDeferTimeout c => Sys2Proof.Machine.execCalDeferTimeout c st
  | .laneRotationPoint c pc => Sys2Proof.Machine.execLaneRotationPoint c pc st
  | .sweepComplete c r => Sys2Proof.Machine.execSweepComplete c r st
  | .calCmd v path => Sys2Proof.Machine.execCalCmd v path st
  | .tackBringupStart => Sys2Proof.Machine.execTackBringupStart st
  | .tackBringupTimeout => Sys2Proof.Machine.execTackBringupTimeout st
  | .alignStart v => Sys2Proof.Machine.execAlignStart v st
  | .alignCountDone lane matched => Sys2Proof.Machine.execAlignCountDone lane matched st
  | .tackLinkUp => Sys2Proof.Machine.execTackLinkUp st
  | .tackLinkDown => Sys2Proof.Machine.execTackLinkDown st
  | .tackFrameReceived f clean => Sys2Proof.Machine.execTackFrameReceived f clean st
  | .stitchAck seq => Sys2Proof.Machine.execStitchAck seq st
  | .stitchResend seq => Sys2Proof.Machine.execStitchResend seq st
  | .stitchHeartbeat h => Sys2Proof.Machine.execStitchHeartbeat h st
  | .stitchIdent d => Sys2Proof.Machine.execStitchIdent d st
  | .stitchHandover epoch => Sys2Proof.Machine.execStitchHandover epoch st
  | .stitchMarker waits => Sys2Proof.Machine.execStitchMarker waits st
  | .markerSend => Sys2Proof.Machine.execMarkerSend st
  | .heartbeatSend => Sys2Proof.Machine.execHeartbeatSend st
  | .frameClose => Sys2Proof.Machine.execFrameClose st
  | .resendTimeout => Sys2Proof.Machine.execResendTimeout st
  | .pair v path => Sys2Proof.Machine.execPair v path st
  | .join v path => Sys2Proof.Machine.execJoin v path st
  | .unpair v path => Sys2Proof.Machine.execUnpair v path st
  | .handover v path => Sys2Proof.Machine.execHandover v path st
  | .takeover v path => Sys2Proof.Machine.execTakeover v path st
  | .claim v path => Sys2Proof.Machine.execClaim v path st
  | .pkeyLoad v path => Sys2Proof.Machine.execPkeyLoad v path st
  | .syncComplete => Sys2Proof.Machine.execSyncComplete st
  | .breakTimeout => Sys2Proof.Machine.execBreakTimeout st
  | .decideTimeout => Sys2Proof.Machine.execDecideTimeout st
  | .peerAliveEdge => Sys2Proof.Machine.execPeerAliveEdge st
  | .peerAliveStopped => Sys2Proof.Machine.execPeerAliveStopped st
  | .heartbeatLost => Sys2Proof.Machine.execHeartbeatLost st
  | .addressClaimRepeat => Sys2Proof.Machine.execAddressClaimRepeat st
  | .pairFenced => Sys2Proof.Machine.execPairFenced st
  | .faultInject v path => Sys2Proof.Machine.execFaultInject v path st
  | .kick v => Sys2Proof.Machine.execKick v st
  | .watchdogExpiry => Sys2Proof.Machine.execWatchdogExpiry st
  | .thimbleResetDone => Sys2Proof.Machine.execThimbleResetDone st
  | .aliveToggle => Sys2Proof.Machine.execAliveToggle st
  | .modeReqServe v path => Sys2Proof.Machine.execModeReqServe v path st
  | .modeReqEase v path => Sys2Proof.Machine.execModeReqEase v path st
  | .modeReqHold v path => Sys2Proof.Machine.execModeReqHold v path st
  | .modeReqMaintenance v path => Sys2Proof.Machine.execModeReqMaintenance v path st
  | .modeReqReset v path => Sys2Proof.Machine.execModeReqReset v path st
  | .serviceDrained => Sys2Proof.Machine.execServiceDrained st
  | .modeEntered => Sys2Proof.Machine.execModeEntered st
  | .bistStart v path => Sys2Proof.Machine.execBistStart v path st
  | .bistWaveDone fails => Sys2Proof.Machine.execBistWaveDone fails st
  | .bistPop v path => Sys2Proof.Machine.execBistPop v path st
  | .otpProg supplyOk v path => Sys2Proof.Machine.execOtpProg supplyOk v path st
  | .otpProvision supplyOk v path => Sys2Proof.Machine.execOtpProvision supplyOk v path st
  | .otpExportKek supplyOk v path => Sys2Proof.Machine.execOtpExportKek supplyOk v path st
  | .otpDeploy supplyOk v path => Sys2Proof.Machine.execOtpDeploy supplyOk v path st
  | .otpReturn supplyOk v path => Sys2Proof.Machine.execOtpReturn supplyOk v path st
  | .otpLock supplyOk v path => Sys2Proof.Machine.execOtpLock supplyOk v path st
  | .otpRaiseSvn supplyOk v path => Sys2Proof.Machine.execOtpRaiseSvn supplyOk v path st
  | .otpWordProgrammed verified supplyOk => Sys2Proof.Machine.execOtpWordProgrammed verified supplyOk st
  | .fwBegin v path => Sys2Proof.Machine.execFwBegin v path st
  | .fwData v path => Sys2Proof.Machine.execFwData v path st
  | .fwVerify v path => Sys2Proof.Machine.execFwVerify v path st
  | .fwActivate v path => Sys2Proof.Machine.execFwActivate v path st
  | .noteWrite v path => Sys2Proof.Machine.execNoteWrite v path st
  | .narrowWindowEnd c => Sys2Proof.Machine.execNarrowWindowEnd c st
  | .watchdogHoldTimeout => Sys2Proof.Machine.execWatchdogHoldTimeout st
  | .entropyHealthTest pass => Sys2Proof.Machine.execEntropyHealthTest pass st
  | .trainStitchReceived t => Sys2Proof.Machine.execTrainStitchReceived t st
  | .jtagDebugAccess a => Sys2Proof.Machine.execJtagDebugAccess a st
  | .trstNEdge => Sys2Proof.Machine.execTrstNEdge st

end Sys2Proof.Machine
end

