-- ==== Sys2Proof/Safety.lean ====
section
/-! DEFINITION. What holds of every state between commands: nothing that a raise owes is left over, and a module without
power holds nothing but its persistent words (19 R443, R445, 17 R408). -/

namespace Sys2Proof.Machine

/-- Every reaction that a raise asks for has been carried out (19 R443, R445). -/
def State.settled (s : State) : Prop := s.due = {}

/-- What is left of the module without power: the OTP, the Pattern store, the pseudo-channels that are torn for good, and what it has
put out (17 R408, 20 R465, R471, 02 R59). -/
def State.unpowered (s : State) : State :=
  { State.reset with
    pending := s.pending, powered := false, freeCtr := s.freeCtr, out := s.out,
    per := { otp := s.per.otp, pat := s.per.pat, patCount := s.per.patCount, gone := s.per.gone } }

/-- A module without power has lost every volatile thing (17 R408). -/
def State.dark (s : State) : Prop := s.powered = false → s = s.unpowered

/-- What every step keeps. -/
def State.Inv (s : State) : Prop := s.settled ∧ s.dark

/-- A command answers a next state: the module has no fault and no refusal of its own. -/
def answers (o : Host.Outcome State Fault Refusal) : Prop := ∃ t, o = .next t

/-- A field of another block than the fault collector's, whose registers lie at 0x25000 to 0x25FFF (21 R474). -/
def Fld.notFault (f : Fld) : Bool := f.addr % 2 ^ 20 / 4096 != 0x25

/-- The rule that every setting of ETHn.PFC keeps (04 R104). -/
def pfcRule (s : State) : Prop :=
  (∀ p : Fin 2, s.rd R.ETH.PFC.XON p < s.rd R.ETH.PFC.XOFF p ∧ s.rd R.ETH.PFC.XOFF p ≤ s.rd R.ETH.PFC.RX_LIMIT p) ∧
    s.rd R.ETH.PFC.RX_LIMIT 0 + s.rd R.ETH.PFC.RX_LIMIT 1 ≤ 4096

/-- The rule that every setting of LNG.CFG keeps (10 R282). -/
def liningRule (s : State) : Prop :=
  s.rd R.LNG.CFG.STICKY_MIB ≤ 16 ∧ s.rd R.LNG.CFG.DIRTY_LOW < s.rd R.LNG.CFG.DIRTY_HIGH

/-- Command c has the effect u in s: the answer is the next state that u becomes once the reactions its raises owe are done
(19 R443, R445). Where u owes nothing that is u itself, with the queue as it stood. -/
def effect (c : Instr) (s u : State) : Prop := exec c s = .next (u.ends s)

/-- Commands that store nothing in the stack: timers, pins, and reports of links, counters and the steward's. -/
def storesNothing : Instr → Bool
  | .strapSample _ | .bootRefclkTimeout | .pllHoldover _ | .clkBackupLost | .bringupAbandon _ | .linkDown _ _ |
    .losDeassert _ | .lolAssert _ | .lolDeassert _ | .pauseExpiry _ _ | .pfcXoff _ _ | .pfcRepeat _ _ | .pfcXon _ _ |
    .prbsCheckerLock _ | .ackDelayExpiry _ | .rnrWaitExpiry _ | .rateStep _ | .boltCreateDone _ | .smbTimeout |
    .smbAlertResponse | .bucketLeak | .scrubLapWarn | .sramWalk ⟨_, []⟩ | .thimbleFetchUc _ | .tackBringupTimeout |
    .alignStart _ | .stitchHeartbeat _ | .markerSend | .heartbeatSend | .syncComplete | .addressClaimRepeat |
    .pairFenced | .kick _ | .watchdogExpiry | .thimbleResetDone | .aliveToggle | .watchdogHoldTimeout |
    .otpWordProgrammed _ _ | .entropyHealthTest _ | .trainStitchReceived _ | .trstNEdge => true
  | _ => false

/-- The state after a command; the same state where there is no answer. -/
def State.after (s : State) (c : Instr) : State := match exec c s with | .next t => t | _ => s

/-- The state after n steps; none where one of them stops. -/
def State.stepsOn : Nat → State → Option State
  | 0, s => some s
  | n + 1, s => match step s with | .next t => State.stepsOn n t | _ => none

end Sys2Proof.Machine
end

