-- ==== Sys2Proof/Certificates/Slice0/Obligations.lean ====
section
/-! DEFINITION. The statements about the module that are to be proved. -/

open Sys2Proof Sys2Proof.Machine

/-- A step with a command in front runs exactly that command on the state with the rest of the queue. -/
def Obligations.StepRunsFrontCommand : Prop :=
  ∀ (c : Instr) (rest : List Instr) (s : State),
    step { s with pending := c :: rest } = exec c { s with pending := rest }

/-- On an empty queue one tick passes (DESIGN CHOICE, log entry 2): the step is the tick, and the time base has advanced
by one before anything else (R11). -/
def Obligations.EmptyQueueIsOneTick : Prop :=
  ∀ s : State, s.pending = [] →
    (s.awake = true → step s = .next (s.idle.ends s)) ∧ (s.awake = false → step s = .next s) ∧
    s.tickOn.tick = s.tick + 1

/-- No input takes the module outside its stated behaviour: every step answers a next state, never a fault or a refusal,
and takes exactly the command it ran from the queue (R4). -/
def Obligations.EveryStepAnswers : Prop :=
  ∀ s : State, ∃ t, step s = .next t ∧ t.pending = s.pending.tail

/-- Commands run first in, first out: a queue that starts with cs is at the commands after cs when as many steps have
run. -/
def Obligations.QueueRunsInOrder : Prop :=
  ∀ (cs rest : List Instr) (s : State), s.pending = cs ++ rest →
    ∃ t, s.stepsOn cs.length = some t ∧ t.pending = rest

/-- A module without power reacts to nothing but power-good (R408), and one whose two clocks have stopped to nothing but a loss of
power (R80; that every input waits with the islands is the model's reading, log entry 87). -/
def Obligations.UnpoweredModuleIsInert : Prop :=
  ∀ (c : Instr) (s : State),
    (s.powered = false → (∀ x r, c ≠ .powerGood x r) → exec c s = .next s) ∧
    (s.powered = true → s.clocks.stopped = true → c ≠ .powerLoss → exec c s = .next s)

/-- Every step keeps the invariant: nothing a raise asked for is left undone between commands (R443, R445), and a module
without power holds nothing but its queue, its outputs and its persistent words (R408, R465, R471). -/
def Obligations.EveryStepKeepsInvariant : Prop :=
  ∀ s t : State, s.Inv → step s = .next t → t.Inv

/-- The invariant holds right after reset. -/
def Obligations.InvariantAtReset : Prop := State.reset.Inv

/-- What an effect becomes: where its raises owe nothing it is the answer itself, and where one asks for a module reset
the answer is in Boot at step 1, whatever else was owed (R445, R447). -/
def Obligations.EndOfACommand : Prop :=
  ∀ s u : State,
    (u.due = {} → u.ends s = { u with pending := s.pending, powered := true }) ∧
    (∀ i, u.due.reset = some i → u.ends s = { (u.settleReset s.out.length i) with due := {}, pending := s.pending, powered := true }) ∧
    ((u.ends s).due = {} ∧ (u.ends s).pending = s.pending ∧ (u.ends s).powered = true)

/-- What every raise records (R443 steps 1 to 4, R445): the sticky bit, the count, FLT.LAST, the pin hold where PIN is
set; and no register outside the fault collector changes. -/
def Obligations.RaiseRecordsTheFault : Prop :=
  ∀ (s : State) (i : Nat) (u : Block) (inj : Bool), i < 128 →
    (s.raise i u inj).sticky i = true ∧
    (s.raise i u inj).rd R.FLT.SRC.COUNT i = min (s.rd R.FLT.SRC.COUNT i + 1) R.FLT.SRC.COUNT.max ∧
    (s.raise i u inj).on R.FLT.LAST.VALID = true ∧
    (s.raise i u inj).rd R.FLT.LAST_TICK.TICK = s.tick % 2 ^ 64 ∧
    (s.on R.FLT.SRC.PIN i = true → (s.raise i u inj).pinHold i = true) ∧
    (∀ (g : Fld) (e : Nat), g.notFault = true → (s.raise i u inj).rd g e = s.rd g e) ∧
    (s.raise i u inj).mem = s.mem ∧ (s.raise i u inj).out = s.out ∧ (s.raise i u inj).tick = s.tick

/-- What the reaction of a raise owes (R443, R445): 1 an interrupt and 2 a trap only while the sticky bit was clear, 3 an
interrupt and a block reset at each raise, 4 a module reset outside Boot and Maintenance, 0 nothing. -/
def Obligations.ReactionsOfARaise : Prop :=
  ∀ (s : State) (i : Nat) (u : Block) (fresh : Bool),
    (s.rd R.FLT.SRC.REACTION i = 0 → s.react i fresh u = s.due) ∧
    (s.rd R.FLT.SRC.REACTION i = 1 → (s.react i true u).ints = s.due.ints + 1 ∧ s.react i false u = s.due) ∧
    (s.rd R.FLT.SRC.REACTION i = 2 → (s.react i true u).traps = s.due.traps + 1 ∧ s.react i false u = s.due) ∧
    (s.rd R.FLT.SRC.REACTION i = 3 → (s.react i fresh u).ints = s.due.ints + 1 ∧
      (s.react i fresh u).blocks = s.due.blocks ++ [faultBlock i u]) ∧
    (s.rd R.FLT.SRC.REACTION i = 4 → s.mode ≠ modeBoot → s.mode ≠ modeMaint → s.due.reset = none →
      (s.react i fresh u).reset = some i) ∧
    (s.rd R.FLT.SRC.REACTION i = 4 → s.mode = modeBoot ∨ s.mode = modeMaint →
      (s.react i true u).traps = s.due.traps + 1 ∧ (s.react i true u).reset = s.due.reset) ∧
    (s.rd R.FLT.SRC.CLIENT i = 1 → s.rd R.FLT.SRC.REACTION i = 3 → (s.react i fresh u).events = s.due.events ++ [i])

/-- Power lost and power good (R408, R457, R465, R471): the persistent words stay, everything volatile is at its reset
value, and Boot starts at step 1 with the time base at zero. -/
def Obligations.PowerLossAndPowerGood : Prop :=
  ∀ (s : State) (x : Straps) (r : Bool),
    (s.powered = true → ∃ t, exec .powerLoss s = .next t ∧ t.powered = false ∧ t = t.unpowered ∧
      t.per.pat = s.per.pat ∧ t.per.patCount = s.per.patCount ∧ t.pending = s.pending ∧
      (s.per.job = none → t.per.otp = s.per.otp)) ∧
    (s.powered = false →
      effect (.powerGood x r) s (s.powerUp x r) ∧ (s.powerUp x r).tick = 0 ∧ (s.powerUp x r).mode = modeBoot ∧
      (s.powerUp x r).rd R.MOD.STATUS.BOOT_STEP = 1 ∧ (s.powerUp x r).pins.samples = [x] ∧
      (s.powerUp x r).per.otp = s.per.otp ∧ (s.powerUp x r).per.pat = s.per.pat ∧
      (s.powerUp x r).boot.resetHeld = !r ∧ (s.powerUp x r).mem = {})

/-- The low-speed pins (R483-R485): strap samples and their majority, edges seen by logic, chattering, and the reset input. -/
def Obligations.PinCommands : Prop :=
  ∀ s : State, s.awake = true →
    (∀ x, s.pins.samples.length < 6 →
      effect (.strapSample x) s { s with pins := { s.pins with samples := s.pins.samples ++ [x] } }) ∧
    (∀ x, s.pins.samples.length = 6 → ∃ u : State, effect (.strapSample x) s u ∧
      u.rd R.MOD.STATUS.SLOT_ID = (strapsOf (s.pins.samples ++ [x])).slotId.toNat ∧
      u.on R.MOD.STATUS.MAINT_STRAP = !(strapsOf (s.pins.samples ++ [x])).maintN) ∧
    (s.pins.rstN.chattering = true → ∃ u : State, effect (.chatterRelease .rstN) s u ∧
      u.pins.rstN.chattering = false ∧ u.pins.rstN.edges = []) ∧
    (s.pins.peerAlive.chattering = true → ∃ u : State, effect (.chatterRelease .peerAlive) s u ∧
      u.pins.peerAlive.chattering = false ∧ u.pins.peerAlive.seen = s.pins.peerAlive.level) ∧
    (s.pins.trstN.chattering = true →
      effect (.chatterRelease .trstN) s { s with pins := { s.pins with trstN := s.pins.trstN.release } }) ∧
    (s.pins.rstN.level = true → s.pins.rstN.seen = true → (s.pins.rstN.edge s.tick).2 = false →
      s.pins.rstN.chattering = false → ∃ u : State, effect .rstNLow s u ∧
      u.boot.resetHeld = true ∧ u.mode = modeBoot ∧ u.tick = s.tick ∧ u.mem.cells = s.mem.cells ∧ u.per.pat = s.per.pat) ∧
    (s.pins.rstN.level = false → s.pins.rstN.seen = false → (s.pins.rstN.edge s.tick).2 = false →
      s.pins.rstN.chattering = false → ∃ u : State, effect .rstNRelease s u ∧ u.boot.resetHeld = false ∧ u.pins.rstN.seen = true) ∧
    effect .trstNEdge s (State.chatter { s with pins := { s.pins with trstN := (s.pins.trstN.edge s.tick).1 } }
      (s.pins.trstN.edge s.tick).2) ∧
    effect .peerAliveEdge s
      ((s.setPeer (s.pins.peerAlive.edge s.tick).1).chatter (s.pins.peerAlive.edge s.tick).2).judge ∧
    (∀ (c : Chat) (t : Nat), (c.edge t).1.level = !c.level ∧ (c.chattering = true → (c.edge t).1.seen = c.seen) ∧
      ((c.edge t).2 = true → 16 < (c.edge t).1.edges.length ∧ (c.edge t).1.seen = c.seen))

/-- Boot (R457-R460, R72, R453): its steps in order, its waits, its failures and its end, and BIST's waves. -/
def Obligations.BootCommands : Prop :=
  ∀ (s : State) (r : BootReport), s.awake = true →
    (s.booting = true → s.boot.resetHeld = false →
      effect (.bootStepDone r) s (s.bootStep (s.rd R.MOD.STATUS.BOOT_STEP) r)) ∧
    (s.bootStep 1 r).rd R.MOD.STATUS.BOOT_STEP = 2 ∧
    (s.on R.CLK.STATUS.REF_OK = true ∨ s.on R.CLK.STATUS.REF_SEL = true → s.rd R.CLK.STATUS.PLL_LOCK = 255 →
      (s.bootStep 2 r).rd R.MOD.STATUS.BOOT_STEP = 3) ∧
    (s.on R.CLK.STATUS.REF_OK = false → s.on R.CLK.STATUS.REF_SEL = false → s.bootStep 2 r = s) ∧
    (s.rd R.CLK.STATUS.PLL_LOCK ≠ 255 → s.bootStep 2 r = s) ∧
    (r.romOk = true → (s.bootStep 3 r).rd R.MOD.STATUS.BOOT_STEP = 4) ∧
    (r.romOk = false → (s.bootStep 3 r).rd R.MOD.STATUS.BOOT_FAIL = 1 ∧ (s.bootStep 3 r).rd R.MOD.STATUS.BOOT_STEP = 8) ∧
    (r.railsOk = true → (s.bootStep 4 r).rd R.MOD.STATUS.BOOT_STEP = 5) ∧
    (r.railsOk = false → (s.bootStep 4 r).rd R.MOD.STATUS.BOOT_FAIL = 2 ∧ (s.bootStep 4 r).rd R.MOD.STATUS.BOOT_STEP = 8) ∧
    (s.bist.waves ≠ [] → s.bootStep 6 r = s) ∧
    (s.bist.waves = [] → s.allTorn = false → (s.bootStep 6 r).rd R.MOD.STATUS.BOOT_STEP = 7) ∧
    (s.bist.waves = [] → s.allTorn = true → (s.bootStep 6 r).rd R.MOD.STATUS.BOOT_FAIL = 3) ∧
    ((s.bootStep 7 r).rd R.MOD.STATUS.BOOT_STEP = 8 ∧ (s.bootStep 7 r).mem.map = {} ∧
      (s.bootStep 7 r).mem.sysBolt = {} ∧ (s.bootStep 7 r).rd R.BLT.BOLT_ATTR.STATE 0 = 2 ∧
      (s.bootStep 7 r).fw.inMeta = true ∧ (s.bootStep 7 r).thimble.sram = .rom) ∧
    (s.booting = true → s.on R.CLK.STATUS.REF_OK = false → s.on R.CLK.STATUS.REF_SEL = false →
      ∃ u : State, effect .bootRefclkTimeout s u ∧ u.rd R.CLK.STATUS.REF_SEL = 1 ∧ u.sticky Src.clkRefLost = true ∧
        u.rd R.MOD.STATUS.BOOT_STEP = s.rd R.MOD.STATUS.BOOT_STEP)

/-- BIST as commands (R458-R460). -/
def Obligations.BistCommands : Prop :=
  ∀ (s : State) (v : BitVec 64) (path : Path), s.awake = true →
    (∀ fails w rest, s.bist.waves = w :: rest → s.booting = true ∨ s.mode = modeMaint → s.waveReady w = true →
      s.on R.PRT.MRIGHTS.READ 70 = true → s.on R.PRT.MRIGHTS.WRITE 70 = true →
      effect (.bistWaveDone fails) s (s.bistWave fails) ∧
      (rest = [] → (s.bistWave fails).rd R.BST.STATUS.STATE = 2) ∧ (s.bistWave fails).bist.waves = rest) ∧
    (s.pathOk path = true → s.mode = modeMaint → s.bist.waves = [] → part v.toNat R.BST.CTRL.START = 1 →
      ∃ u : State, effect (.bistStart v path) s (u.respond path 0x38000 0) ∧ u.bist.waves = List.range 8 ∧
        u.rd R.BST.STATUS.STATE = 1 ∧ u.rd R.BST.STATUS.FAILED = 0) ∧
    (s.pathOk path = true → s.mode ≠ modeMaint → part v.toNat R.BST.CTRL.START = 1 →
      effect (.bistStart v path) s (s.respond path 0x38000 stDenied)) ∧
    (s.pathOk path = true → part v.toNat R.BST.CTRL.START = 0 → part v.toNat R.BST.CTRL.POP = 1 →
      ∃ u : State, effect (.bistPop v path) s (u.respond path 0x38000 0) ∧ u.bist.fifo = s.bist.fifo.drop 1)

/-- The clock monitor (R71-R80). -/
def Obligations.ClockCommands : Prop :=
  ∀ s : State, s.awake = true →
    (∀ w, s.on R.CLK.STATUS.BKP_OK = true → effect (.refWindowEnd w) s (s.refWindow w)) ∧
    (∀ n, inRange n = true → (s.judgeRef n).rd R.CLK.STATUS.BAD_RUN = 0 ∧
      (s.judgeRef n).rd R.CLK.STATUS.GOOD_RUN = min 64 (s.rd R.CLK.STATUS.GOOD_RUN + 1) ∧
      (63 ≤ s.rd R.CLK.STATUS.GOOD_RUN → (s.judgeRef n).rd R.CLK.STATUS.REF_OK = 1)) ∧
    (∀ n, inRange n = false → s.rd R.CLK.STATUS.BAD_RUN < 3 →
      (s.judgeRef n).rd R.CLK.STATUS.GOOD_RUN = 0 ∧
      (s.judgeRef n).rd R.CLK.STATUS.BAD_RUN = s.rd R.CLK.STATUS.BAD_RUN + 1 ∧
      (s.judgeRef n).rd R.CLK.STATUS.REF_OK = s.rd R.CLK.STATUS.REF_OK) ∧
    (∀ k : Fin 8, ∃ u : State, effect (.pllHoldover k) s u ∧ u.rdBit R.CLK.STATUS.PLL_HOLDOVER k = true ∧
      u.rd R.CLK.STATUS.PLL_LOCK = s.rd R.CLK.STATUS.PLL_LOCK) ∧
    (∀ b, s.clocks.moving = some b →
      effect .refMuxForcedSwitch s (s.switchDone true).islands ∧ effect .refMuxSwitchDone s (s.switchDone false).islands ∧
      (∀ f, (s.switchDone f).on R.CLK.STATUS.REF_SEL = b ∧ (s.switchDone f).on R.CLK.STATUS.FORCED = f ∧
        (s.switchDone f).clocks.moving = none ∧ (s.switchDone f).rd R.CLK.SWITCH_TICK.TICK = s.tick % 2 ^ 64)) ∧
    (s.on R.CLK.STATUS.BKP_OK = true → ∃ u : State, effect .clkBackupLost s u ∧ u.rd R.CLK.STATUS.BKP_OK = 0 ∧
      u.sticky Src.clkBackupLost = true) ∧
    (s.on R.CLK.STATUS.BKP_OK = false → ∀ w, effect (.refWindowEnd w) s s) ∧
    (∀ path, s.pathOk path = true → ∃ u : State, effect (.returnNow path) s (u.respond path 0x2028 0) ∧
      (s.on R.CLK.STATUS.REF_SEL = true → s.on R.CLK.STATUS.REF_OK = true → s.clocks.moving = none →
        u.clocks.moving = some false))

/-- Bring-up and loss of a port's link (R88-R91, R95, R96). -/
def Obligations.PortLinkCommands : Prop :=
  ∀ (s : State) (p : Fin 2), s.awake = true →
    ((s.port p).waiting = false → (s.port p).attempt = false → s.on R.ETH.STATUS.LINK p = false → s.portReady p = true →
      s.portPlan p = some (s.port p).pair → ∃ u : State, effect (.portBringupStart p) s u ∧
        u.rd R.ETH.STATUS.BRINGUP p = 1 ∧ (u.port p).attempt = true ∧ u.mem = s.mem ∧
        u.out = s.out ++ (if s.rd R.ETH.CTRL.MEDIA p ≠ 0 ∧ s.on R.ETH.CTRL.AN_EN p = true then [.autoNeg p (s.anTech p) true] else [])) ∧
    ((s.port p).attempt = true → s.portReady p = true → effect (.linkUp p) s (s.portUp p)) ∧
    (∀ untrained, (s.port p).attempt = true → (s.port p).lastFail = none → ∃ u : State, effect (.bringupAbandon ⟨p, untrained⟩) s u ∧
      u.rd R.ETH.STATUS.BRINGUP p = 0 ∧ (u.port p).attempt = false ∧ (u.port p).waiting = true ∧
      (u.port p).lastFail = some s.tick ∧ u.sticky Src.ethLinkDown = true) ∧
    (∀ t untrained, (s.port p).attempt = true → (s.port p).lastFail = some t → s.tick - t < 60000000000 →
      ∃ u : State, effect (.bringupAbandon ⟨p, untrained⟩) s u ∧ (u.port p).waiting = true ∧ (u.port p).lastFail = some t ∧ u.due = s.due) ∧
    ((s.port p).waiting = true → effect (.bringupRetry p) s
      ((s.setPort p { s.port p with waiting := false }).startAttempt p)) ∧
    (∀ cause, s.on R.ETH.STATUS.LINK p = true →
      effect (.linkDown p cause) s (((s.linkFault p cause).portDrop p).raise Src.ethLinkDown (.port p))) ∧
    (∀ v path, s.pathOk path = true → part v.toNat R.ETH.CTRL.MEDIA ≠ 3 → part v.toNat R.ETH.CTRL.RESTORE_FULL = 0 →
      part v.toNat R.ETH.CTRL.ADMIN_UP = 1 → ∃ u : State, effect (.adminUpWrite p v path) s (u.respond path (ethOff p 0) 0) ∧
        u.rd R.ETH.CTRL.ADMIN_UP p = 1 ∧ u.rd R.ETH.CTRL.MEDIA p = part v.toNat R.ETH.CTRL.MEDIA ∧
        u.rd R.ETH.STATUS.LINK p = s.rd R.ETH.STATUS.LINK p) ∧
    (∀ v path, s.pathOk path = true → part v.toNat R.ETH.CTRL.MEDIA = 3 → s.rd R.ETH.CTRL.MEDIA p ≠ 3 →
      effect (.adminUpWrite p v path) s (s.respond path (ethOff p 0) stMalformed)) ∧
    (∀ v path, s.pathOk path = true → part v.toNat R.ETH.CTRL.MEDIA ≠ 3 → part v.toNat R.ETH.CTRL.RESTORE_FULL = 1 →
      (portLanes p).any (fun l => s.on R.SDS.STATUS.FAILED l) = true →
      effect (.restoreFull p v path) s (s.respond path (ethOff p 0) stDenied)) ∧
    (∀ v path, s.pathOk path = true → part v.toNat R.ETH.CTRL.MEDIA ≠ 3 → part v.toNat R.ETH.CTRL.RESTORE_FULL = 1 →
      (portLanes p).any (fun l => s.on R.SDS.STATUS.FAILED l) = false →
      effect (.restoreFull p v path) s ((s.writeEthCtrl p v.toNat).1.respond path (ethOff p 0) 0))

/-- What the drop of a port's link leaves (R90), where no client is told of it. -/
def Obligations.LinkDropState : Prop :=
  ∀ (s : State) (p : Fin 2), (∀ c, c < 64 → s.rd R.SHU.EQ_CTRL.MASK c = 0) →
    (s.portDrop p).rd R.ETH.STATUS.LINK p = 0 ∧ (s.portDrop p).rd R.ETH.STATUS.SPEED p = 0 ∧
    (s.portDrop p).rd R.ETH.STATUS.ACTIVE_LANES p = 0 ∧ (s.portDrop p).rd R.ETH.STATUS.BRINGUP p = 0 ∧
    (s.portDrop p).rd R.ETH.LINK_EVT.DOWNS p = min (s.rd R.ETH.LINK_EVT.DOWNS p + 1) R.ETH.LINK_EVT.DOWNS.max ∧
    (s.portDrop p).rd R.ETH.LINK_TICK.TICK p = s.tick % 2 ^ 64 ∧
    ((s.portDrop p).port p).txq = [] ∧ ((s.portDrop p).port p).attempt = false ∧
    (s.portDrop p).mem = s.mem ∧ (s.portDrop p).out = s.out ∧ (s.portDrop p).guard = s.guard

/-- SerDes lanes (R92, R93, R108): detectors, failed lanes, word boundaries and the pattern checker. -/
def Obligations.LaneCommands : Prop :=
  ∀ (s : State) (l : Fin 16), s.awake = true →
    (s.on R.SDS.STATUS.LOS l = false → effect (.losAssert l) s
      ((((s.wr R.SDS.STATUS.LOS 1 l).wr R.SDS.STATUS.LOS_STICKY 1 l).raise Src.sdsLos (laneUnit l)).judge)) ∧
    (s.on R.SDS.STATUS.LOL l = false → effect (.lolAssert l) s
      (((s.wr R.SDS.STATUS.LOL 1 l).wr R.SDS.STATUS.LOL_STICKY 1 l).raise Src.sdsLol (laneUnit l))) ∧
    effect (.losDeassert l) s (s.wr R.SDS.STATUS.LOS 0 l) ∧ effect (.lolDeassert l) s (s.wr R.SDS.STATUS.LOL 0 l) ∧
    (s.on R.SDS.STATUS.FAILED l = false → s.laneFails l = true → l.val < 8 → effect (.laneDeclaredFailed l) s (s.declareLane l)) ∧
    (s.on R.SDS.STATUS.FAILED l = false → s.laneFails l = true → 8 ≤ l.val → s.tack.lanes.contains (l.val - 8) = false →
      effect (.laneDeclaredFailed l) s (s.wr R.SDS.STATUS.FAILED 1 l)) ∧
    (s.on R.SDS.STATUS.FAILED l = false → s.laneFails l = true → 8 ≤ l.val → s.tack.lanes.contains (l.val - 8) = true →
      effect (.laneDeclaredFailed l) s ((s.wr R.SDS.STATUS.FAILED 1 l).tackLinkDown)) ∧
    (s.laneFails l = false → effect (.laneDeclaredFailed l) s s) ∧
    (∀ path, s.pathOk path = true → 8 ≤ l.val → s.tack.aligned.contains (l.val - 8) = false →
      ∃ u : State, effect (.bitslip l path) s (u.respond path (sdsOff l 0) 0) ∧
        u.rd R.SDS.STATUS.SLIP_POS l = (s.rd R.SDS.STATUS.SLIP_POS l + 1) % 64 ∧
        u.rd R.SDS.CTRL.LOOPBACK l = s.rd R.SDS.CTRL.LOOPBACK l) ∧
    (s.on R.SDS.CTRL.PRBS_CHK l = true → s.seesPattern l = true → s.on R.SDS.PRBS_ERR.LOCKED l = false → effect (.prbsCheckerLock l) s
      ((s.wr R.SDS.PRBS_ERR.LOCKED 1 l).wr R.SDS.PRBS_ERR.ERRORS 0 l)) ∧
    (s.declareLane l).on R.SDS.STATUS.FAILED l = true

/-- Received frames, priority flow control and the wake frame (R98, R101-R105). -/
def Obligations.FrameCommands : Prop :=
  ∀ (s : State) (p : Fin 2) (f : Frame), s.awake = true →
    (s.on R.ETH.STATUS.LINK p = true → f.fcsOk = false →
      effect (.frameReceived p f) s
        ((((s.countPort p 0).countPort p 2 (ceilDiv f.len 64)).bump R.ETH.RX_DROP.BAD_FCS p).countPort p 6)) ∧
    (s.on R.ETH.STATUS.LINK p = true → f.fcsOk = true → 64 ≤ f.len → 9216 < f.len →
      effect (.frameReceived p f) s
        ((((s.countPort p 0).countPort p 2 (ceilDiv f.len 64)).bump R.ETH.RX_DROP.OVERSIZE p).countPort p 6)) ∧
    (∀ (v6 : Bool) (ip : Nat) (ce : Bool), s.on R.ETH.STATUS.LINK p = true → f.fcsOk = true → 64 ≤ f.len → f.len ≤ 9216 →
      f.body = .roce v6 ip ce → s.tagsOk p f.tags = true → s.macOk p f.dst = true → s.ipOk p v6 ip = true →
      effect (.frameReceived p f) s
        (((s.countPort p 0).countPort p 2 (ceilDiv f.len 64)).deliver p f)) ∧
    (s.on R.ETH.STATUS.LINK p = false → effect (.frameReceived p f) s s) ∧
    (∀ vec quanta, s.on R.ETH.STATUS.LINK p = true →
      effect (.pfcFrameReceived p vec quanta) s
        (((s.countPort p 0).countPort p 2 1).applyPfc p vec.toNat quanta)) ∧
    (∀ k : Fin 8, effect (.pauseExpiry p k) s (s.pauseEnds p k)) ∧
    (∀ k : Fin 8, (s.port p).txq = [] → ((s.pauseEnds p k).port p).paused.get 0 k = 0 ∧
      (s.pauseEnds p k).rdBit R.ETH.STATUS.PFC_RX_PAUSED k p = false) ∧
    (∀ k : Fin 8, s.on R.ETH.STATUS.LINK p = true → s.rdBit R.ETH.QOS_MAP.LOSSLESS k p = true → s.pausing p k = false →
      s.rd R.ETH.PFC.XOFF p ≤ (s.port p).held.get 0 k → ∃ u : State, effect (.pfcXoff p k) s u ∧ u.pausing p k = true ∧
        u.out = s.out ++ [.frame p {} (.pfc k (s.rd R.ETH.PFC.QUANTA p))]) ∧
    (∀ k : Fin 8, s.on R.ETH.STATUS.LINK p = true → s.pausing p k = true →
      s.rd R.ETH.PFC.XON p ≤ (s.port p).held.get 0 k → ∃ u : State, effect (.pfcRepeat p k) s u ∧ u.pausing p k = true ∧
        u.out = s.out ++ [.frame p {} (.pfc k (s.rd R.ETH.PFC.QUANTA p))]) ∧
    (∀ k : Fin 8, s.on R.ETH.STATUS.LINK p = true → s.pausing p k = true →
      (s.port p).held.get 0 k < s.rd R.ETH.PFC.XON p → ∃ u : State, effect (.pfcXon p k) s u ∧ u.pausing p k = false ∧
        u.out = s.out ++ [.frame p {} (.pfc k 0)]) ∧
    (s.wakes p f = true → s.inRound = true → ∃ u : State, effect (.wakeFrame p f) s u ∧
      u.boot.held = s.boot.held ++ [(reqServe, none)] ∧ u.mode = s.mode) ∧
    (s.wakes p f = true → s.inRound = false → effect (.wakeFrame p f) s s.wakeReq)

/-- The packet checks 1 to 4 (R117): a packet that fails one is counted and dropped, the expected PSN unmoved. -/
def Obligations.PacketChecks : Prop :=
  ∀ (s : State) (p : Packet), s.awake = true →
    (s.on R.ETH.STATUS.LINK p.port = false → (s.port p.port).rx = [] → effect (.rdmaWrite p) s s) ∧
    (s.on R.ETH.STATUS.LINK p.port = true ∨ (s.port p.port).rx ≠ [] →
      (p.icrcOk = false → effect (.rdmaWrite p) s (((s.consumeFrame p.port).count 48).bump R.XPT.DROP.ICRC)) ∧
      (p.icrcOk = true → p.version ≠ 0 ∨ p.destQpn < 0x100 ∨ 0x500 ≤ p.destQpn →
        effect (.rdmaReadRequest p) s (((s.consumeFrame p.port).count 48).bump R.XPT.DROP.BAD_QP)) ∧
      (p.icrcOk = true → p.version = 0 → 0x100 ≤ p.destQpn → p.destQpn < 0x500 → s.qpOpen (p.destQpn - 0x100) = false →
        effect (.atomicFetchAdd p) s (((s.consumeFrame p.port).count 48).bump R.XPT.DROP.BAD_QP)) ∧
      (p.icrcOk = true → p.version = 0 → 0x100 ≤ p.destQpn → p.destQpn < 0x500 → s.qpOpen (p.destQpn - 0x100) = true →
        s.rd R.XPT.QP_DEST.PKEY (p.destQpn - 0x100) ≠ p.pkey →
        effect (.sendOnly p) s (((s.consumeFrame p.port).count 48).bump R.XPT.DROP.PKEY_GID)) ∧
      (p.icrcOk = true → p.version = 0 → 0x100 ≤ p.destQpn → p.destQpn < 0x500 → s.qpOpen (p.destQpn - 0x100) = true →
        s.rd R.XPT.QP_STATE.PORT (p.destQpn - 0x100) = p.port.val →
        gidOf p.ipv6 p.srcIp = gidOf (s.on R.XPT.QP_DEST.IPV6 (p.destQpn - 0x100)) (s.qpDip (p.destQpn - 0x100)) →
        s.rd R.XPT.QP_DEST.PKEY (p.destQpn - 0x100) = p.pkey → p.ce = false →
        s.inbound p = ((s.consumeFrame p.port).count 48, some (p.destQpn - 0x100))))

/-- A request that passes every check is begun, and one that fails is answered by the NAK of its check (R117, R118, R122,
R126, R164). -/
def Obligations.ResponderCommands : Prop :=
  ∀ (s u v : State) (p : Packet) (q : Nat), s.awake = true → s.inbound p = (u, some q) → u.doomed q = false →
    v = u.setQp q { u.qp q with nakSent := false } →
    ((u.qp q).broken = true → p.opcode = opWriteOnly → effect (.rdmaWrite p) s (u.nakAt q (p.psn % 2 ^ 24) 0x63)) ∧
    ((u.qp q).broken = false → p.psn % 2 ^ 24 = u.rd R.XPT.QP_PSN.RQ_PSN q → v.malformed q p = false →
      v.admits (v.firstBuffers q p) = true →
      (∀ t, p.opcode = opWriteOnly → v.target (v.qpClient q) p = (0, t) →
        effect (.rdmaWrite p) s (v.beginWrite q p (p.psn % 2 ^ 24) (v.firstBuffers q p) t)) ∧
      (∀ t, p.opcode = opRead → v.target (v.qpClient q) p = (0, t) →
        effect (.rdmaReadRequest p) s
          ((v.expectNext q (max 1 (ceilDiv p.dmaLen (v.mtu q)))).beginRead q p (p.psn % 2 ^ 24) (v.firstBuffers q p) t)) ∧
      (∀ g, p.opcode = opSwap → v.target (v.qpClient q) p = (0, .bolt g) →
        effect (.atomicCompareSwap p) s (v.beginAtomic q p (p.psn % 2 ^ 24) (v.firstBuffers q p) g)) ∧
      (∀ g, p.opcode = opAdd → v.target (v.qpClient q) p = (0, .bolt g) →
        effect (.atomicFetchAdd p) s (v.beginAtomic q p (p.psn % 2 ^ 24) (v.firstBuffers q p) g)) ∧
      (p.opcode = opSend → v.rd R.XPT.QP_STATE.ROLE q = 1 → v.target (v.qpClient q) p = (0, .bell) →
        effect (.sendOnly p) s ((v.expectNext q 1).enqueue q
          { kind := .sendBell, psn := p.psn % 2 ^ 24, ackReq := p.ackReq, data := p.payload,
            buffers := v.firstBuffers q p })) ∧
      (∀ st t, p.opcode = opWriteOnly → st ≠ 0 → v.target (v.qpClient q) p = (st, t) →
        effect (.rdmaWrite p) s ((v.countDenied (v.qpClient q) st).nakAt q (p.psn % 2 ^ 24) (nakOf st)))) ∧
    ((u.qp q).broken = false → p.psn % 2 ^ 24 = u.rd R.XPT.QP_PSN.RQ_PSN q → v.malformed q p = true → p.opcode = opWriteOnly →
      effect (.rdmaWrite p) s (v.nakAt q (p.psn % 2 ^ 24) 0x61)) ∧
    ((u.qp q).broken = false → p.psn % 2 ^ 24 ≠ u.rd R.XPT.QP_PSN.RQ_PSN q → p.opcode = opWriteOnly →
      effect (.rdmaWrite p) s (u.offSequence q p (p.psn % 2 ^ 24)))

/-- Requests of one QP are executed in PSN order (R122): one that arrives behind a request that waits for a fill is kept
behind it and has no effect before it; its PSN is taken. -/
def Obligations.RequestsWaitInOrder : Prop :=
  ∀ (s : State) (q : Nat) (h x : HeldReq) (rest : List HeldReq), (s.qp q).held = h :: rest →
    h.waits.any s.lng.fills.contains = true →
    ((s.enqueue q x).qp q).held = h :: rest ++ [{ x with came := s.lng.arrivals }] ∧ (s.enqueue q x).regs = s.regs ∧ (s.enqueue q x).mem = s.mem ∧
    (s.enqueue q x).lng = { s.lng with arrivals := s.lng.arrivals + 1 } ∧ (s.enqueue q x).out = s.out ∧
    (s.expectNext q 1).rd R.XPT.QP_PSN.RQ_PSN q = (s.rd R.XPT.QP_PSN.RQ_PSN q + 1) % 2 ^ 24

/-- The module as requester, acknowledgements, timers and the transmit rate (R123, R128, R131). -/
def Obligations.RequesterCommands : Prop :=
  ∀ (s : State) (qp : Fin 1024), s.awake = true →
    (∀ psn, (s.qp qp).unacked.getLast? = some psn → effect (.ackDelayExpiry qp) s (s.sendAck qp psn)) ∧
    (∀ (u : State) (q : Nat) (p : Packet), s.inbound p = (u, some q) →
      (p.opcode = 0x10 → effect (.readResponseReceived p) s (u.readResponseIn q p)) ∧
      (p.opcode = opAck → bits p.syndrome 5 2 = 0 → effect (.ackReceived p) s (u.ackIn q (p.psn % 2 ^ 24))) ∧
      (p.opcode = opAck → bits p.syndrome 5 2 = 3 →
        effect (.nakReceived p) s (u.nakIn q (p.psn % 2 ^ 24) (p.syndrome % 256))) ∧
      (p.opcode = opAck → bits p.syndrome 5 2 = 1 → effect (.rnrNakReceived p) s (u.rnrIn q (p.psn % 2 ^ 24))) ∧
      (p.opcode = opCnp → effect (.cnpReceived p) s (u.cnpIn q)) ∧
      (u.outstanding q (p.psn % 2 ^ 24) = false → u.ackIn q (p.psn % 2 ^ 24) = u)) ∧
    ((s.qp qp).lastCut = none → s.on R.XPT.CC.CC_EN = true → s.qpRts qp = true →
      (s.cnpIn qp).rd R.XPT.QP_RATE.RATE qp =
        max (s.rd R.XPT.QP_RATE.RATE qp / 2) (s.rd R.XPT.CC.MIN_RATE) % 2 ^ R.XPT.QP_RATE.RATE.width ∧
      ((s.cnpIn qp).qp qp).lastCut = some s.tick) ∧
    ((s.qp qp).rnrWait = true → effect (.rnrWaitExpiry qp) s
      (((s.setQp qp { s.qp qp with rnrWait := false }).retransmit qp).drainQp qp)) ∧
    ((s.qp qp).rnrWait = false → effect (.rnrWaitExpiry qp) s s) ∧
    (s.qpRts qp = true → (s.qp qp).sent ≠ [] → (s.qp qp).rnrWait = false → s.pausedFor qp = false →
      ((s.qp qp).retries < s.rd R.XPT.QP_STATE.RETRY_CNT qp → effect (.ackTimeout qp) s
        ((((s.bump R.XPT.RETRY.TIMEOUTS).count 57).setQp qp
          { s.qp qp with retries := (s.qp qp).retries + 1 }).retransmit qp)) ∧
      (s.rd R.XPT.QP_STATE.RETRY_CNT qp ≤ (s.qp qp).retries → effect (.ackTimeout qp) s
        (((s.bump R.XPT.RETRY.TIMEOUTS).count 57).qpError qp 0xFF 0))) ∧
    (s.qpRts qp = true → s.on R.XPT.CC.CC_EN = true → s.periodOver qp = true → ∃ u : State, effect (.rateStep qp) s u ∧
      u.rd R.XPT.QP_RATE.RATE qp = min (s.rd R.XPT.QP_RATE.RATE qp + s.rd R.XPT.CC.RATE_STEP)
        (s.lineRate (s.rd R.XPT.QP_STATE.PORT qp)) % 2 ^ R.XPT.QP_RATE.RATE.width ∧
      u.mem = s.mem ∧ u.out = s.out ∧ u.qps = (s.setQp qp { s.qp qp with period := some s.tick }).qps) ∧
    (s.periodOver qp = false → effect (.rateStep qp) s s)

/-- The response registers (R157): an accepted write answers OK, a refused one its status, its offset and one more
refusal; the client of a window write is named; and nothing else changes but the counters. -/
def Obligations.SetupResponse : Prop :=
  ∀ (s : State) (off st : Nat) (c : Fin 64), st < 256 → off < 2 ^ 20 →
    (s.respond .smb off st).rd R.GLB.SETUP_RESP_SMB.STATUS = st ∧
    (s.respond (.rdma c) off st).rd R.GLB.SETUP_RESP_RDMA.STATUS = st ∧
    (st ≠ 0 → (s.respond .smb off st).rd R.GLB.SETUP_RESP_SMB.OFFSET = off ∧
      (s.respond .smb off st).rd R.GLB.SETUP_RESP_SMB.REFUSED =
        min (s.rd R.GLB.SETUP_RESP_SMB.REFUSED + 1) R.GLB.SETUP_RESP_SMB.REFUSED.max ∧
      (s.respond (.rdma c) off st).rd R.GLB.SETUP_RESP_RDMA.OFFSET = off ∧
      (s.respond (.rdma c) off st).rd R.GLB.SETUP_RESP_RDMA.CLIENT = c.val) ∧
    (st = 0 → (s.respond .smb off st).rd R.GLB.SETUP_RESP_SMB.OFFSET = s.rd R.GLB.SETUP_RESP_SMB.OFFSET) ∧
    (∀ (path : Path) (g : Fld) (e : Nat), g.addr ≠ 0x100 → g.addr ≠ 0x108 → g.addr < 2 ^ 20 → g.lo < 64 →
      (s.respond path off st).rd g e = s.rd g e) ∧
    (∀ path : Path, (s.respond path off st).mem = s.mem ∧ (s.respond path off st).out = s.out ∧
      (s.respond path off st).due = s.due)

/-- Writes with a row of their own that are not mirrored: each answers what its register's rule gives, with the response
(R157); where the path is closed only the denial is counted (R147, R152). -/
def Obligations.PlainSetupCommands : Prop :=
  ∀ (s : State) (v : BitVec 64) (path : Path), s.awake = true →
    (s.pathOk path = true →
      effect (.noteWrite v path) s
        ((((s.wr R.TIM.NOTE.NOTE v.toNat).wr R.TIM.NOTE_TICK.TICK s.tick).respond path 0x39008 0)) ∧
      effect (.qpStateWrite v path) s ((s.writeQpState (s.rd R.XPT.QP_SEL.INDEX) v.toNat).1.respond path 0x5100
        (s.writeQpState (s.rd R.XPT.QP_SEL.INDEX) v.toNat).2) ∧
      effect (.calCmd v path) s ((s.writeCalCmd v.toNat).1.respond path 0x21008 (s.writeCalCmd v.toNat).2) ∧
      effect (.restitchGo v path) s ((s.writeRestitch v.toNat).1.respond path 0x8100 (s.writeRestitch v.toNat).2) ∧
      effect (.cleanAll v path) s ((s.writeLngCmd v.toNat).1.respond path 0x9028 (s.writeLngCmd v.toNat).2) ∧
      effect (.keyLimitWrite v path) s ((s.writePrtCfg v.toNat).1.respond path 0xD000 (s.writePrtCfg v.toNat).2)) ∧
    (s.pathOk path = false →
      effect (.noteWrite v path) s (s.turnAway path) ∧ effect (.qpStateWrite v path) s (s.turnAway path) ∧
      effect (.calCmd v path) s (s.turnAway path) ∧ effect (.boltCreate v path) s (s.turnAway path) ∧
      effect (.grantIssue v path) s (s.turnAway path) ∧ effect (.ringEnable v path) s (s.turnAway path)) ∧
    (∀ c : Fin 64, s.running = true → (s.turnAway (.rdma c)).rd R.BLT.CLIENT_STAT.DENIED c =
      min (s.rd R.BLT.CLIENT_STAT.DENIED c + 1) R.BLT.CLIENT_STAT.DENIED.max) ∧
    (∀ c : Fin 64, s.running = false → s.turnAway (.rdma c) = s) ∧
    (∀ (g : Fld) (e : Nat), g.addr ≠ R.BLT.CLIENT_STAT.DENIED.addr → g.addr ≠ R.BLT.ACC_FAULT.DENIED.addr → g.addr < 2 ^ 20 →
      g.lo < 64 → (s.turnAway path).rd g e = s.rd g e) ∧
    (s.turnAway path).mem = s.mem ∧ (s.turnAway path).out = s.out ∧ s.pathOk .smb = true

/-- TIM.NOTE and TIM.NOTE_TICK (R473): a note is held as written with its tick, changes nothing else but the response,
and TIM.TICK shows the time base. -/
def Obligations.EpochNote : Prop :=
  ∀ (s : State) (v : BitVec 64), s.awake = true → s.settled → s.tick < 2 ^ 64 →
    ∃ t, exec (.noteWrite v .smb) s = .next t ∧ t.rd R.TIM.NOTE.NOTE = v.toNat ∧ t.rd R.TIM.NOTE_TICK.TICK = s.tick ∧
      t.rd R.GLB.SETUP_RESP_SMB.STATUS = 0 ∧ t.tick = s.tick ∧ t.mem = s.mem ∧ t.out = s.out ∧
      (∀ (g : Fld) (e : Nat), g.addr ≠ 0x39008 → g.addr ≠ 0x39010 → g.addr ≠ 0x100 → g.addr < 2 ^ 20 → g.lo < 64 →
        t.rd g e = s.rd g e)

/-- QP contexts and bindings (R114, R136). -/
def Obligations.QpTableCommands : Prop :=
  ∀ (s : State) (v : BitVec 64) (path : Path), s.awake = true → s.pathOk path = true →
    (part v.toNat R.BLT.QP_BIND.UNBIND = 0 → s.rd R.XPT.QP_STATE.STATE (part v.toNat R.BLT.QP_BIND.QP) ≤ 1 →
      s.on R.BLT.CLIENT.VALID (part v.toNat R.BLT.QP_BIND.CLIENT) = true →
      ∃ u : State, effect (.qpBind v path) s (u.respond path 0x6028 0) ∧
        u.rd R.XPT.QP_STATE.BOUND (part v.toNat R.BLT.QP_BIND.QP) = 1 ∧
        u.rd R.XPT.QP_STATE.CLIENT (part v.toNat R.BLT.QP_BIND.QP) = part v.toNat R.BLT.QP_BIND.CLIENT ∧
        u.mem = s.mem ∧ u.qps = s.qps) ∧
    (part v.toNat R.BLT.QP_BIND.UNBIND = 0 → s.on R.BLT.CLIENT.VALID (part v.toNat R.BLT.QP_BIND.CLIENT) = false →
      effect (.qpBind v path) s (s.respond path 0x6028 stDenied)) ∧
    (part v.toNat R.BLT.QP_BIND.UNBIND = 1 → s.rd R.XPT.QP_STATE.STATE (part v.toNat R.BLT.QP_BIND.QP) ≤ 1 →
      ∃ u : State, effect (.qpUnbind v path) s (u.respond path 0x6028 0) ∧
        u.rd R.XPT.QP_STATE.BOUND (part v.toNat R.BLT.QP_BIND.QP) = 0 ∧ u.mem = s.mem) ∧
    (1 < s.rd R.XPT.QP_STATE.STATE (part v.toNat R.BLT.QP_BIND.QP) →
      effect (.qpBind v path) s (s.respond path 0x6028 stDenied) ∧
      effect (.qpUnbind v path) s (s.respond path 0x6028 stDenied)) ∧
    (∀ q, (s.qpGo q 1).rd R.XPT.QP_STATE.STATE q = 1 ∧ (s.qpGo q 2).rd R.XPT.QP_STATE.STATE q = 2 ∧
      (s.qpGo q 3).rd R.XPT.QP_STATE.STATE q = 3) ∧
    (∀ q, q = s.rd R.XPT.QP_SEL.INDEX → s.rd R.XPT.QP_STATE.STATE q = 0 → part v.toNat R.XPT.QP_STATE.STATE = 3 →
      s.chgAny v.toNat q qpReqFields = false → s.chg R.XPT.QP_STATE.MTU v.toNat q = false →
      effect (.qpStateWrite v path) s (s.respond path 0x5100 stDenied))

/-- Bolts and grants of an unpaired module (R141, R142, R144, R145). -/
def Obligations.BoltAndGrantCommands : Prop :=
  ∀ (s : State) (v : BitVec 64) (path : Path), s.awake = true → s.pathOk path = true → s.rd R.TCK.STATUS.PAIR = 0 →
    effect (.boltCreate v path) s
      ((s.writeBoltAttr s.selBolt v.toNat).1.respond path 0x6110 (s.writeBoltAttr s.selBolt v.toNat).2) ∧
    effect (.boltDelete v path) s
      ((s.writeBoltAttr s.selBolt v.toNat).1.respond path 0x6110 (s.writeBoltAttr s.selBolt v.toNat).2) ∧
    (∀ b, (s.createBolt b).rd R.BLT.BOLT_ATTR.STATE b = 1 ∧
      ∀ k, s.rd R.BLT.BOLT_BASE.BASE_SW b ≤ k → k < s.rd R.BLT.BOLT_BASE.BASE_SW b + s.rd R.BLT.BOLT_BASE.LEN_SW b →
        (s.createBolt b).mem.map.find k = none) ∧
    (∀ b, b = 0 ∨ s.on R.BLT.BOLT_ATTR.STATE b = true → s.create b = (s, stDenied)) ∧
    (∀ b, s.rd R.BLT.BOLT_ATTR.STATE b < 2 ∨ 4 < s.rd R.BLT.BOLT_ATTR.STATE b → s.delete b = (s, stDenied)) ∧
    (∀ b : Fin 1024, s.rd R.BLT.BOLT_ATTR.STATE b = 1 → ∃ u : State, effect (.boltCreateDone b) s u ∧
      u.rd R.BLT.BOLT_ATTR.STATE b = 2 ∧ u.mem = s.mem ∧ u.out = s.out) ∧
    (∀ b : Fin 1024, s.rd R.BLT.BOLT_ATTR.STATE b = 5 → effect (.boltDeleteDone b) s (s.deleted b)) ∧
    (∀ b : Fin 1024, s.rd R.BLT.BOLT_ATTR.STATE b ≠ 5 → effect (.boltDeleteDone b) s s) ∧
    (part v.toNat R.BLT.GRANT.CMD = 1 → s.on R.BLT.GRANT.ISSUED s.selGrant = false →
      (s.takes v.toNat s.selGrant [R.BLT.GRANT.CLIENT, R.BLT.GRANT.BOLT, R.BLT.GRANT.RIGHTS]).mayGrant s.selGrant = true →
      ∃ u : State, effect (.grantIssue v path) s (u.respond path 0x6208 0) ∧ u.rd R.BLT.GRANT.ISSUED s.selGrant = 1 ∧
        u.rd R.BLT.GRANT.GEN s.selGrant = nextGen (s.rd R.BLT.GRANT.GEN s.selGrant) % 2 ^ 20 ∧
        u.rd R.BLT.GRANT.CLIENT s.selGrant = part v.toNat R.BLT.GRANT.CLIENT ∧ u.mem = s.mem) ∧
    (part v.toNat R.BLT.GRANT.CMD = 2 → s.on R.BLT.GRANT.ISSUED s.selGrant = false →
      effect (.grantRevoke v path) s (s.respond path 0x6208 stDenied)) ∧
    (part v.toNat R.BLT.GRANT.CMD = 2 → s.on R.BLT.GRANT.ISSUED s.selGrant = true →
      s.chgAny v.toNat s.selGrant [R.BLT.GRANT.CLIENT, R.BLT.GRANT.BOLT, R.BLT.GRANT.RIGHTS] = false →
      ∃ u : State, effect (.grantRevoke v path) s (u.respond path 0x6208 0) ∧ u.rd R.BLT.GRANT.ISSUED s.selGrant = 0 ∧
        u.mem = s.mem)

/-- The SMBus slave and set-up accesses without a row of their own (R155-R157, R16, R455). -/
def Obligations.AccessCommands : Prop :=
  ∀ s : State, s.awake = true →
    (∀ w : SmbBlock, w.count = 4 → w.data.length = 4 → leNat (w.data.take 3) % 8 = 0 → leNat (w.data.take 3) < 2 ^ 20 →
      w.pec = .good → effect (.smbSetAddr w) s
        { s with smb := { addr := leNat (w.data.take 3), autoInc := bit (w.data.getD 3 0).toNat 0 } }) ∧
    (∀ w : SmbBlock, w.count ≠ 4 → effect (.smbSetAddr w) s (s.emit .smbNack)) ∧
    (∀ w : SmbBlock, w.count = 8 → w.data.length = 8 → w.pec = .good →
      effect (.smbDataWrite w) s (s.writeReg .smb s.smb.addr (leNat w.data)).smbAdvance) ∧
    (∀ w : SmbBlock, w.count = 8 → w.data.length = 8 → w.pec = .wrong →
      effect (.smbDataWrite w) s ((s.bump R.GLB.SETUP_RESP_SMB.PEC_ERR).emit .smbNack)) ∧
    effect .smbDataRead s (s.readOn .smb s.smb.addr).smbAdvance ∧ effect .smbRespRead s (s.readOn .smb 0x100 3) ∧
    effect .smbTimeout s s ∧
    (s.alertN = false → effect .smbAlertResponse s (s.emit (.smbAddress s.smbAddr))) ∧
    (s.alertN = true → effect .smbAlertResponse s s) ∧
    (∀ off v path, effect (.setupWrite off v path) s (s.writeReg path off.toNat v.toNat)) ∧
    (∀ off path, effect (.rcRead off path) s (s.readOn path off.toNat)) ∧
    (∀ addr cmd, (s.readOn .smb addr cmd).out = (s.readReg addr).1.out ++
      [.smbRead (leBytes 8 (s.readReg addr).2) ((s.readReg addr).1.readPec cmd (leBytes 8 (s.readReg addr).2))]) ∧
    (∀ addr, regAt addr = none → s.readReg addr = (s, 0)) ∧
    (∀ off v path, regAt off.toNat = none → s.pathOk path = true →
      effect (.setupWrite off v path) s (s.respond path off.toNat stBadAddress)) ∧
    (s.readReg 0x39000).2 = s.tick % 2 ^ 64 ∧
    (s.readReg 0x6308).1.rd R.BLT.ACC_FAULT.DENIED = 0 ∧
    (s.readReg 0x6308).2 % 2 ^ 16 = s.rd R.BLT.ACC_FAULT.DENIED

/-- ALERT_N (R455): low exactly while a source with ALERT = 1 has its sticky bit set; answering the Alert Response Address
gives the module's address and does not release it; clearing the sticky bits does. -/
def Obligations.AlertOutput : Prop :=
  ∀ s : State,
    (s.alertN = false ↔ ∃ i, i < 128 ∧ s.on R.FLT.SRC.ALERT i = true ∧ s.sticky i = true) ∧
    (s.awake = true → s.settled → s.alertN = false → ∃ t, exec .smbAlertResponse s = .next t ∧
      t.out = s.out ++ [.smbAddress (0x50 + s.rd R.MOD.STATUS.SLOT_ID % 8)] ∧ t.alertN = false ∧ t.regs = s.regs) ∧
    (s.awake = true → s.settled → s.alertN = true → exec .smbAlertResponse s = .next s) ∧
    ((∀ i, i < 128 → s.sticky i = false) → s.alertN = true)

/-- The rule of ETHn.PFC (R104): XON < XOFF ≤ RX_LIMIT, and RX_LIMIT of both ports at most 4096. A write that breaks it is
refused with the register unchanged; every other one takes effect; so the rule, which holds at reset, is never broken. The
premise that the rule holds before is that invariant. -/
def Obligations.PfcRule : Prop :=
  pfcRule State.reset ∧
  ∀ (s : State) (p : Fin 2) (v : BitVec 64), pfcRule s →
    ((part v.toNat R.ETH.PFC.XOFF ≤ part v.toNat R.ETH.PFC.XON ∨ part v.toNat R.ETH.PFC.RX_LIMIT < part v.toNat R.ETH.PFC.XOFF ∨
        4096 < part v.toNat R.ETH.PFC.RX_LIMIT + s.rd R.ETH.PFC.RX_LIMIT (1 - p.val)) →
      s.writePfc p v.toNat = (s, stMalformed)) ∧
    (part v.toNat R.ETH.PFC.XON < part v.toNat R.ETH.PFC.XOFF → part v.toNat R.ETH.PFC.XOFF ≤ part v.toNat R.ETH.PFC.RX_LIMIT →
      part v.toNat R.ETH.PFC.RX_LIMIT + s.rd R.ETH.PFC.RX_LIMIT (1 - p.val) ≤ 4096 →
      (s.writePfc p v.toNat).2 = 0 ∧ (s.writePfc p v.toNat).1.rd R.ETH.PFC.XON p = part v.toNat R.ETH.PFC.XON ∧
      (s.writePfc p v.toNat).1.rd R.ETH.PFC.XOFF p = part v.toNat R.ETH.PFC.XOFF ∧
      (s.writePfc p v.toNat).1.rd R.ETH.PFC.RX_LIMIT p = part v.toNat R.ETH.PFC.RX_LIMIT ∧
      (s.writePfc p v.toNat).1.rd R.ETH.PFC.QUANTA p = part v.toNat R.ETH.PFC.QUANTA) ∧
    pfcRule (s.writePfc p v.toNat).1 ∧
    (s.awake = true → ∀ off : BitVec 20, off.toNat = 0x3040 + 0x1000 * p.val →
      effect (.setupWrite off v .smb) s ((s.writePfc p v.toNat).1.respond .smb off.toNat (s.writePfc p v.toNat).2))

/-- Doorbells, ring control and event queues (R162-R166, R182-R187, R192, R193). -/
def Obligations.RingCommands : Prop :=
  ∀ (s : State) (v : BitVec 64) (path : Path), s.awake = true →
    (∀ (c : Fin 64) (form : DoorbellForm), s.serving = false → effect (.doorbell c form v) s s) ∧
    (∀ (c : Fin 64) (form : DoorbellForm), s.serving = true → s.ending = false →
      s.badDoorbell c (doorbellRing c form v.toNat) v.toNat = true →
      effect (.doorbell c form v) s
        ((s.count 65).bump R.SHU.RING_STAT.BAD_DB (doorbellRing c form v.toNat))) ∧
    (∀ c : Fin 64, s.serving = true → s.ending = false →
      s.badDoorbell c (doorbellRing c .send v.toNat) v.toNat = false →
      effect (.doorbell c .send v) s (s.processDoorbell c (doorbellRing c .send v.toNat) v.toNat)) ∧
    (∀ r, r = s.rd R.SHU.RING_SEL.INDEX → s.pathOk path = true →
      (s.ringState r = ringDisabled → s.limited = false → part v.toNat R.SHU.RING_CTRL.CMD = 1 →
        6 ≤ part v.toNat R.SHU.RING_CTRL.RING_LOG2 → part v.toNat R.SHU.RING_CTRL.RING_LOG2 ≤ 16 →
        6 ≤ part v.toNat R.SHU.RING_CTRL.CQ_LOG2 → part v.toNat R.SHU.RING_CTRL.CQ_LOG2 ≤ 16 →
        s.rd R.SHU.RING_BASE.VA r % 64 = 0 → s.rd R.SHU.RING_CQ.VA r % 32 = 0 →
        s.cmdQpOf (part v.toNat R.SHU.RING_CTRL.QP) (r / 4) = true →
        ∃ u : State, effect (.ringEnable v path) s (u.respond path 0xA100 0) ∧ u.ringState r = ringActive ∧
          u.rd R.SHU.RING_STATUS.HEAD r = 0 ∧ u.rd R.SHU.RING_STATUS.TAIL r = 0 ∧ u.rd R.SHU.RING_STATUS.CQ_PHASE r = 1 ∧
          (u.ring r).descs = [] ∧ u.mem = s.mem) ∧
      (s.ringState r = ringActive → part v.toNat R.SHU.RING_CTRL.CMD = 1 →
        effect (.ringEnable v path) s (s.respond path 0xA100 stDenied)) ∧
      (s.ringState r = ringDisabled → part v.toNat R.SHU.RING_CTRL.CMD = 2 →
        effect (.ringReset v path) s ((s.takes v.toNat r [R.SHU.RING_CTRL.QP, R.SHU.RING_CTRL.RING_LOG2,
          R.SHU.RING_CTRL.CQ_LOG2]).respond path 0xA100 0)) ∧
      (s.ringState r = ringDisabled → part v.toNat R.SHU.RING_CTRL.CMD = 3 →
        effect (.ringHalt v path) s (s.respond path 0xA100 stDenied)) ∧
      (s.ringState r = ringActive → part v.toNat R.SHU.RING_CTRL.QP = s.rd R.SHU.RING_CTRL.QP r →
        part v.toNat R.SHU.RING_CTRL.RING_LOG2 = s.rd R.SHU.RING_CTRL.RING_LOG2 r →
        part v.toNat R.SHU.RING_CTRL.CQ_LOG2 = s.rd R.SHU.RING_CTRL.CQ_LOG2 r →
        (part v.toNat R.SHU.RING_CTRL.CMD = 3 →
          effect (.ringHalt v path) s ((((s.takes v.toNat r [R.SHU.RING_CTRL.QP, R.SHU.RING_CTRL.RING_LOG2,
            R.SHU.RING_CTRL.CQ_LOG2]).haltRing r 0x41).post r).respond path 0xA100 0)) ∧
        (part v.toNat R.SHU.RING_CTRL.CMD = 2 →
          effect (.ringReset v path) s (((s.takes v.toNat r [R.SHU.RING_CTRL.QP, R.SHU.RING_CTRL.RING_LOG2,
            R.SHU.RING_CTRL.CQ_LOG2]).resetRing r).respond path 0xA100 0)))) ∧
    (∀ r : Fin 256, s.drained r = true → effect (.ringDrained r) s (s.disableRing r)) ∧
    (∀ r : Fin 256, s.drained r = false → effect (.ringDrained r) s s) ∧
    (∀ c, c = s.rd R.SHU.EQ_SEL.CLIENT → s.pathOk path = true → s.on R.SHU.EQ_CTRL.EN c = false →
      part v.toNat R.SHU.EQ_CTRL.EN = 1 →
      (s.rd R.SHU.EQ_BASE.VA c % 32 = 0 → 6 ≤ part v.toNat R.SHU.EQ_CTRL.LOG2 → part v.toNat R.SHU.EQ_CTRL.LOG2 ≤ 12 →
        s.cmdQpOf (part v.toNat R.SHU.EQ_CTRL.QP) c = true →
        ∃ u : State, effect (.eqEnable v path) s (u.respond path 0xA210 0) ∧ u.rd R.SHU.EQ_CTRL.EN c = 1 ∧ u.mem = s.mem) ∧
      (s.rd R.SHU.EQ_BASE.VA c % 32 ≠ 0 → effect (.eqEnable v path) s (s.respond path 0xA210 stMalformed)))

/-- Descriptors are fetched, consumed, started and completed (R168-R174, R178). -/
def Obligations.DescriptorCommands : Prop :=
  ∀ (s : State) (r : Fin 256), s.awake = true →
    (s.fetchSize r = 0 → effect (.descriptorFetch r) s s) ∧
    (s.fetchSize r ≠ 0 → effect (.descriptorFetch r) s (s.fetch r)) ∧
    (s.ringState r ≠ ringActive → s.fetchSize r = 0) ∧
    ((s.ring r).returned = [] → effect (.descriptorsFetched r) s s) ∧
    (∀ no d rest, (s.ring r).returned = (no, d) :: rest → effect (.descriptorsFetched r) s (s.fetched r)) ∧
    (∀ d, (s.ring r).descs.find? (fun d => d.stage == .consumed) = some d →
      (s.mayStart r d = false → effect (.descriptorStart r) s s) ∧
      (∀ gs, s.mayStart r d = true → s.checkDesc (r.val / 4) d = (0, gs) →
        effect (.descriptorStart r) s (s.startDesc r d gs)) ∧
      (∀ st gs, s.mayStart r d = true → s.checkDesc (r.val / 4) d = (st, gs) → st ≠ 0 → st < 0x10 ∨ 0x13 < st →
        effect (.descriptorStart r) s (s.finish r d st 0 0))) ∧
    (∀ d, s.readyDesc r = some d → effect (.descriptorComplete r) s (s.completeDesc r d)) ∧
    (s.readyDesc r = none → effect (.descriptorComplete r) s (s.post r)) ∧
    (∀ (d : Desc) (st b x : Nat), (∃ e ∈ (s.ring r).descs, e.serial = d.serial) →
      ∃ e ∈ ((s.finish r d st b x).ring r).descs, e.serial = d.serial ∧ e.stage = .done ∧ e.status = st ∧ e.bytesDone = b ∧
        e.result = x) ∧
    (∀ (d : Desc) (st b x : Nat), (s.finish r d st b x).mem = s.mem ∧ (s.finish r d st b x).regs = s.regs)

/-- The descriptors that move data, order work, hint and flush (R174, R189-R191, R247, R275). -/
def Obligations.MoveCommands : Prop :=
  ∀ (s : State) (r : Fin 256) (d : Desc) (ns : List LineNoise), s.awake = true →
    (∀ op, op = 0x01 ∨ op = 0x02 ∨ op = 0x03 ∨ op = 0x04 ∨ op = 0x20 ∨ op = 0x21 ∨ op = 0x22 ∨ op = 0x23 →
      (s.ring r).descs.find? (fun d => d.stage == .started && d.op == op) = some d →
      (s.descWaits r d = false →
        (op = 0x01 → effect (.copy r ns) s (s.runWork r d (fun t => t.noisy ns (fun u => u.copy r d)))) ∧
        (op = 0x02 → effect (.fill r ns) s (s.runWork r d (fun t => t.noisy ns (fun u => u.fill r d)))) ∧
        (op = 0x03 → effect (.readOut r ns) s (s.runWork r d (fun t => t.noisy ns (fun u => u.readOut r d)))) ∧
        (op = 0x04 → effect (.writeIn r ns) s (s.runWork r d (fun t => t.noisy ns (fun u => u.writeIn r d)))) ∧
        (op = 0x20 → ∃ u : State, effect (.hint r) s u ∧ (u.mem.cells = s.mem.cells ∧ u.mem.map = s.mem.map) ∧
          ∃ e ∈ (u.ring r).descs, e.serial = d.serial ∧ e.stage = .done ∧ e.status = 0 ∧ e.bytesDone = d.length) ∧
        (op = 0x21 → effect (.flush r) s (s.runWork r d (fun t => t.flush r d))) ∧
        (op = 0x22 → effect (.fence r) s (s.runWork r d (fun t => t.endFence r d))) ∧
        (op = 0x23 → ∃ u : State, effect (.nop r) s u ∧ u.mem = s.mem ∧ u.regs = s.regs ∧ u.out = s.out ∧
          ∃ e ∈ (u.ring r).descs, e.serial = d.serial ∧ e.stage = .done ∧ e.status = 0)) ∧
      (s.descWaits r d = true →
        (op = 0x01 → effect (.copy r ns) s s) ∧ (op = 0x02 → effect (.fill r ns) s s) ∧ (op = 0x21 → effect (.flush r) s s))) ∧
    (∀ o ∈ d.operands, s.rangeBusy o.1 o.2.1 = true → s.descWaits r d = true) ∧
    (((s.ring r).descs.find? (fun d => d.stage == .started && d.op == 0x23)) = none → effect (.nop r) s s) ∧
    (s.allBefore r d.serial = false → s.endFence r d = s) ∧
    (s.allBefore r d.serial = true → (s.ring r).fenceOthers = [] → ((s.endFence r d).ring r).fence = none)

/-- The Needle opcodes run an active descriptor, at most MAX_ACTIVE of them at a time, and end it (R194-R223). -/
def Obligations.NeedleCommands : Prop :=
  ∀ (s : State) (r : Fin 256) (d : Desc) (ns : List LineNoise), s.awake = true →
    (s.needleSlots.ring r).descs.find? (fun e => e.stage == .started && e.op == d.op && e.active) = some d →
    (∀ (c : Instr) (f : State → State),
      (d.op = 0x10 ∧ c = .reduce r ns ∧ f = (fun u => u.reduce r d)) ∨
        (d.op = 0x11 ∧ c = .select r ns ∧ f = (fun u => u.select r d)) ∨
        (d.op = 0x12 ∧ c = .gather r ns ∧ f = (fun u => u.gather r d)) ∨
        (d.op = 0x13 ∧ c = .scatter r ns ∧ f = (fun u => u.scatter r d)) ∨
        (d.op = 0x14 ∧ c = .matchOp r ns ∧ f = (fun u => u.matchBytes r d)) ∨
        (d.op = 0x15 ∧ c = .histogram r ns ∧ f = (fun u => u.histogram r d)) ∨
        (d.op = 0x16 ∧ c = .atomicBatch r ns ∧ f = (fun u => u.batch r d)) →
      (s.needleSlots.descWaits r d = true → effect c s s.needleSlots) ∧
      (s.needleSlots.descWaits r d = false →
        effect c s (s.needleSlots.runWork r d (fun t => t.noisy ns f)).needleSlots ∧
        (s.needleHeld d = false → ∃ t : State, exec c s = .next (t.ends s) ∧
          ∃ e ∈ (t.ring r).descs, e.serial = d.serial ∧ e.stage = .done))) ∧
    (∀ (w t : State) (bs : List Byte) (n : Nat), w.needleHeld d = false → d.dest = 0 →
      (w.needleRead r d.srcA (d.length * d.size) = (t, 0, bs, n) →
        (d.imm0 = 0 → 0 < d.length → bs.length = d.length * d.size →
          w.reduce r d = ((t.stepsOver n).countFp d.elem d.opt
            [segmentResult d.elem d.opt (faOffset d.srcA) 0 d.length (items d.size bs)]).finish r d 0 0
            (segmentResult d.elem d.opt (faOffset d.srcA) 0 d.length (items d.size bs))) ∧
        (d.opt / 16 = 0 → w.select r d = (t.stepsOver n).finish r d 0 0
          ((items d.size bs).countP (selectTest d.elem (d.opt % 16) d.imm0 d.imm1)))))

/-- Steps over elements are counted as taken (R222): the counter and the free-running total move by the same number, and
nothing else. -/
def Obligations.NeedleStepsCounted : Prop :=
  ∀ (s : State) (n : Nat) (p : Bool), (s.takeSteps n p).steps = s.steps + n ∧
    (s.takeSteps n p).rd R.NDL.STEPS.STEPS = min (s.rd R.NDL.STEPS.STEPS + n) R.NDL.STEPS.STEPS.max ∧
    (s.takeSteps n p).mem = s.mem ∧ (s.takeSteps n p).lng = s.lng ∧ (s.takeSteps n p).rings = s.rings ∧
    (s.takeSteps n p).out = s.out ∧ (s.takeSteps n p).due = s.due

/-- The end of fills and write-backs, the cleaner, and pool buffers that come free (R263, R264, R267-R270, R297). -/
def Obligations.LiningCommands : Prop :=
  ∀ (s : State) (line : BitVec 32) (k : Fin 4), s.awake = true →
    (∀ noise, s.lng.fills.contains line.toNat = false ∨ s.wbOpen line.toNat = true →
      effect (.fillComplete line noise) s s) ∧
    (∀ noise, s.lng.fills.contains line.toNat = true → s.wbOpen line.toNat = false →
      ((s.runTo (.fill line.toNat)).issuedSlot (.fill line.toNat) = none → effect (.fillComplete line noise) s s) ∧
      (∀ c x, (s.runTo (.fill line.toNat)).issuedSlot (.fill line.toNat) = some (c, x) →
        effect (.fillComplete line noise) s ((s.runTo (.fill line.toNat)).fillDone line.toNat c x noise))) ∧
    (s.mode = modeHold → effect (.writeBackAccepted line k) s s) ∧
    (s.mode ≠ modeHold → effect (.writeBackAccepted line k) s ((s.acceptWb line.toNat k).cleanNext)) ∧
    (∀ w, s.wbOf line.toNat k = some w → w.flying = false → s.acceptWb line.toNat k = s) ∧
    (∀ bad, s.mode ≠ modeHold → s.wbOf line.toNat k = none → effect (.writeBackRetry line k bad) s s) ∧
    (∀ w bad, s.mode ≠ modeHold → s.wbOf line.toNat k = some w → w.flying = true ∨ 4 ≤ w.fails →
      effect (.writeBackRetry line k bad) s s) ∧
    (∀ w, s.mode ≠ modeHold → s.wbOf line.toNat k = some w → w.flying = false → w.fails < 4 →
      effect (.writeBackRetry line k none) s
        (((((s.bump R.LNG.EVICT.WB_RETRIES).count 103).flyAgain line.toNat k w.master).acceptWb line.toNat k).cleanNext)) ∧
    (∀ w, s.wbOf line.toNat k = some w → w.flying = true → w.fails = 3 →
      (s.failWb line.toNat k).sticky Src.liningWbFail = true) ∧
    (∀ w, s.wbOf line.toNat k = some w → w.flying = true → s.lng.entering = [] → s.mem.moves = [] →
      (s.failWb line.toNat k).lng.lines = s.lng.lines ∧ (s.failWb line.toNat k).mem = s.mem ∧
      (w.fails < 3 → (s.failWb line.toNat k).due = s.due)) ∧
    (s.dirtyLines ≤ s.rd R.LNG.CFG.DIRTY_HIGH * 1024 ∨ s.on R.LNG.STATUS.CLEANING = true ∨ s.mode = modeHold → effect .cleanerStart s s) ∧
    (s.rd R.LNG.CFG.DIRTY_HIGH * 1024 < s.dirtyLines → s.on R.LNG.STATUS.CLEANING = false → s.mode ≠ modeHold →
      effect .cleanerStart s (((s.wr R.LNG.STATUS.CLEANING 1).cleanMore).cleanNext)) ∧
    (∀ (v : BitVec 64) (path : Path), s.pathOk path = true → part v.toNat R.LNG.CMD.CLEAN_ALL = 1 →
      (s.on R.LNG.STATUS.CLEANING = true → effect (.cleanAll v path) s (s.respond path 0x9028 stDenied)) ∧
      (s.on R.LNG.STATUS.CLEANING = false → effect (.cleanAll v path) s (s.cleanEvery.respond path 0x9028 0))) ∧
    (s.lng.bufWait = [] → effect .bobbinBufferFreed s s.pumpAll) ∧
    (∀ (n c : Nat) (x : Slot), s.nextWaiting = some n → s.lng.bufWait[n]? = some (c, x) →
      s.mustWait x.master = false ∧ s.noTurn x.master x.since = false ∧
      effect .bobbinBufferFreed s
        ((({ s with lng := { s.lng with bufWait := s.lng.bufWait.eraseIdx n } } : State).joinSlot c x).pumpAll))

/-- Slots are admitted, rows close, refreshes fall due, activate tables start anew (R288, R344, R345, R348-R353). -/
def Obligations.ChannelCommands : Prop :=
  ∀ (s : State) (c : Fin 32), s.awake = true →
    (s.mayAdmit c = false → effect (.slotIssue c) s s) ∧
    (s.nextSlot c = none → effect (.slotIssue c) s s) ∧
    (∀ x, s.mayAdmit c = true → s.nextSlot c = some x →
      effect (.slotIssue c) s ((s.admitSlot c x).runBus c x.pc) ∧
      ((s.admitSlot c x).chan c).waiting = (s.chan c).waiting.erase x ∧
      ((s.admitSlot c x).chan c).admitted = (s.chan c).admitted ++ [{ x with since := s.tick }] ∧
      ((s.admitSlot c x).chan c).credit = (s.chan c).credit - 1) ∧
    (∀ bank : Fin 128, effect (.rowIdlePrecharge c bank) s
      (s.setChan c { s.chan c with openRow := (s.chan c).openRow.del bank })) ∧
    (∀ (pc : Fin 2) (ply : Fin 4) (n : Nat), n = pc.val * 4 + ply.val →
      (∀ b, s.asleep = true ∨ s.clocks.stopped = true ∨ s.on R.CHN.STATUS.IN_WINDOW c = true ∨
          (s.booting = true ∧ s.rd R.MOD.STATUS.BOOT_STEP < 5) ∨
          (s.tornPc (2 * c.val + pc.val) = true ∧ s.caWhole c pc = false) →
        effect (.refDue c pc ply b) s s) ∧
      (s.asleep = false → s.clocks.stopped = false → s.on R.CHN.STATUS.IN_WINDOW c = false →
        (s.booting = false ∨ 5 ≤ s.rd R.MOD.STATUS.BOOT_STEP) →
        (s.tornPc (2 * c.val + pc.val) = false ∨ s.caWhole c pc = true) →
        (∀ b, b = true ∨ s.inReset c = true →
          ((s.chan c).postponed.get 0 n < 8 →
            effect (.refDue c pc ply b) s (s.setDebt c n ((s.chan c).postponed.get 0 n + 1))) ∧
          (8 ≤ (s.chan c).postponed.get 0 n → s.tornPc (2 * c.val + pc.val) = false →
            effect (.refDue c pc ply b) s (s.tear (2 * c.val + pc.val))) ∧
          (8 ≤ (s.chan c).postponed.get 0 n → s.tornPc (2 * c.val + pc.val) = true →
            effect (.refDue c pc ply b) s (s.endRefresh (2 * c.val + pc.val)))) ∧
        (s.inReset c = false → (s.chan c).busyPly pc ply = true → (s.chan c).pulled.get 0 n ≠ 0 →
          effect (.refDue c pc ply false) s (s.setAhead c n ((s.chan c).pulled.get 0 n - 1))) ∧
        (s.inReset c = false → (s.chan c).busyPly pc ply = true → (s.chan c).pulled.get 0 n = 0 →
          (s.chan c).postponed.get 0 n < 8 →
          effect (.refDue c pc ply false) s (s.setDebt c n ((s.chan c).postponed.get 0 n + 1))) ∧
        (s.inReset c = false → (s.chan c).busyPly pc ply = true → (s.chan c).pulled.get 0 n = 0 →
          8 ≤ (s.chan c).postponed.get 0 n → effect (.refDue c pc ply false) s (s.refresh c pc ply 1)) ∧
        (s.inReset c = false → (s.chan c).busyPly pc ply = false → (s.chan c).pulled.get 0 n < 8 →
          ∃ u : State, effect (.refDue c pc ply false) s u ∧ (u.chan c).postponed.get 0 n = 0 ∧
            (u.chan c).pulled.get 0 n = (s.chan c).pulled.get 0 n + 1 ∧
            (u.chan c).pointer.get 0 n = ((s.chan c).pointer.get 0 n + (s.chan c).postponed.get 0 n + 2) % 8208 ∧
            u.mem = s.mem ∧ u.regs = (s.put R.CHN.STATUS.REF_FAST (s.chan c).fast c).regs) ∧
        (s.inReset c = false → (s.chan c).busyPly pc ply = false → 8 ≤ (s.chan c).pulled.get 0 n →
          ∃ u : State, effect (.refDue c pc ply false) s u ∧ (u.chan c).postponed.get 0 n = 0 ∧
            (u.chan c).pulled.get 0 n = (s.chan c).pulled.get 0 n ∧
            (u.chan c).pointer.get 0 n = ((s.chan c).pointer.get 0 n + (s.chan c).postponed.get 0 n + 1) % 8208 ∧
            u.mem = s.mem ∧ u.regs = (s.put R.CHN.STATUS.REF_FAST (s.chan c).fast c).regs))) ∧
    (∃ u : State, effect .rhWindowBoundary s u ∧ u.mem = s.mem ∧ u.regs = s.regs ∧ u.pmc = s.pmc ∧ u.out = s.out ∧
      (u.chan c).tables = {} ∧ (u.chan c).thresh = s.rd R.CHN.CTRL.RH_THRESH c ∧ (u.chan c).waiting = (s.chan c).waiting ∧
      (u.chan c).admitted = (s.chan c).admitted ∧ (u.chan c).openRow = (s.chan c).openRow)

/-- CA parity errors, the error log, the leaky buckets, the scrubber, and on-die memories (R47, R357, R358, R366, R369,
R370-R373). -/
def Obligations.ErrorCommands : Prop :=
  ∀ (s : State) (c : Fin 32), s.awake = true →
    (∀ (pc : Fin 2) (r : CaReport),
      (s.tornPc (2 * c.val + pc.val) = true ∨ s.mode = modeHold → effect (.caParityError c pc r) s s) ∧
      (s.tornPc (2 * c.val + pc.val) = false → s.mode ≠ modeHold → r.failures < 3 →
        effect (.caParityError c pc r) s ((s.countChan c 9).calUrgent c pc [36, 37, 38, 39, 40])) ∧
      (s.tornPc (2 * c.val + pc.val) = false → s.mode ≠ modeHold → 3 ≤ r.failures →
        (((s.countChan c 9).calUrgent c pc [36, 37, 38, 39, 40]).onStack r.line.toNat = true →
          effect (.caParityError c pc r) s (((s.countChan c 9).calUrgent c pc [36, 37, 38, 39, 40]).commandFailed r)) ∧
        (((s.countChan c 9).calUrgent c pc [36, 37, 38, 39, 40]).onStack r.line.toNat = false →
          effect (.caParityError c pc r) s ((s.countChan c 9).calUrgent c pc [36, 37, 38, 39, 40])))) ∧
    (∀ path : Path, s.pathOk path = true → effect (.errlogPop c path) s
      ((s.setChan c { s.chan c with log := (s.chan c).log.drop 1 }).respond path (0x10068 + c.val * 0x800) 0)) ∧
    (∃ u : State, effect .bucketLeak s u ∧
      u.rd R.ECC.BUCKET.LEVEL c = min (s.rd R.ECC.BUCKET.LEVEL c - 1) (s.rd R.ECC.CFG.DEPTH) ∧
      (min (s.rd R.ECC.BUCKET.LEVEL c - 1) (s.rd R.ECC.CFG.DEPTH) ≤ s.rd R.ECC.CFG.REARM →
        u.rdBit R.ECC.BUCKET_OVF.ARMED c = true) ∧
      (s.rd R.ECC.CFG.REARM < min (s.rd R.ECC.BUCKET.LEVEL c - 1) (s.rd R.ECC.CFG.DEPTH) →
        u.rdBit R.ECC.BUCKET_OVF.ARMED c = s.rdBit R.ECC.BUCKET_OVF.ARMED c) ∧
      u.mem = s.mem ∧ u.pmc = s.pmc ∧ u.out = s.out ∧ u.due = s.due) ∧
    (∀ noise : ReadNoise,
      (s.scrubbing = false → effect (.scrubReadDone c noise) s s) ∧
      (s.idleFor c 65 = false ∨ s.scrubNext c = none ∨ s.scrub.grant ≤ s.scrub.taken.get 0 c → effect (.scrubReadDone c noise) s s) ∧
      (∀ pc row sg aim wrap, s.scrubbing = true → s.idleFor c 65 = true → s.scrub.taken.get 0 c < s.scrub.grant →
        s.scrubNext c = some (pc, row, sg, aim, wrap) →
        effect (.scrubReadDone c noise) s (s.scrubRead c noise))) ∧
    (s.scrub.lapStart = none ∨ s.scrub.warned = true → effect .scrubLapWarn s s) ∧
    (∀ t, s.scrub.lapStart = some t → s.scrub.warned = false →
      effect .scrubLapWarn s (({ s with scrub := { s.scrub with warned := true } } : State).raise Src.scrubSlow)) ∧
    (∀ n, effect (.sramWalk ⟨n, []⟩) s (s.bump R.ECC.SRAM.CORRECTED 0 n)) ∧
    (∀ n bad, effect (.sramWalk ⟨n, bad⟩) s (bad.foldl State.sramBad (s.bump R.ECC.SRAM.CORRECTED 0 n))) ∧
    (∀ n k, ∃ u : State, effect (.sramWalk ⟨n, [.mapLine k]⟩) s u ∧
      u.rd R.ECC.SRAM.UNCORR = min (s.rd R.ECC.SRAM.UNCORR + 1) R.ECC.SRAM.UNCORR.max ∧ u.sticky Src.sramUc = true ∧
      u.mem.mapCache.contains k.toNat = false ∧ u.mem.map = s.mem.map) ∧
    (∀ m : ThimbleMem, ∃ u : State, effect (.thimbleFetchUc m) s u ∧
      u.rd R.ECC.SRAM.UNCORR = min (s.rd R.ECC.SRAM.UNCORR + 1) R.ECC.SRAM.UNCORR.max ∧
      u.rd R.ECC.SRAM.THIMBLE_TRAPS = min (s.rd R.ECC.SRAM.THIMBLE_TRAPS + 1) R.ECC.SRAM.THIMBLE_TRAPS.max ∧
      u.thimble.traps = s.thimble.traps + 1 ∧ u.sticky Src.thimbleFetchUc = true ∧ u.mem = s.mem)

/-- Epochs, moves, restitches, rebuilt metadata and S32 generations (R227, R231, R243, R248-R251, R256, R257). -/
def Obligations.PlacementCommands : Prop :=
  ∀ s : State, s.awake = true →
    (s.running = false ∨ s.leaving = true → effect .epochStart s s) ∧
    (s.running = true → s.leaving = false → effect .epochStart s s.epoch) ∧
    (s.moveBudget = 0 → s.epoch.mem.moves = s.mem.moves ∧ s.epoch.mem.map = s.mem.map ∧
      s.epoch.mem.epochs = s.mem.epochs + 1 ∧ s.epoch.mem.heat = s.mem.heat.map Heat.halve) ∧
    (∀ sw : BitVec 24,
      (∀ noise, s.running = false → effect (.moveCopyDone ⟨sw, noise⟩) s s) ∧
      (∀ noise, s.running = true → s.moveOf sw.toNat = none →
        effect (.moveCopyDone ⟨sw, noise⟩) s { s with lng := { s.lng with noise := [] } }) ∧
      (∀ noise, s.running = true →
        effect (.moveCopyDone ⟨sw, noise⟩) s (s.noisy noise (fun s => s.moveCopied sw.toNat))) ∧
      (s.mem.moves.find? (fun m => m.swatch == sw.toNat && m.flipped) = none → effect (.oldFrameFree sw) s s) ∧
      (∀ m, s.mem.moves.find? (fun m => m.swatch == sw.toNat && m.flipped) = some m →
        (s.lng.fills.any (fun l => l / 256 == sw.toNat) = true → effect (.oldFrameFree sw) s s) ∧
        (s.lng.fills.any (fun l => l / 256 == sw.toNat) = false →
          effect (.oldFrameFree sw) s ((s.setMoves (s.mem.moves.erase m)).freeFrame m.oldCls m.oldFrame)))) ∧
    (∀ m : Move, (s.flip m).mapOf m.swatch = mapEntry m.newCls 0 m.newFrame ∧ (s.flip m).mem.cells = s.mem.cells ∧
      (s.flip m).lng = s.lng) ∧
    (s.rd R.PLC.RESTITCH_STATUS.STATE ≠ 1 → effect .restitchEnd s s) ∧
    (s.rd R.PLC.RESTITCH_STATUS.STATE = 1 → s.restitchTorn = [] → s.mem.zeroMode = true ∨ s.mem.partner = none →
      ∃ u : State, effect .restitchEnd s u ∧ u.rd R.PLC.RESTITCH_STATUS.STATE = 2 ∧ u.rd R.PLC.RESTITCH_STATUS.STATUS = 0 ∧
        u.mem.cells = s.mem.cells ∧ u.mem.map = s.mem.map) ∧
    (s.rd R.PLC.RESTITCH_STATUS.STATE = 1 → s.mem.zeroMode = true →
      ∃ u : State, effect .restitchEnd s u ∧
        ((u.rd R.PLC.RESTITCH_STATUS.STATE = 2 ∧ u.rd R.PLC.RESTITCH_STATUS.STATUS = 0) ∨
          (u.rd R.PLC.RESTITCH_STATUS.STATE = 3 ∧ u.rd R.PLC.RESTITCH_STATUS.STATUS = stAdmission))) ∧
    (s.rd R.PLC.RESTITCH_STATUS.STATE = 1 → s.mem.zeroMode = false → s.mem.partner.isSome = true →
      effect .restitchEnd s s) ∧
    (∀ (v : BitVec 64) (path : Path), s.pathOk path = true → part v.toNat R.PLC.RESTITCH.GO = 1 →
      (s.rd R.PLC.RESTITCH_STATUS.STATE = 1 ∨ s.running = false →
        effect (.restitchGo v path) s (s.respond path 0x8100 stDenied)) ∧
      (s.rd R.PLC.RESTITCH_STATUS.STATE ≠ 1 → s.running = true → part v.toNat R.PLC.RESTITCH.COUNT = 0 →
        effect (.restitchGo v path) s (s.respond path 0x8100 stMalformed))) ∧
    effect .metadataRebuilt s { s with mem := { s.mem with rebuilding := s.mem.rebuilding.drop 1 } } ∧
    (s.mem.s32Due = false → effect .s32GenerationFormed s s) ∧
    (s.mem.s32Due = true → effect .s32GenerationFormed s s.formGeneration) ∧
    (∀ e, (List.range 8).find? (fun e => !s.on R.PLC.S32_GEN.VALID e) = some e →
      s.formGeneration.rd R.PLC.S32_GEN.CURRENT e = 1 ∧ s.formGeneration.rd R.PLC.S32_GEN.VALID e = 1 ∧
      s.formGeneration.rd R.PLC.STATUS.S32_GEN = e ∧ s.formGeneration.mem.s32Due = false ∧
      s.formGeneration.mem.groups = s.mem.groups)

/-- Regulation windows, aging, guarantees and credit (R285, R289, R290, R294, R400, R402, R406). -/
def Obligations.RegulationCommands : Prop :=
  ∀ s : State, s.awake = true →
    (∃ u : State, effect .windowBoundary s u ∧ u.reg.served = {} ∧ u.reg.excluded = false) ∧
    (∀ m, s.missed m = (s.rd R.QOS.MASTER_STAT.EFF_GUAR m != 0 &&
      decide (s.rd R.QOS.MASTER_STAT.EFF_GUAR m ≤ min (s.reg.served.get 0 m + s.demandLeft m) (2 ^ 32 - 1)) &&
      decide (s.reg.served.get 0 m < 9 * s.rd R.QOS.MASTER_STAT.EFF_GUAR m / 10))) ∧
    (∀ (c : Fin 32) (m : Fin 80),
      ((s.chan c).waiting.findIdx? (fun k => k.master == m.val && k.cls == 2) = none → effect (.demotedSlotAged c m) s s) ∧
      (m.val = 65 → effect (.demotedSlotAged c m) s s) ∧
      (∀ n, (s.chan c).waiting.findIdx? (fun k => k.master == m.val && k.cls == 2) = some n → m.val ≠ 65 →
        effect (.demotedSlotAged c m) s (((s.setChan c { s.chan c with waiting := (s.chan c).waiting.modify n (fun k => { k with cls := 1 }) }).bump
          R.QOS.MASTER_CNT.AGED m).count 131))) ∧
    (∀ (v : BitVec 64) (path : Path) (m : Nat), m = s.rd R.QOS.MASTER_SEL.INDEX → s.pathOk path = true → m < 71 →
      part v.toNat R.QOS.MASTER.BUDGET ≠ 0 → part v.toNat R.QOS.MASTER.GUAR ≤ 850 →
      (s.rd R.QOS.MASTER.GUAR m < part v.toNat R.QOS.MASTER.GUAR →
        850 < s.guarSum - s.rd R.QOS.MASTER.GUAR m + part v.toNat R.QOS.MASTER.GUAR →
        effect (.guaranteeWrite v path) s (s.respond path 0xC108 stAdmission)) ∧
      (part v.toNat R.QOS.MASTER.GUAR ≤ s.rd R.QOS.MASTER.GUAR m ∨
          s.guarSum - s.rd R.QOS.MASTER.GUAR m + part v.toNat R.QOS.MASTER.GUAR ≤ 850 →
        ∃ u : State, effect (.guaranteeWrite v path) s (u.respond path 0xC108 0) ∧
          u.rd R.QOS.MASTER.GUAR m = part v.toNat R.QOS.MASTER.GUAR ∧
          u.rd R.QOS.MASTER.BUDGET m = part v.toNat R.QOS.MASTER.BUDGET ∧ u.mem = s.mem ∧
          (∀ j, j ≠ m → u.rd R.QOS.MASTER.GUAR j = s.rd R.QOS.MASTER.GUAR j))) ∧
    (s.mode = modeHold → effect .creditPeriod s { s with hem := { s.hem with spent := 0 } }) ∧
    (s.mode ≠ modeHold → ∃ (u : State) (cap : Option Nat), effect .creditPeriod s u ∧ u.hem.spent = 0 ∧
      u.regs = s.regs ∧ u.mem = s.mem ∧
      (s.on R.HEM.STATUS.BURST = false → cap = some (10 * s.rd R.HEM.STATUS.SUST_EFF)) ∧
      (s.on R.HEM.STATUS.BURST = true → s.periodPower ≤ s.hem.burstW * 1000000 → cap = none) ∧
      (s.on R.HEM.STATUS.BURST = true → s.hem.burstW * 1000000 < s.periodPower →
        cap = some (s.hem.issued * (s.hem.burstW * 1000000) / s.periodPower)) ∧
      (∀ c : Fin 32, (u.chan c).credit =
        s.cappedCredit cap ((List.range 32).foldl (fun n c => n + s.cellCredit c) 0) c ∧
        (s.share c = 0 → (u.chan c).credit = 0) ∧ (s.share c ≠ 0 → (u.chan c).credit ≠ 0)))

/-- The counter dumper (R307-R311). -/
def Obligations.DumpCommands : Prop :=
  ∀ s : State, s.awake = true →
    (s.on R.PMC.CTRL.DUMP_EN = false → effect .dumpLatch s s) ∧
    (s.on R.PMC.CTRL.DUMP_EN = true → s.running = false ∨ s.dump.busy = true →
      ∃ u : State, effect .dumpLatch s u ∧ u.dump.skips = s.dump.skips + 1 ∧ u.mem = s.mem ∧ u.dump.cnt = s.dump.cnt ∧
        u.rd R.PMC.DUMP.SKIPPED = min (s.rd R.PMC.DUMP.SKIPPED + 1) R.PMC.DUMP.SKIPPED.max) ∧
    (s.on R.PMC.CTRL.DUMP_EN = true → s.running = true → s.dump.busy = false → effect .dumpLatch s s.dumpTake) ∧
    (s.dump.busy = false ∨ s.mode = modeHold ∨ s.dumpWaits true = true → effect .dumpRecordDone s s) ∧
    (s.dump.busy = true → s.mode ≠ modeHold → s.dumpWaits true = false →
      ∃ u : State, effect .dumpRecordDone s u ∧ u.dump.busy = false ∧ u.rd R.PMC.DUMP.BUSY = 0 ∧
        u.dump.seq = s.dump.seq + 1 ∧ u.rd R.PMC.DUMP.SEQ = (s.dump.seq + 1) % 2 ^ 32) ∧
    (∀ d : Dump, d.body.length = 8176) ∧
    (∀ q, 0xFFFF000000 ≤ dumpSlot (slotOfSeq q) ∧ dumpSlot (slotOfSeq q) + 8192 ≤ 2 ^ 40)

/-- Key slots are loaded and cleared (R312-R316). -/
def Obligations.KeySlotCommands : Prop :=
  ∀ (s : State) (v : BitVec 64) (path : Path) (k : Nat), s.awake = true → s.pathOk path = true →
    s.rd R.TCK.STATUS.ROLE = 0 → k = s.rd R.PRT.KEY_SEL.SLOT →
    (part v.toNat R.PRT.KEY_CTRL.CMD = 1 →
      (s.noLoad = true → effect (.keyLoad v path) s ((s.respond path 0xD060 stUnsupported).clearWrap)) ∧
      (s.noLoad = false → keyless k = true → effect (.keyLoad v path) s ((s.respond path 0xD060 stMalformed).clearWrap)) ∧
      (s.noLoad = false → keyless k = false → s.on R.PRT.KEY_CTRL.STATE k = true →
        effect (.keyLoad v path) s ((s.respond path 0xD060 stDenied).clearWrap)) ∧
      (s.noLoad = false → keyless k = false → s.on R.PRT.KEY_CTRL.STATE k = false →
        keyUnwrap (s.per.kek.getD []) s.keyBlob = none →
        effect (.keyLoad v path) s (((s.bump R.PRT.TREE_STAT.UNWRAP_FAILS).respond path 0xD060 stMalformed).clearWrap)) ∧
      (∀ plain, s.noLoad = false → keyless k = false → s.on R.PRT.KEY_CTRL.STATE k = false →
        keyUnwrap (s.per.kek.getD []) s.keyBlob = some plain →
        ∃ u : State, effect (.keyLoad v path) s ((u.respond path 0xD060 0).clearWrap) ∧
          u.rd R.PRT.KEY_CTRL.STATE k = 1 ∧ u.rd R.PRT.KEY_USE.COUNT k = 0 ∧
          u.guard.keys.find k = some (keySlotOf (plain.take 32) (plain.drop 32)
            (leBytes 16 (Config.draw s.freeCtr).toNat)) ∧
          u.guard.keys2.find k = u.guard.keys.find k ∧ u.freeCtr = s.freeCtr + 1 ∧ u.mem = s.mem)) ∧
    (part v.toNat R.PRT.KEY_CTRL.CMD = 2 →
      (keyless k = true → effect (.keyClear v path) s (s.respond path 0xD060 stMalformed)) ∧
      (keyless k = false → s.keyBolts k ≠ [] ∨ s.rd R.PRT.KEY_CTRL.STATE k = 2 →
        effect (.keyClear v path) s (s.respond path 0xD060 stDenied)) ∧
      (keyless k = false → s.keyBolts k = [] → s.rd R.PRT.KEY_CTRL.STATE k ≠ 2 →
        ∃ u : State, effect (.keyClear v path) s (u.respond path 0xD060 0) ∧ u.guard.keys.find k = none ∧
          u.guard.keys2.find k = none ∧
          u.rd R.PRT.KEY_CTRL.STATE k = 0 ∧ u.rd R.PRT.KEY_CTRL.KCV k = 0 ∧ u.mem = s.mem ∧
          (∀ j, j ≠ k → u.guard.keys.find j = s.guard.keys.find j)))

/-- Rekeys start and end (R331, R332). -/
def Obligations.RekeyCommands : Prop :=
  ∀ s : State, s.awake = true →
    (∀ (v : BitVec 64) (path : Path) (k k' : Nat), s.pathOk path = true → s.rd R.TCK.STATUS.ROLE = 0 →
      part v.toNat R.PRT.REKEY.GO = 1 → k = part v.toNat R.PRT.REKEY.TARGET → k' = part v.toNat R.PRT.REKEY.STAGING →
      (s.rekeyOn = true → s.chgAny v.toNat 0 [R.PRT.REKEY.TARGET, R.PRT.REKEY.STAGING] = true →
        effect (.rekeyGo v path) s (s.respond path 0xD078 stDenied)) ∧
      (s.rekeyOn = false → keyless k = true ∨ keyless k' = true ∨ k = k' ∨ s.rd R.PRT.KEY_CTRL.STATE k' ≠ 1 →
        effect (.rekeyGo v path) s (s.respond path 0xD078 stMalformed)) ∧
      (s.rekeyOn = false → keyless k = false → keyless k' = false → k ≠ k' → s.rd R.PRT.KEY_CTRL.STATE k' = 1 →
        s.keyBolts k' = [] → (s.keyBolts k).any (fun b => s.boltMode b != 0) = true →
        (s.keyBolts k).any (fun b => s.rd R.BLT.BOLT_ATTR.STATE b == 1 || s.rd R.BLT.BOLT_ATTR.STATE b == 5) = false →
        ∃ u : State, effect (.rekeyGo v path) s (u.respond path 0xD078 0) ∧ u.rd R.PRT.REKEY.STATE = 1 ∧
          u.rd R.PRT.KEY_CTRL.STATE k' = 2 ∧ u.rd R.PRT.REKEY_PROG.DONE = 0 ∧ u.mem = s.mem ∧
          (∀ b ∈ s.keyBolts k, s.boltMode b ≠ 0 → u.rd R.BLT.BOLT_ATTR.STATE b = 4))) ∧
    (s.rekeyOn = false ∨ s.running = false ∨ s.guard.rekeyPaused = true → effect .rekeyConversionDone s s) ∧
    (s.rekeyOn = true → s.running = true → s.guard.rekeyPaused = false →
      (((s.keyBolts (s.rd R.PRT.REKEY.TARGET)).filter (fun b => s.rd R.BLT.BOLT_ATTR.STATE b == 4)).all (s.masterOwns 69) =
          true → ∃ u : State, effect .rekeyConversionDone s u ∧ u.rd R.PRT.REKEY.STATE = 2) ∧
      (((s.keyBolts (s.rd R.PRT.REKEY.TARGET)).filter (fun b => s.rd R.BLT.BOLT_ATTR.STATE b == 4)).all (s.masterOwns 69) =
          false → effect .rekeyConversionDone s s.countMaster))

/-- Entry to scan clears every secret first (R341), and JTAG's debug accesses (R338). -/
def Obligations.ScanAndDebugCommands : Prop :=
  ∀ s : State, s.awake = true →
    (∀ rs, s.mode ≠ modeMaint ∨ s.pins.trstN.seen = false → effect (.scanEnter rs) s s) ∧
    (∀ rs, s.mode = modeMaint → s.pins.trstN.seen = true →
      (rs.all id = true → effect (.scanEnter rs) s (s.scanClear.wr R.MOD.STATUS.SCAN 1)) ∧
      (rs.all id = false → effect (.scanEnter rs) s (s.scanClear.raise Src.scanClearFail))) ∧
    (s.scanClear.per.secret = none ∧ s.scanClear.per.kek = none ∧ s.scanClear.lng = {} ∧ s.scanClear.qps = {} ∧
      s.scanClear.guard.cache = [] ∧ s.scanClear.thimble.sram = .cleared ∧ (∀ r, (s.scanClear.ring r).descs = []) ∧
      s.scanClear.per.otp = s.per.otp ∧ s.scanClear.per.pat = s.per.pat ∧
      s.scanClear.mem = s.mem) ∧
    (∀ a : DebugAccess,
      (s.running = false → s.mode ≠ modeMaint → effect (.jtagDebugAccess a) s s) ∧
      (s.pins.trstN.seen = false ∨ s.on R.MOD.STATUS.SCAN = true → effect (.jtagDebugAccess a) s s) ∧
      (s.running = true ∨ s.mode = modeMaint → s.pins.trstN.seen = true → s.on R.MOD.STATUS.SCAN = false →
        (∀ st b, s.debugCheck a = (st, b) → st ≠ 0 →
          effect (.jtagDebugAccess a) s (s.countMaster.emit (.debug st []))) ∧
        (∀ b, s.debugCheck a = (0, b) → s.debugWaits a = true →
          effect (.jtagDebugAccess a) s { s with lng := { s.lng with debugs := s.lng.debugs ++ [a] } }) ∧
        (∀ b, s.debugCheck a = (0, b) → s.debugWaits a = false → a.write = true →
          effect (.jtagDebugAccess a) s ((s.writeRange 68 b (faOffset a.va.toNat) a.data).1.emit
            (.debug (s.writeRange 68 b (faOffset a.va.toNat) a.data).2.1 []))) ∧
        (∀ b, s.debugCheck a = (0, b) → s.debugWaits a = false → a.write = false →
          effect (.jtagDebugAccess a) s ((s.readRange 68 b (faOffset a.va.toNat) a.len).1.emit
            (.debug (s.readRange 68 b (faOffset a.va.toNat) a.len).2.1
              (if (s.readRange 68 b (faOffset a.va.toNat) a.len).2.1 = 0
                then (s.readRange 68 b (faOffset a.va.toNat) a.len).2.2 else []))))) ∧
      (∀ b, s.debugCheck a = (0, b) → s.masterMay 68 (if a.write then 1 else 0) b = true ∧
        faKey a.va.toNat = s.rd R.BLT.BOLT_ATTR.KEY_ID b ∧ s.stateServes b a.write = 0 ∧ (b = 0 → a.write = false)) ∧
      (faInside a.va.toNat (if a.write then a.data.length else a.len) = false → (s.debugCheck a).1 = stBadAddress) ∧
      (∀ b, faInside a.va.toNat (if a.write then a.data.length else a.len) = true → faKey a.va.toNat < 0xFFE →
        s.boltAt (faOffset a.va.toNat / 65536) = some b → b ≠ 0 → s.masterMay 68 (if a.write then 1 else 0) b = true →
        faOffset a.va.toNat + (if a.write then a.data.length else a.len) ≤
          (s.rd R.BLT.BOLT_BASE.BASE_SW b + s.rd R.BLT.BOLT_BASE.LEN_SW b) * 65536 →
        (faKey a.va.toNat ≠ s.rd R.BLT.BOLT_ATTR.KEY_ID b → (s.debugCheck a).1 = stKeyMismatch) ∧
        (faKey a.va.toNat = s.rd R.BLT.BOLT_ATTR.KEY_ID b →
          s.debugCheck a = (s.stateServes b a.write, b) ∧
          (a.write = true → s.rd R.BLT.BOLT_ATTR.STATE b = 3 → (s.debugCheck a).1 = stKeyExhausted))))

/-- Operating-point waves and narrow-mode windows (R55, R354-R356). -/
def Obligations.WaveCommands : Prop :=
  ∀ s : State, s.awake = true →
    (∀ t, s.waves.now = some t → effect .waveStart s s) ∧
    (s.waves.next = [] → effect .waveStart s s) ∧
    (∀ t rest, s.waves.now = none → s.waves.next = t :: rest →
      ((tierChannels t).any (fun c => (s.narrowOf c).window) = true → effect .waveStart s s) ∧
      ((tierChannels t).any (fun c => (s.narrowOf c).window) = false →
        ∃ u : State, effect .waveStart s u ∧ u.waves.now = some t ∧ u.waves.next = rest ∧
          u.waves.nowPoint = s.waves.target ∧ u.mem = s.mem ∧
          (t < 4 → ∀ c ∈ tierChannels t, u.rd R.CHN.STATUS.IN_WINDOW c = 1))) ∧
    (s.waves.now = none → effect .waveEnd s s) ∧
    (∀ t, s.waves.now = some t → ∃ u : State, effect .waveEnd s u ∧ u.waves.now = none) ∧
    (∀ t, s.waves.now = some t → t < 4 → (∀ c ∈ tierChannels t, (s.narrowOf c).due = false) →
      ∃ u : State, effect .waveEnd s u ∧ u.waves.now = none ∧ u.waves.next = s.waves.next ∧ u.mem = s.mem ∧
        (∀ c ∈ tierChannels t, u.rd R.CHN.STATUS.IN_WINDOW c = 0 ∧
          u.rd R.CHN.STATUS.POINT c = s.waves.nowPoint % 2 ^ R.CHN.STATUS.POINT.width)) ∧
    (∀ c : Fin 32,
      ((s.narrowOf c).window = false → effect (.narrowWindowEnd c) s s) ∧
      ((s.narrowOf c).window = true →
        ∃ u : State, effect (.narrowWindowEnd c) s u ∧ (u.narrowOf c).window = false ∧
          u.rd R.CHN.STATUS.IN_WINDOW c = 0 ∧ u.reg.excluded = true ∧
          ((s.narrowOf c).due = false → u.mem = s.mem)))

/-- Housekeeping rounds and calibration (R377-R384, R388, R394, 14 R352). -/
def Obligations.RoundAndSweepCommands : Prop :=
  ∀ s : State, s.awake = true →
    (∀ r : RoundReadings, effect (.housekeepingRound r) s ((s.houseRound r).pumpAll)) ∧
    (∀ (was : Bool) (set clear : Nat), clear < set →
      (4 * (set : Int) ≤ hottest s.hem.gov → s.threshold was set clear = true) ∧
      (hottest s.hem.gov ≤ 4 * (clear : Int) → s.threshold was set clear = false) ∧
      (4 * (clear : Int) < hottest s.hem.gov → hottest s.hem.gov < 4 * (set : Int) → s.threshold was set clear = was)) ∧
    (∀ c : Fin 32,
      (s.maySweep c = false → effect (.sweepStart c) s s) ∧
      (s.rd R.CAL.STATUS.STATE c ≠ 0 → s.rd R.CAL.STATUS.STATE c ≠ 2 → effect (.sweepStart c) s s) ∧
      (∀ i, s.maySweep c = true → s.rd R.CAL.STATUS.STATE c = 0 ∨ s.rd R.CAL.STATUS.STATE c = 2 →
        (s.cal.urgent.get [] c).find? (s.itemLive c) = some i →
        ∃ u : State, effect (.sweepStart c) s u ∧ u.rd R.CAL.STATUS.STATE c = 1 ∧ u.cal.now.find c = some (true, i) ∧
          u.mem = s.mem ∧ u.per = s.per) ∧
      (s.rd R.CAL.STATUS.STATE c ≠ 2 → effect (.calDeferTimeout c) s s) ∧
      (s.rd R.CAL.STATUS.STATE c = 2 →
        effect (.calDeferTimeout c) s (((({ s with cal := { s.cal with forced := s.cal.forced ++ [c.val] } } : State).bump
          R.CAL.STAT.DEFERRALS).raise Src.calDeferred).sweepStart c)) ∧
      (∀ r, s.cal.now.find c = none → effect (.sweepComplete c r) s s) ∧
      (∀ r x, s.cal.now.find c = some x → s.rd R.CAL.STATUS.STATE c ≠ 1 → effect (.sweepComplete c r) s s) ∧
      (∀ r b n, s.cal.now.find c = some (b, n) → s.rd R.CAL.STATUS.STATE c = 1 → s.cal.swept.find c = none → s.sweepReady c = true → n.kind ≠ 1 →
        s.runsOk c n.lane r = true →
        (s.on R.CAL.STATUS.ROTATING c = true →
          effect (.sweepComplete c r) s { s.fillBursts c r.acts with
            cal := { (s.fillBursts c r.acts).cal with swept := (s.fillBursts c r.acts).cal.swept.put c r } }) ∧
        (s.on R.CAL.STATUS.ROTATING c = false →
          effect (.sweepComplete c r) s (((s.fillBursts c r.acts).commitLane c n.pc n.lane r).endSweep c r.fill))) ∧
      (∀ r b n, s.cal.now.find c = some (b, n) → s.rd R.CAL.STATUS.STATE c = 1 → s.cal.swept.find c = none → s.sweepReady c = true →
        n.kind = 1 → effect (.sweepComplete c r) s ((s.fillBursts c r.acts).endPly c n.pc n.ply r)) ∧
      (∀ r, s.sweepReady c = false → effect (.sweepComplete c r) s s) ∧
      (∀ k, s.cal.taking.find c = some k → s.sweepReady c = false) ∧
      (∀ b n, s.cal.now.find c = some (b, n) → n.kind ≠ 0 → s.on R.CAL.STATUS.ROTATING c = false → s.cal.held.get 0 c = 0 →
        s.sweepReady c = false) ∧
      (∀ (pc : Fin 2) (ply : Fin 4), s.wantsInterval c pc ply = true → s.cal.lastHeld.find (2 * c.val + pc.val) = none →
        (s.heldInterval c pc ply).cal.held.get 0 c = s.cal.held.get 0 c + 1 ∧ (s.heldInterval c pc ply).sweepReady c = true ∧
        (s.refresh c pc ply 1).cal = s.cal) ∧
      (∀ a : FillActs, a.channel.val / 8 = c.val / 8 → a.channel.val ≠ c.val →
        s.tornPc (2 * a.channel.val + a.bank.val / 64) = false →
        ((s.fillBursts c [a]).chan a.channel).tables.get [] a.bank =
          (rowTrace (s.repairsOf a.channel (a.bank.val / 64) (a.bank.val / 16 % 4) (a.bank.val % 16)) (s.chan a.channel).thresh
            ((s.chan a.channel).tables.get [] a.bank)
            (List.replicate a.count (s.physRow a.channel (a.bank.val / 64) (a.bank.val / 16 % 4) (a.bank.val % 16) 32767))).table) ∧
      (∀ r b n, s.cal.now.find c = some (b, n) → s.rd R.CAL.STATUS.STATE c = 1 → s.cal.swept.find c = none → s.sweepReady c = true → n.kind ≠ 1 →
        s.runsOk c n.lane r = false → effect (.sweepComplete c r) s ((s.fillBursts c r.acts).sweepFail c n r.fill)) ∧
      (∀ pc : Fin 2, (∀ k ∈ s.cal.repairs, k.channel = c.val → k.pc ≠ pc.val) → (s.takeRepairs c pc).regs = s.regs ∧
        (s.takeRepairs c pc).per = s.per ∧ (s.takeRepairs c pc).cal = s.cal) ∧
      (∀ (pc : Fin 2) (k n : Nat), s.cal.repairs = [⟨c, k, pc, n⟩] → k < 8 → n < 64 →
        s.patFrozen (3 * c.val) = true ∨ s.per.patShadow.find (3 * c.val) = none →
        (s.takeRepairs c pc).cal.repairs = [] ∧ (s.takeRepairs c pc).svLane c k = some (pc.val, n) ∧
        (s.takeRepairs c pc).sticky Src.laneRepaired = true) ∧
      (∀ (pc : Fin 2) (t : State), t = s.takeRepairs c pc →
        (t.cal.now.find c = none ∨ (t.cal.swept.find c = none ∧ t.cal.taking.find c = none) → effect (.laneRotationPoint c pc) s t) ∧
        (∀ b n k, t.cal.now.find c = some (b, n) → n.pc = pc.val → t.cal.taking.find c = some k →
          ∃ u : State, effect (.laneRotationPoint c pc) s u ∧ u.rd R.CAL.STATUS.ROTATING c = 1 ∧ u.rd R.CAL.STATUS.SV c = k % 8 ∧
            u.cal.taking.find c = none ∧ u.cal.trims = t.cal.trims ∧ u.per = t.per) ∧
        (∀ b n r, t.cal.now.find c = some (b, n) → t.cal.swept.find c = some r → t.cal.taking.find c = none →
          (n.pc ≠ pc.val → effect (.laneRotationPoint c pc) s t) ∧
          (n.pc = pc.val → effect (.laneRotationPoint c pc) s
            ((((t.commitLane c pc n.lane r).countChan c 10).bump R.CAL.STAT.ROTATIONS).endSweep c r.fill)))))

/-- The Tack link from a first TRAIN to the link-up and down again (R416-R419). -/
def Obligations.TackLinkCommands : Prop :=
  ∀ s : State, s.awake = true →
    (s.tackReady = false ∨ s.on R.TCK.STATUS.LINK = true ∨ s.tack.attempt = true → effect .tackBringupStart s s) ∧
    (s.tackReady = true → s.on R.TCK.STATUS.LINK = false → s.tack.attempt = false →
      ∃ u : State, effect .tackBringupStart s u ∧ u.tack.attempt = true ∧ u.tack.waiting = false ∧ u.tack.aligned = [] ∧
        u.tack.peerTrain = none ∧ u.regs = s.regs ∧ u.mem = s.mem ∧
        u.out = s.out ++ [.tack (.train false (s.on R.TCK.CFG.HALF_EN) s.tackFailed)]) ∧
    (s.tack.attempt = false → effect .tackBringupTimeout s s) ∧
    (s.tack.attempt = true →
      ∃ u : State, effect .tackBringupTimeout s u ∧ u.tack.attempt = false ∧ u.tack.waiting = true ∧
        u.sticky Src.tackLinkDown = true ∧ u.mem = s.mem) ∧
    (∀ v : BitVec 64,
      (part v.toNat R.TCK.ALIGN.START = 0 → effect (.alignStart v) s (s.take R.TCK.ALIGN.LANE v.toNat)) ∧
      (part v.toNat R.TCK.ALIGN.START = 1 →
        ∃ u : State, effect (.alignStart v) s u ∧ u.tack.counting = some (part v.toNat R.TCK.ALIGN.LANE) ∧
          u.rd R.TCK.ALIGN.DONE = 0 ∧ u.rd R.TCK.ALIGN.MATCH = 0 ∧
          u.tack.tries.get 0 (part v.toNat R.TCK.ALIGN.LANE) = s.tack.tries.get 0 (part v.toNat R.TCK.ALIGN.LANE) + 1)) ∧
    (∀ (n : Fin 8) (m : Nat),
      (s.tack.counting ≠ some n.val → effect (.alignCountDone n m) s s) ∧
      (s.tack.counting = some n.val → effect (.alignCountDone n m) s (s.alignCounted n m)) ∧
      (s.tack.attempt = true → m < 1000 → s.tack.tries.get 0 n < 64 →
        (s.alignCounted n m).rd R.TCK.ALIGN.MATCH = min m 1024 ∧ (s.alignCounted n m).rd R.TCK.ALIGN.DONE = 1 ∧
        (s.alignCounted n m).tack.aligned = s.tack.aligned ∧ (s.alignCounted n m).out = s.out)) ∧
    (∀ t : TrainFlags,
      (s.tack.attempt = false → effect (.trainStitchReceived t) s s) ∧
      (s.tack.attempt = true → effect (.trainStitchReceived t) s
        (({ s.gotStitch s.tackLanes.length with
          tack := { (s.gotStitch s.tackLanes.length).tack with peerTrain := some t } } : State).retrain
            (s.gotStitch s.tackLanes.length)).decideLanes)) ∧
    (s.tack.attempt = false ∨ s.tack.deskewed = false ∨ s.tack.peer = none ∨ s.tackReady = false →
      effect .tackLinkUp s s) ∧
    (∀ d, s.tack.attempt = true → s.tack.deskewed = true → s.tack.peer = some d → s.tackReady = true → s.tack.settled = none →
      ∃ u : State, effect .tackLinkUp s u ∧ u.rd R.TCK.STATUS.LINK = 1 ∧
        u.rd R.TCK.STATUS.WIDTH = widthOf s.tack.lanes ∧ u.tack.attempt = false ∧ u.tack.downTick = none ∧ u.mem = s.mem ∧
        u.out = s.out) ∧
    (∀ d x, s.tack.attempt = true → s.tack.deskewed = true → s.tack.peer = some d → s.tackReady = true →
      s.tack.settled = some x → effect .tackLinkUp s s.tackUp) ∧
    (s.on R.TCK.STATUS.LINK = false → effect .tackLinkDown s s) ∧
    (s.on R.TCK.STATUS.LINK = true → effect .tackLinkDown s s.tackLinkDown.judge ∧
      s.tackLinkDown.rd R.TCK.STATUS.LINK = 0 ∧ s.tackLinkDown.rd R.TCK.STATUS.WIDTH = 0 ∧
      s.tackLinkDown.tack.carries = false ∧ s.tackLinkDown.tack.downTick = some s.tick ∧
      s.tackLinkDown.sticky Src.tackLinkDown = true ∧ s.tackLinkDown.mem = s.mem)

/-- What goes over the Tack link: markers, heartbeats, IDENT, frames and their acknowledgements (R415, R421, R426, R427,
R441, R442). -/
def Obligations.TackTrafficCommands : Prop :=
  ∀ s : State, s.awake = true →
    (∀ f clean, s.on R.TCK.STATUS.LINK = false ∨ s.tack.carries = false → effect (.tackFrameReceived f clean) s s) ∧
    (∀ f, s.on R.TCK.STATUS.LINK = true → s.tack.carries = true →
      effect (.tackFrameReceived f false) s ((s.gotStitch (ceilDiv f.length stitchBytes)).askResend) ∧
      (openFrame s.tack.rxKey f = none → effect (.tackFrameReceived f true) s
        (((s.gotStitch (ceilDiv f.length stitchBytes)).bump R.TCK.STAT.TAG_FAILS).askResend)) ∧
      (∀ seq recs, openFrame s.tack.rxKey f = some (seq, recs) →
        (seq ≠ s.tack.expect → effect (.tackFrameReceived f true) s
          ((s.gotStitch (ceilDiv f.length stitchBytes)).askResend)) ∧
        (seq = s.tack.expect → s.rd R.TCK.STATUS.ROLE ≠ 2 ∨ s.mode = modeShadow →
          effect (.tackFrameReceived f true) s ((s.gotStitch (ceilDiv f.length stitchBytes)).applyFrame seq recs)))) ∧
    (∀ seq : BitVec 64,
      (s.on R.TCK.STATUS.LINK = false → effect (.stitchAck seq) s s ∧ effect (.stitchResend seq) s s) ∧
      (s.on R.TCK.STATUS.LINK = true → effect (.stitchAck seq) s ((s.gotStitch.acked seq.toNat).pumpAll) ∧
        effect (.stitchResend seq) s (s.gotStitch.resendFrom (seq.toNat + s.tack.base))) ∧
      (s.tack.unacked.all (fun f => decide (seq.toNat + s.tack.base < f.1)) = true → s.acked seq.toNat = s)) ∧
    (∀ h : Heartbeat,
      (s.on R.TCK.STATUS.LINK = false → effect (.stitchHeartbeat h) s s) ∧
      (s.on R.TCK.STATUS.LINK = true → ∃ u : State, effect (.stitchHeartbeat h) s u ∧ u.rd R.TCK.STATUS.HB_LOST = 0 ∧
        u.tack.lastHb = some s.tick ∧ u.mem = s.mem ∧ u.out = s.out)) ∧
    (∀ d : Ident,
      (s.tack.coded = false → effect (.stitchIdent d) s s) ∧
      (s.tack.coded = true → s.tack.deskewed = false → effect (.stitchIdent d) s
        { s.gotStitch with tack := { s.gotStitch.tack with peer := some d } }) ∧
      (s.tack.coded = true → s.tack.deskewed = true → effect (.stitchIdent d) s
        ({ s.gotStitch with tack := { s.gotStitch.tack with peer := some d } } : State).settleIdent.startPair)) ∧
    (∀ e : BitVec 32,
      (s.on R.TCK.STATUS.LINK = false → effect (.stitchHandover e) s s) ∧
      (s.on R.TCK.STATUS.LINK = true → s.rd R.TCK.STATUS.ROLE ≠ 2 ∨ s.rd R.TCK.STATUS.PAIR ≠ 2 →
        effect (.stitchHandover e) s s.gotStitch) ∧
      (s.on R.TCK.STATUS.LINK = true → s.rd R.TCK.STATUS.ROLE = 2 → s.rd R.TCK.STATUS.PAIR = 2 →
        ∃ u : State, effect (.stitchHandover e) s u ∧ u.rd R.TCK.STATUS.ROLE = 1 ∧ u.rd R.TCK.STATUS.EPOCH = e.toNat ∧
          u.rd R.TCK.STATUS.PAIR = 2 ∧ u.tack.claims = 2 ∧ u.mem = s.mem)) ∧
    (∀ ws,
      (s.tack.attempt = false → s.on R.TCK.STATUS.LINK = false → effect (.stitchMarker ws) s s) ∧
      (s.tack.attempt = true → s.tack.coded = true → s.tack.deskewed = false →
        effect (.stitchMarker ws) s ((s.gotStitch s.tack.lanes.length).deskew ws)) ∧
      (s.tack.attempt = false ∧ s.on R.TCK.STATUS.LINK = true ∨
          s.tack.attempt = true ∧ s.tack.coded = true ∧ s.tack.deskewed = true →
        effect (.stitchMarker ws) s (s.gotStitch s.tack.lanes.length))) ∧
    (s.on R.TCK.STATUS.LINK = false → effect .markerSend s s ∧ effect .heartbeatSend s s ∧ effect .resendTimeout s s) ∧
    (s.on R.TCK.STATUS.LINK = true →
      (∃ u : State, effect .markerSend s u ∧ u.out = s.out ++ [.tack (.marker ((s.tack.marker + 1) % 2 ^ 16))] ∧
        u.tack.marker = (s.tack.marker + 1) % 2 ^ 16 ∧ u.regs = s.regs ∧ u.mem = s.mem) ∧
      (∃ u : State, effect .heartbeatSend s u ∧ u.out = s.out ++ [.tack (.heartbeat (s.rd R.TCK.STATUS.ROLE)
        (s.rd R.TCK.STATUS.PAIR) (s.rd R.TCK.STATUS.EPOCH) (s.tick % 2 ^ 32))] ∧ u.regs = s.regs ∧ u.mem = s.mem) ∧
      effect .resendTimeout s (s.resendFrom 0)) ∧
    (s.tack.openRecs = [] → effect .frameClose s s) ∧
    (s.tack.openRecs ≠ [] → ∃ u : State, effect .frameClose s u ∧ u.tack.openRecs = [] ∧
      u.tack.sendSeq = s.tack.sendSeq + 1 ∧
      u.tack.unacked = s.tack.unacked ++ [(s.tack.sendSeq, s.tack.openTick, s.tack.openRecs.flatten)] ∧ u.mem = s.mem)

/-- The commands of TCK.CTRL (R420, R422, R435, R438, R442). -/
def Obligations.PairCommands : Prop :=
  ∀ (s : State) (v : BitVec 64) (path : Path), s.awake = true → s.pathOk path = true →
    (∀ t : State, (part v.toNat R.TCK.CTRL.EN = 1 → t.takeTckEn v.toNat = t.take R.TCK.CTRL.EN v.toNat) ∧
      (part v.toNat R.TCK.CTRL.EN = 0 → t.takeTckEn v.toNat = (t.take R.TCK.CTRL.EN v.toNat).tackLinkDown) ∧
      (t.take R.TCK.CTRL.EN v.toNat).rd R.TCK.CTRL.EN = part v.toNat R.TCK.CTRL.EN) ∧
    (part v.toNat R.TCK.CTRL.CMD = 1 →
      (s.on R.TCK.STATUS.PAIR = true ∨ s.on R.TCK.STATUS.ROLE = true →
        effect (.pair v path) s (s.respond path 0x24000 stDenied)) ∧
      (s.on R.TCK.STATUS.PAIR = false → s.on R.TCK.STATUS.ROLE = false →
        (s.pairUnready = true → effect (.pair v path) s (s.respond path 0x24000 stMalformed)) ∧
        (s.pairUnready = false →
          effect (.pair v path) s (((s.askPair true).takeTckEn v.toNat).respond path 0x24000 0) ∧
          (s.on R.TCK.STATUS.LINK = false → (s.askPair true).tack.pairing = true)))) ∧
    (part v.toNat R.TCK.CTRL.CMD = 2 →
      (s.on R.TCK.STATUS.PAIR = true ∨ s.on R.TCK.STATUS.ROLE = true ∨ s.joinBusy = true → effect (.join v path) s (s.respond path 0x24000 stDenied)) ∧
      (s.on R.TCK.STATUS.PAIR = false → s.on R.TCK.STATUS.ROLE = false → s.joinBusy = false →
        (s.pairUnready = true → effect (.join v path) s (s.respond path 0x24000 stMalformed)) ∧
        (s.pairUnready = false →
          effect (.join v path) s (((s.askPair false).takeTckEn v.toNat).respond path 0x24000 0) ∧
          (s.on R.TCK.STATUS.LINK = false → (s.askPair false).tack.joining = true)))) ∧
    (part v.toNat R.TCK.CTRL.CMD = 3 →
      (s.rd R.TCK.STATUS.PAIR ≠ 3 → s.on R.TCK.STATUS.FENCED = false →
        s.rd R.TCK.STATUS.ROLE ≠ 1 ∨ s.on R.TCK.STATUS.LINK = false →
        effect (.unpair v path) s (s.respond path 0x24000 stDenied)) ∧
      (s.mirroring = true → s.on R.TCK.STATUS.LINK = true → s.tack.carries = true →
        ∃ t : State, s.unpair path v.toNat = some t ∧ effect (.unpair v path) s (t.takeTckEn v.toNat)) ∧
      (s.mirroring = false ∨ s.on R.TCK.STATUS.LINK = false ∨ s.tack.carries = false →
        s.rd R.TCK.STATUS.PAIR = 3 ∨ s.on R.TCK.STATUS.FENCED = true ∨
          (s.rd R.TCK.STATUS.ROLE = 1 ∧ s.on R.TCK.STATUS.LINK = true) →
        effect (.unpair v path) s ((s.unpairLocal.takeTckEn v.toNat).respond path 0x24000 0)) ∧
      (s.unpairHere.rd R.TCK.STATUS.PAIR = 0 ∧ s.unpairHere.rd R.TCK.STATUS.ROLE = 0 ∧
        s.unpairHere.rd R.TCK.STATUS.FENCED = 0 ∧ s.unpairHere.tack.carries = false ∧ s.unpairHere.tack.resync = {})) ∧
    (part v.toNat R.TCK.CTRL.CMD = 4 →
      (s.rd R.TCK.STATUS.ROLE ≠ 1 ∨ s.rd R.TCK.STATUS.PAIR ≠ 2 ∨ s.on R.TCK.STATUS.LINK = false →
        effect (.handover v path) s (s.respond path 0x24000 stDenied)) ∧
      (s.rd R.TCK.STATUS.ROLE = 1 → s.rd R.TCK.STATUS.PAIR = 2 → s.on R.TCK.STATUS.LINK = true →
        ∃ t : State, effect (.handover v path) s ((t.takeTckEn v.toNat).respond path 0x24000 0) ∧ t.tack.handover = true ∧
          t.boot.target = 5 ∧ t.rd R.MOD.STATUS.BUSY = 1 ∧ t.mem = s.mem)) ∧
    (part v.toNat R.TCK.CTRL.CMD = 5 →
      (s.rd R.TCK.STATUS.ROLE ≠ 2 ∨ s.rd R.TCK.STATUS.PAIR ≠ 3 ∨ s.tack.unsynced = true ∨ s.on R.TCK.STATUS.HB_LOST = false →
        effect (.takeover v path) s (s.respond path 0x24000 stDenied)) ∧
      (s.rd R.TCK.STATUS.ROLE = 2 → s.rd R.TCK.STATUS.PAIR = 3 → s.tack.unsynced = false → s.on R.TCK.STATUS.HB_LOST = true →
        effect (.takeover v path) s (((s.takeOver true).takeTckEn v.toNat).respond path 0x24000 0)) ∧
      ((s.takeOver true).rd R.TCK.STATUS.ROLE = 1 ∧ (s.takeOver true).rd R.TCK.STATUS.PAIR = 3 ∧
        (s.takeOver true).rd R.TCK.STATUS.EPOCH = (s.rd R.TCK.STATUS.EPOCH + 1) % 2 ^ 32 ∧
        (s.takeOver true).rd R.TCK.STATUS.FULL_RESYNC_DUE = 1 ∧ (s.takeOver true).sticky Src.pairTakeover = true)) ∧
    (part v.toNat R.TCK.CTRL.CMD = 6 →
      (s.on R.TCK.STATUS.FENCED = false ∨ s.on R.TCK.STATUS.HB_LOST = false →
        effect (.claim v path) s (s.respond path 0x24000 stDenied)) ∧
      (s.on R.TCK.STATUS.FENCED = true → s.on R.TCK.STATUS.HB_LOST = true →
        effect (.claim v path) s
          (((s.wr R.TCK.STATUS.FENCED 0).takeTckEn v.toNat).respond path 0x24000 0))) ∧
    (part v.toNat R.TCK.CTRL.CMD = 7 →
      (s.noLoad = true → effect (.pkeyLoad v path) s (s.clearPkey.respond path 0x24000 stUnsupported)) ∧
      (s.noLoad = false → s.on R.TCK.STATUS.PAIR = true →
        effect (.pkeyLoad v path) s (s.clearPkey.respond path 0x24000 stDenied)) ∧
      (s.noLoad = false → s.on R.TCK.STATUS.PAIR = false → keyUnwrap (s.per.kek.getD []) s.pkeyBlob = none →
        effect (.pkeyLoad v path) s ((s.clearPkey.bump R.PRT.TREE_STAT.UNWRAP_FAILS).respond path 0x24000 stMalformed)) ∧
      (∀ key, s.noLoad = false → s.on R.TCK.STATUS.PAIR = false → keyUnwrap (s.per.kek.getD []) s.pkeyBlob = some key →
        ∃ t : State, effect (.pkeyLoad v path) s ((t.takeTckEn v.toNat).respond path 0x24000 0) ∧ t.tack.key = some key ∧
          t.rd R.TCK.PKEY.LOADED = 1 ∧ t.rd R.TCK.PKEY.KCV = keyCheck key % 2 ^ R.TCK.PKEY.KCV.width ∧ t.mem = s.mem))

/-- What happens to a pair as time passes (R422, R434-R438). -/
def Obligations.PairEvents : Prop :=
  ∀ s : State, s.awake = true →
    (s.rd R.TCK.STATUS.ROLE ≠ 1 ∨ s.rd R.TCK.STATUS.PAIR ≠ 1 ∨ s.on R.TCK.STATUS.LINK = false ∨ s.copyDone = false →
      effect .syncComplete s s) ∧
    (s.rd R.TCK.STATUS.ROLE = 1 → s.rd R.TCK.STATUS.PAIR = 1 → s.on R.TCK.STATUS.LINK = true → s.copyDone = true →
      effect .syncComplete s ((s.wr R.TCK.STATUS.PAIR 2).wr R.TCK.STATUS.FULL_RESYNC_DUE 0)) ∧
    (s.mirroring = false ∨ s.on R.TCK.STATUS.LINK = true → effect .breakTimeout s s) ∧
    (s.mirroring = true → s.on R.TCK.STATUS.LINK = false → effect .breakTimeout s s.breakPrimary.pumpAll) ∧
    (s.rd R.TCK.STATUS.ROLE ≠ 2 ∨ s.on R.TCK.STATUS.LINK = true ∨ s.tack.decided = true → effect .decideTimeout s s) ∧
    (s.rd R.TCK.STATUS.ROLE = 2 → s.rd R.TCK.STATUS.PAIR = 1 ∨ s.rd R.TCK.STATUS.PAIR = 2 →
      s.on R.TCK.STATUS.LINK = false → s.tack.decided = false →
      ∃ u : State, effect .decideTimeout s u ∧ u.rd R.TCK.STATUS.PAIR = 3 ∧ u.tack.decided = true ∧
        u.tack.unsynced = (s.rd R.TCK.STATUS.PAIR == 1) ∧ (s.rd R.TCK.STATUS.PAIR = 1 → u.sticky Src.pairLostUnsynced = true)) ∧
    (effect .peerAliveStopped s (s.wr R.TCK.STATUS.PEER_STOPPED 1).judge ∧
      effect .heartbeatLost s (s.wr R.TCK.STATUS.HB_LOST 1).judge) ∧
    (s.mayTakeOver = false → s.judge = s) ∧
    (s.rd R.TCK.STATUS.ROLE ≠ 2 ∨ s.rd R.TCK.STATUS.PAIR ≠ 2 ∨ s.on R.TCK.CFG.TAKEOVER_EN = false ∨
      s.on R.TCK.STATUS.LINK = true ∨ s.losAll = false ∨ s.peerSilent = false ∨ s.on R.TCK.STATUS.HB_LOST = false →
      s.mayTakeOver = false) ∧
    (s.tack.claims = 0 → effect .addressClaimRepeat s s) ∧
    (s.tack.claims ≠ 0 → effect .addressClaimRepeat s
      ({ s with tack := { s.tack with claims := s.tack.claims - 1 } } : State).claimPorts) ∧
    (s.rd R.TCK.STATUS.ROLE ≠ 1 ∨ s.on R.TCK.STATUS.FENCED = true ∨ s.on R.FLT.ALIVE.TOGGLING = true → effect .pairFenced s s) ∧
    (s.rd R.TCK.STATUS.ROLE = 1 → s.on R.TCK.STATUS.FENCED = false → s.on R.FLT.ALIVE.TOGGLING = false →
      ∃ u : State, effect .pairFenced s u ∧ u.rd R.TCK.STATUS.FENCED = 1 ∧ u.sticky Src.pairFenced = true ∧ u.mem = s.mem ∧
        u.limited = true)

/-- Fault injection, the watchdog, ALIVE and the entropy source (R446, R450-R453, R456). -/
def Obligations.FaultCommands : Prop :=
  ∀ s : State, s.awake = true →
    (∀ (v : BitVec 64) (path : Path), s.pathOk path = true → part v.toNat R.FLT.INJECT.GO = 1 →
      (s.mode ≠ modeMaint → effect (.faultInject v path) s (s.respond path 0x25090 stDenied)) ∧
      (s.mode = modeMaint → injectUnit (part v.toNat R.FLT.INJECT.SOURCE) (part v.toNat R.FLT.INJECT.UNIT) = none →
        effect (.faultInject v path) s (s.respond path 0x25090 stMalformed)) ∧
      (∀ b, s.mode = modeMaint →
        injectUnit (part v.toNat R.FLT.INJECT.SOURCE) (part v.toNat R.FLT.INJECT.UNIT) = some b →
        effect (.faultInject v path) s ((s.raise (part v.toNat R.FLT.INJECT.SOURCE) b true).respond path 0x25090 0))) ∧
    (∀ n u, faultReserved n = true → injectUnit n u = none) ∧
    (∀ v : BitVec 64,
      (s.thimble.resetting = true ∨ s.sysLocked = false → effect (.kick v) s s) ∧
      (s.thimble.resetting = false → s.sysLocked = true →
        part v.toNat R.FLT.WDT.PERIOD_MS ≠ s.rd R.FLT.WDT.PERIOD_MS →
        part v.toNat R.FLT.WDT.PERIOD_MS < 10 ∨ 10000 < part v.toNat R.FLT.WDT.PERIOD_MS → effect (.kick v) s s) ∧
      (s.thimble.resetting = false → s.sysLocked = true →
        10 ≤ part v.toNat R.FLT.WDT.PERIOD_MS → part v.toNat R.FLT.WDT.PERIOD_MS ≤ 10000 →
        part v.toNat R.FLT.WDT.KICK = 1 →
        ∃ u : State, effect (.kick v) s u ∧ u.rd R.FLT.WDT.ARMED = 1 ∧
          u.rd R.FLT.WDT.PERIOD_MS = part v.toNat R.FLT.WDT.PERIOD_MS ∧ u.rd R.FLT.ALIVE.WDT_HELD = 0 ∧ u.mem = s.mem)) ∧
    (s.on R.FLT.WDT.ARMED = false → effect .watchdogExpiry s s) ∧
    (s.on R.FLT.WDT.ARMED = true → ∃ u : State, effect .watchdogExpiry s u ∧ u.sticky Src.thimbleWdt = true ∧
      u.rd R.FLT.WDT.EXPIRIES = min (s.rd R.FLT.WDT.EXPIRIES + 1) R.FLT.WDT.EXPIRIES.max ∧
      u.thimble.lastExpiry = some s.tick ∧ u.mem = s.mem ∧
      (∀ t, s.thimble.lastExpiry = some t → s.tick - t ≤ 1000000000 → u.sticky Src.thimbleLockup = true)) ∧
    (s.thimble.resetting = false ∨ s.sysLocked = false → effect .thimbleResetDone s s) ∧
    (s.thimble.resetting = true → s.sysLocked = true → ∃ u : State, effect .thimbleResetDone s u ∧ u.thimble.resetting = false ∧
      u.guard.rekeyPaused = false ∧ u.mem = s.mem ∧ (s.thimble.expiryReset = false → u.regs = s.regs)) ∧
    (s.on R.FLT.ALIVE.TOGGLING = false → effect .aliveToggle s s) ∧
    (s.on R.FLT.ALIVE.TOGGLING = true → ∃ u : State, effect .aliveToggle s u ∧
      u.rd R.FLT.ALIVE.LEVEL = (if s.rd R.FLT.ALIVE.LEVEL = 0 then 1 else 0) ∧ u.pins.aliveEdge = s.tick ∧ u.mem = s.mem) ∧
    (s.on R.FLT.ALIVE.WDT_HELD = false ∨ s.thimble.expiryReset = true → effect .watchdogHoldTimeout s s) ∧
    (s.on R.FLT.ALIVE.WDT_HELD = true → s.thimble.expiryReset = false →
      effect .watchdogHoldTimeout s (s.wr R.FLT.ALIVE.WDT_HELD 0).aliveFollow) ∧
    (s.aliveHeld = true → s.aliveFollow.rd R.FLT.ALIVE.LEVEL = 0 ∧ s.aliveFollow.rd R.FLT.ALIVE.TOGGLING = 0) ∧
    (s.aliveHeld = false → s.on R.FLT.ALIVE.TOGGLING = false → s.clocks.stopped = false →
      s.aliveFollow.rd R.FLT.ALIVE.LEVEL = 1 ∧ s.aliveFollow.rd R.FLT.ALIVE.TOGGLING = 1) ∧
    (∃ u : State, effect (.entropyHealthTest false) s u ∧ u.guard.entropyBad = true ∧ u.guard.entropyPasses = 0 ∧
      u.sticky Src.entropyFail = true ∧ u.noLoad = true) ∧
    (s.guard.entropyBad = false → effect (.entropyHealthTest true) s s) ∧
    (s.guard.entropyBad = true → 1023 ≤ s.guard.entropyPasses → effect (.entropyHealthTest true) s
      { s with guard := { s.guard with entropyBad := false, entropyPasses := 0 } }) ∧
    (s.guard.entropyBad = true → s.guard.entropyPasses < 1023 → effect (.entropyHealthTest true) s
      { s with guard := { s.guard with entropyPasses := s.guard.entropyPasses + 1 } })

/-- The five requests for a mode (R26, R461, R462). The value names the target; each row is the request for its own. -/
def Obligations.ModeRequests : Prop :=
  ∀ (s : State) (v : BitVec 64) (path : Path) (c : Instr) (t : Nat), s.awake = true → s.pathOk path = true →
    (c = .modeReqServe v path ∧ t = 1 ∨ c = .modeReqEase v path ∧ t = 2 ∨ c = .modeReqHold v path ∧ t = 3 ∨
      c = .modeReqMaintenance v path ∧ t = 4 ∨ c = .modeReqReset v path ∧ t = 5) →
    part v.toNat R.MOD.REQ.TARGET = t →
    (s.inRound = true → s.booting = false → t ≤ 4 →
      effect c s { s with boot := { s.boot with held := s.boot.held ++ [(v.toNat, some path)] } }) ∧
    (s.booting = true → t ≤ 4 → (t = 2 → part v.toNat R.MOD.REQ.POINT ≠ 0) →
      effect c s (s.respond path 0x1008 stDenied)) ∧
    (s.inRound = false → s.booting = false → t ≤ 4 →
      (∀ st, s.reqStatus v.toNat = st → st ≠ 0 → effect c s (s.respond path 0x1008 st)) ∧
      (s.reqStatus v.toNat = 0 → s.thermalHold = false → s.sameMode t (part v.toNat R.MOD.REQ.POINT) = true →
        effect c s (s.respond path 0x1008 0)) ∧
      (s.reqStatus v.toNat = 0 → s.thermalHold = false → s.sameMode t (part v.toNat R.MOD.REQ.POINT) = false →
        ∃ u : State, effect c s u ∧ u.boot.target = t ∧ u.rd R.MOD.STATUS.BUSY = 1 ∧ u.mem = s.mem ∧
          (3 ≤ t → s.serving = true → u.boot.draining = true)) ∧
      (s.on R.MOD.STATUS.BUSY = true → s.reqStatus v.toNat ≠ 0) ∧
      (s.on R.MOD.STATUS.BUSY = false → s.thermalHold = false →
        s.sameMode t (part v.toNat R.MOD.REQ.POINT) = false → reqAllowed s.mode t = false → s.reqStatus v.toNat ≠ 0) ∧
      (s.thermalHold = false → s.sameMode t (part v.toNat R.MOD.REQ.POINT) = false →
        (t = 1 → s.tooHot = true → s.reqStatus v.toNat ≠ 0) ∧
        (3 ≤ t → s.rd R.TCK.STATUS.PAIR = 1 ∨ s.rd R.TCK.STATUS.PAIR = 2 → s.reqStatus v.toNat ≠ 0))) ∧
    (t = 5 → part v.toNat R.MOD.REQ.CONFIRM ≠ 0xA5 → effect c s (s.respond path 0x1008 stMalformed)) ∧
    (t = 5 → part v.toNat R.MOD.REQ.CONFIRM = 0xA5 →
      ∃ u : State, effect c s u ∧ u.boot.endMaint = some (part v.toNat R.MOD.REQ.END_MAINT == 1) ∧
        u.mode = modeBoot ∧ u.mem.cells = s.mem.cells ∧ u.per.otp = s.per.otp)

/-- The end of client service and the entry of a mode (R27, R463). -/
def Obligations.ModeTransitions : Prop :=
  ∀ s : State, s.awake = true →
    (s.boot.draining = false ∨ s.workDone = false ∨ s.framesDone = false → effect .serviceDrained s s) ∧
    (s.boot.draining = true → s.workDone = true → s.framesDone = true → s.boot.target ≠ 5 → s.tack.handover = false →
      effect .serviceDrained s s.endService) ∧
    (s.endService.boot.draining = false ∧ (s.boot.target ≠ 5 → s.endService.mem.mapCache = [])) ∧
    (s.targetReady = false → effect .modeEntered s s) ∧
    (s.targetReady = true → effect .modeEntered s s.enterTarget) ∧
    (∀ m, m < 64 → (s.inMode m).mode = m ∧ (s.inMode m).rd R.MOD.STATUS.BUSY = 0 ∧ (s.inMode m).boot.target = 0 ∧
      (s.inMode m).rd R.MOD.STATUS.THERMAL_HOLD = 0 ∧ (s.inMode m).mem.cells = s.mem.cells) ∧
    (s.boot.target ≠ 0 → s.boot.target ≤ 4 → (s.enterTarget).mode = targetMode s.boot.target)

/-- OTP commands (R467, R469). -/
def Obligations.OtpCommands : Prop :=
  ∀ (s : State) (ok : Bool) (v : BitVec 64) (path : Path) (code : Nat) (c : Instr), s.awake = true →
    s.pathOk path = true → code = part v.toNat R.OTP.CMD.CMD →
    (c = .otpProg ok v path ∧ code = 1 ∨ c = .otpProvision ok v path ∧ code = 2 ∨ c = .otpExportKek ok v path ∧ code = 3 ∨
      c = .otpDeploy ok v path ∧ code = 4 ∨ c = .otpReturn ok v path ∧ code = 5 ∨ c = .otpLock ok v path ∧ code = 6 ∨
      c = .otpRaiseSvn ok v path ∧ code = 7) →
    (s.mode ≠ modeMaint ∨ s.rd R.OTP.CMD.RESULT = 1 → effect c s (s.respond path 0x28020 stDenied)) ∧
    (s.mode = modeMaint → s.rd R.OTP.CMD.RESULT ≠ 1 → part v.toNat R.OTP.CMD.LOCK ≠ 3 →
      (s.otpLife code = false →
        effect c s ((s.put R.OTP.STATUS.SUPPLY_OK ok).respond path 0x28020 stUnsupported)) ∧
      (s.otpLife code = true → s.otpWords code (part v.toNat R.OTP.CMD.LOCK) = none →
        effect c s ((s.put R.OTP.STATUS.SUPPLY_OK ok).respond path 0x28020 stDenied)) ∧
      (∀ ws, s.otpLife code = true → s.otpWords code (part v.toNat R.OTP.CMD.LOCK) = some ws → ok = false →
        ∃ u : State, effect c s (u.respond path 0x28020 stUnsupported) ∧ u.rd R.OTP.CMD.RESULT = 2 ∧
          u.sticky Src.otpProgBlocked = true ∧ u.per = s.per) ∧
      (∀ ws, s.otpLife code = true → s.otpWords code (part v.toNat R.OTP.CMD.LOCK) = some ws → ok = true → ws ≠ [] →
        ∃ u : State, effect c s (u.respond path 0x28020 0) ∧ u.rd R.OTP.CMD.RESULT = 1 ∧
          u.per.job = some ⟨code, ws⟩ ∧ u.per.otp = s.per.otp ∧ (code = 5 → u.per.kek = none ∧ u.per.secret = none)) ∧
      (s.otpLife code = true → s.otpWords code (part v.toNat R.OTP.CMD.LOCK) = some [] → ok = true →
        ∃ u : State, effect c s (u.respond path 0x28020 0) ∧ u.rd R.OTP.CMD.RESULT = 0 ∧ u.per.job = none ∧
          u.per.otp = s.per.otp ∧ u.per.data = [0, 0, 0, 0])) ∧
    (∀ a b, s.per.job = none → effect (.otpWordProgrammed a b) s s) ∧
    (∀ k w x ws b, s.per.job = some ⟨k, (w, x) :: ws⟩ →
      (ws = [] → ∃ u : State, effect (.otpWordProgrammed true b) s u ∧
        u.per.otp.find w = (if x = 0 then none else some ⟨some x, some x⟩) ∧
        u.rd R.OTP.CMD.RESULT = 0 ∧ u.per.job = none ∧ u.rd R.OTP.STATUS.PENDING = 1) ∧
      (ws ≠ [] → ∃ u : State, effect (.otpWordProgrammed true true) s u ∧
        u.per.otp.find w = (if x = 0 then none else some ⟨some x, some x⟩) ∧
        u.per.job = some ⟨k, ws⟩ ∧ (∀ j, j ≠ w → u.per.otp.find j = s.per.otp.find j)) ∧
      (∃ u : State, effect (.otpWordProgrammed false b) s u ∧ u.rd R.OTP.CMD.RESULT = 3 ∧ u.per.job = none ∧
        u.sticky Src.otpMarginal = true ∧ (∀ j, j ≠ w → u.per.otp.find j = s.per.otp.find j)))

/-- Firmware updates (R470). -/
def Obligations.FirmwareCommands : Prop :=
  ∀ (s : State) (v : BitVec 64) (path : Path), s.awake = true → s.pathOk path = true →
    (∀ (c : Instr) (k : Nat), (c = .fwBegin v path ∧ k = 1 ∨ c = .fwVerify v path ∧ k = 2 ∨ c = .fwActivate v path ∧ k = 3) →
      part v.toNat R.MOD.FW_CTRL.CMD = k →
      (s.fwMode = false → effect c s (s.respond path 0x1020 stDenied)) ∧
      (s.fwMode = true → k = 1 → part v.toNat R.MOD.FW_CTRL.LENGTH < 360 ∨ 524640 < part v.toNat R.MOD.FW_CTRL.LENGTH →
        effect c s (s.respond path 0x1020 stMalformed)) ∧
      (s.fwMode = true → 360 ≤ part v.toNat R.MOD.FW_CTRL.LENGTH → part v.toNat R.MOD.FW_CTRL.LENGTH ≤ 524640 →
        (k = 1 → ∃ u : State, effect c s (u.respond path 0x1020 0) ∧ u.rd R.MOD.FW_STATUS.STATE = 1 ∧
          u.rd R.MOD.FW_STATUS.RECEIVED = 0 ∧ u.fw.staged = [] ∧ u.fw.length = part v.toNat R.MOD.FW_CTRL.LENGTH ∧
          u.fw.active = s.fw.active) ∧
        (k = 2 → s.imageOk = true → ∃ u : State, effect c s (u.respond path 0x1020 0) ∧
          u.rd R.MOD.FW_STATUS.STATE = 2 ∧ u.fw = s.fw) ∧
        (k = 2 → s.imageOk = false → ∃ u : State, effect c s (u.respond path 0x1020 0) ∧
          u.rd R.MOD.FW_STATUS.STATE = 3 ∧ u.fw = s.fw ∧ u.sticky Src.fwImageBad = true) ∧
        (k = 3 → s.rd R.MOD.FW_STATUS.STATE = 2 → s.on R.MOD.STATUS.BUSY = false →
          ∃ u : State, effect c s (u.respond path 0x1020 0) ∧ u.fw.active = some s.fw.staged ∧
            u.rd R.MOD.FW_STATUS.RUN_SVN = imageNat s.fw.staged 12 1 ∧ u.rd R.MOD.STATUS.FW_UPDATED = 1 ∧
            u.thimble.resetting = true ∧ u.thimble.sram = .image s.fw.staged ∧ u.mem = s.mem) ∧
        (k = 3 → s.rd R.MOD.FW_STATUS.STATE ≠ 2 ∨ s.on R.MOD.STATUS.BUSY = true →
          effect c s (s.respond path 0x1020 stDenied)))) ∧
    (s.fwMode = false → effect (.fwData v path) s (s.respond path 0x1028 stDenied)) ∧
    (s.fwMode = true →
      (s.fw.length < s.fw.staged.length + 8 → effect (.fwData v path) s (s.respond path 0x1028 stMalformed)) ∧
      (s.rd R.MOD.FW_STATUS.STATE ≠ 1 → s.fw.staged.length + 8 ≤ s.fw.length →
        effect (.fwData v path) s (s.respond path 0x1028 stDenied)) ∧
      (s.rd R.MOD.FW_STATUS.STATE = 1 → s.fw.staged.length + 8 ≤ s.fw.length → ∃ u : State, effect (.fwData v path) s (u.respond path 0x1028 0) ∧
        u.fw.staged = s.fw.staged ++ leBytes 8 v.toNat ∧
        u.rd R.MOD.FW_STATUS.RECEIVED = (s.fw.staged.length + 8) % 2 ^ R.MOD.FW_STATUS.RECEIVED.width ∧
        u.fw.active = s.fw.active ∧ u.mem = s.mem)) ∧
    (∀ w, s.imageOk = true → w = s.fw.staged → imageNat w 0 8 = 0x4642454400160001 ∧ w.length = s.fw.length ∧
      s.rd R.MOD.FW_STATUS.MIN_SVN ≤ imageNat w 12 1 ∧
      sha384 ((w.drop 256).take (imageNat w 16 4)) = (w.drop 64).take 48 ∧
      signatureOk (w.take (w.length - 96)) (w.drop (w.length - 96)) = true)

/-- The rule of LNG.CFG (R282). The premise that the rule holds before is an invariant: it holds at reset and after every
such write. -/
def Obligations.LiningConfigRule : Prop :=
  liningRule State.reset ∧
  ∀ (s : State) (v : BitVec 64) (path : Path), s.awake = true → s.pathOk path = true → liningRule s →
    (16 < part v.toNat R.LNG.CFG.STICKY_MIB ∨
        part v.toNat R.LNG.CFG.DIRTY_HIGH ≤ part v.toNat R.LNG.CFG.DIRTY_LOW →
      effect (.setupWrite 0x9000 v path) s (s.respond path 0x9000 stMalformed) ∧
      ∀ g : Fld, g.addr = 0x9000 → g.lo < 64 → (s.respond path 0x9000 stMalformed).rd g = s.rd g) ∧
    (part v.toNat R.LNG.CFG.STICKY_MIB ≤ 16 →
      part v.toNat R.LNG.CFG.DIRTY_LOW < part v.toNat R.LNG.CFG.DIRTY_HIGH →
      ∃ u : State, effect (.setupWrite 0x9000 v path) s (u.respond path 0x9000 0) ∧ liningRule u ∧
        u.rd R.LNG.CFG.STICKY_MIB = part v.toNat R.LNG.CFG.STICKY_MIB ∧
        u.rd R.LNG.CFG.DIRTY_HIGH = part v.toNat R.LNG.CFG.DIRTY_HIGH ∧
        u.rd R.LNG.CFG.DIRTY_LOW = part v.toNat R.LNG.CFG.DIRTY_LOW ∧ u.mem = s.mem ∧ u.lng = s.lng)

/-- What the stack stores reads back byte for byte, and storing one sector's codeword touches no other sector (R38, R318);
the store keeps the memory's canonical form. -/
def Obligations.StoredSectorReadsBack : Prop :=
  ∀ (s : State) (k : Nat) (w : List Byte), w.length = 72 →
    cellsOf (s.storeAt w k).mem.cells k = w ∧
    (s.storeAt w k).mem.written.get false k = true ∧
    (∀ j, j ≠ k → cellsOf (s.storeAt w k).mem.cells j = cellsOf s.mem.cells j ∧
      (s.storeAt w k).mem.written.get false j = s.mem.written.get false j) ∧
    (s.storeAt w k).mem.map = s.mem.map ∧ (s.storeAt w k).mem.sysBolt = s.mem.sysBolt ∧
    (s.mem.wf = true → (s.storeAt w k).mem.wf = true)

/-- Frame numbers keep their set, member and row (R229), and map entries their class, state and frame (R230). -/
def Obligations.FrameAndMapEncoding : Prop :=
  (∀ cls set member row : Nat, row < 32512 →
    (cls = 0 → set < 64 → frameParts 0 (frameNum 0 set member row) = (set, 0, row) ∧ frameNum 0 set member row < 2 ^ 26) ∧
    (cls = 1 → set < 32 → member < 2 → frameParts 1 (frameNum 1 set member row) = (set, member, row) ∧
      frameNum 1 set member row < 2 ^ 26) ∧
    (2 ≤ cls → set < 16 → member < 64 → frameParts cls (frameNum cls set member row) = (set, member, row) ∧
      frameNum cls set member row < 2 ^ 26)) ∧
  (∀ cls state frame : Nat, cls < 8 → state < 4 → frame < 2 ^ 26 →
    entryClass (mapEntry cls state frame) = cls ∧ entryState (mapEntry cls state frame) = state ∧
    entryFrame (mapEntry cls state frame) = frame ∧ mapEntry cls state frame < 2 ^ 32)

/-- The frame of the commands that store nothing (R318): every one of the 72 bytes of every sector is as
before. -/
def Obligations.StackUnchanged : Prop :=
  ∀ (c : Instr) (s : State), storesNothing c = true → ∃ t : State, exec c s = .next t ∧
    t.mem.cells = s.mem.cells ∧ ∀ k, cellsOf t.mem.cells k = cellsOf s.mem.cells k
end

