-- ==== Sys2Proof/Laws/Store.lean ====
section
/-! SUPPORT. Laws of the sparse maps and of the register store: reading after writing, and the canonical form. -/

namespace Sys2Proof.Machine

theorem findKey_insertKey_same {α : Type} (k : Nat) (v : α) (m : List (Nat × α)) :
    findKey k (insertKey k v m) = some v := by
  induction m with
  | nil => simp [insertKey, findKey]
  | cons e m ih =>
    obtain ⟨j, w⟩ := e
    unfold insertKey
    split
    · rename_i h
      simp [findKey, ih, Nat.ne_of_lt h]
    · split <;> simp [findKey]

theorem findKey_insertKey_other {α : Type} (k j : Nat) (v : α) (m : List (Nat × α)) (h : j ≠ k) :
    findKey j (insertKey k v m) = findKey j m := by
  induction m with
  | nil => simp [insertKey, findKey, Ne.symm h]
  | cons e m ih =>
    obtain ⟨i, w⟩ := e
    unfold insertKey
    split
    · simp [findKey, ih]
    · split
      · rename_i hi
        subst hi
        simp [findKey, Ne.symm h]
      · simp [findKey, Ne.symm h]

theorem findKey_eraseKey_same {α : Type} (k : Nat) (m : List (Nat × α)) : findKey k (eraseKey k m) = none := by
  induction m with
  | nil => rfl
  | cons e m ih =>
    obtain ⟨j, w⟩ := e
    by_cases hj : j = k
    · subst hj; simpa [eraseKey, List.filter] using ih
    · simpa [eraseKey, List.filter, hj, findKey] using ih

theorem findKey_eraseKey_other {α : Type} (k j : Nat) (m : List (Nat × α)) (h : j ≠ k) :
    findKey j (eraseKey k m) = findKey j m := by
  induction m with
  | nil => rfl
  | cons e m ih =>
    obtain ⟨i, w⟩ := e
    by_cases hi : i = k
    · subst hi; simpa [eraseKey, List.filter, findKey, Ne.symm h] using ih
    · by_cases hj : i = j
      · subst hj; simp [eraseKey, List.filter, hi, findKey]
      · simpa [eraseKey, List.filter, hi, findKey, hj] using ih

@[simp] theorem SMap.get_empty {α : Type} (d : α) (k : Nat) : ({} : SMap α).get d k = d := rfl

@[simp] theorem SMap.find_empty {α : Type} (k : Nat) : ({} : SMap α).find k = none := rfl

@[simp] theorem SMap.get_put_same {α : Type} (m : SMap α) (d v : α) (k : Nat) : (m.put k v).get d k = v := by
  simp [SMap.get, SMap.find, SMap.put, findKey_insertKey_same]

theorem SMap.get_put_other {α : Type} (m : SMap α) (d v : α) (k j : Nat) (h : j ≠ k) :
    (m.put k v).get d j = m.get d j := by
  simp [SMap.get, SMap.find, SMap.put, findKey_insertKey_other _ _ _ _ h]

@[simp] theorem SMap.get_del_same {α : Type} (m : SMap α) (d : α) (k : Nat) : (m.del k).get d k = d := by
  simp [SMap.get, SMap.find, SMap.del, findKey_eraseKey_same]

theorem SMap.get_del_other {α : Type} (m : SMap α) (d : α) (k j : Nat) (h : j ≠ k) : (m.del k).get d j = m.get d j := by
  simp [SMap.get, SMap.find, SMap.del, findKey_eraseKey_other _ _ _ h]

@[simp] theorem SMap.get_set_same {α : Type} [DecidableEq α] (m : SMap α) (d v : α) (k : Nat) :
    (m.set d k v).get d k = v := by
  unfold SMap.set
  split
  · rename_i h; simp [h]
  · simp

theorem SMap.get_set_other {α : Type} [DecidableEq α] (m : SMap α) (d v : α) (k j : Nat) (h : j ≠ k) (e : α) :
    (m.set d k v).get e j = m.get e j := by
  unfold SMap.set
  split
  · exact SMap.get_del_other _ _ _ _ h
  · exact SMap.get_put_other _ _ _ _ _ h

/-- Every key of a list lies above j. -/
def allAbove {α : Type} (j : Nat) (m : List (Nat × α)) : Prop := ∀ e ∈ m, j < e.1

theorem risingKeys_cons {α : Type} (e : Nat × α) (m : List (Nat × α)) :
    risingKeys (e :: m) = true ↔ allAbove e.1 m ∧ risingKeys m = true := by
  induction m generalizing e with
  | nil => simp [risingKeys, allAbove]
  | cons f m ih =>
    obtain ⟨j, v⟩ := e
    obtain ⟨k, w⟩ := f
    simp only [risingKeys, Bool.and_eq_true, decide_eq_true_eq]
    constructor
    · rintro ⟨h, hm⟩
      refine ⟨?_, hm⟩
      have hk := ((ih (k, w)).mp hm).1
      intro x hx
      rcases List.mem_cons.mp hx with rfl | hx
      · exact h
      · exact Nat.lt_trans h (hk x hx)
    · rintro ⟨h, hm⟩
      exact ⟨h (k, w) (by simp), hm⟩

theorem risingKeys_filter {α : Type} (p : Nat × α → Bool) (m : List (Nat × α)) (h : risingKeys m = true) :
    risingKeys (m.filter p) = true := by
  induction m with
  | nil => rfl
  | cons e m ih =>
    have ⟨ha, hm⟩ := (risingKeys_cons e m).mp h
    by_cases hp : p e
    · rw [List.filter_cons_of_pos hp, risingKeys_cons]
      exact ⟨fun x hx => ha x ((List.mem_filter.mp hx).1), ih hm⟩
    · rw [List.filter_cons_of_neg hp]
      exact ih hm

theorem mem_insertKey {α : Type} (k : Nat) (v : α) (m : List (Nat × α)) (x : Nat × α) (hx : x ∈ insertKey k v m) :
    x = (k, v) ∨ x ∈ m := by
  induction m with
  | nil => left; simpa [insertKey] using hx
  | cons e m ih =>
    obtain ⟨j, w⟩ := e
    unfold insertKey at hx
    split at hx
    · rcases List.mem_cons.mp hx with rfl | hx
      · right; simp
      · rcases ih hx with h | h
        · exact Or.inl h
        · exact Or.inr (List.mem_cons_of_mem _ h)
    · split at hx
      · rcases List.mem_cons.mp hx with h | h
        · exact Or.inl h
        · exact Or.inr (List.mem_cons_of_mem _ h)
      · rcases List.mem_cons.mp hx with h | h
        · exact Or.inl h
        · exact Or.inr h

theorem risingKeys_insertKey {α : Type} (k : Nat) (v : α) (m : List (Nat × α)) (h : risingKeys m = true) :
    risingKeys (insertKey k v m) = true := by
  induction m with
  | nil => rfl
  | cons e m ih =>
    obtain ⟨j, w⟩ := e
    have ⟨ha, hm⟩ := (risingKeys_cons (j, w) m).mp h
    unfold insertKey
    split
    · rename_i hj
      rw [risingKeys_cons]
      refine ⟨fun x hx => ?_, ih hm⟩
      rcases mem_insertKey k v m x hx with rfl | hx
      · exact hj
      · exact ha x hx
    · split
      · rename_i hjk
        subst hjk
        rw [risingKeys_cons]
        exact ⟨ha, hm⟩
      · rename_i hj hjk
        rw [risingKeys_cons]
        refine ⟨fun x hx => ?_, h⟩
        have hkj : k < j := by omega
        rcases List.mem_cons.mp hx with rfl | hx
        · exact hkj
        · exact Nat.lt_trans hkj (ha x hx)

theorem SMap.wf_empty {α : Type} [DecidableEq α] (d : α) : ({} : SMap α).wf d = true := rfl

/-- Every way of changing a map keeps its canonical form. -/
theorem SMap.wf_set {α : Type} [DecidableEq α] (m : SMap α) (d v : α) (k : Nat) (h : m.wf d = true) :
    (m.set d k v).wf d = true := by
  simp only [SMap.wf, Bool.and_eq_true, List.all_eq_true, decide_eq_true_eq] at h ⊢
  unfold SMap.set
  split
  · exact ⟨risingKeys_filter _ _ h.1, fun x hx => h.2 x ((List.mem_filter.mp hx).1)⟩
  · rename_i hv
    refine ⟨risingKeys_insertKey _ _ _ h.1, fun x hx => ?_⟩
    rcases mem_insertKey _ _ _ _ hx with rfl | hx
    · exact hv
    · exact h.2 x hx

theorem SMap.wf_del {α : Type} [DecidableEq α] (m : SMap α) (d : α) (k : Nat) (h : m.wf d = true) : (m.del k).wf d = true := by
  simp only [SMap.wf, Bool.and_eq_true, List.all_eq_true, decide_eq_true_eq] at h ⊢
  exact ⟨risingKeys_filter _ _ h.1, fun x hx => h.2 x ((List.mem_filter.mp hx).1)⟩

theorem SMap.wf_keepKeys {α : Type} [DecidableEq α] (m : SMap α) (d : α) (p : Nat → Bool) (h : m.wf d = true) :
    (m.keepKeys p).wf d = true := by
  simp only [SMap.wf, Bool.and_eq_true, List.all_eq_true, decide_eq_true_eq] at h ⊢
  exact ⟨risingKeys_filter _ _ h.1, fun x hx => h.2 x ((List.mem_filter.mp hx).1)⟩

/-- A run of bytes written keeps the canonical form of the stack's bytes. -/
theorem putBytes_wf (m : SMap Byte) (k : Nat) (bs : List Byte) (h : m.wf 0 = true) : (putBytes m k bs).wf 0 = true := by
  induction bs generalizing m k with
  | nil => exact h
  | cons b bs ih => exact ih _ _ (SMap.wf_set m 0 b k h)

/-- A byte outside a run that is written reads as before. -/
theorem putBytes_get_other (m : SMap Byte) (k j : Nat) (bs : List Byte) (h : j < k ∨ k + bs.length ≤ j) :
    (putBytes m k bs).get 0 j = m.get 0 j := by
  induction bs generalizing m k with
  | nil => rfl
  | cons b bs ih =>
    rw [List.length_cons] at h
    have hj : j ≠ k := by omega
    unfold putBytes
    rw [ih _ _ (by omega), SMap.get_set_other _ _ _ _ _ hj]

/-- A byte inside a run that is written reads as written. -/
theorem putBytes_get (m : SMap Byte) (k i : Nat) (bs : List Byte) (h : i < bs.length) :
    (putBytes m k bs).get 0 (k + i) = bs[i] := by
  induction bs generalizing m k i with
  | nil => simp at h
  | cons b bs ih =>
    unfold putBytes
    cases i with
    | zero => rw [Nat.add_zero, putBytes_get_other _ _ _ _ (by omega)]; simp
    | succ i =>
      have := ih (m.set 0 k b) (k + 1) i (by simpa using h)
      rw [show k + (i + 1) = k + 1 + i by omega]
      simpa using this

/-- A field's number lies below 2^26, so a key names its field and entry. -/
theorem Fld.id_lt (f : Fld) : f.id < 2 ^ 26 := by unfold Fld.id; omega

theorem Fld.key_inj (f g : Fld) (e j : Nat) (h : f.key e = g.key j) : e = j ∧ f.id = g.id := by
  have := f.id_lt
  have := g.id_lt
  unfold Fld.key at h
  omega

/-- A field reads as written. -/
@[simp] theorem State.rd_wr_same (s : State) (f : Fld) (v e : Nat) : (s.wr f v e).rd f e = v % 2 ^ f.width := by
  simp [State.rd, State.wr, fget, fset]

/-- Another field reads as before a write. -/
theorem State.rd_wr_field (s : State) (f g : Fld) (v e j : Nat) (h : g.id ≠ f.id) : (s.wr f v e).rd g j = s.rd g j := by
  have hk : g.key j ≠ f.key e := fun he => h (Fld.key_inj _ _ _ _ he).2
  simp [State.rd, State.wr, fget, fset, SMap.get_set_other _ _ _ _ _ hk]

/-- Another entry reads as before a write. -/
theorem State.rd_wr_entry (s : State) (f g : Fld) (v e j : Nat) (h : j ≠ e) : (s.wr f v e).rd g j = s.rd g j := by
  have hk : g.key j ≠ f.key e := fun he => h (Fld.key_inj _ _ _ _ he).1
  simp [State.rd, State.wr, fget, fset, SMap.get_set_other _ _ _ _ _ hk]

/-- A field holds less than its width allows. -/
theorem State.rd_lt (s : State) (f : Fld) (e : Nat) : s.rd f e < 2 ^ f.width := Nat.mod_lt _ (Nat.two_pow_pos _)

end Sys2Proof.Machine
end

