-- ==== Sys2Proof/Laws/State.lean ====
section
/-! SUPPORT. What each update of the state leaves alone, one lemma for each update and field; what the parts read after
their own update. -/

namespace Sys2Proof.Machine

/-- What is reached from s by changes of registers only. -/
def State.regsOnly (s t : State) : Prop := ∃ r, t = { s with regs := r }

theorem State.regsOnly_refl (s : State) : s.regsOnly s := ⟨s.regs, rfl⟩

theorem State.regsOnly_wr (s t : State) (f : Fld) (v e : Nat) (h : s.regsOnly t) : s.regsOnly (t.wr f v e) := by
  obtain ⟨r, rfl⟩ := h
  exact ⟨_, rfl⟩

/-- What is reached from s by changes of what a recorded fault touches: registers, counters and the ALIVE pin. -/
def State.marksOnly (s t : State) : Prop := ∃ r m a, t = { s with regs := r, pmc := m, pins := { s.pins with aliveEdge := a } }

theorem State.marksOnly_of_regsOnly (s t : State) (h : s.regsOnly t) : s.marksOnly t := by
  obtain ⟨r, rfl⟩ := h
  exact ⟨r, s.pmc, s.pins.aliveEdge, rfl⟩

theorem State.marksOnly_trans (s t u : State) (h : s.marksOnly t) (g : t.marksOnly u) : s.marksOnly u := by
  obtain ⟨r, m, p, rfl⟩ := h
  obtain ⟨r', m', p', rfl⟩ := g
  exact ⟨r', m', p', rfl⟩

/-- Counting changes the performance counters only. -/
theorem State.count_does (s : State) (n k : Nat) : ∃ m, s.count n k = { s with pmc := m } := by
  unfold State.count
  split
  · exact ⟨s.pmc, rfl⟩
  · exact ⟨_, rfl⟩

/-- FLT.LAST and its fields are registers. -/
theorem State.recordLast_does (s : State) (i : Nat) (b : Bool) : s.regsOnly (s.recordLast i b) := by
  have h : s.regsOnly (s.bump R.FLT.LAST.RAISES) := s.regsOnly_wr _ _ _ _ s.regsOnly_refl
  unfold State.recordLast
  dsimp only
  split
  · exact h
  · exact s.regsOnly_wr _ _ _ _ (s.regsOnly_wr _ _ _ _ (s.regsOnly_wr _ _ _ _ (s.regsOnly_wr _ _ _ _ h)))

/-- ALIVE following its holds changes registers and the tick of the last edge. -/
theorem State.aliveFollow_does (s : State) : s.marksOnly s.aliveFollow := by
  unfold State.aliveFollow
  dsimp only
  generalize hb : (s.on R.FLT.PIN_HOLD0.HOLD || s.on R.FLT.PIN_HOLD1.HOLD) = b
  have h : s.regsOnly (s.put R.FLT.ALIVE.PIN_HELD b) := s.regsOnly_wr _ _ _ _ s.regsOnly_refl
  generalize s.put R.FLT.ALIVE.PIN_HELD b = t at h
  split
  · exact s.marksOnly_of_regsOnly _ (s.regsOnly_wr _ _ _ _ (s.regsOnly_wr _ _ _ _ h))
  · split
    · exact s.marksOnly_of_regsOnly _ h
    · obtain ⟨r, hr⟩ := s.regsOnly_wr _ R.FLT.ALIVE.TOGGLING 1 0 (s.regsOnly_wr _ R.FLT.ALIVE.LEVEL 1 0 h)
      rw [hr]
      exact ⟨r, s.pmc, _, rfl⟩

/-- Recording a fault changes registers, a counter and the ALIVE pin. -/
theorem State.markFault_does (s : State) (i : Nat) (b : Bool) : s.marksOnly (s.markFault i b) := by
  unfold State.markFault
  dsimp only
  have h1 : s.regsOnly ((s.wrBit (stickyField i) (i % 64) true).bump R.FLT.SRC.COUNT i) :=
    s.regsOnly_wr _ _ _ _ (s.regsOnly_wr _ _ _ _ s.regsOnly_refl)
  generalize (s.wrBit (stickyField i) (i % 64) true).bump R.FLT.SRC.COUNT i = t at h1
  have h2 : s.marksOnly (if (!s.sticky i) = true then t.count 7 else t) := by
    split
    · obtain ⟨r, rfl⟩ := h1
      obtain ⟨m, hm⟩ := State.count_does { s with regs := r } 7 1
      rw [hm]
      exact ⟨r, m, s.pins.aliveEdge, rfl⟩
    · exact s.marksOnly_of_regsOnly _ h1
  generalize (if (!s.sticky i) = true then t.count 7 else t) = u at h2
  have h3 : s.marksOnly (u.recordLast i b) :=
    s.marksOnly_trans _ _ h2 (u.marksOnly_of_regsOnly _ (u.recordLast_does i b))
  generalize u.recordLast i b = w at h3
  split
  · refine s.marksOnly_trans _ _ (s.marksOnly_trans _ _ h3 ?_) (State.aliveFollow_does _)
    exact w.marksOnly_of_regsOnly _ (w.regsOnly_wr _ _ _ _ w.regsOnly_refl)
  · exact h3

/-- A raise changes registers, a counter, the ALIVE pin and what is owed. -/
theorem State.raise_does (s : State) (i : Nat) (u : Block) (b : Bool) :
    ∃ r m a d, s.raise i u b = { s with regs := r, pmc := m, pins := { s.pins with aliveEdge := a }, due := d } := by
  obtain ⟨r, m, p, h⟩ := s.markFault_does i b
  exact ⟨r, m, p, _, by unfold State.raise; rw [h]⟩

@[simp] theorem State.wr_pending (s : State) (f : Fld) (v e : Nat) : (s.wr f v e).pending = s.pending := rfl
@[simp] theorem State.wr_powered (s : State) (f : Fld) (v e : Nat) : (s.wr f v e).powered = s.powered := rfl
@[simp] theorem State.wr_tick (s : State) (f : Fld) (v e : Nat) : (s.wr f v e).tick = s.tick := rfl
@[simp] theorem State.wr_freeCtr (s : State) (f : Fld) (v e : Nat) : (s.wr f v e).freeCtr = s.freeCtr := rfl
@[simp] theorem State.wr_starts (s : State) (f : Fld) (v e : Nat) : (s.wr f v e).starts = s.starts := rfl
@[simp] theorem State.wr_steps (s : State) (f : Fld) (v e : Nat) : (s.wr f v e).steps = s.steps := rfl
@[simp] theorem State.wr_out (s : State) (f : Fld) (v e : Nat) : (s.wr f v e).out = s.out := rfl
@[simp] theorem State.wr_pmc (s : State) (f : Fld) (v e : Nat) : (s.wr f v e).pmc = s.pmc := rfl
@[simp] theorem State.wr_pins (s : State) (f : Fld) (v e : Nat) : (s.wr f v e).pins = s.pins := rfl
@[simp] theorem State.wr_boot (s : State) (f : Fld) (v e : Nat) : (s.wr f v e).boot = s.boot := rfl
@[simp] theorem State.wr_per (s : State) (f : Fld) (v e : Nat) : (s.wr f v e).per = s.per := rfl
@[simp] theorem State.wr_fw (s : State) (f : Fld) (v e : Nat) : (s.wr f v e).fw = s.fw := rfl
@[simp] theorem State.wr_smb (s : State) (f : Fld) (v e : Nat) : (s.wr f v e).smb = s.smb := rfl
@[simp] theorem State.wr_thimble (s : State) (f : Fld) (v e : Nat) : (s.wr f v e).thimble = s.thimble := rfl
@[simp] theorem State.wr_qps (s : State) (f : Fld) (v e : Nat) : (s.wr f v e).qps = s.qps := rfl
@[simp] theorem State.wr_rings (s : State) (f : Fld) (v e : Nat) : (s.wr f v e).rings = s.rings := rfl
@[simp] theorem State.wr_eqs (s : State) (f : Fld) (v e : Nat) : (s.wr f v e).eqs = s.eqs := rfl
@[simp] theorem State.wr_mem (s : State) (f : Fld) (v e : Nat) : (s.wr f v e).mem = s.mem := rfl
@[simp] theorem State.wr_guard (s : State) (f : Fld) (v e : Nat) : (s.wr f v e).guard = s.guard := rfl
@[simp] theorem State.wr_lng (s : State) (f : Fld) (v e : Nat) : (s.wr f v e).lng = s.lng := rfl
@[simp] theorem State.wr_chans (s : State) (f : Fld) (v e : Nat) : (s.wr f v e).chans = s.chans := rfl
@[simp] theorem State.wr_ports (s : State) (f : Fld) (v e : Nat) : (s.wr f v e).ports = s.ports := rfl
@[simp] theorem State.wr_cal (s : State) (f : Fld) (v e : Nat) : (s.wr f v e).cal = s.cal := rfl
@[simp] theorem State.wr_tack (s : State) (f : Fld) (v e : Nat) : (s.wr f v e).tack = s.tack := rfl
@[simp] theorem State.wr_narrow (s : State) (f : Fld) (v e : Nat) : (s.wr f v e).narrow = s.narrow := rfl
@[simp] theorem State.wr_waves (s : State) (f : Fld) (v e : Nat) : (s.wr f v e).waves = s.waves := rfl
@[simp] theorem State.wr_hem (s : State) (f : Fld) (v e : Nat) : (s.wr f v e).hem = s.hem := rfl
@[simp] theorem State.wr_reg (s : State) (f : Fld) (v e : Nat) : (s.wr f v e).reg = s.reg := rfl
@[simp] theorem State.wr_bist (s : State) (f : Fld) (v e : Nat) : (s.wr f v e).bist = s.bist := rfl
@[simp] theorem State.wr_dump (s : State) (f : Fld) (v e : Nat) : (s.wr f v e).dump = s.dump := rfl
@[simp] theorem State.wr_due (s : State) (f : Fld) (v e : Nat) : (s.wr f v e).due = s.due := rfl
@[simp] theorem State.wr_scrub (s : State) (f : Fld) (v e : Nat) : (s.wr f v e).scrub = s.scrub := rfl
@[simp] theorem State.wr_turn (s : State) (f : Fld) (v e : Nat) : (s.wr f v e).turn = s.turn := rfl
@[simp] theorem State.wr_clocks (s : State) (f : Fld) (v e : Nat) : (s.wr f v e).clocks = s.clocks := rfl
@[simp] theorem State.wr_inUse (s : State) (f : Fld) (v e : Nat) : (s.wr f v e).inUse = s.inUse := rfl

@[simp] theorem State.put_pending (s : State) (f : Fld) (b : Bool) (e : Nat) : (s.put f b e).pending = s.pending := rfl
@[simp] theorem State.put_powered (s : State) (f : Fld) (b : Bool) (e : Nat) : (s.put f b e).powered = s.powered := rfl
@[simp] theorem State.put_tick (s : State) (f : Fld) (b : Bool) (e : Nat) : (s.put f b e).tick = s.tick := rfl
@[simp] theorem State.put_freeCtr (s : State) (f : Fld) (b : Bool) (e : Nat) : (s.put f b e).freeCtr = s.freeCtr := rfl
@[simp] theorem State.put_starts (s : State) (f : Fld) (b : Bool) (e : Nat) : (s.put f b e).starts = s.starts := rfl
@[simp] theorem State.put_steps (s : State) (f : Fld) (b : Bool) (e : Nat) : (s.put f b e).steps = s.steps := rfl
@[simp] theorem State.put_out (s : State) (f : Fld) (b : Bool) (e : Nat) : (s.put f b e).out = s.out := rfl
@[simp] theorem State.put_pmc (s : State) (f : Fld) (b : Bool) (e : Nat) : (s.put f b e).pmc = s.pmc := rfl
@[simp] theorem State.put_pins (s : State) (f : Fld) (b : Bool) (e : Nat) : (s.put f b e).pins = s.pins := rfl
@[simp] theorem State.put_boot (s : State) (f : Fld) (b : Bool) (e : Nat) : (s.put f b e).boot = s.boot := rfl
@[simp] theorem State.put_per (s : State) (f : Fld) (b : Bool) (e : Nat) : (s.put f b e).per = s.per := rfl
@[simp] theorem State.put_fw (s : State) (f : Fld) (b : Bool) (e : Nat) : (s.put f b e).fw = s.fw := rfl
@[simp] theorem State.put_smb (s : State) (f : Fld) (b : Bool) (e : Nat) : (s.put f b e).smb = s.smb := rfl
@[simp] theorem State.put_thimble (s : State) (f : Fld) (b : Bool) (e : Nat) : (s.put f b e).thimble = s.thimble := rfl
@[simp] theorem State.put_qps (s : State) (f : Fld) (b : Bool) (e : Nat) : (s.put f b e).qps = s.qps := rfl
@[simp] theorem State.put_rings (s : State) (f : Fld) (b : Bool) (e : Nat) : (s.put f b e).rings = s.rings := rfl
@[simp] theorem State.put_eqs (s : State) (f : Fld) (b : Bool) (e : Nat) : (s.put f b e).eqs = s.eqs := rfl
@[simp] theorem State.put_mem (s : State) (f : Fld) (b : Bool) (e : Nat) : (s.put f b e).mem = s.mem := rfl
@[simp] theorem State.put_guard (s : State) (f : Fld) (b : Bool) (e : Nat) : (s.put f b e).guard = s.guard := rfl
@[simp] theorem State.put_lng (s : State) (f : Fld) (b : Bool) (e : Nat) : (s.put f b e).lng = s.lng := rfl
@[simp] theorem State.put_chans (s : State) (f : Fld) (b : Bool) (e : Nat) : (s.put f b e).chans = s.chans := rfl
@[simp] theorem State.put_ports (s : State) (f : Fld) (b : Bool) (e : Nat) : (s.put f b e).ports = s.ports := rfl
@[simp] theorem State.put_cal (s : State) (f : Fld) (b : Bool) (e : Nat) : (s.put f b e).cal = s.cal := rfl
@[simp] theorem State.put_tack (s : State) (f : Fld) (b : Bool) (e : Nat) : (s.put f b e).tack = s.tack := rfl
@[simp] theorem State.put_narrow (s : State) (f : Fld) (b : Bool) (e : Nat) : (s.put f b e).narrow = s.narrow := rfl
@[simp] theorem State.put_waves (s : State) (f : Fld) (b : Bool) (e : Nat) : (s.put f b e).waves = s.waves := rfl
@[simp] theorem State.put_hem (s : State) (f : Fld) (b : Bool) (e : Nat) : (s.put f b e).hem = s.hem := rfl
@[simp] theorem State.put_reg (s : State) (f : Fld) (b : Bool) (e : Nat) : (s.put f b e).reg = s.reg := rfl
@[simp] theorem State.put_bist (s : State) (f : Fld) (b : Bool) (e : Nat) : (s.put f b e).bist = s.bist := rfl
@[simp] theorem State.put_dump (s : State) (f : Fld) (b : Bool) (e : Nat) : (s.put f b e).dump = s.dump := rfl
@[simp] theorem State.put_due (s : State) (f : Fld) (b : Bool) (e : Nat) : (s.put f b e).due = s.due := rfl
@[simp] theorem State.put_scrub (s : State) (f : Fld) (b : Bool) (e : Nat) : (s.put f b e).scrub = s.scrub := rfl
@[simp] theorem State.put_turn (s : State) (f : Fld) (b : Bool) (e : Nat) : (s.put f b e).turn = s.turn := rfl
@[simp] theorem State.put_clocks (s : State) (f : Fld) (b : Bool) (e : Nat) : (s.put f b e).clocks = s.clocks := rfl
@[simp] theorem State.put_inUse (s : State) (f : Fld) (b : Bool) (e : Nat) : (s.put f b e).inUse = s.inUse := rfl

@[simp] theorem State.bump_pending (s : State) (f : Fld) (e n : Nat) : (s.bump f e n).pending = s.pending := rfl
@[simp] theorem State.bump_powered (s : State) (f : Fld) (e n : Nat) : (s.bump f e n).powered = s.powered := rfl
@[simp] theorem State.bump_tick (s : State) (f : Fld) (e n : Nat) : (s.bump f e n).tick = s.tick := rfl
@[simp] theorem State.bump_freeCtr (s : State) (f : Fld) (e n : Nat) : (s.bump f e n).freeCtr = s.freeCtr := rfl
@[simp] theorem State.bump_starts (s : State) (f : Fld) (e n : Nat) : (s.bump f e n).starts = s.starts := rfl
@[simp] theorem State.bump_steps (s : State) (f : Fld) (e n : Nat) : (s.bump f e n).steps = s.steps := rfl
@[simp] theorem State.bump_out (s : State) (f : Fld) (e n : Nat) : (s.bump f e n).out = s.out := rfl
@[simp] theorem State.bump_pmc (s : State) (f : Fld) (e n : Nat) : (s.bump f e n).pmc = s.pmc := rfl
@[simp] theorem State.bump_pins (s : State) (f : Fld) (e n : Nat) : (s.bump f e n).pins = s.pins := rfl
@[simp] theorem State.bump_boot (s : State) (f : Fld) (e n : Nat) : (s.bump f e n).boot = s.boot := rfl
@[simp] theorem State.bump_per (s : State) (f : Fld) (e n : Nat) : (s.bump f e n).per = s.per := rfl
@[simp] theorem State.bump_fw (s : State) (f : Fld) (e n : Nat) : (s.bump f e n).fw = s.fw := rfl
@[simp] theorem State.bump_smb (s : State) (f : Fld) (e n : Nat) : (s.bump f e n).smb = s.smb := rfl
@[simp] theorem State.bump_thimble (s : State) (f : Fld) (e n : Nat) : (s.bump f e n).thimble = s.thimble := rfl
@[simp] theorem State.bump_qps (s : State) (f : Fld) (e n : Nat) : (s.bump f e n).qps = s.qps := rfl
@[simp] theorem State.bump_rings (s : State) (f : Fld) (e n : Nat) : (s.bump f e n).rings = s.rings := rfl
@[simp] theorem State.bump_eqs (s : State) (f : Fld) (e n : Nat) : (s.bump f e n).eqs = s.eqs := rfl
@[simp] theorem State.bump_mem (s : State) (f : Fld) (e n : Nat) : (s.bump f e n).mem = s.mem := rfl
@[simp] theorem State.bump_guard (s : State) (f : Fld) (e n : Nat) : (s.bump f e n).guard = s.guard := rfl
@[simp] theorem State.bump_lng (s : State) (f : Fld) (e n : Nat) : (s.bump f e n).lng = s.lng := rfl
@[simp] theorem State.bump_chans (s : State) (f : Fld) (e n : Nat) : (s.bump f e n).chans = s.chans := rfl
@[simp] theorem State.bump_ports (s : State) (f : Fld) (e n : Nat) : (s.bump f e n).ports = s.ports := rfl
@[simp] theorem State.bump_cal (s : State) (f : Fld) (e n : Nat) : (s.bump f e n).cal = s.cal := rfl
@[simp] theorem State.bump_tack (s : State) (f : Fld) (e n : Nat) : (s.bump f e n).tack = s.tack := rfl
@[simp] theorem State.bump_narrow (s : State) (f : Fld) (e n : Nat) : (s.bump f e n).narrow = s.narrow := rfl
@[simp] theorem State.bump_waves (s : State) (f : Fld) (e n : Nat) : (s.bump f e n).waves = s.waves := rfl
@[simp] theorem State.bump_hem (s : State) (f : Fld) (e n : Nat) : (s.bump f e n).hem = s.hem := rfl
@[simp] theorem State.bump_reg (s : State) (f : Fld) (e n : Nat) : (s.bump f e n).reg = s.reg := rfl
@[simp] theorem State.bump_bist (s : State) (f : Fld) (e n : Nat) : (s.bump f e n).bist = s.bist := rfl
@[simp] theorem State.bump_dump (s : State) (f : Fld) (e n : Nat) : (s.bump f e n).dump = s.dump := rfl
@[simp] theorem State.bump_due (s : State) (f : Fld) (e n : Nat) : (s.bump f e n).due = s.due := rfl
@[simp] theorem State.bump_scrub (s : State) (f : Fld) (e n : Nat) : (s.bump f e n).scrub = s.scrub := rfl
@[simp] theorem State.bump_turn (s : State) (f : Fld) (e n : Nat) : (s.bump f e n).turn = s.turn := rfl
@[simp] theorem State.bump_clocks (s : State) (f : Fld) (e n : Nat) : (s.bump f e n).clocks = s.clocks := rfl
@[simp] theorem State.bump_inUse (s : State) (f : Fld) (e n : Nat) : (s.bump f e n).inUse = s.inUse := rfl

@[simp] theorem State.wrBit_pending (s : State) (f : Fld) (i : Nat) (b : Bool) (e : Nat) : (s.wrBit f i b e).pending = s.pending := rfl
@[simp] theorem State.wrBit_powered (s : State) (f : Fld) (i : Nat) (b : Bool) (e : Nat) : (s.wrBit f i b e).powered = s.powered := rfl
@[simp] theorem State.wrBit_tick (s : State) (f : Fld) (i : Nat) (b : Bool) (e : Nat) : (s.wrBit f i b e).tick = s.tick := rfl
@[simp] theorem State.wrBit_freeCtr (s : State) (f : Fld) (i : Nat) (b : Bool) (e : Nat) : (s.wrBit f i b e).freeCtr = s.freeCtr := rfl
@[simp] theorem State.wrBit_starts (s : State) (f : Fld) (i : Nat) (b : Bool) (e : Nat) : (s.wrBit f i b e).starts = s.starts := rfl
@[simp] theorem State.wrBit_steps (s : State) (f : Fld) (i : Nat) (b : Bool) (e : Nat) : (s.wrBit f i b e).steps = s.steps := rfl
@[simp] theorem State.wrBit_out (s : State) (f : Fld) (i : Nat) (b : Bool) (e : Nat) : (s.wrBit f i b e).out = s.out := rfl
@[simp] theorem State.wrBit_pmc (s : State) (f : Fld) (i : Nat) (b : Bool) (e : Nat) : (s.wrBit f i b e).pmc = s.pmc := rfl
@[simp] theorem State.wrBit_pins (s : State) (f : Fld) (i : Nat) (b : Bool) (e : Nat) : (s.wrBit f i b e).pins = s.pins := rfl
@[simp] theorem State.wrBit_boot (s : State) (f : Fld) (i : Nat) (b : Bool) (e : Nat) : (s.wrBit f i b e).boot = s.boot := rfl
@[simp] theorem State.wrBit_per (s : State) (f : Fld) (i : Nat) (b : Bool) (e : Nat) : (s.wrBit f i b e).per = s.per := rfl
@[simp] theorem State.wrBit_fw (s : State) (f : Fld) (i : Nat) (b : Bool) (e : Nat) : (s.wrBit f i b e).fw = s.fw := rfl
@[simp] theorem State.wrBit_smb (s : State) (f : Fld) (i : Nat) (b : Bool) (e : Nat) : (s.wrBit f i b e).smb = s.smb := rfl
@[simp] theorem State.wrBit_thimble (s : State) (f : Fld) (i : Nat) (b : Bool) (e : Nat) : (s.wrBit f i b e).thimble = s.thimble := rfl
@[simp] theorem State.wrBit_qps (s : State) (f : Fld) (i : Nat) (b : Bool) (e : Nat) : (s.wrBit f i b e).qps = s.qps := rfl
@[simp] theorem State.wrBit_rings (s : State) (f : Fld) (i : Nat) (b : Bool) (e : Nat) : (s.wrBit f i b e).rings = s.rings := rfl
@[simp] theorem State.wrBit_eqs (s : State) (f : Fld) (i : Nat) (b : Bool) (e : Nat) : (s.wrBit f i b e).eqs = s.eqs := rfl
@[simp] theorem State.wrBit_mem (s : State) (f : Fld) (i : Nat) (b : Bool) (e : Nat) : (s.wrBit f i b e).mem = s.mem := rfl
@[simp] theorem State.wrBit_guard (s : State) (f : Fld) (i : Nat) (b : Bool) (e : Nat) : (s.wrBit f i b e).guard = s.guard := rfl
@[simp] theorem State.wrBit_lng (s : State) (f : Fld) (i : Nat) (b : Bool) (e : Nat) : (s.wrBit f i b e).lng = s.lng := rfl
@[simp] theorem State.wrBit_chans (s : State) (f : Fld) (i : Nat) (b : Bool) (e : Nat) : (s.wrBit f i b e).chans = s.chans := rfl
@[simp] theorem State.wrBit_ports (s : State) (f : Fld) (i : Nat) (b : Bool) (e : Nat) : (s.wrBit f i b e).ports = s.ports := rfl
@[simp] theorem State.wrBit_cal (s : State) (f : Fld) (i : Nat) (b : Bool) (e : Nat) : (s.wrBit f i b e).cal = s.cal := rfl
@[simp] theorem State.wrBit_tack (s : State) (f : Fld) (i : Nat) (b : Bool) (e : Nat) : (s.wrBit f i b e).tack = s.tack := rfl
@[simp] theorem State.wrBit_narrow (s : State) (f : Fld) (i : Nat) (b : Bool) (e : Nat) : (s.wrBit f i b e).narrow = s.narrow := rfl
@[simp] theorem State.wrBit_waves (s : State) (f : Fld) (i : Nat) (b : Bool) (e : Nat) : (s.wrBit f i b e).waves = s.waves := rfl
@[simp] theorem State.wrBit_hem (s : State) (f : Fld) (i : Nat) (b : Bool) (e : Nat) : (s.wrBit f i b e).hem = s.hem := rfl
@[simp] theorem State.wrBit_reg (s : State) (f : Fld) (i : Nat) (b : Bool) (e : Nat) : (s.wrBit f i b e).reg = s.reg := rfl
@[simp] theorem State.wrBit_bist (s : State) (f : Fld) (i : Nat) (b : Bool) (e : Nat) : (s.wrBit f i b e).bist = s.bist := rfl
@[simp] theorem State.wrBit_dump (s : State) (f : Fld) (i : Nat) (b : Bool) (e : Nat) : (s.wrBit f i b e).dump = s.dump := rfl
@[simp] theorem State.wrBit_due (s : State) (f : Fld) (i : Nat) (b : Bool) (e : Nat) : (s.wrBit f i b e).due = s.due := rfl
@[simp] theorem State.wrBit_scrub (s : State) (f : Fld) (i : Nat) (b : Bool) (e : Nat) : (s.wrBit f i b e).scrub = s.scrub := rfl
@[simp] theorem State.wrBit_turn (s : State) (f : Fld) (i : Nat) (b : Bool) (e : Nat) : (s.wrBit f i b e).turn = s.turn := rfl
@[simp] theorem State.wrBit_clocks (s : State) (f : Fld) (i : Nat) (b : Bool) (e : Nat) : (s.wrBit f i b e).clocks = s.clocks := rfl
@[simp] theorem State.wrBit_inUse (s : State) (f : Fld) (i : Nat) (b : Bool) (e : Nat) : (s.wrBit f i b e).inUse = s.inUse := rfl

@[simp] theorem State.clr_pending (s : State) (f : Fld) (e : Nat) : (s.clr f e).pending = s.pending := rfl
@[simp] theorem State.clr_powered (s : State) (f : Fld) (e : Nat) : (s.clr f e).powered = s.powered := rfl
@[simp] theorem State.clr_tick (s : State) (f : Fld) (e : Nat) : (s.clr f e).tick = s.tick := rfl
@[simp] theorem State.clr_freeCtr (s : State) (f : Fld) (e : Nat) : (s.clr f e).freeCtr = s.freeCtr := rfl
@[simp] theorem State.clr_starts (s : State) (f : Fld) (e : Nat) : (s.clr f e).starts = s.starts := rfl
@[simp] theorem State.clr_steps (s : State) (f : Fld) (e : Nat) : (s.clr f e).steps = s.steps := rfl
@[simp] theorem State.clr_out (s : State) (f : Fld) (e : Nat) : (s.clr f e).out = s.out := rfl
@[simp] theorem State.clr_pmc (s : State) (f : Fld) (e : Nat) : (s.clr f e).pmc = s.pmc := rfl
@[simp] theorem State.clr_pins (s : State) (f : Fld) (e : Nat) : (s.clr f e).pins = s.pins := rfl
@[simp] theorem State.clr_boot (s : State) (f : Fld) (e : Nat) : (s.clr f e).boot = s.boot := rfl
@[simp] theorem State.clr_per (s : State) (f : Fld) (e : Nat) : (s.clr f e).per = s.per := rfl
@[simp] theorem State.clr_fw (s : State) (f : Fld) (e : Nat) : (s.clr f e).fw = s.fw := rfl
@[simp] theorem State.clr_smb (s : State) (f : Fld) (e : Nat) : (s.clr f e).smb = s.smb := rfl
@[simp] theorem State.clr_thimble (s : State) (f : Fld) (e : Nat) : (s.clr f e).thimble = s.thimble := rfl
@[simp] theorem State.clr_qps (s : State) (f : Fld) (e : Nat) : (s.clr f e).qps = s.qps := rfl
@[simp] theorem State.clr_rings (s : State) (f : Fld) (e : Nat) : (s.clr f e).rings = s.rings := rfl
@[simp] theorem State.clr_eqs (s : State) (f : Fld) (e : Nat) : (s.clr f e).eqs = s.eqs := rfl
@[simp] theorem State.clr_mem (s : State) (f : Fld) (e : Nat) : (s.clr f e).mem = s.mem := rfl
@[simp] theorem State.clr_guard (s : State) (f : Fld) (e : Nat) : (s.clr f e).guard = s.guard := rfl
@[simp] theorem State.clr_lng (s : State) (f : Fld) (e : Nat) : (s.clr f e).lng = s.lng := rfl
@[simp] theorem State.clr_chans (s : State) (f : Fld) (e : Nat) : (s.clr f e).chans = s.chans := rfl
@[simp] theorem State.clr_ports (s : State) (f : Fld) (e : Nat) : (s.clr f e).ports = s.ports := rfl
@[simp] theorem State.clr_cal (s : State) (f : Fld) (e : Nat) : (s.clr f e).cal = s.cal := rfl
@[simp] theorem State.clr_tack (s : State) (f : Fld) (e : Nat) : (s.clr f e).tack = s.tack := rfl
@[simp] theorem State.clr_narrow (s : State) (f : Fld) (e : Nat) : (s.clr f e).narrow = s.narrow := rfl
@[simp] theorem State.clr_waves (s : State) (f : Fld) (e : Nat) : (s.clr f e).waves = s.waves := rfl
@[simp] theorem State.clr_hem (s : State) (f : Fld) (e : Nat) : (s.clr f e).hem = s.hem := rfl
@[simp] theorem State.clr_reg (s : State) (f : Fld) (e : Nat) : (s.clr f e).reg = s.reg := rfl
@[simp] theorem State.clr_bist (s : State) (f : Fld) (e : Nat) : (s.clr f e).bist = s.bist := rfl
@[simp] theorem State.clr_dump (s : State) (f : Fld) (e : Nat) : (s.clr f e).dump = s.dump := rfl
@[simp] theorem State.clr_due (s : State) (f : Fld) (e : Nat) : (s.clr f e).due = s.due := rfl
@[simp] theorem State.clr_scrub (s : State) (f : Fld) (e : Nat) : (s.clr f e).scrub = s.scrub := rfl
@[simp] theorem State.clr_turn (s : State) (f : Fld) (e : Nat) : (s.clr f e).turn = s.turn := rfl
@[simp] theorem State.clr_clocks (s : State) (f : Fld) (e : Nat) : (s.clr f e).clocks = s.clocks := rfl
@[simp] theorem State.clr_inUse (s : State) (f : Fld) (e : Nat) : (s.clr f e).inUse = s.inUse := rfl

@[simp] theorem State.emit_pending (s : State) (o : Out) : (s.emit o).pending = s.pending := rfl
@[simp] theorem State.emit_powered (s : State) (o : Out) : (s.emit o).powered = s.powered := rfl
@[simp] theorem State.emit_tick (s : State) (o : Out) : (s.emit o).tick = s.tick := rfl
@[simp] theorem State.emit_freeCtr (s : State) (o : Out) : (s.emit o).freeCtr = s.freeCtr := rfl
@[simp] theorem State.emit_starts (s : State) (o : Out) : (s.emit o).starts = s.starts := rfl
@[simp] theorem State.emit_steps (s : State) (o : Out) : (s.emit o).steps = s.steps := rfl
@[simp] theorem State.emit_regs (s : State) (o : Out) : (s.emit o).regs = s.regs := rfl
@[simp] theorem State.emit_pmc (s : State) (o : Out) : (s.emit o).pmc = s.pmc := rfl
@[simp] theorem State.emit_pins (s : State) (o : Out) : (s.emit o).pins = s.pins := rfl
@[simp] theorem State.emit_boot (s : State) (o : Out) : (s.emit o).boot = s.boot := rfl
@[simp] theorem State.emit_per (s : State) (o : Out) : (s.emit o).per = s.per := rfl
@[simp] theorem State.emit_fw (s : State) (o : Out) : (s.emit o).fw = s.fw := rfl
@[simp] theorem State.emit_smb (s : State) (o : Out) : (s.emit o).smb = s.smb := rfl
@[simp] theorem State.emit_thimble (s : State) (o : Out) : (s.emit o).thimble = s.thimble := rfl
@[simp] theorem State.emit_qps (s : State) (o : Out) : (s.emit o).qps = s.qps := rfl
@[simp] theorem State.emit_rings (s : State) (o : Out) : (s.emit o).rings = s.rings := rfl
@[simp] theorem State.emit_eqs (s : State) (o : Out) : (s.emit o).eqs = s.eqs := rfl
@[simp] theorem State.emit_mem (s : State) (o : Out) : (s.emit o).mem = s.mem := rfl
@[simp] theorem State.emit_guard (s : State) (o : Out) : (s.emit o).guard = s.guard := rfl
@[simp] theorem State.emit_lng (s : State) (o : Out) : (s.emit o).lng = s.lng := rfl
@[simp] theorem State.emit_chans (s : State) (o : Out) : (s.emit o).chans = s.chans := rfl
@[simp] theorem State.emit_ports (s : State) (o : Out) : (s.emit o).ports = s.ports := rfl
@[simp] theorem State.emit_cal (s : State) (o : Out) : (s.emit o).cal = s.cal := rfl
@[simp] theorem State.emit_tack (s : State) (o : Out) : (s.emit o).tack = s.tack := rfl
@[simp] theorem State.emit_narrow (s : State) (o : Out) : (s.emit o).narrow = s.narrow := rfl
@[simp] theorem State.emit_waves (s : State) (o : Out) : (s.emit o).waves = s.waves := rfl
@[simp] theorem State.emit_hem (s : State) (o : Out) : (s.emit o).hem = s.hem := rfl
@[simp] theorem State.emit_reg (s : State) (o : Out) : (s.emit o).reg = s.reg := rfl
@[simp] theorem State.emit_bist (s : State) (o : Out) : (s.emit o).bist = s.bist := rfl
@[simp] theorem State.emit_dump (s : State) (o : Out) : (s.emit o).dump = s.dump := rfl
@[simp] theorem State.emit_due (s : State) (o : Out) : (s.emit o).due = s.due := rfl
@[simp] theorem State.emit_scrub (s : State) (o : Out) : (s.emit o).scrub = s.scrub := rfl
@[simp] theorem State.emit_turn (s : State) (o : Out) : (s.emit o).turn = s.turn := rfl
@[simp] theorem State.emit_clocks (s : State) (o : Out) : (s.emit o).clocks = s.clocks := rfl
@[simp] theorem State.emit_inUse (s : State) (o : Out) : (s.emit o).inUse = s.inUse := rfl

@[simp] theorem State.emit_rd (s : State) (o : Out) (g : Fld) (j : Nat) : (s.emit o).rd g j = s.rd g j := by simp [State.rd]

@[simp] theorem State.drawn_pending (s : State) : (s.drawn).pending = s.pending := rfl
@[simp] theorem State.drawn_powered (s : State) : (s.drawn).powered = s.powered := rfl
@[simp] theorem State.drawn_tick (s : State) : (s.drawn).tick = s.tick := rfl
@[simp] theorem State.drawn_starts (s : State) : (s.drawn).starts = s.starts := rfl
@[simp] theorem State.drawn_steps (s : State) : (s.drawn).steps = s.steps := rfl
@[simp] theorem State.drawn_regs (s : State) : (s.drawn).regs = s.regs := rfl
@[simp] theorem State.drawn_out (s : State) : (s.drawn).out = s.out := rfl
@[simp] theorem State.drawn_pmc (s : State) : (s.drawn).pmc = s.pmc := rfl
@[simp] theorem State.drawn_pins (s : State) : (s.drawn).pins = s.pins := rfl
@[simp] theorem State.drawn_boot (s : State) : (s.drawn).boot = s.boot := rfl
@[simp] theorem State.drawn_per (s : State) : (s.drawn).per = s.per := rfl
@[simp] theorem State.drawn_fw (s : State) : (s.drawn).fw = s.fw := rfl
@[simp] theorem State.drawn_smb (s : State) : (s.drawn).smb = s.smb := rfl
@[simp] theorem State.drawn_thimble (s : State) : (s.drawn).thimble = s.thimble := rfl
@[simp] theorem State.drawn_qps (s : State) : (s.drawn).qps = s.qps := rfl
@[simp] theorem State.drawn_rings (s : State) : (s.drawn).rings = s.rings := rfl
@[simp] theorem State.drawn_eqs (s : State) : (s.drawn).eqs = s.eqs := rfl
@[simp] theorem State.drawn_mem (s : State) : (s.drawn).mem = s.mem := rfl
@[simp] theorem State.drawn_guard (s : State) : (s.drawn).guard = s.guard := rfl
@[simp] theorem State.drawn_lng (s : State) : (s.drawn).lng = s.lng := rfl
@[simp] theorem State.drawn_chans (s : State) : (s.drawn).chans = s.chans := rfl
@[simp] theorem State.drawn_ports (s : State) : (s.drawn).ports = s.ports := rfl
@[simp] theorem State.drawn_cal (s : State) : (s.drawn).cal = s.cal := rfl
@[simp] theorem State.drawn_tack (s : State) : (s.drawn).tack = s.tack := rfl
@[simp] theorem State.drawn_narrow (s : State) : (s.drawn).narrow = s.narrow := rfl
@[simp] theorem State.drawn_waves (s : State) : (s.drawn).waves = s.waves := rfl
@[simp] theorem State.drawn_hem (s : State) : (s.drawn).hem = s.hem := rfl
@[simp] theorem State.drawn_reg (s : State) : (s.drawn).reg = s.reg := rfl
@[simp] theorem State.drawn_bist (s : State) : (s.drawn).bist = s.bist := rfl
@[simp] theorem State.drawn_dump (s : State) : (s.drawn).dump = s.dump := rfl
@[simp] theorem State.drawn_due (s : State) : (s.drawn).due = s.due := rfl
@[simp] theorem State.drawn_scrub (s : State) : (s.drawn).scrub = s.scrub := rfl
@[simp] theorem State.drawn_turn (s : State) : (s.drawn).turn = s.turn := rfl
@[simp] theorem State.drawn_clocks (s : State) : (s.drawn).clocks = s.clocks := rfl
@[simp] theorem State.drawn_inUse (s : State) : (s.drawn).inUse = s.inUse := rfl

@[simp] theorem State.drawn_rd (s : State) (g : Fld) (j : Nat) : (s.drawn).rd g j = s.rd g j := by simp [State.rd]

@[simp] theorem State.setChan_pending (s : State) (c : Nat) (x : Chan) : (s.setChan c x).pending = s.pending := rfl
@[simp] theorem State.setChan_powered (s : State) (c : Nat) (x : Chan) : (s.setChan c x).powered = s.powered := rfl
@[simp] theorem State.setChan_tick (s : State) (c : Nat) (x : Chan) : (s.setChan c x).tick = s.tick := rfl
@[simp] theorem State.setChan_freeCtr (s : State) (c : Nat) (x : Chan) : (s.setChan c x).freeCtr = s.freeCtr := rfl
@[simp] theorem State.setChan_starts (s : State) (c : Nat) (x : Chan) : (s.setChan c x).starts = s.starts := rfl
@[simp] theorem State.setChan_steps (s : State) (c : Nat) (x : Chan) : (s.setChan c x).steps = s.steps := rfl
@[simp] theorem State.setChan_regs (s : State) (c : Nat) (x : Chan) : (s.setChan c x).regs = s.regs := rfl
@[simp] theorem State.setChan_out (s : State) (c : Nat) (x : Chan) : (s.setChan c x).out = s.out := rfl
@[simp] theorem State.setChan_pmc (s : State) (c : Nat) (x : Chan) : (s.setChan c x).pmc = s.pmc := rfl
@[simp] theorem State.setChan_pins (s : State) (c : Nat) (x : Chan) : (s.setChan c x).pins = s.pins := rfl
@[simp] theorem State.setChan_boot (s : State) (c : Nat) (x : Chan) : (s.setChan c x).boot = s.boot := rfl
@[simp] theorem State.setChan_per (s : State) (c : Nat) (x : Chan) : (s.setChan c x).per = s.per := rfl
@[simp] theorem State.setChan_fw (s : State) (c : Nat) (x : Chan) : (s.setChan c x).fw = s.fw := rfl
@[simp] theorem State.setChan_smb (s : State) (c : Nat) (x : Chan) : (s.setChan c x).smb = s.smb := rfl
@[simp] theorem State.setChan_thimble (s : State) (c : Nat) (x : Chan) : (s.setChan c x).thimble = s.thimble := rfl
@[simp] theorem State.setChan_qps (s : State) (c : Nat) (x : Chan) : (s.setChan c x).qps = s.qps := rfl
@[simp] theorem State.setChan_rings (s : State) (c : Nat) (x : Chan) : (s.setChan c x).rings = s.rings := rfl
@[simp] theorem State.setChan_eqs (s : State) (c : Nat) (x : Chan) : (s.setChan c x).eqs = s.eqs := rfl
@[simp] theorem State.setChan_mem (s : State) (c : Nat) (x : Chan) : (s.setChan c x).mem = s.mem := rfl
@[simp] theorem State.setChan_guard (s : State) (c : Nat) (x : Chan) : (s.setChan c x).guard = s.guard := rfl
@[simp] theorem State.setChan_lng (s : State) (c : Nat) (x : Chan) : (s.setChan c x).lng = s.lng := rfl
@[simp] theorem State.setChan_ports (s : State) (c : Nat) (x : Chan) : (s.setChan c x).ports = s.ports := rfl
@[simp] theorem State.setChan_cal (s : State) (c : Nat) (x : Chan) : (s.setChan c x).cal = s.cal := rfl
@[simp] theorem State.setChan_tack (s : State) (c : Nat) (x : Chan) : (s.setChan c x).tack = s.tack := rfl
@[simp] theorem State.setChan_narrow (s : State) (c : Nat) (x : Chan) : (s.setChan c x).narrow = s.narrow := rfl
@[simp] theorem State.setChan_waves (s : State) (c : Nat) (x : Chan) : (s.setChan c x).waves = s.waves := rfl
@[simp] theorem State.setChan_hem (s : State) (c : Nat) (x : Chan) : (s.setChan c x).hem = s.hem := rfl
@[simp] theorem State.setChan_reg (s : State) (c : Nat) (x : Chan) : (s.setChan c x).reg = s.reg := rfl
@[simp] theorem State.setChan_bist (s : State) (c : Nat) (x : Chan) : (s.setChan c x).bist = s.bist := rfl
@[simp] theorem State.setChan_dump (s : State) (c : Nat) (x : Chan) : (s.setChan c x).dump = s.dump := rfl
@[simp] theorem State.setChan_due (s : State) (c : Nat) (x : Chan) : (s.setChan c x).due = s.due := rfl
@[simp] theorem State.setChan_scrub (s : State) (c : Nat) (x : Chan) : (s.setChan c x).scrub = s.scrub := rfl
@[simp] theorem State.setChan_turn (s : State) (c : Nat) (x : Chan) : (s.setChan c x).turn = s.turn := rfl
@[simp] theorem State.setChan_clocks (s : State) (c : Nat) (x : Chan) : (s.setChan c x).clocks = s.clocks := rfl
@[simp] theorem State.setChan_inUse (s : State) (c : Nat) (x : Chan) : (s.setChan c x).inUse = s.inUse := rfl

@[simp] theorem State.setChan_rd (s : State) (c : Nat) (x : Chan) (g : Fld) (j : Nat) : (s.setChan c x).rd g j = s.rd g j := by simp [State.rd]

@[simp] theorem State.setQp_pending (s : State) (i : Nat) (x : Qp) : (s.setQp i x).pending = s.pending := rfl
@[simp] theorem State.setQp_powered (s : State) (i : Nat) (x : Qp) : (s.setQp i x).powered = s.powered := rfl
@[simp] theorem State.setQp_tick (s : State) (i : Nat) (x : Qp) : (s.setQp i x).tick = s.tick := rfl
@[simp] theorem State.setQp_freeCtr (s : State) (i : Nat) (x : Qp) : (s.setQp i x).freeCtr = s.freeCtr := rfl
@[simp] theorem State.setQp_starts (s : State) (i : Nat) (x : Qp) : (s.setQp i x).starts = s.starts := rfl
@[simp] theorem State.setQp_steps (s : State) (i : Nat) (x : Qp) : (s.setQp i x).steps = s.steps := rfl
@[simp] theorem State.setQp_regs (s : State) (i : Nat) (x : Qp) : (s.setQp i x).regs = s.regs := rfl
@[simp] theorem State.setQp_out (s : State) (i : Nat) (x : Qp) : (s.setQp i x).out = s.out := rfl
@[simp] theorem State.setQp_pmc (s : State) (i : Nat) (x : Qp) : (s.setQp i x).pmc = s.pmc := rfl
@[simp] theorem State.setQp_pins (s : State) (i : Nat) (x : Qp) : (s.setQp i x).pins = s.pins := rfl
@[simp] theorem State.setQp_boot (s : State) (i : Nat) (x : Qp) : (s.setQp i x).boot = s.boot := rfl
@[simp] theorem State.setQp_per (s : State) (i : Nat) (x : Qp) : (s.setQp i x).per = s.per := rfl
@[simp] theorem State.setQp_fw (s : State) (i : Nat) (x : Qp) : (s.setQp i x).fw = s.fw := rfl
@[simp] theorem State.setQp_smb (s : State) (i : Nat) (x : Qp) : (s.setQp i x).smb = s.smb := rfl
@[simp] theorem State.setQp_thimble (s : State) (i : Nat) (x : Qp) : (s.setQp i x).thimble = s.thimble := rfl
@[simp] theorem State.setQp_rings (s : State) (i : Nat) (x : Qp) : (s.setQp i x).rings = s.rings := rfl
@[simp] theorem State.setQp_eqs (s : State) (i : Nat) (x : Qp) : (s.setQp i x).eqs = s.eqs := rfl
@[simp] theorem State.setQp_mem (s : State) (i : Nat) (x : Qp) : (s.setQp i x).mem = s.mem := rfl
@[simp] theorem State.setQp_guard (s : State) (i : Nat) (x : Qp) : (s.setQp i x).guard = s.guard := rfl
@[simp] theorem State.setQp_lng (s : State) (i : Nat) (x : Qp) : (s.setQp i x).lng = s.lng := rfl
@[simp] theorem State.setQp_chans (s : State) (i : Nat) (x : Qp) : (s.setQp i x).chans = s.chans := rfl
@[simp] theorem State.setQp_ports (s : State) (i : Nat) (x : Qp) : (s.setQp i x).ports = s.ports := rfl
@[simp] theorem State.setQp_cal (s : State) (i : Nat) (x : Qp) : (s.setQp i x).cal = s.cal := rfl
@[simp] theorem State.setQp_tack (s : State) (i : Nat) (x : Qp) : (s.setQp i x).tack = s.tack := rfl
@[simp] theorem State.setQp_narrow (s : State) (i : Nat) (x : Qp) : (s.setQp i x).narrow = s.narrow := rfl
@[simp] theorem State.setQp_waves (s : State) (i : Nat) (x : Qp) : (s.setQp i x).waves = s.waves := rfl
@[simp] theorem State.setQp_hem (s : State) (i : Nat) (x : Qp) : (s.setQp i x).hem = s.hem := rfl
@[simp] theorem State.setQp_reg (s : State) (i : Nat) (x : Qp) : (s.setQp i x).reg = s.reg := rfl
@[simp] theorem State.setQp_bist (s : State) (i : Nat) (x : Qp) : (s.setQp i x).bist = s.bist := rfl
@[simp] theorem State.setQp_dump (s : State) (i : Nat) (x : Qp) : (s.setQp i x).dump = s.dump := rfl
@[simp] theorem State.setQp_due (s : State) (i : Nat) (x : Qp) : (s.setQp i x).due = s.due := rfl
@[simp] theorem State.setQp_scrub (s : State) (i : Nat) (x : Qp) : (s.setQp i x).scrub = s.scrub := rfl
@[simp] theorem State.setQp_turn (s : State) (i : Nat) (x : Qp) : (s.setQp i x).turn = s.turn := rfl
@[simp] theorem State.setQp_clocks (s : State) (i : Nat) (x : Qp) : (s.setQp i x).clocks = s.clocks := rfl
@[simp] theorem State.setQp_inUse (s : State) (i : Nat) (x : Qp) : (s.setQp i x).inUse = s.inUse := rfl

@[simp] theorem State.setQp_rd (s : State) (i : Nat) (x : Qp) (g : Fld) (j : Nat) : (s.setQp i x).rd g j = s.rd g j := by simp [State.rd]

@[simp] theorem State.setRing_pending (s : State) (i : Nat) (x : Ring) : (s.setRing i x).pending = s.pending := rfl
@[simp] theorem State.setRing_powered (s : State) (i : Nat) (x : Ring) : (s.setRing i x).powered = s.powered := rfl
@[simp] theorem State.setRing_tick (s : State) (i : Nat) (x : Ring) : (s.setRing i x).tick = s.tick := rfl
@[simp] theorem State.setRing_freeCtr (s : State) (i : Nat) (x : Ring) : (s.setRing i x).freeCtr = s.freeCtr := rfl
@[simp] theorem State.setRing_starts (s : State) (i : Nat) (x : Ring) : (s.setRing i x).starts = s.starts := rfl
@[simp] theorem State.setRing_steps (s : State) (i : Nat) (x : Ring) : (s.setRing i x).steps = s.steps := rfl
@[simp] theorem State.setRing_regs (s : State) (i : Nat) (x : Ring) : (s.setRing i x).regs = s.regs := rfl
@[simp] theorem State.setRing_out (s : State) (i : Nat) (x : Ring) : (s.setRing i x).out = s.out := rfl
@[simp] theorem State.setRing_pmc (s : State) (i : Nat) (x : Ring) : (s.setRing i x).pmc = s.pmc := rfl
@[simp] theorem State.setRing_pins (s : State) (i : Nat) (x : Ring) : (s.setRing i x).pins = s.pins := rfl
@[simp] theorem State.setRing_boot (s : State) (i : Nat) (x : Ring) : (s.setRing i x).boot = s.boot := rfl
@[simp] theorem State.setRing_per (s : State) (i : Nat) (x : Ring) : (s.setRing i x).per = s.per := rfl
@[simp] theorem State.setRing_fw (s : State) (i : Nat) (x : Ring) : (s.setRing i x).fw = s.fw := rfl
@[simp] theorem State.setRing_smb (s : State) (i : Nat) (x : Ring) : (s.setRing i x).smb = s.smb := rfl
@[simp] theorem State.setRing_thimble (s : State) (i : Nat) (x : Ring) : (s.setRing i x).thimble = s.thimble := rfl
@[simp] theorem State.setRing_qps (s : State) (i : Nat) (x : Ring) : (s.setRing i x).qps = s.qps := rfl
@[simp] theorem State.setRing_eqs (s : State) (i : Nat) (x : Ring) : (s.setRing i x).eqs = s.eqs := rfl
@[simp] theorem State.setRing_mem (s : State) (i : Nat) (x : Ring) : (s.setRing i x).mem = s.mem := rfl
@[simp] theorem State.setRing_guard (s : State) (i : Nat) (x : Ring) : (s.setRing i x).guard = s.guard := rfl
@[simp] theorem State.setRing_lng (s : State) (i : Nat) (x : Ring) : (s.setRing i x).lng = s.lng := rfl
@[simp] theorem State.setRing_chans (s : State) (i : Nat) (x : Ring) : (s.setRing i x).chans = s.chans := rfl
@[simp] theorem State.setRing_ports (s : State) (i : Nat) (x : Ring) : (s.setRing i x).ports = s.ports := rfl
@[simp] theorem State.setRing_cal (s : State) (i : Nat) (x : Ring) : (s.setRing i x).cal = s.cal := rfl
@[simp] theorem State.setRing_tack (s : State) (i : Nat) (x : Ring) : (s.setRing i x).tack = s.tack := rfl
@[simp] theorem State.setRing_narrow (s : State) (i : Nat) (x : Ring) : (s.setRing i x).narrow = s.narrow := rfl
@[simp] theorem State.setRing_waves (s : State) (i : Nat) (x : Ring) : (s.setRing i x).waves = s.waves := rfl
@[simp] theorem State.setRing_hem (s : State) (i : Nat) (x : Ring) : (s.setRing i x).hem = s.hem := rfl
@[simp] theorem State.setRing_reg (s : State) (i : Nat) (x : Ring) : (s.setRing i x).reg = s.reg := rfl
@[simp] theorem State.setRing_bist (s : State) (i : Nat) (x : Ring) : (s.setRing i x).bist = s.bist := rfl
@[simp] theorem State.setRing_dump (s : State) (i : Nat) (x : Ring) : (s.setRing i x).dump = s.dump := rfl
@[simp] theorem State.setRing_due (s : State) (i : Nat) (x : Ring) : (s.setRing i x).due = s.due := rfl
@[simp] theorem State.setRing_scrub (s : State) (i : Nat) (x : Ring) : (s.setRing i x).scrub = s.scrub := rfl
@[simp] theorem State.setRing_turn (s : State) (i : Nat) (x : Ring) : (s.setRing i x).turn = s.turn := rfl
@[simp] theorem State.setRing_clocks (s : State) (i : Nat) (x : Ring) : (s.setRing i x).clocks = s.clocks := rfl
@[simp] theorem State.setRing_inUse (s : State) (i : Nat) (x : Ring) : (s.setRing i x).inUse = s.inUse := rfl

@[simp] theorem State.setRing_rd (s : State) (i : Nat) (x : Ring) (g : Fld) (j : Nat) : (s.setRing i x).rd g j = s.rd g j := by simp [State.rd]

@[simp] theorem State.setEq_pending (s : State) (i : Nat) (x : EvQueue) : (s.setEq i x).pending = s.pending := rfl
@[simp] theorem State.setEq_powered (s : State) (i : Nat) (x : EvQueue) : (s.setEq i x).powered = s.powered := rfl
@[simp] theorem State.setEq_tick (s : State) (i : Nat) (x : EvQueue) : (s.setEq i x).tick = s.tick := rfl
@[simp] theorem State.setEq_freeCtr (s : State) (i : Nat) (x : EvQueue) : (s.setEq i x).freeCtr = s.freeCtr := rfl
@[simp] theorem State.setEq_starts (s : State) (i : Nat) (x : EvQueue) : (s.setEq i x).starts = s.starts := rfl
@[simp] theorem State.setEq_steps (s : State) (i : Nat) (x : EvQueue) : (s.setEq i x).steps = s.steps := rfl
@[simp] theorem State.setEq_regs (s : State) (i : Nat) (x : EvQueue) : (s.setEq i x).regs = s.regs := rfl
@[simp] theorem State.setEq_out (s : State) (i : Nat) (x : EvQueue) : (s.setEq i x).out = s.out := rfl
@[simp] theorem State.setEq_pmc (s : State) (i : Nat) (x : EvQueue) : (s.setEq i x).pmc = s.pmc := rfl
@[simp] theorem State.setEq_pins (s : State) (i : Nat) (x : EvQueue) : (s.setEq i x).pins = s.pins := rfl
@[simp] theorem State.setEq_boot (s : State) (i : Nat) (x : EvQueue) : (s.setEq i x).boot = s.boot := rfl
@[simp] theorem State.setEq_per (s : State) (i : Nat) (x : EvQueue) : (s.setEq i x).per = s.per := rfl
@[simp] theorem State.setEq_fw (s : State) (i : Nat) (x : EvQueue) : (s.setEq i x).fw = s.fw := rfl
@[simp] theorem State.setEq_smb (s : State) (i : Nat) (x : EvQueue) : (s.setEq i x).smb = s.smb := rfl
@[simp] theorem State.setEq_thimble (s : State) (i : Nat) (x : EvQueue) : (s.setEq i x).thimble = s.thimble := rfl
@[simp] theorem State.setEq_qps (s : State) (i : Nat) (x : EvQueue) : (s.setEq i x).qps = s.qps := rfl
@[simp] theorem State.setEq_rings (s : State) (i : Nat) (x : EvQueue) : (s.setEq i x).rings = s.rings := rfl
@[simp] theorem State.setEq_mem (s : State) (i : Nat) (x : EvQueue) : (s.setEq i x).mem = s.mem := rfl
@[simp] theorem State.setEq_guard (s : State) (i : Nat) (x : EvQueue) : (s.setEq i x).guard = s.guard := rfl
@[simp] theorem State.setEq_lng (s : State) (i : Nat) (x : EvQueue) : (s.setEq i x).lng = s.lng := rfl
@[simp] theorem State.setEq_chans (s : State) (i : Nat) (x : EvQueue) : (s.setEq i x).chans = s.chans := rfl
@[simp] theorem State.setEq_ports (s : State) (i : Nat) (x : EvQueue) : (s.setEq i x).ports = s.ports := rfl
@[simp] theorem State.setEq_cal (s : State) (i : Nat) (x : EvQueue) : (s.setEq i x).cal = s.cal := rfl
@[simp] theorem State.setEq_tack (s : State) (i : Nat) (x : EvQueue) : (s.setEq i x).tack = s.tack := rfl
@[simp] theorem State.setEq_narrow (s : State) (i : Nat) (x : EvQueue) : (s.setEq i x).narrow = s.narrow := rfl
@[simp] theorem State.setEq_waves (s : State) (i : Nat) (x : EvQueue) : (s.setEq i x).waves = s.waves := rfl
@[simp] theorem State.setEq_hem (s : State) (i : Nat) (x : EvQueue) : (s.setEq i x).hem = s.hem := rfl
@[simp] theorem State.setEq_reg (s : State) (i : Nat) (x : EvQueue) : (s.setEq i x).reg = s.reg := rfl
@[simp] theorem State.setEq_bist (s : State) (i : Nat) (x : EvQueue) : (s.setEq i x).bist = s.bist := rfl
@[simp] theorem State.setEq_dump (s : State) (i : Nat) (x : EvQueue) : (s.setEq i x).dump = s.dump := rfl
@[simp] theorem State.setEq_due (s : State) (i : Nat) (x : EvQueue) : (s.setEq i x).due = s.due := rfl
@[simp] theorem State.setEq_scrub (s : State) (i : Nat) (x : EvQueue) : (s.setEq i x).scrub = s.scrub := rfl
@[simp] theorem State.setEq_turn (s : State) (i : Nat) (x : EvQueue) : (s.setEq i x).turn = s.turn := rfl
@[simp] theorem State.setEq_clocks (s : State) (i : Nat) (x : EvQueue) : (s.setEq i x).clocks = s.clocks := rfl
@[simp] theorem State.setEq_inUse (s : State) (i : Nat) (x : EvQueue) : (s.setEq i x).inUse = s.inUse := rfl

@[simp] theorem State.setEq_rd (s : State) (i : Nat) (x : EvQueue) (g : Fld) (j : Nat) : (s.setEq i x).rd g j = s.rd g j := by simp [State.rd]

@[simp] theorem State.setPort_pending (s : State) (p : Nat) (x : Port) : (s.setPort p x).pending = s.pending := rfl
@[simp] theorem State.setPort_powered (s : State) (p : Nat) (x : Port) : (s.setPort p x).powered = s.powered := rfl
@[simp] theorem State.setPort_tick (s : State) (p : Nat) (x : Port) : (s.setPort p x).tick = s.tick := rfl
@[simp] theorem State.setPort_freeCtr (s : State) (p : Nat) (x : Port) : (s.setPort p x).freeCtr = s.freeCtr := rfl
@[simp] theorem State.setPort_starts (s : State) (p : Nat) (x : Port) : (s.setPort p x).starts = s.starts := rfl
@[simp] theorem State.setPort_steps (s : State) (p : Nat) (x : Port) : (s.setPort p x).steps = s.steps := rfl
@[simp] theorem State.setPort_regs (s : State) (p : Nat) (x : Port) : (s.setPort p x).regs = s.regs := rfl
@[simp] theorem State.setPort_out (s : State) (p : Nat) (x : Port) : (s.setPort p x).out = s.out := rfl
@[simp] theorem State.setPort_pmc (s : State) (p : Nat) (x : Port) : (s.setPort p x).pmc = s.pmc := rfl
@[simp] theorem State.setPort_pins (s : State) (p : Nat) (x : Port) : (s.setPort p x).pins = s.pins := rfl
@[simp] theorem State.setPort_boot (s : State) (p : Nat) (x : Port) : (s.setPort p x).boot = s.boot := rfl
@[simp] theorem State.setPort_per (s : State) (p : Nat) (x : Port) : (s.setPort p x).per = s.per := rfl
@[simp] theorem State.setPort_fw (s : State) (p : Nat) (x : Port) : (s.setPort p x).fw = s.fw := rfl
@[simp] theorem State.setPort_smb (s : State) (p : Nat) (x : Port) : (s.setPort p x).smb = s.smb := rfl
@[simp] theorem State.setPort_thimble (s : State) (p : Nat) (x : Port) : (s.setPort p x).thimble = s.thimble := rfl
@[simp] theorem State.setPort_qps (s : State) (p : Nat) (x : Port) : (s.setPort p x).qps = s.qps := rfl
@[simp] theorem State.setPort_rings (s : State) (p : Nat) (x : Port) : (s.setPort p x).rings = s.rings := rfl
@[simp] theorem State.setPort_eqs (s : State) (p : Nat) (x : Port) : (s.setPort p x).eqs = s.eqs := rfl
@[simp] theorem State.setPort_mem (s : State) (p : Nat) (x : Port) : (s.setPort p x).mem = s.mem := rfl
@[simp] theorem State.setPort_guard (s : State) (p : Nat) (x : Port) : (s.setPort p x).guard = s.guard := rfl
@[simp] theorem State.setPort_lng (s : State) (p : Nat) (x : Port) : (s.setPort p x).lng = s.lng := rfl
@[simp] theorem State.setPort_chans (s : State) (p : Nat) (x : Port) : (s.setPort p x).chans = s.chans := rfl
@[simp] theorem State.setPort_cal (s : State) (p : Nat) (x : Port) : (s.setPort p x).cal = s.cal := rfl
@[simp] theorem State.setPort_tack (s : State) (p : Nat) (x : Port) : (s.setPort p x).tack = s.tack := rfl
@[simp] theorem State.setPort_narrow (s : State) (p : Nat) (x : Port) : (s.setPort p x).narrow = s.narrow := rfl
@[simp] theorem State.setPort_waves (s : State) (p : Nat) (x : Port) : (s.setPort p x).waves = s.waves := rfl
@[simp] theorem State.setPort_hem (s : State) (p : Nat) (x : Port) : (s.setPort p x).hem = s.hem := rfl
@[simp] theorem State.setPort_reg (s : State) (p : Nat) (x : Port) : (s.setPort p x).reg = s.reg := rfl
@[simp] theorem State.setPort_bist (s : State) (p : Nat) (x : Port) : (s.setPort p x).bist = s.bist := rfl
@[simp] theorem State.setPort_dump (s : State) (p : Nat) (x : Port) : (s.setPort p x).dump = s.dump := rfl
@[simp] theorem State.setPort_due (s : State) (p : Nat) (x : Port) : (s.setPort p x).due = s.due := rfl
@[simp] theorem State.setPort_scrub (s : State) (p : Nat) (x : Port) : (s.setPort p x).scrub = s.scrub := rfl
@[simp] theorem State.setPort_turn (s : State) (p : Nat) (x : Port) : (s.setPort p x).turn = s.turn := rfl
@[simp] theorem State.setPort_clocks (s : State) (p : Nat) (x : Port) : (s.setPort p x).clocks = s.clocks := rfl
@[simp] theorem State.setPort_inUse (s : State) (p : Nat) (x : Port) : (s.setPort p x).inUse = s.inUse := rfl

@[simp] theorem State.setPort_rd (s : State) (p : Nat) (x : Port) (g : Fld) (j : Nat) : (s.setPort p x).rd g j = s.rd g j := by simp [State.rd]

@[simp] theorem State.patCommit_pending (s : State) (w v : Nat) : (s.patCommit w v).pending = s.pending := rfl
@[simp] theorem State.patCommit_powered (s : State) (w v : Nat) : (s.patCommit w v).powered = s.powered := rfl
@[simp] theorem State.patCommit_tick (s : State) (w v : Nat) : (s.patCommit w v).tick = s.tick := rfl
@[simp] theorem State.patCommit_freeCtr (s : State) (w v : Nat) : (s.patCommit w v).freeCtr = s.freeCtr := rfl
@[simp] theorem State.patCommit_starts (s : State) (w v : Nat) : (s.patCommit w v).starts = s.starts := rfl
@[simp] theorem State.patCommit_steps (s : State) (w v : Nat) : (s.patCommit w v).steps = s.steps := rfl
@[simp] theorem State.patCommit_regs (s : State) (w v : Nat) : (s.patCommit w v).regs = s.regs := rfl
@[simp] theorem State.patCommit_out (s : State) (w v : Nat) : (s.patCommit w v).out = s.out := rfl
@[simp] theorem State.patCommit_pmc (s : State) (w v : Nat) : (s.patCommit w v).pmc = s.pmc := rfl
@[simp] theorem State.patCommit_pins (s : State) (w v : Nat) : (s.patCommit w v).pins = s.pins := rfl
@[simp] theorem State.patCommit_boot (s : State) (w v : Nat) : (s.patCommit w v).boot = s.boot := rfl
@[simp] theorem State.patCommit_fw (s : State) (w v : Nat) : (s.patCommit w v).fw = s.fw := rfl
@[simp] theorem State.patCommit_smb (s : State) (w v : Nat) : (s.patCommit w v).smb = s.smb := rfl
@[simp] theorem State.patCommit_thimble (s : State) (w v : Nat) : (s.patCommit w v).thimble = s.thimble := rfl
@[simp] theorem State.patCommit_qps (s : State) (w v : Nat) : (s.patCommit w v).qps = s.qps := rfl
@[simp] theorem State.patCommit_rings (s : State) (w v : Nat) : (s.patCommit w v).rings = s.rings := rfl
@[simp] theorem State.patCommit_eqs (s : State) (w v : Nat) : (s.patCommit w v).eqs = s.eqs := rfl
@[simp] theorem State.patCommit_mem (s : State) (w v : Nat) : (s.patCommit w v).mem = s.mem := rfl
@[simp] theorem State.patCommit_guard (s : State) (w v : Nat) : (s.patCommit w v).guard = s.guard := rfl
@[simp] theorem State.patCommit_lng (s : State) (w v : Nat) : (s.patCommit w v).lng = s.lng := rfl
@[simp] theorem State.patCommit_chans (s : State) (w v : Nat) : (s.patCommit w v).chans = s.chans := rfl
@[simp] theorem State.patCommit_ports (s : State) (w v : Nat) : (s.patCommit w v).ports = s.ports := rfl
@[simp] theorem State.patCommit_cal (s : State) (w v : Nat) : (s.patCommit w v).cal = s.cal := rfl
@[simp] theorem State.patCommit_tack (s : State) (w v : Nat) : (s.patCommit w v).tack = s.tack := rfl
@[simp] theorem State.patCommit_narrow (s : State) (w v : Nat) : (s.patCommit w v).narrow = s.narrow := rfl
@[simp] theorem State.patCommit_waves (s : State) (w v : Nat) : (s.patCommit w v).waves = s.waves := rfl
@[simp] theorem State.patCommit_hem (s : State) (w v : Nat) : (s.patCommit w v).hem = s.hem := rfl
@[simp] theorem State.patCommit_reg (s : State) (w v : Nat) : (s.patCommit w v).reg = s.reg := rfl
@[simp] theorem State.patCommit_bist (s : State) (w v : Nat) : (s.patCommit w v).bist = s.bist := rfl
@[simp] theorem State.patCommit_dump (s : State) (w v : Nat) : (s.patCommit w v).dump = s.dump := rfl
@[simp] theorem State.patCommit_due (s : State) (w v : Nat) : (s.patCommit w v).due = s.due := rfl
@[simp] theorem State.patCommit_scrub (s : State) (w v : Nat) : (s.patCommit w v).scrub = s.scrub := rfl
@[simp] theorem State.patCommit_turn (s : State) (w v : Nat) : (s.patCommit w v).turn = s.turn := rfl
@[simp] theorem State.patCommit_clocks (s : State) (w v : Nat) : (s.patCommit w v).clocks = s.clocks := rfl
@[simp] theorem State.patCommit_inUse (s : State) (w v : Nat) : (s.patCommit w v).inUse = s.inUse := rfl

@[simp] theorem State.patCommit_rd (s : State) (w v : Nat) (g : Fld) (j : Nat) : (s.patCommit w v).rd g j = s.rd g j := by simp [State.rd]

@[simp] theorem State.count_pending (s : State) (n k : Nat) : (s.count n k).pending = s.pending := by obtain ⟨m, h⟩ := s.count_does n k; rw [h]
@[simp] theorem State.count_powered (s : State) (n k : Nat) : (s.count n k).powered = s.powered := by obtain ⟨m, h⟩ := s.count_does n k; rw [h]
@[simp] theorem State.count_tick (s : State) (n k : Nat) : (s.count n k).tick = s.tick := by obtain ⟨m, h⟩ := s.count_does n k; rw [h]
@[simp] theorem State.count_freeCtr (s : State) (n k : Nat) : (s.count n k).freeCtr = s.freeCtr := by obtain ⟨m, h⟩ := s.count_does n k; rw [h]
@[simp] theorem State.count_starts (s : State) (n k : Nat) : (s.count n k).starts = s.starts := by obtain ⟨m, h⟩ := s.count_does n k; rw [h]
@[simp] theorem State.count_steps (s : State) (n k : Nat) : (s.count n k).steps = s.steps := by obtain ⟨m, h⟩ := s.count_does n k; rw [h]
@[simp] theorem State.count_regs (s : State) (n k : Nat) : (s.count n k).regs = s.regs := by obtain ⟨m, h⟩ := s.count_does n k; rw [h]
@[simp] theorem State.count_out (s : State) (n k : Nat) : (s.count n k).out = s.out := by obtain ⟨m, h⟩ := s.count_does n k; rw [h]
@[simp] theorem State.count_pins (s : State) (n k : Nat) : (s.count n k).pins = s.pins := by obtain ⟨m, h⟩ := s.count_does n k; rw [h]
@[simp] theorem State.count_boot (s : State) (n k : Nat) : (s.count n k).boot = s.boot := by obtain ⟨m, h⟩ := s.count_does n k; rw [h]
@[simp] theorem State.count_per (s : State) (n k : Nat) : (s.count n k).per = s.per := by obtain ⟨m, h⟩ := s.count_does n k; rw [h]
@[simp] theorem State.count_fw (s : State) (n k : Nat) : (s.count n k).fw = s.fw := by obtain ⟨m, h⟩ := s.count_does n k; rw [h]
@[simp] theorem State.count_smb (s : State) (n k : Nat) : (s.count n k).smb = s.smb := by obtain ⟨m, h⟩ := s.count_does n k; rw [h]
@[simp] theorem State.count_thimble (s : State) (n k : Nat) : (s.count n k).thimble = s.thimble := by obtain ⟨m, h⟩ := s.count_does n k; rw [h]
@[simp] theorem State.count_qps (s : State) (n k : Nat) : (s.count n k).qps = s.qps := by obtain ⟨m, h⟩ := s.count_does n k; rw [h]
@[simp] theorem State.count_rings (s : State) (n k : Nat) : (s.count n k).rings = s.rings := by obtain ⟨m, h⟩ := s.count_does n k; rw [h]
@[simp] theorem State.count_eqs (s : State) (n k : Nat) : (s.count n k).eqs = s.eqs := by obtain ⟨m, h⟩ := s.count_does n k; rw [h]
@[simp] theorem State.count_mem (s : State) (n k : Nat) : (s.count n k).mem = s.mem := by obtain ⟨m, h⟩ := s.count_does n k; rw [h]
@[simp] theorem State.count_guard (s : State) (n k : Nat) : (s.count n k).guard = s.guard := by obtain ⟨m, h⟩ := s.count_does n k; rw [h]
@[simp] theorem State.count_lng (s : State) (n k : Nat) : (s.count n k).lng = s.lng := by obtain ⟨m, h⟩ := s.count_does n k; rw [h]
@[simp] theorem State.count_chans (s : State) (n k : Nat) : (s.count n k).chans = s.chans := by obtain ⟨m, h⟩ := s.count_does n k; rw [h]
@[simp] theorem State.count_ports (s : State) (n k : Nat) : (s.count n k).ports = s.ports := by obtain ⟨m, h⟩ := s.count_does n k; rw [h]
@[simp] theorem State.count_cal (s : State) (n k : Nat) : (s.count n k).cal = s.cal := by obtain ⟨m, h⟩ := s.count_does n k; rw [h]
@[simp] theorem State.count_tack (s : State) (n k : Nat) : (s.count n k).tack = s.tack := by obtain ⟨m, h⟩ := s.count_does n k; rw [h]
@[simp] theorem State.count_narrow (s : State) (n k : Nat) : (s.count n k).narrow = s.narrow := by obtain ⟨m, h⟩ := s.count_does n k; rw [h]
@[simp] theorem State.count_waves (s : State) (n k : Nat) : (s.count n k).waves = s.waves := by obtain ⟨m, h⟩ := s.count_does n k; rw [h]
@[simp] theorem State.count_hem (s : State) (n k : Nat) : (s.count n k).hem = s.hem := by obtain ⟨m, h⟩ := s.count_does n k; rw [h]
@[simp] theorem State.count_reg (s : State) (n k : Nat) : (s.count n k).reg = s.reg := by obtain ⟨m, h⟩ := s.count_does n k; rw [h]
@[simp] theorem State.count_bist (s : State) (n k : Nat) : (s.count n k).bist = s.bist := by obtain ⟨m, h⟩ := s.count_does n k; rw [h]
@[simp] theorem State.count_dump (s : State) (n k : Nat) : (s.count n k).dump = s.dump := by obtain ⟨m, h⟩ := s.count_does n k; rw [h]
@[simp] theorem State.count_due (s : State) (n k : Nat) : (s.count n k).due = s.due := by obtain ⟨m, h⟩ := s.count_does n k; rw [h]
@[simp] theorem State.count_scrub (s : State) (n k : Nat) : (s.count n k).scrub = s.scrub := by obtain ⟨m, h⟩ := s.count_does n k; rw [h]
@[simp] theorem State.count_turn (s : State) (n k : Nat) : (s.count n k).turn = s.turn := by obtain ⟨m, h⟩ := s.count_does n k; rw [h]
@[simp] theorem State.count_clocks (s : State) (n k : Nat) : (s.count n k).clocks = s.clocks := by obtain ⟨m, h⟩ := s.count_does n k; rw [h]
@[simp] theorem State.count_inUse (s : State) (n k : Nat) : (s.count n k).inUse = s.inUse := by obtain ⟨m, h⟩ := s.count_does n k; rw [h]

@[simp] theorem State.count_rd (s : State) (n k : Nat) (g : Fld) (j : Nat) : (s.count n k).rd g j = s.rd g j := by simp [State.rd]

@[simp] theorem State.recordLast_pending (s : State) (i : Nat) (b : Bool) : (s.recordLast i b).pending = s.pending := by obtain ⟨r, h⟩ := s.recordLast_does i b; rw [h]
@[simp] theorem State.recordLast_powered (s : State) (i : Nat) (b : Bool) : (s.recordLast i b).powered = s.powered := by obtain ⟨r, h⟩ := s.recordLast_does i b; rw [h]
@[simp] theorem State.recordLast_tick (s : State) (i : Nat) (b : Bool) : (s.recordLast i b).tick = s.tick := by obtain ⟨r, h⟩ := s.recordLast_does i b; rw [h]
@[simp] theorem State.recordLast_freeCtr (s : State) (i : Nat) (b : Bool) : (s.recordLast i b).freeCtr = s.freeCtr := by obtain ⟨r, h⟩ := s.recordLast_does i b; rw [h]
@[simp] theorem State.recordLast_starts (s : State) (i : Nat) (b : Bool) : (s.recordLast i b).starts = s.starts := by obtain ⟨r, h⟩ := s.recordLast_does i b; rw [h]
@[simp] theorem State.recordLast_steps (s : State) (i : Nat) (b : Bool) : (s.recordLast i b).steps = s.steps := by obtain ⟨r, h⟩ := s.recordLast_does i b; rw [h]
@[simp] theorem State.recordLast_out (s : State) (i : Nat) (b : Bool) : (s.recordLast i b).out = s.out := by obtain ⟨r, h⟩ := s.recordLast_does i b; rw [h]
@[simp] theorem State.recordLast_pmc (s : State) (i : Nat) (b : Bool) : (s.recordLast i b).pmc = s.pmc := by obtain ⟨r, h⟩ := s.recordLast_does i b; rw [h]
@[simp] theorem State.recordLast_pins (s : State) (i : Nat) (b : Bool) : (s.recordLast i b).pins = s.pins := by obtain ⟨r, h⟩ := s.recordLast_does i b; rw [h]
@[simp] theorem State.recordLast_boot (s : State) (i : Nat) (b : Bool) : (s.recordLast i b).boot = s.boot := by obtain ⟨r, h⟩ := s.recordLast_does i b; rw [h]
@[simp] theorem State.recordLast_per (s : State) (i : Nat) (b : Bool) : (s.recordLast i b).per = s.per := by obtain ⟨r, h⟩ := s.recordLast_does i b; rw [h]
@[simp] theorem State.recordLast_fw (s : State) (i : Nat) (b : Bool) : (s.recordLast i b).fw = s.fw := by obtain ⟨r, h⟩ := s.recordLast_does i b; rw [h]
@[simp] theorem State.recordLast_smb (s : State) (i : Nat) (b : Bool) : (s.recordLast i b).smb = s.smb := by obtain ⟨r, h⟩ := s.recordLast_does i b; rw [h]
@[simp] theorem State.recordLast_thimble (s : State) (i : Nat) (b : Bool) : (s.recordLast i b).thimble = s.thimble := by obtain ⟨r, h⟩ := s.recordLast_does i b; rw [h]
@[simp] theorem State.recordLast_qps (s : State) (i : Nat) (b : Bool) : (s.recordLast i b).qps = s.qps := by obtain ⟨r, h⟩ := s.recordLast_does i b; rw [h]
@[simp] theorem State.recordLast_rings (s : State) (i : Nat) (b : Bool) : (s.recordLast i b).rings = s.rings := by obtain ⟨r, h⟩ := s.recordLast_does i b; rw [h]
@[simp] theorem State.recordLast_eqs (s : State) (i : Nat) (b : Bool) : (s.recordLast i b).eqs = s.eqs := by obtain ⟨r, h⟩ := s.recordLast_does i b; rw [h]
@[simp] theorem State.recordLast_mem (s : State) (i : Nat) (b : Bool) : (s.recordLast i b).mem = s.mem := by obtain ⟨r, h⟩ := s.recordLast_does i b; rw [h]
@[simp] theorem State.recordLast_guard (s : State) (i : Nat) (b : Bool) : (s.recordLast i b).guard = s.guard := by obtain ⟨r, h⟩ := s.recordLast_does i b; rw [h]
@[simp] theorem State.recordLast_lng (s : State) (i : Nat) (b : Bool) : (s.recordLast i b).lng = s.lng := by obtain ⟨r, h⟩ := s.recordLast_does i b; rw [h]
@[simp] theorem State.recordLast_chans (s : State) (i : Nat) (b : Bool) : (s.recordLast i b).chans = s.chans := by obtain ⟨r, h⟩ := s.recordLast_does i b; rw [h]
@[simp] theorem State.recordLast_ports (s : State) (i : Nat) (b : Bool) : (s.recordLast i b).ports = s.ports := by obtain ⟨r, h⟩ := s.recordLast_does i b; rw [h]
@[simp] theorem State.recordLast_cal (s : State) (i : Nat) (b : Bool) : (s.recordLast i b).cal = s.cal := by obtain ⟨r, h⟩ := s.recordLast_does i b; rw [h]
@[simp] theorem State.recordLast_tack (s : State) (i : Nat) (b : Bool) : (s.recordLast i b).tack = s.tack := by obtain ⟨r, h⟩ := s.recordLast_does i b; rw [h]
@[simp] theorem State.recordLast_narrow (s : State) (i : Nat) (b : Bool) : (s.recordLast i b).narrow = s.narrow := by obtain ⟨r, h⟩ := s.recordLast_does i b; rw [h]
@[simp] theorem State.recordLast_waves (s : State) (i : Nat) (b : Bool) : (s.recordLast i b).waves = s.waves := by obtain ⟨r, h⟩ := s.recordLast_does i b; rw [h]
@[simp] theorem State.recordLast_hem (s : State) (i : Nat) (b : Bool) : (s.recordLast i b).hem = s.hem := by obtain ⟨r, h⟩ := s.recordLast_does i b; rw [h]
@[simp] theorem State.recordLast_reg (s : State) (i : Nat) (b : Bool) : (s.recordLast i b).reg = s.reg := by obtain ⟨r, h⟩ := s.recordLast_does i b; rw [h]
@[simp] theorem State.recordLast_bist (s : State) (i : Nat) (b : Bool) : (s.recordLast i b).bist = s.bist := by obtain ⟨r, h⟩ := s.recordLast_does i b; rw [h]
@[simp] theorem State.recordLast_dump (s : State) (i : Nat) (b : Bool) : (s.recordLast i b).dump = s.dump := by obtain ⟨r, h⟩ := s.recordLast_does i b; rw [h]
@[simp] theorem State.recordLast_due (s : State) (i : Nat) (b : Bool) : (s.recordLast i b).due = s.due := by obtain ⟨r, h⟩ := s.recordLast_does i b; rw [h]
@[simp] theorem State.recordLast_scrub (s : State) (i : Nat) (b : Bool) : (s.recordLast i b).scrub = s.scrub := by obtain ⟨r, h⟩ := s.recordLast_does i b; rw [h]
@[simp] theorem State.recordLast_turn (s : State) (i : Nat) (b : Bool) : (s.recordLast i b).turn = s.turn := by obtain ⟨r, h⟩ := s.recordLast_does i b; rw [h]
@[simp] theorem State.recordLast_clocks (s : State) (i : Nat) (b : Bool) : (s.recordLast i b).clocks = s.clocks := by obtain ⟨r, h⟩ := s.recordLast_does i b; rw [h]
@[simp] theorem State.recordLast_inUse (s : State) (i : Nat) (b : Bool) : (s.recordLast i b).inUse = s.inUse := by obtain ⟨r, h⟩ := s.recordLast_does i b; rw [h]

@[simp] theorem State.aliveFollow_pending (s : State) : (s.aliveFollow).pending = s.pending := by obtain ⟨r, m, p, h⟩ := s.aliveFollow_does; rw [h]
@[simp] theorem State.aliveFollow_powered (s : State) : (s.aliveFollow).powered = s.powered := by obtain ⟨r, m, p, h⟩ := s.aliveFollow_does; rw [h]
@[simp] theorem State.aliveFollow_tick (s : State) : (s.aliveFollow).tick = s.tick := by obtain ⟨r, m, p, h⟩ := s.aliveFollow_does; rw [h]
@[simp] theorem State.aliveFollow_freeCtr (s : State) : (s.aliveFollow).freeCtr = s.freeCtr := by obtain ⟨r, m, p, h⟩ := s.aliveFollow_does; rw [h]
@[simp] theorem State.aliveFollow_starts (s : State) : (s.aliveFollow).starts = s.starts := by obtain ⟨r, m, p, h⟩ := s.aliveFollow_does; rw [h]
@[simp] theorem State.aliveFollow_steps (s : State) : (s.aliveFollow).steps = s.steps := by obtain ⟨r, m, p, h⟩ := s.aliveFollow_does; rw [h]
@[simp] theorem State.aliveFollow_out (s : State) : (s.aliveFollow).out = s.out := by obtain ⟨r, m, p, h⟩ := s.aliveFollow_does; rw [h]
@[simp] theorem State.aliveFollow_boot (s : State) : (s.aliveFollow).boot = s.boot := by obtain ⟨r, m, p, h⟩ := s.aliveFollow_does; rw [h]
@[simp] theorem State.aliveFollow_per (s : State) : (s.aliveFollow).per = s.per := by obtain ⟨r, m, p, h⟩ := s.aliveFollow_does; rw [h]
@[simp] theorem State.aliveFollow_fw (s : State) : (s.aliveFollow).fw = s.fw := by obtain ⟨r, m, p, h⟩ := s.aliveFollow_does; rw [h]
@[simp] theorem State.aliveFollow_smb (s : State) : (s.aliveFollow).smb = s.smb := by obtain ⟨r, m, p, h⟩ := s.aliveFollow_does; rw [h]
@[simp] theorem State.aliveFollow_thimble (s : State) : (s.aliveFollow).thimble = s.thimble := by obtain ⟨r, m, p, h⟩ := s.aliveFollow_does; rw [h]
@[simp] theorem State.aliveFollow_qps (s : State) : (s.aliveFollow).qps = s.qps := by obtain ⟨r, m, p, h⟩ := s.aliveFollow_does; rw [h]
@[simp] theorem State.aliveFollow_rings (s : State) : (s.aliveFollow).rings = s.rings := by obtain ⟨r, m, p, h⟩ := s.aliveFollow_does; rw [h]
@[simp] theorem State.aliveFollow_eqs (s : State) : (s.aliveFollow).eqs = s.eqs := by obtain ⟨r, m, p, h⟩ := s.aliveFollow_does; rw [h]
@[simp] theorem State.aliveFollow_mem (s : State) : (s.aliveFollow).mem = s.mem := by obtain ⟨r, m, p, h⟩ := s.aliveFollow_does; rw [h]
@[simp] theorem State.aliveFollow_guard (s : State) : (s.aliveFollow).guard = s.guard := by obtain ⟨r, m, p, h⟩ := s.aliveFollow_does; rw [h]
@[simp] theorem State.aliveFollow_lng (s : State) : (s.aliveFollow).lng = s.lng := by obtain ⟨r, m, p, h⟩ := s.aliveFollow_does; rw [h]
@[simp] theorem State.aliveFollow_chans (s : State) : (s.aliveFollow).chans = s.chans := by obtain ⟨r, m, p, h⟩ := s.aliveFollow_does; rw [h]
@[simp] theorem State.aliveFollow_ports (s : State) : (s.aliveFollow).ports = s.ports := by obtain ⟨r, m, p, h⟩ := s.aliveFollow_does; rw [h]
@[simp] theorem State.aliveFollow_cal (s : State) : (s.aliveFollow).cal = s.cal := by obtain ⟨r, m, p, h⟩ := s.aliveFollow_does; rw [h]
@[simp] theorem State.aliveFollow_tack (s : State) : (s.aliveFollow).tack = s.tack := by obtain ⟨r, m, p, h⟩ := s.aliveFollow_does; rw [h]
@[simp] theorem State.aliveFollow_narrow (s : State) : (s.aliveFollow).narrow = s.narrow := by obtain ⟨r, m, p, h⟩ := s.aliveFollow_does; rw [h]
@[simp] theorem State.aliveFollow_waves (s : State) : (s.aliveFollow).waves = s.waves := by obtain ⟨r, m, p, h⟩ := s.aliveFollow_does; rw [h]
@[simp] theorem State.aliveFollow_hem (s : State) : (s.aliveFollow).hem = s.hem := by obtain ⟨r, m, p, h⟩ := s.aliveFollow_does; rw [h]
@[simp] theorem State.aliveFollow_reg (s : State) : (s.aliveFollow).reg = s.reg := by obtain ⟨r, m, p, h⟩ := s.aliveFollow_does; rw [h]
@[simp] theorem State.aliveFollow_bist (s : State) : (s.aliveFollow).bist = s.bist := by obtain ⟨r, m, p, h⟩ := s.aliveFollow_does; rw [h]
@[simp] theorem State.aliveFollow_dump (s : State) : (s.aliveFollow).dump = s.dump := by obtain ⟨r, m, p, h⟩ := s.aliveFollow_does; rw [h]
@[simp] theorem State.aliveFollow_due (s : State) : (s.aliveFollow).due = s.due := by obtain ⟨r, m, p, h⟩ := s.aliveFollow_does; rw [h]
@[simp] theorem State.aliveFollow_scrub (s : State) : (s.aliveFollow).scrub = s.scrub := by obtain ⟨r, m, p, h⟩ := s.aliveFollow_does; rw [h]
@[simp] theorem State.aliveFollow_turn (s : State) : (s.aliveFollow).turn = s.turn := by obtain ⟨r, m, p, h⟩ := s.aliveFollow_does; rw [h]
@[simp] theorem State.aliveFollow_clocks (s : State) : (s.aliveFollow).clocks = s.clocks := by obtain ⟨r, m, p, h⟩ := s.aliveFollow_does; rw [h]
@[simp] theorem State.aliveFollow_inUse (s : State) : (s.aliveFollow).inUse = s.inUse := by obtain ⟨r, m, p, h⟩ := s.aliveFollow_does; rw [h]

@[simp] theorem State.markFault_pending (s : State) (i : Nat) (b : Bool) : (s.markFault i b).pending = s.pending := by obtain ⟨r, m, p, h⟩ := s.markFault_does i b; rw [h]
@[simp] theorem State.markFault_powered (s : State) (i : Nat) (b : Bool) : (s.markFault i b).powered = s.powered := by obtain ⟨r, m, p, h⟩ := s.markFault_does i b; rw [h]
@[simp] theorem State.markFault_tick (s : State) (i : Nat) (b : Bool) : (s.markFault i b).tick = s.tick := by obtain ⟨r, m, p, h⟩ := s.markFault_does i b; rw [h]
@[simp] theorem State.markFault_freeCtr (s : State) (i : Nat) (b : Bool) : (s.markFault i b).freeCtr = s.freeCtr := by obtain ⟨r, m, p, h⟩ := s.markFault_does i b; rw [h]
@[simp] theorem State.markFault_starts (s : State) (i : Nat) (b : Bool) : (s.markFault i b).starts = s.starts := by obtain ⟨r, m, p, h⟩ := s.markFault_does i b; rw [h]
@[simp] theorem State.markFault_steps (s : State) (i : Nat) (b : Bool) : (s.markFault i b).steps = s.steps := by obtain ⟨r, m, p, h⟩ := s.markFault_does i b; rw [h]
@[simp] theorem State.markFault_out (s : State) (i : Nat) (b : Bool) : (s.markFault i b).out = s.out := by obtain ⟨r, m, p, h⟩ := s.markFault_does i b; rw [h]
@[simp] theorem State.markFault_boot (s : State) (i : Nat) (b : Bool) : (s.markFault i b).boot = s.boot := by obtain ⟨r, m, p, h⟩ := s.markFault_does i b; rw [h]
@[simp] theorem State.markFault_per (s : State) (i : Nat) (b : Bool) : (s.markFault i b).per = s.per := by obtain ⟨r, m, p, h⟩ := s.markFault_does i b; rw [h]
@[simp] theorem State.markFault_fw (s : State) (i : Nat) (b : Bool) : (s.markFault i b).fw = s.fw := by obtain ⟨r, m, p, h⟩ := s.markFault_does i b; rw [h]
@[simp] theorem State.markFault_smb (s : State) (i : Nat) (b : Bool) : (s.markFault i b).smb = s.smb := by obtain ⟨r, m, p, h⟩ := s.markFault_does i b; rw [h]
@[simp] theorem State.markFault_thimble (s : State) (i : Nat) (b : Bool) : (s.markFault i b).thimble = s.thimble := by obtain ⟨r, m, p, h⟩ := s.markFault_does i b; rw [h]
@[simp] theorem State.markFault_qps (s : State) (i : Nat) (b : Bool) : (s.markFault i b).qps = s.qps := by obtain ⟨r, m, p, h⟩ := s.markFault_does i b; rw [h]
@[simp] theorem State.markFault_rings (s : State) (i : Nat) (b : Bool) : (s.markFault i b).rings = s.rings := by obtain ⟨r, m, p, h⟩ := s.markFault_does i b; rw [h]
@[simp] theorem State.markFault_eqs (s : State) (i : Nat) (b : Bool) : (s.markFault i b).eqs = s.eqs := by obtain ⟨r, m, p, h⟩ := s.markFault_does i b; rw [h]
@[simp] theorem State.markFault_mem (s : State) (i : Nat) (b : Bool) : (s.markFault i b).mem = s.mem := by obtain ⟨r, m, p, h⟩ := s.markFault_does i b; rw [h]
@[simp] theorem State.markFault_guard (s : State) (i : Nat) (b : Bool) : (s.markFault i b).guard = s.guard := by obtain ⟨r, m, p, h⟩ := s.markFault_does i b; rw [h]
@[simp] theorem State.markFault_lng (s : State) (i : Nat) (b : Bool) : (s.markFault i b).lng = s.lng := by obtain ⟨r, m, p, h⟩ := s.markFault_does i b; rw [h]
@[simp] theorem State.markFault_chans (s : State) (i : Nat) (b : Bool) : (s.markFault i b).chans = s.chans := by obtain ⟨r, m, p, h⟩ := s.markFault_does i b; rw [h]
@[simp] theorem State.markFault_ports (s : State) (i : Nat) (b : Bool) : (s.markFault i b).ports = s.ports := by obtain ⟨r, m, p, h⟩ := s.markFault_does i b; rw [h]
@[simp] theorem State.markFault_cal (s : State) (i : Nat) (b : Bool) : (s.markFault i b).cal = s.cal := by obtain ⟨r, m, p, h⟩ := s.markFault_does i b; rw [h]
@[simp] theorem State.markFault_tack (s : State) (i : Nat) (b : Bool) : (s.markFault i b).tack = s.tack := by obtain ⟨r, m, p, h⟩ := s.markFault_does i b; rw [h]
@[simp] theorem State.markFault_narrow (s : State) (i : Nat) (b : Bool) : (s.markFault i b).narrow = s.narrow := by obtain ⟨r, m, p, h⟩ := s.markFault_does i b; rw [h]
@[simp] theorem State.markFault_waves (s : State) (i : Nat) (b : Bool) : (s.markFault i b).waves = s.waves := by obtain ⟨r, m, p, h⟩ := s.markFault_does i b; rw [h]
@[simp] theorem State.markFault_hem (s : State) (i : Nat) (b : Bool) : (s.markFault i b).hem = s.hem := by obtain ⟨r, m, p, h⟩ := s.markFault_does i b; rw [h]
@[simp] theorem State.markFault_reg (s : State) (i : Nat) (b : Bool) : (s.markFault i b).reg = s.reg := by obtain ⟨r, m, p, h⟩ := s.markFault_does i b; rw [h]
@[simp] theorem State.markFault_bist (s : State) (i : Nat) (b : Bool) : (s.markFault i b).bist = s.bist := by obtain ⟨r, m, p, h⟩ := s.markFault_does i b; rw [h]
@[simp] theorem State.markFault_dump (s : State) (i : Nat) (b : Bool) : (s.markFault i b).dump = s.dump := by obtain ⟨r, m, p, h⟩ := s.markFault_does i b; rw [h]
@[simp] theorem State.markFault_due (s : State) (i : Nat) (b : Bool) : (s.markFault i b).due = s.due := by obtain ⟨r, m, p, h⟩ := s.markFault_does i b; rw [h]
@[simp] theorem State.markFault_scrub (s : State) (i : Nat) (b : Bool) : (s.markFault i b).scrub = s.scrub := by obtain ⟨r, m, p, h⟩ := s.markFault_does i b; rw [h]
@[simp] theorem State.markFault_turn (s : State) (i : Nat) (b : Bool) : (s.markFault i b).turn = s.turn := by obtain ⟨r, m, p, h⟩ := s.markFault_does i b; rw [h]
@[simp] theorem State.markFault_clocks (s : State) (i : Nat) (b : Bool) : (s.markFault i b).clocks = s.clocks := by obtain ⟨r, m, p, h⟩ := s.markFault_does i b; rw [h]
@[simp] theorem State.markFault_inUse (s : State) (i : Nat) (b : Bool) : (s.markFault i b).inUse = s.inUse := by obtain ⟨r, m, p, h⟩ := s.markFault_does i b; rw [h]

@[simp] theorem State.raise_pending (s : State) (i : Nat) (u : Block) (b : Bool) : (s.raise i u b).pending = s.pending := by obtain ⟨r, m, p, d, h⟩ := s.raise_does i u b; rw [h]
@[simp] theorem State.raise_powered (s : State) (i : Nat) (u : Block) (b : Bool) : (s.raise i u b).powered = s.powered := by obtain ⟨r, m, p, d, h⟩ := s.raise_does i u b; rw [h]
@[simp] theorem State.raise_tick (s : State) (i : Nat) (u : Block) (b : Bool) : (s.raise i u b).tick = s.tick := by obtain ⟨r, m, p, d, h⟩ := s.raise_does i u b; rw [h]
@[simp] theorem State.raise_freeCtr (s : State) (i : Nat) (u : Block) (b : Bool) : (s.raise i u b).freeCtr = s.freeCtr := by obtain ⟨r, m, p, d, h⟩ := s.raise_does i u b; rw [h]
@[simp] theorem State.raise_starts (s : State) (i : Nat) (u : Block) (b : Bool) : (s.raise i u b).starts = s.starts := by obtain ⟨r, m, p, d, h⟩ := s.raise_does i u b; rw [h]
@[simp] theorem State.raise_steps (s : State) (i : Nat) (u : Block) (b : Bool) : (s.raise i u b).steps = s.steps := by obtain ⟨r, m, p, d, h⟩ := s.raise_does i u b; rw [h]
@[simp] theorem State.raise_out (s : State) (i : Nat) (u : Block) (b : Bool) : (s.raise i u b).out = s.out := by obtain ⟨r, m, p, d, h⟩ := s.raise_does i u b; rw [h]
@[simp] theorem State.raise_boot (s : State) (i : Nat) (u : Block) (b : Bool) : (s.raise i u b).boot = s.boot := by obtain ⟨r, m, p, d, h⟩ := s.raise_does i u b; rw [h]
@[simp] theorem State.raise_per (s : State) (i : Nat) (u : Block) (b : Bool) : (s.raise i u b).per = s.per := by obtain ⟨r, m, p, d, h⟩ := s.raise_does i u b; rw [h]
@[simp] theorem State.raise_fw (s : State) (i : Nat) (u : Block) (b : Bool) : (s.raise i u b).fw = s.fw := by obtain ⟨r, m, p, d, h⟩ := s.raise_does i u b; rw [h]
@[simp] theorem State.raise_smb (s : State) (i : Nat) (u : Block) (b : Bool) : (s.raise i u b).smb = s.smb := by obtain ⟨r, m, p, d, h⟩ := s.raise_does i u b; rw [h]
@[simp] theorem State.raise_thimble (s : State) (i : Nat) (u : Block) (b : Bool) : (s.raise i u b).thimble = s.thimble := by obtain ⟨r, m, p, d, h⟩ := s.raise_does i u b; rw [h]
@[simp] theorem State.raise_qps (s : State) (i : Nat) (u : Block) (b : Bool) : (s.raise i u b).qps = s.qps := by obtain ⟨r, m, p, d, h⟩ := s.raise_does i u b; rw [h]
@[simp] theorem State.raise_rings (s : State) (i : Nat) (u : Block) (b : Bool) : (s.raise i u b).rings = s.rings := by obtain ⟨r, m, p, d, h⟩ := s.raise_does i u b; rw [h]
@[simp] theorem State.raise_eqs (s : State) (i : Nat) (u : Block) (b : Bool) : (s.raise i u b).eqs = s.eqs := by obtain ⟨r, m, p, d, h⟩ := s.raise_does i u b; rw [h]
@[simp] theorem State.raise_mem (s : State) (i : Nat) (u : Block) (b : Bool) : (s.raise i u b).mem = s.mem := by obtain ⟨r, m, p, d, h⟩ := s.raise_does i u b; rw [h]
@[simp] theorem State.raise_guard (s : State) (i : Nat) (u : Block) (b : Bool) : (s.raise i u b).guard = s.guard := by obtain ⟨r, m, p, d, h⟩ := s.raise_does i u b; rw [h]
@[simp] theorem State.raise_lng (s : State) (i : Nat) (u : Block) (b : Bool) : (s.raise i u b).lng = s.lng := by obtain ⟨r, m, p, d, h⟩ := s.raise_does i u b; rw [h]
@[simp] theorem State.raise_chans (s : State) (i : Nat) (u : Block) (b : Bool) : (s.raise i u b).chans = s.chans := by obtain ⟨r, m, p, d, h⟩ := s.raise_does i u b; rw [h]
@[simp] theorem State.raise_ports (s : State) (i : Nat) (u : Block) (b : Bool) : (s.raise i u b).ports = s.ports := by obtain ⟨r, m, p, d, h⟩ := s.raise_does i u b; rw [h]
@[simp] theorem State.raise_cal (s : State) (i : Nat) (u : Block) (b : Bool) : (s.raise i u b).cal = s.cal := by obtain ⟨r, m, p, d, h⟩ := s.raise_does i u b; rw [h]
@[simp] theorem State.raise_tack (s : State) (i : Nat) (u : Block) (b : Bool) : (s.raise i u b).tack = s.tack := by obtain ⟨r, m, p, d, h⟩ := s.raise_does i u b; rw [h]
@[simp] theorem State.raise_narrow (s : State) (i : Nat) (u : Block) (b : Bool) : (s.raise i u b).narrow = s.narrow := by obtain ⟨r, m, p, d, h⟩ := s.raise_does i u b; rw [h]
@[simp] theorem State.raise_waves (s : State) (i : Nat) (u : Block) (b : Bool) : (s.raise i u b).waves = s.waves := by obtain ⟨r, m, p, d, h⟩ := s.raise_does i u b; rw [h]
@[simp] theorem State.raise_hem (s : State) (i : Nat) (u : Block) (b : Bool) : (s.raise i u b).hem = s.hem := by obtain ⟨r, m, p, d, h⟩ := s.raise_does i u b; rw [h]
@[simp] theorem State.raise_reg (s : State) (i : Nat) (u : Block) (b : Bool) : (s.raise i u b).reg = s.reg := by obtain ⟨r, m, p, d, h⟩ := s.raise_does i u b; rw [h]
@[simp] theorem State.raise_bist (s : State) (i : Nat) (u : Block) (b : Bool) : (s.raise i u b).bist = s.bist := by obtain ⟨r, m, p, d, h⟩ := s.raise_does i u b; rw [h]
@[simp] theorem State.raise_dump (s : State) (i : Nat) (u : Block) (b : Bool) : (s.raise i u b).dump = s.dump := by obtain ⟨r, m, p, d, h⟩ := s.raise_does i u b; rw [h]
@[simp] theorem State.raise_scrub (s : State) (i : Nat) (u : Block) (b : Bool) : (s.raise i u b).scrub = s.scrub := by obtain ⟨r, m, p, d, h⟩ := s.raise_does i u b; rw [h]
@[simp] theorem State.raise_turn (s : State) (i : Nat) (u : Block) (b : Bool) : (s.raise i u b).turn = s.turn := by obtain ⟨r, m, p, d, h⟩ := s.raise_does i u b; rw [h]
@[simp] theorem State.raise_clocks (s : State) (i : Nat) (u : Block) (b : Bool) : (s.raise i u b).clocks = s.clocks := by obtain ⟨r, m, p, d, h⟩ := s.raise_does i u b; rw [h]
@[simp] theorem State.raise_inUse (s : State) (i : Nat) (u : Block) (b : Bool) : (s.raise i u b).inUse = s.inUse := by obtain ⟨r, m, p, d, h⟩ := s.raise_does i u b; rw [h]

@[simp] theorem State.setChan_same (s : State) (i : Nat) (x : Chan) : (s.setChan i x).chan i = x := by simp [State.chan, State.setChan]

theorem State.setChan_other (s : State) (i j : Nat) (x : Chan) (h : j ≠ i) : (s.setChan i x).chan j = s.chan j := by
  simp [State.chan, State.setChan, SMap.get_set_other _ _ _ _ _ h]

@[simp] theorem State.setQp_same (s : State) (i : Nat) (x : Qp) : (s.setQp i x).qp i = x := by simp [State.qp, State.setQp]

theorem State.setQp_other (s : State) (i j : Nat) (x : Qp) (h : j ≠ i) : (s.setQp i x).qp j = s.qp j := by
  simp [State.qp, State.setQp, SMap.get_set_other _ _ _ _ _ h]

@[simp] theorem State.setRing_same (s : State) (i : Nat) (x : Ring) : (s.setRing i x).ring i = x := by simp [State.ring, State.setRing]

theorem State.setRing_other (s : State) (i j : Nat) (x : Ring) (h : j ≠ i) : (s.setRing i x).ring j = s.ring j := by
  simp [State.ring, State.setRing, SMap.get_set_other _ _ _ _ _ h]

@[simp] theorem State.setEq_same (s : State) (i : Nat) (x : EvQueue) : (s.setEq i x).eq i = x := by simp [State.eq, State.setEq]

theorem State.setEq_other (s : State) (i j : Nat) (x : EvQueue) (h : j ≠ i) : (s.setEq i x).eq j = s.eq j := by
  simp [State.eq, State.setEq, SMap.get_set_other _ _ _ _ _ h]

@[simp] theorem State.setPort_same (s : State) (i : Nat) (x : Port) : (s.setPort i x).port i = x := by simp [State.port, State.setPort]

theorem State.setPort_other (s : State) (i j : Nat) (x : Port) (h : j ≠ i) : (s.setPort i x).port j = s.port j := by
  simp [State.port, State.setPort, SMap.get_set_other _ _ _ _ _ h]

@[simp] theorem State.raise_pins_rstN (s : State) (i : Nat) (u : Block) (b : Bool) : (s.raise i u b).pins.rstN = s.pins.rstN := by
  obtain ⟨r, m, a, d, h⟩ := s.raise_does i u b; rw [h]

@[simp] theorem State.raise_pins_peerAlive (s : State) (i : Nat) (u : Block) (b : Bool) : (s.raise i u b).pins.peerAlive = s.pins.peerAlive := by
  obtain ⟨r, m, a, d, h⟩ := s.raise_does i u b; rw [h]

@[simp] theorem State.raise_pins_trstN (s : State) (i : Nat) (u : Block) (b : Bool) : (s.raise i u b).pins.trstN = s.pins.trstN := by
  obtain ⟨r, m, a, d, h⟩ := s.raise_does i u b; rw [h]

@[simp] theorem State.raise_pins_samples (s : State) (i : Nat) (u : Block) (b : Bool) : (s.raise i u b).pins.samples = s.pins.samples := by
  obtain ⟨r, m, a, d, h⟩ := s.raise_does i u b; rw [h]

@[simp] theorem State.wr_chan (s : State) (f : Fld) (v e : Nat) (j : Nat) : (s.wr f v e).chan j = s.chan j := by simp [State.chan]
@[simp] theorem State.wr_qp (s : State) (f : Fld) (v e : Nat) (j : Nat) : (s.wr f v e).qp j = s.qp j := by simp [State.qp]
@[simp] theorem State.wr_ring (s : State) (f : Fld) (v e : Nat) (j : Nat) : (s.wr f v e).ring j = s.ring j := by simp [State.ring]
@[simp] theorem State.wr_eq (s : State) (f : Fld) (v e : Nat) (j : Nat) : (s.wr f v e).eq j = s.eq j := by simp [State.eq]
@[simp] theorem State.wr_port (s : State) (f : Fld) (v e : Nat) (j : Nat) : (s.wr f v e).port j = s.port j := by simp [State.port]
@[simp] theorem State.put_chan (s : State) (f : Fld) (b : Bool) (e : Nat) (j : Nat) : (s.put f b e).chan j = s.chan j := by simp [State.chan]
@[simp] theorem State.put_qp (s : State) (f : Fld) (b : Bool) (e : Nat) (j : Nat) : (s.put f b e).qp j = s.qp j := by simp [State.qp]
@[simp] theorem State.put_ring (s : State) (f : Fld) (b : Bool) (e : Nat) (j : Nat) : (s.put f b e).ring j = s.ring j := by simp [State.ring]
@[simp] theorem State.put_eq (s : State) (f : Fld) (b : Bool) (e : Nat) (j : Nat) : (s.put f b e).eq j = s.eq j := by simp [State.eq]
@[simp] theorem State.put_port (s : State) (f : Fld) (b : Bool) (e : Nat) (j : Nat) : (s.put f b e).port j = s.port j := by simp [State.port]
@[simp] theorem State.bump_chan (s : State) (f : Fld) (e n : Nat) (j : Nat) : (s.bump f e n).chan j = s.chan j := by simp [State.chan]
@[simp] theorem State.bump_qp (s : State) (f : Fld) (e n : Nat) (j : Nat) : (s.bump f e n).qp j = s.qp j := by simp [State.qp]
@[simp] theorem State.bump_ring (s : State) (f : Fld) (e n : Nat) (j : Nat) : (s.bump f e n).ring j = s.ring j := by simp [State.ring]
@[simp] theorem State.bump_eq (s : State) (f : Fld) (e n : Nat) (j : Nat) : (s.bump f e n).eq j = s.eq j := by simp [State.eq]
@[simp] theorem State.bump_port (s : State) (f : Fld) (e n : Nat) (j : Nat) : (s.bump f e n).port j = s.port j := by simp [State.port]
@[simp] theorem State.wrBit_chan (s : State) (f : Fld) (i : Nat) (b : Bool) (e : Nat) (j : Nat) : (s.wrBit f i b e).chan j = s.chan j := by simp [State.chan]
@[simp] theorem State.wrBit_qp (s : State) (f : Fld) (i : Nat) (b : Bool) (e : Nat) (j : Nat) : (s.wrBit f i b e).qp j = s.qp j := by simp [State.qp]
@[simp] theorem State.wrBit_ring (s : State) (f : Fld) (i : Nat) (b : Bool) (e : Nat) (j : Nat) : (s.wrBit f i b e).ring j = s.ring j := by simp [State.ring]
@[simp] theorem State.wrBit_eq (s : State) (f : Fld) (i : Nat) (b : Bool) (e : Nat) (j : Nat) : (s.wrBit f i b e).eq j = s.eq j := by simp [State.eq]
@[simp] theorem State.wrBit_port (s : State) (f : Fld) (i : Nat) (b : Bool) (e : Nat) (j : Nat) : (s.wrBit f i b e).port j = s.port j := by simp [State.port]
@[simp] theorem State.clr_chan (s : State) (f : Fld) (e : Nat) (j : Nat) : (s.clr f e).chan j = s.chan j := by simp [State.chan]
@[simp] theorem State.clr_qp (s : State) (f : Fld) (e : Nat) (j : Nat) : (s.clr f e).qp j = s.qp j := by simp [State.qp]
@[simp] theorem State.clr_ring (s : State) (f : Fld) (e : Nat) (j : Nat) : (s.clr f e).ring j = s.ring j := by simp [State.ring]
@[simp] theorem State.clr_eq (s : State) (f : Fld) (e : Nat) (j : Nat) : (s.clr f e).eq j = s.eq j := by simp [State.eq]
@[simp] theorem State.clr_port (s : State) (f : Fld) (e : Nat) (j : Nat) : (s.clr f e).port j = s.port j := by simp [State.port]
@[simp] theorem State.emit_chan (s : State) (o : Out) (j : Nat) : (s.emit o).chan j = s.chan j := by simp [State.chan]
@[simp] theorem State.emit_qp (s : State) (o : Out) (j : Nat) : (s.emit o).qp j = s.qp j := by simp [State.qp]
@[simp] theorem State.emit_ring (s : State) (o : Out) (j : Nat) : (s.emit o).ring j = s.ring j := by simp [State.ring]
@[simp] theorem State.emit_eq (s : State) (o : Out) (j : Nat) : (s.emit o).eq j = s.eq j := by simp [State.eq]
@[simp] theorem State.emit_port (s : State) (o : Out) (j : Nat) : (s.emit o).port j = s.port j := by simp [State.port]
@[simp] theorem State.drawn_chan (s : State) (j : Nat) : (s.drawn).chan j = s.chan j := by simp [State.chan]
@[simp] theorem State.drawn_qp (s : State) (j : Nat) : (s.drawn).qp j = s.qp j := by simp [State.qp]
@[simp] theorem State.drawn_ring (s : State) (j : Nat) : (s.drawn).ring j = s.ring j := by simp [State.ring]
@[simp] theorem State.drawn_eq (s : State) (j : Nat) : (s.drawn).eq j = s.eq j := by simp [State.eq]
@[simp] theorem State.drawn_port (s : State) (j : Nat) : (s.drawn).port j = s.port j := by simp [State.port]
@[simp] theorem State.setChan_qp (s : State) (c : Nat) (x : Chan) (j : Nat) : (s.setChan c x).qp j = s.qp j := by simp [State.qp]
@[simp] theorem State.setChan_ring (s : State) (c : Nat) (x : Chan) (j : Nat) : (s.setChan c x).ring j = s.ring j := by simp [State.ring]
@[simp] theorem State.setChan_eq (s : State) (c : Nat) (x : Chan) (j : Nat) : (s.setChan c x).eq j = s.eq j := by simp [State.eq]
@[simp] theorem State.setChan_port (s : State) (c : Nat) (x : Chan) (j : Nat) : (s.setChan c x).port j = s.port j := by simp [State.port]
@[simp] theorem State.setQp_chan (s : State) (i : Nat) (x : Qp) (j : Nat) : (s.setQp i x).chan j = s.chan j := by simp [State.chan]
@[simp] theorem State.setQp_ring (s : State) (i : Nat) (x : Qp) (j : Nat) : (s.setQp i x).ring j = s.ring j := by simp [State.ring]
@[simp] theorem State.setQp_eq (s : State) (i : Nat) (x : Qp) (j : Nat) : (s.setQp i x).eq j = s.eq j := by simp [State.eq]
@[simp] theorem State.setQp_port (s : State) (i : Nat) (x : Qp) (j : Nat) : (s.setQp i x).port j = s.port j := by simp [State.port]
@[simp] theorem State.setRing_chan (s : State) (i : Nat) (x : Ring) (j : Nat) : (s.setRing i x).chan j = s.chan j := by simp [State.chan]
@[simp] theorem State.setRing_qp (s : State) (i : Nat) (x : Ring) (j : Nat) : (s.setRing i x).qp j = s.qp j := by simp [State.qp]
@[simp] theorem State.setRing_eq (s : State) (i : Nat) (x : Ring) (j : Nat) : (s.setRing i x).eq j = s.eq j := by simp [State.eq]
@[simp] theorem State.setRing_port (s : State) (i : Nat) (x : Ring) (j : Nat) : (s.setRing i x).port j = s.port j := by simp [State.port]
@[simp] theorem State.setEq_chan (s : State) (i : Nat) (x : EvQueue) (j : Nat) : (s.setEq i x).chan j = s.chan j := by simp [State.chan]
@[simp] theorem State.setEq_qp (s : State) (i : Nat) (x : EvQueue) (j : Nat) : (s.setEq i x).qp j = s.qp j := by simp [State.qp]
@[simp] theorem State.setEq_ring (s : State) (i : Nat) (x : EvQueue) (j : Nat) : (s.setEq i x).ring j = s.ring j := by simp [State.ring]
@[simp] theorem State.setEq_port (s : State) (i : Nat) (x : EvQueue) (j : Nat) : (s.setEq i x).port j = s.port j := by simp [State.port]
@[simp] theorem State.setPort_chan (s : State) (p : Nat) (x : Port) (j : Nat) : (s.setPort p x).chan j = s.chan j := by simp [State.chan]
@[simp] theorem State.setPort_qp (s : State) (p : Nat) (x : Port) (j : Nat) : (s.setPort p x).qp j = s.qp j := by simp [State.qp]
@[simp] theorem State.setPort_ring (s : State) (p : Nat) (x : Port) (j : Nat) : (s.setPort p x).ring j = s.ring j := by simp [State.ring]
@[simp] theorem State.setPort_eq (s : State) (p : Nat) (x : Port) (j : Nat) : (s.setPort p x).eq j = s.eq j := by simp [State.eq]
@[simp] theorem State.patCommit_chan (s : State) (w v : Nat) (j : Nat) : (s.patCommit w v).chan j = s.chan j := by simp [State.chan]
@[simp] theorem State.patCommit_qp (s : State) (w v : Nat) (j : Nat) : (s.patCommit w v).qp j = s.qp j := by simp [State.qp]
@[simp] theorem State.patCommit_ring (s : State) (w v : Nat) (j : Nat) : (s.patCommit w v).ring j = s.ring j := by simp [State.ring]
@[simp] theorem State.patCommit_eq (s : State) (w v : Nat) (j : Nat) : (s.patCommit w v).eq j = s.eq j := by simp [State.eq]
@[simp] theorem State.patCommit_port (s : State) (w v : Nat) (j : Nat) : (s.patCommit w v).port j = s.port j := by simp [State.port]
@[simp] theorem State.count_chan (s : State) (n k : Nat) (j : Nat) : (s.count n k).chan j = s.chan j := by simp [State.chan]
@[simp] theorem State.count_qp (s : State) (n k : Nat) (j : Nat) : (s.count n k).qp j = s.qp j := by simp [State.qp]
@[simp] theorem State.count_ring (s : State) (n k : Nat) (j : Nat) : (s.count n k).ring j = s.ring j := by simp [State.ring]
@[simp] theorem State.count_eq (s : State) (n k : Nat) (j : Nat) : (s.count n k).eq j = s.eq j := by simp [State.eq]
@[simp] theorem State.count_port (s : State) (n k : Nat) (j : Nat) : (s.count n k).port j = s.port j := by simp [State.port]
@[simp] theorem State.recordLast_chan (s : State) (i : Nat) (b : Bool) (j : Nat) : (s.recordLast i b).chan j = s.chan j := by simp [State.chan]
@[simp] theorem State.recordLast_qp (s : State) (i : Nat) (b : Bool) (j : Nat) : (s.recordLast i b).qp j = s.qp j := by simp [State.qp]
@[simp] theorem State.recordLast_ring (s : State) (i : Nat) (b : Bool) (j : Nat) : (s.recordLast i b).ring j = s.ring j := by simp [State.ring]
@[simp] theorem State.recordLast_eq (s : State) (i : Nat) (b : Bool) (j : Nat) : (s.recordLast i b).eq j = s.eq j := by simp [State.eq]
@[simp] theorem State.recordLast_port (s : State) (i : Nat) (b : Bool) (j : Nat) : (s.recordLast i b).port j = s.port j := by simp [State.port]
@[simp] theorem State.aliveFollow_chan (s : State) (j : Nat) : (s.aliveFollow).chan j = s.chan j := by simp [State.chan]
@[simp] theorem State.aliveFollow_qp (s : State) (j : Nat) : (s.aliveFollow).qp j = s.qp j := by simp [State.qp]
@[simp] theorem State.aliveFollow_ring (s : State) (j : Nat) : (s.aliveFollow).ring j = s.ring j := by simp [State.ring]
@[simp] theorem State.aliveFollow_eq (s : State) (j : Nat) : (s.aliveFollow).eq j = s.eq j := by simp [State.eq]
@[simp] theorem State.aliveFollow_port (s : State) (j : Nat) : (s.aliveFollow).port j = s.port j := by simp [State.port]
@[simp] theorem State.markFault_chan (s : State) (i : Nat) (b : Bool) (j : Nat) : (s.markFault i b).chan j = s.chan j := by simp [State.chan]
@[simp] theorem State.markFault_qp (s : State) (i : Nat) (b : Bool) (j : Nat) : (s.markFault i b).qp j = s.qp j := by simp [State.qp]
@[simp] theorem State.markFault_ring (s : State) (i : Nat) (b : Bool) (j : Nat) : (s.markFault i b).ring j = s.ring j := by simp [State.ring]
@[simp] theorem State.markFault_eq (s : State) (i : Nat) (b : Bool) (j : Nat) : (s.markFault i b).eq j = s.eq j := by simp [State.eq]
@[simp] theorem State.markFault_port (s : State) (i : Nat) (b : Bool) (j : Nat) : (s.markFault i b).port j = s.port j := by simp [State.port]
@[simp] theorem State.raise_chan (s : State) (i : Nat) (u : Block) (b : Bool) (j : Nat) : (s.raise i u b).chan j = s.chan j := by simp [State.chan]
@[simp] theorem State.raise_qp (s : State) (i : Nat) (u : Block) (b : Bool) (j : Nat) : (s.raise i u b).qp j = s.qp j := by simp [State.qp]
@[simp] theorem State.raise_ring (s : State) (i : Nat) (u : Block) (b : Bool) (j : Nat) : (s.raise i u b).ring j = s.ring j := by simp [State.ring]
@[simp] theorem State.raise_eq (s : State) (i : Nat) (u : Block) (b : Bool) (j : Nat) : (s.raise i u b).eq j = s.eq j := by simp [State.eq]
@[simp] theorem State.raise_port (s : State) (i : Nat) (u : Block) (b : Bool) (j : Nat) : (s.raise i u b).port j = s.port j := by simp [State.port]

/-- Reading a field depends on the register store only. -/
theorem State.rd_congr (s t : State) (h : s.regs = t.regs) (f : Fld) (e : Nat) : s.rd f e = t.rd f e := by
  simp [State.rd, h]

end Sys2Proof.Machine
end

