-- ==== Sys2Proof/Laws/Ends.lean ====
section
/-! SUPPORT. How a command ends: what its raises owe, the queue, power, and the one form that every command's answer has. -/

namespace Sys2Proof.Machine

/-- Where nothing is owed, settling changes nothing. -/
theorem State.settle_quiet (t : State) (n : Nat) (h : t.due = {}) : t.settle n = t := by
  have hb : t.settleBlocks = t := by
    unfold State.settleBlocks
    rw [h]
    cases t
    simp_all
  have he : t.settleEvents = t := by
    unfold State.settleEvents
    rw [h]
    cases t
    simp_all
  have hr : t.due.reset = none := by rw [h]
  have ha : t.settleAll n = t := by
    unfold State.settleAll
    simp only [hr, hb, he]
  unfold State.settle
  rw [ha]
  cases t
  simp_all

/-- Where nothing is owed, a command ends as its effect leaves the module, with the queue and power as they were. -/
theorem State.ends_quiet (t s : State) (h : t.due = {}) : t.ends s = { t with pending := s.pending, powered := true } := by
  unfold State.ends
  rw [t.settle_quiet _ h]

@[simp] theorem State.ends_pending (t s : State) : (t.ends s).pending = s.pending := rfl

@[simp] theorem State.ends_powered (t s : State) : (t.ends s).powered = true := rfl

/-- Nothing is owed when a command has ended (R443, R445). -/
@[simp] theorem State.ends_due (t s : State) : (t.ends s).due = {} := rfl

theorem live_awake (s t : State) (h : s.awake = true) : live s t = .next (t.ends s) := by simp [live, h]

theorem live_asleep (s t : State) (h : s.awake = false) : live s t = .next s := by simp [live, h]

/-- A command whose effect owes nothing and leaves the queue and power alone answers just that effect. -/
theorem live_quiet (s t : State) (h : s.awake = true) (hd : t.due = {}) (hq : t.pending = s.pending)
    (hp : t.powered = true) : live s t = .next t := by
  rw [live_awake s t h, t.ends_quiet s hd]
  cases t
  simp_all

/-- Every command but the two of the supply answers the effect it has on a module that acts, with its end. -/
theorem exec_live (c : Instr) (s : State) :
    (∃ t, exec c s = live s t) ∨ (∃ a b, c = .powerGood a b) ∨ c = .powerLoss := by
  cases c with
  | powerGood a b => exact Or.inr (Or.inl ⟨a, b, rfl⟩)
  | powerLoss => exact Or.inr (Or.inr rfl)
  | _ => exact Or.inl ⟨_, rfl⟩

end Sys2Proof.Machine
end

