-- ==== Sys2Proof/Laws/Raise.lean ====
section
/-! SUPPORT. What a raise does: the registers of the fault collector change and no others. -/

namespace Sys2Proof.Machine

theorem Fld.id_ne_of_notFault (f g : Fld) (h : g.notFault = true) (hf : f.notFault = false) : g.id ≠ f.id := by
  simp only [Fld.notFault, bne_iff_ne, ne_eq, bne_eq_false_iff_eq] at h hf
  unfold Fld.id
  intro he
  apply h
  rw [← hf]
  have h1 := Nat.mod_lt g.lo (show 64 > 0 by decide)
  have h2 := Nat.mod_lt f.lo (show 64 > 0 by decide)
  have h3 : g.addr % 2 ^ 20 = f.addr % 2 ^ 20 := by omega
  rw [h3]

/-- Writing a field of the fault collector leaves every other block's fields alone. -/
theorem State.rd_wr_fault (s : State) (f g : Fld) (v e j : Nat) (h : g.notFault = true) (hf : f.notFault = false) :
    (s.wr f v e).rd g j = s.rd g j := s.rd_wr_field f g v e j (f.id_ne_of_notFault g h hf)

theorem State.rd_recordLast (s : State) (i : Nat) (b : Bool) (g : Fld) (j : Nat) (h : g.notFault = true) :
    (s.recordLast i b).rd g j = s.rd g j := by
  unfold State.recordLast State.bump State.put
  dsimp only
  split
  · exact State.rd_wr_fault _ _ _ _ _ _ h rfl
  · rw [State.rd_wr_fault _ _ _ _ _ _ h rfl, State.rd_wr_fault _ _ _ _ _ _ h rfl, State.rd_wr_fault _ _ _ _ _ _ h rfl,
      State.rd_wr_fault _ _ _ _ _ _ h rfl, State.rd_wr_fault _ _ _ _ _ _ h rfl]

theorem State.rd_aliveFollow (s : State) (g : Fld) (j : Nat) (h : g.notFault = true) :
    s.aliveFollow.rd g j = s.rd g j := by
  unfold State.aliveFollow State.put
  dsimp only
  split
  · rw [State.rd_wr_fault _ _ _ _ _ _ h rfl, State.rd_wr_fault _ _ _ _ _ _ h rfl, State.rd_wr_fault _ _ _ _ _ _ h rfl]
  · split
    · exact State.rd_wr_fault _ _ _ _ _ _ h rfl
    · simp only [State.rd]
      exact (State.rd_wr_fault _ _ _ _ _ _ h rfl).trans ((State.rd_wr_fault _ _ _ _ _ _ h rfl).trans
        (State.rd_wr_fault _ _ _ _ _ _ h rfl))

theorem stickyField_fault (i : Nat) : (stickyField i).notFault = false := by unfold stickyField; split <;> rfl

theorem holdField_fault (i : Nat) : (holdField i).notFault = false := by unfold holdField; split <;> rfl

theorem State.rd_markFault (s : State) (i : Nat) (b : Bool) (g : Fld) (j : Nat) (h : g.notFault = true) :
    (s.markFault i b).rd g j = s.rd g j := by
  unfold State.markFault State.wrBit State.bump
  dsimp only
  have h0 := State.rd_wr_fault s (stickyField i) g (setBit (s.rd (stickyField i)) (i % 64) true) 0 j h (stickyField_fault i)
  generalize s.wr (stickyField i) (setBit (s.rd (stickyField i)) (i % 64) true) 0 = t at *
  have h1 := State.rd_wr_fault t R.FLT.SRC.COUNT g (min (t.rd R.FLT.SRC.COUNT i + 1) R.FLT.SRC.COUNT.max) i j h rfl
  generalize t.wr R.FLT.SRC.COUNT (min (t.rd R.FLT.SRC.COUNT i + 1) R.FLT.SRC.COUNT.max) i = u at *
  have h2 : (if (!s.sticky i) = true then u.count 7 else u).rd g j = u.rd g j := by split <;> simp
  generalize (if (!s.sticky i) = true then u.count 7 else u) = w at *
  have h3 := w.rd_recordLast i b g j h
  generalize w.recordLast i b = x at *
  split
  · rw [State.rd_aliveFollow _ _ _ h, State.rd_wr_fault _ _ _ _ _ _ h (holdField_fault i), h3, h2, h1, h0]
  · rw [h3, h2, h1, h0]

/-- A raise changes no register of another block than the fault collector (R443). -/
theorem State.rd_raise (s : State) (i : Nat) (u : Block) (b : Bool) (g : Fld) (j : Nat) (h : g.notFault = true) :
    (s.raise i u b).rd g j = s.rd g j := s.rd_markFault i b g j h

end Sys2Proof.Machine
end

