-- ==== Sys2Proof/Laws/Cells.lean ====
section
/-! SUPPORT. The end of a command, and what a command may put out or count, leave every stored byte of the stack as it is. -/

namespace Sys2Proof.Machine

/-- What keeps the stored bytes at each element keeps them over a list. -/
theorem foldl_cells {α : Type} (f : State → α → State) (h : ∀ s x, (f s x).mem.cells = s.mem.cells) (l : List α) (s : State) :
    (l.foldl f s).mem.cells = s.mem.cells := by
  induction l generalizing s with
  | nil => rfl
  | cons a l ih => rw [List.foldl_cons, ih, h]

@[simp] theorem State.countPort_cells (s : State) (p k n : Nat) : (s.countPort p k n).mem.cells = s.mem.cells := by
  simp [State.countPort]

@[simp] theorem State.frameSent_cells (s : State) (p n : Nat) : (s.frameSent p n).mem.cells = s.mem.cells := by
  simp [State.frameSent]

@[simp] theorem State.putPacket_cells (s : State) (q : Nat) (p : TxPacket) : (s.putPacket q p).mem.cells = s.mem.cells := by
  unfold State.putPacket
  dsimp only
  split <;> simp

@[simp] theorem State.sendPacket_cells (s : State) (q : Nat) (p : TxPacket) : (s.sendPacket q p).mem.cells = s.mem.cells := by
  unfold State.sendPacket
  dsimp only
  split <;> simp

@[simp] theorem State.drainReqs_cells (k : Nat) (s : State) (q : Nat) : (State.drainReqs k s q).mem.cells = s.mem.cells := by
  induction k generalizing s with
  | zero => rfl
  | succ k ih =>
    unfold State.drainReqs
    split
    · rfl
    · split
      · rw [ih]
        unfold State.issueReq State.transmit
        dsimp only
        rw [foldl_cells _ (fun s p => s.sendPacket_cells q p)]
        simp
      · rfl

@[simp] theorem State.request_cells (s : State) (q : Nat) (r : Req) : (s.request q r).mem.cells = s.mem.cells := by
  unfold State.request State.drainQp
  split <;> simp

@[simp] theorem State.postEvent_cells (s : State) (c cls typ a b : Nat) :
    (s.postEvent c cls typ a b).mem.cells = s.mem.cells := by
  have hw (s : State) (c typ a b : Nat) : (s.eqWrite c typ a b).mem.cells = s.mem.cells := by
    unfold State.eqWrite State.eqMark State.postWrite
    dsimp only
    split <;> simp
  have hl (s : State) (c : Nat) : (s.eqLose c).mem.cells = s.mem.cells := by simp [State.eqLose]
  have hr (s : State) (c : Nat) : (s.eqRecover c).mem.cells = s.mem.cells := by
    unfold State.eqRecover
    split
    · rw [hw]; simp
    · rfl
  unfold State.postEvent
  dsimp only
  split
  · rfl
  · split
    · split
      · rw [hl, hr]
      · rw [hw, hr]
    · split
      · rw [hl]
      · rfl

@[simp] theorem State.postAll_cells (s : State) (cls typ a b : Nat) : (s.postAll cls typ a b).mem.cells = s.mem.cells :=
  foldl_cells _ (fun s c => s.postEvent_cells c cls typ a b) _ s

@[simp] theorem State.patRecord_cells (s : State) (w v : Nat) : (s.patRecord w v).mem.cells = s.mem.cells := by
  unfold State.patRecord
  split
  · rfl
  · split <;> simp

@[simp] theorem State.otpBoot_cells (s : State) : s.otpBoot.mem.cells = s.mem.cells := by
  unfold State.otpBoot
  dsimp only
  repeat' split
  all_goals simp

/-- A reset keeps the stored bytes of the stack (R259, R280, R457). -/
@[simp] theorem State.reboot_cells (s : State) : s.reboot.mem.cells = s.mem.cells := by
  unfold State.reboot State.patBoot
  dsimp only
  simp

@[simp] theorem State.portDrop_cells (s : State) (p : Nat) : (s.portDrop p).mem.cells = s.mem.cells := by
  have hp (t : State) (p r : Nat) : (t.portRate p r).mem.cells = t.mem.cells := by
    unfold State.portRate
    split <;> simp
  have h (t : State) (l : List Nat) :
      (l.foldl (fun (s : State) q => s.setQp q { s.qp q with unacked := [] }) t).mem.cells = t.mem.cells :=
    foldl_cells _ (fun s q => by simp) l t
  unfold State.portDrop
  dsimp only
  rw [State.postAll_cells, hp, State.countPort_cells]
  simp only [State.wr_mem, State.bump_mem]
  rw [h]
  simp [State.portIdle, State.setPort]

@[simp] theorem State.portLinkDown_cells (s : State) (p : Nat) : (s.portLinkDown p).mem.cells = s.mem.cells := by
  unfold State.portLinkDown
  split
  · simp
  · simp [State.portIdle, State.setPort]

@[simp] theorem State.tackLinkDown_cells (s : State) : s.tackLinkDown.mem.cells = s.mem.cells := by
  unfold State.tackLinkDown State.tackDrop State.dropHandover
  dsimp only
  split
  · split <;> simp
  · rfl

@[simp] theorem State.lanesReset_cells (s : State) (lo n : Nat) : (s.lanesReset lo n).mem.cells = s.mem.cells :=
  foldl_cells _ (fun s k => by simp) _ s

/-- A charge changes the energy counters and nothing else (17 R389). -/
theorem State.charge_frame (s : State) (k : Charge) (c ply n : Nat) :
    ∃ e p, s.charge k c ply n = { s with hem := { s.hem with energy := e, spent := p } } := ⟨_, _, rfl⟩

@[simp] theorem State.charge_mem (s : State) (k : Charge) (c ply n : Nat) : (s.charge k c ply n).mem = s.mem := rfl
@[simp] theorem State.charge_regs (s : State) (k : Charge) (c ply n : Nat) : (s.charge k c ply n).regs = s.regs := rfl
@[simp] theorem State.charge_chans (s : State) (k : Charge) (c ply n : Nat) : (s.charge k c ply n).chans = s.chans := rfl
@[simp] theorem State.charge_cal (s : State) (k : Charge) (c ply n : Nat) : (s.charge k c ply n).cal = s.cal := rfl
@[simp] theorem State.charge_due (s : State) (k : Charge) (c ply n : Nat) : (s.charge k c ply n).due = s.due := rfl
@[simp] theorem State.charge_pmc (s : State) (k : Charge) (c ply n : Nat) : (s.charge k c ply n).pmc = s.pmc := rfl
@[simp] theorem State.charge_lng (s : State) (k : Charge) (c ply n : Nat) : (s.charge k c ply n).lng = s.lng := rfl
@[simp] theorem State.charge_pending (s : State) (k : Charge) (c ply n : Nat) : (s.charge k c ply n).pending = s.pending := rfl
@[simp] theorem State.charge_powered (s : State) (k : Charge) (c ply n : Nat) : (s.charge k c ply n).powered = s.powered := rfl

/-- A held interval keeps a pseudo-channel's bus and is noted for its sweep, and nothing else (16 R375). -/
theorem State.heldInterval_frame (s : State) (c pc ply : Nat) :
    ∃ cs x, s.heldInterval c pc ply = { s with chans := cs, cal := x } := by
  unfold State.heldInterval
  dsimp only
  split <;> split <;> first | exact ⟨s.chans, s.cal, rfl⟩ | exact ⟨_, _, rfl⟩

/-- The REF commands of a ply leave memory, calibration and the Lining as they are (14 R348). -/
theorem State.refresh_frame (s : State) (c pc ply k : Nat) :
    (s.refresh c pc ply k).mem = s.mem ∧ (s.refresh c pc ply k).cal = s.cal ∧ (s.refresh c pc ply k).lng = s.lng := by
  simp [State.refresh, State.countChan]

/-- The fill of a sweep leaves the stored bytes of every sector: it goes to a row that holds none (16 R383). -/
@[simp] theorem State.fillBurst_cells (s : State) (c : Nat) (a : FillActs) : (s.fillBurst c a).mem.cells = s.mem.cells := by
  unfold State.fillBurst State.fillRow State.takeTrace
  dsimp only
  split
  · rfl
  · split
    · rfl
    · simp [State.countChan]

@[simp] theorem State.clearSweep_cells (s : State) (c : Nat) : (s.clearSweep c).mem.cells = s.mem.cells := by
  simp [State.clearSweep]

@[simp] theorem State.abandonSweep_cells (s : State) (c : Nat) : (s.abandonSweep c).mem.cells = s.mem.cells := by
  have hf (t : State) (acts : List FillActs) : (t.fillBursts c acts).mem.cells = t.mem.cells :=
    foldl_cells _ (fun s a => s.fillBurst_cells c a) acts t
  have hs : (s.stopSweep c).mem.cells = s.mem.cells := by
    unfold State.stopSweep
    split
    · show ((s.clearSweep c).fillBursts c _).mem.cells = _
      rw [hf, State.clearSweep_cells]
    · split <;> simp
  exact hs

@[simp] theorem State.blockReset_cells (s : State) (b : Block) : (s.blockReset b).mem.cells = s.mem.cells := by
  cases b with
  | port p => simp [State.blockReset, State.portReset, State.setPort]
  | tack => simp [State.blockReset, State.tackReset]
  | thimble =>
    simp only [State.blockReset, State.thimbleReset]
    have h := foldl_cells State.abandonSweep State.abandonSweep_cells (List.range 32) (s.wr R.FLT.WDT.ARMED 0)
    simpa [State.abandonSweeps] using h
  | other => rfl

@[simp] theorem State.settleEvents_cells (s : State) : s.settleEvents.mem.cells = s.mem.cells := by
  unfold State.settleEvents
  dsimp only
  rw [foldl_cells _ (fun s x => s.postAll_cells 4 0x0030 x 0)]

/-- The end of a command leaves every stored byte of the stack as its effect left it, whatever its raises owe. -/
@[simp] theorem State.ends_cells (t s : State) : (t.ends s).mem.cells = t.mem.cells := by
  have hb (t : State) : t.settleBlocks.mem.cells = t.mem.cells := by
    unfold State.settleBlocks
    dsimp only
    rw [foldl_cells _ State.blockReset_cells]
  have hr (t : State) (k n : Nat) : (t.settleReset k n).mem.cells = t.mem.cells := by
    simp [State.settleReset, State.faultReset, State.recordCause, State.unpost]
  show (t.settle s.out.length).mem.cells = t.mem.cells
  unfold State.settle
  show (t.settleAll s.out.length).mem.cells = t.mem.cells
  unfold State.settleAll
  dsimp only
  split
  · exact hr t _ _
  · split
    · rw [hr, hb]
    · simp [hb]

end Sys2Proof.Machine
end

