-- ==== Sys2Proof/Laws/Memory.lean ====
section
/-! SUPPORT. The memories of stored bytes keep their canonical form under every operation that writes them (02 R38). -/

namespace Sys2Proof.Machine

/-- Memory is canonical right after reset. -/
theorem State.reset_wf : State.reset.mem.wf = true := by decide

theorem Mem.wf_iff (m : Mem) : m.wf = true ↔ m.cells.wf 0 = true ∧ m.sysBolt.wf 0 = true := by
  simp [Mem.wf]

/-- Storing a codeword keeps the form. -/
theorem State.storeAt_wf (s : State) (w : List Byte) (k : Nat) (h : s.mem.wf = true) : (s.storeAt w k).mem.wf = true := by
  rw [Mem.wf_iff] at *
  exact ⟨putBytes_wf _ _ _ h.1, h.2⟩

/-- Storing a sector wherever its writes go keeps the form. -/
theorem State.store_wf (s : State) (n : Nat) (w : List Byte) (h : s.mem.wf = true) : (s.store n w).mem.wf = true := by
  unfold State.store
  generalize s.writeKeys n = ks
  induction ks generalizing s with
  | nil => exact h
  | cons k ks ih => exact ih _ (s.storeAt_wf w k h)

/-- Emptying a frame keeps the form. -/
theorem State.zeroFrame_wf (s : State) (cls frame : Nat) (h : s.mem.wf = true) : (s.zeroFrame cls frame).mem.wf = true := by
  rw [Mem.wf_iff] at *
  exact ⟨SMap.wf_keepKeys _ _ _ h.1, h.2⟩

/-- Writing bytes of the system bolt keeps the form. -/
theorem State.storeSector_system_wf (s : State) (m l k : Nat) (d : List Byte) (h : s.mem.wf = true) :
    (s.storeSector m 0 l k d).mem.wf = true := by
  rw [Mem.wf_iff] at *
  exact ⟨h.1, putBytes_wf _ _ _ h.2⟩

/-- What a stored codeword reads back as. -/
theorem State.storeAt_read (s : State) (w : List Byte) (k : Nat) (h : w.length = 72) :
    cellsOf (s.storeAt w k).mem.cells k = w := by
  apply List.ext_getElem
  · simp [cellsOf, h]
  · intro n h1 h2
    simp only [cellsOf, List.getElem_map, List.getElem_range]
    exact putBytes_get _ _ _ _ (by omega)

end Sys2Proof.Machine
end

