-- ==== Sys2Proof/WellFormed.lean ====
section
/-! DEFINITION. Which commands are well formed: every number fits the field that the spec gives it, and every list has the
length that the spec gives it. A command that is not well formed stands for nothing that can reach the module; the machine is
total on it all the same. -/

namespace Sys2Proof

/-- A MAC address is 48 bits. -/
def macFits (a : Nat) : Bool := decide (a < 2 ^ 48)

/-- An IP address is 128 or 32 bits. -/
def ipFits (v6 : Bool) (a : Nat) : Bool := decide (a < if v6 then 2 ^ 128 else 2 ^ 32)

/-- Eight quanta of 16 bits (04 R103). -/
def quantaFit (q : List Nat) : Bool := q.length == 8 && q.all (fun n => decide (n < 2 ^ 16))

/-- The fields of a frame's body fit (04 R98). -/
def FrameBody.wf : FrameBody → Bool
  | .pfc _ quanta => quantaFit quanta
  | .macControl op => decide (op < 2 ^ 16)
  | .arpRequest target ip mac => ipFits false target && ipFits false ip && macFits mac
  | .neighbourSolicit target source => ipFits true target && ipFits true source
  | .roce v6 dst _ => ipFits v6 dst
  | .echo v6 dst src _ => ipFits v6 dst && ipFits v6 src
  | .wake _ => true
  | .other t => decide (t < 2 ^ 16)

/-- A received frame (04 R98). -/
def Frame.wf (f : Frame) : Bool :=
  macFits f.dst && macFits f.src && f.tags.all (fun t => decide (t.tpid < 2 ^ 16 ∧ t.tci < 2 ^ 16)) && f.body.wf

/-- A received RoCEv2 packet (05 R111, R117). -/
def Packet.wf (p : Packet) : Bool :=
  decide (p.version < 2 ^ 4 ∧ p.opcode < 2 ^ 8 ∧ p.pkey < 2 ^ 16 ∧ p.destQpn < 2 ^ 24 ∧ p.psn < 2 ^ 24) &&
    decide (p.va < 2 ^ 64 ∧ p.rkey < 2 ^ 32 ∧ p.dmaLen < 2 ^ 32 ∧ p.swapAdd < 2 ^ 64 ∧ p.compare < 2 ^ 64) &&
    decide (p.syndrome < 2 ^ 8) && ipFits p.ipv6 p.srcIp

/-- An SMBus block: a count byte and at most that many bytes follow (06 R155). -/
def SmbBlock.wf (w : SmbBlock) : Bool := decide (w.count < 2 ^ 8 ∧ w.data.length ≤ w.count)

/-- What goes wrong in a granule: four sectors of 72 stored bytes, those of its other copy, and 72 bytes of each codeword on the way to it
(15 R360, R367). -/
def ReadNoise.wf (n : ReadNoise) : Bool :=
  n.flips.all (fun f => decide (f.1 < 8 ∧ f.2.1 < 72)) && n.path.all (fun f => decide (f.2.1 < 72))

/-- A comparison window counts eight PLLs (03 R71). -/
def ClockWindow.wf (w : ClockWindow) : Bool := w.pllCounts.length == 8

/-- The readings of a round: 80 sensors, 28 rails, six phases, two stages, 32 ratios, eight panel positions, four tiers, two ports and
the Tack link (17 R388). -/
def RoundReadings.wf (r : RoundReadings) : Bool :=
  r.sensors.length == 80 && r.rails.length == 28 && r.phases.length == 6 && r.stage.length == 2 && r.ratios.length == 32 &&
    r.baseDie.length == 8 && r.busy.length == 4 && r.fecCorrected.length == 3 && r.fecUncorrectable.length == 3 &&
    r.prbsErrors.length == 16

/-- A sweep's runs are masks of 64 codes, and a fill level is at most sixteen sixteenths (16 R379, R382). -/
def SweepReport.wf (r : SweepReport) : Bool := r.runs.all (fun m => decide (m < 2 ^ 64)) && decide (r.fill ≤ 16)

/-- A debug write carries its bytes (13 R338). -/
def DebugAccess.wf (a : DebugAccess) : Bool := !a.write || a.data.length == a.len

/-- A mirror frame is 1 to 64 stitches of 126 bytes (18 R414, R426). -/
def tackFrameFits (f : List (BitVec 8)) : Bool := f.length % 126 == 0 && decide (126 ≤ f.length ∧ f.length ≤ 64 * 126)

/-- Set-up offsets are multiples of 8 (00 R15). -/
def offsetFits (off : BitVec 20) : Bool := off.toNat % 8 == 0

/-- A command is well formed. -/
def Instr.wf : Instr → Bool
  | .frameReceived _ f => f.wf
  | .wakeFrame _ f => f.wf
  | .pfcFrameReceived _ _ quanta => quantaFit quanta
  | .sendOnly p => p.wf
  | .rdmaWrite p => p.wf
  | .rdmaReadRequest p => p.wf
  | .atomicCompareSwap p => p.wf
  | .atomicFetchAdd p => p.wf
  | .readResponseReceived p => p.wf
  | .ackReceived p => p.wf
  | .nakReceived p => p.wf
  | .rnrNakReceived p => p.wf
  | .cnpReceived p => p.wf
  | .smbSetAddr w => w.wf
  | .smbDataWrite w => w.wf
  | .setupWrite off _ _ => offsetFits off
  | .rcRead off _ => offsetFits off
  | .fillComplete _ n => n.wf
  | .scrubReadDone _ n => n.wf
  | .refWindowEnd w => w.wf
  | .housekeepingRound r => r.wf
  | .sweepComplete _ r => r.wf
  | .scanEnter readback => readback.length == 7
  | .alignCountDone _ matched => decide (matched ≤ 1024)
  | .stitchMarker waits => waits.length == 8
  | .tackFrameReceived f _ => tackFrameFits f
  | .jtagDebugAccess a => a.wf
  | .powerGood _ _ => true
  | .powerLoss => true
  | .rstNLow => true
  | .rstNRelease => true
  | .strapSample _ => true
  | .chatterRelease _ => true
  | .bootStepDone _ => true
  | .bootRefclkTimeout => true
  | .s32GenerationFormed => true
  | .pllHoldover _ => true
  | .refMuxForcedSwitch => true
  | .refMuxSwitchDone => true
  | .clkBackupLost => true
  | .returnNow _ => true
  | .portBringupStart _ => true
  | .linkUp _ => true
  | .bringupAbandon _ => true
  | .bringupRetry _ => true
  | .linkDown _ _ => true
  | .adminUpWrite _ _ _ => true
  | .restoreFull _ _ _ => true
  | .losAssert _ => true
  | .losDeassert _ => true
  | .lolAssert _ => true
  | .lolDeassert _ => true
  | .laneDeclaredFailed _ => true
  | .pauseExpiry _ _ => true
  | .pfcXoff _ _ => true
  | .pfcRepeat _ _ => true
  | .pfcXon _ _ => true
  | .bitslip _ _ => true
  | .prbsCheckerLock _ => true
  | .ackDelayExpiry _ => true
  | .rnrWaitExpiry _ => true
  | .ackTimeout _ => true
  | .rateStep _ => true
  | .qpStateWrite _ _ => true
  | .qpBind _ _ => true
  | .qpUnbind _ _ => true
  | .boltCreate _ _ => true
  | .boltCreateDone _ => true
  | .boltDelete _ _ => true
  | .boltDeleteDone _ => true
  | .grantIssue _ _ => true
  | .grantRevoke _ _ => true
  | .smbDataRead => true
  | .smbRespRead => true
  | .smbTimeout => true
  | .smbAlertResponse => true
  | .doorbell _ _ _ => true
  | .ringEnable _ _ => true
  | .ringReset _ _ => true
  | .ringDrained _ => true
  | .ringHalt _ _ => true
  | .eqEnable _ _ => true
  | .descriptorFetch _ => true
  | .descriptorsFetched _ => true
  | .descriptorStart _ => true
  | .descriptorComplete _ => true
  | .copy _ noise => noise.all (fun n => n.what.wf)
  | .fill _ noise => noise.all (fun n => n.what.wf)
  | .readOut _ noise => noise.all (fun n => n.what.wf)
  | .writeIn _ noise => noise.all (fun n => n.what.wf)
  | .fence _ => true
  | .nop _ => true
  | .hint _ => true
  | .flush _ => true
  | .reduce _ noise => noise.all (fun n => n.what.wf)
  | .select _ noise => noise.all (fun n => n.what.wf)
  | .gather _ noise => noise.all (fun n => n.what.wf)
  | .scatter _ noise => noise.all (fun n => n.what.wf)
  | .matchOp _ noise => noise.all (fun n => n.what.wf)
  | .histogram _ noise => noise.all (fun n => n.what.wf)
  | .atomicBatch _ noise => noise.all (fun n => n.what.wf)
  | .writeBackAccepted _ _ => true
  | .writeBackRetry _ _ _ => true
  | .cleanerStart => true
  | .cleanAll _ _ => true
  | .bobbinBufferFreed => true
  | .slotIssue _ => true
  | .rowIdlePrecharge _ _ => true
  | .refDue _ _ _ _ => true
  | .rhWindowBoundary => true
  | .caParityError _ _ _ => true
  | .errlogPop _ _ => true
  | .bucketLeak => true
  | .scrubLapWarn => true
  | .sramWalk _ => true
  | .thimbleFetchUc _ => true
  | .epochStart => true
  | .moveCopyDone swatch => swatch.noise.all (fun n => n.what.wf)
  | .oldFrameFree _ => true
  | .restitchGo _ _ => true
  | .restitchEnd => true
  | .metadataRebuilt => true
  | .windowBoundary => true
  | .demotedSlotAged _ _ => true
  | .guaranteeWrite _ _ => true
  | .creditPeriod => true
  | .dumpLatch => true
  | .dumpRecordDone => true
  | .keyLoad _ _ => true
  | .keyClear _ _ => true
  | .keyLimitWrite _ _ => true
  | .rekeyGo _ _ => true
  | .rekeyConversionDone => true
  | .waveStart => true
  | .waveEnd => true
  | .sweepStart _ => true
  | .calDeferTimeout _ => true
  | .laneRotationPoint _ _ => true
  | .calCmd _ _ => true
  | .tackBringupStart => true
  | .tackBringupTimeout => true
  | .alignStart _ => true
  | .tackLinkUp => true
  | .tackLinkDown => true
  | .stitchAck _ => true
  | .stitchResend _ => true
  | .stitchHeartbeat _ => true
  | .stitchIdent _ => true
  | .stitchHandover _ => true
  | .markerSend => true
  | .heartbeatSend => true
  | .frameClose => true
  | .resendTimeout => true
  | .pair _ _ => true
  | .join _ _ => true
  | .unpair _ _ => true
  | .handover _ _ => true
  | .takeover _ _ => true
  | .claim _ _ => true
  | .pkeyLoad _ _ => true
  | .syncComplete => true
  | .breakTimeout => true
  | .decideTimeout => true
  | .peerAliveEdge => true
  | .peerAliveStopped => true
  | .heartbeatLost => true
  | .addressClaimRepeat => true
  | .pairFenced => true
  | .faultInject _ _ => true
  | .kick _ => true
  | .watchdogExpiry => true
  | .thimbleResetDone => true
  | .aliveToggle => true
  | .modeReqServe _ _ => true
  | .modeReqEase _ _ => true
  | .modeReqHold _ _ => true
  | .modeReqMaintenance _ _ => true
  | .modeReqReset _ _ => true
  | .serviceDrained => true
  | .modeEntered => true
  | .bistStart _ _ => true
  | .bistWaveDone _ => true
  | .bistPop _ _ => true
  | .otpProg _ _ _ => true
  | .otpProvision _ _ _ => true
  | .otpExportKek _ _ _ => true
  | .otpDeploy _ _ _ => true
  | .otpReturn _ _ _ => true
  | .otpLock _ _ _ => true
  | .otpRaiseSvn _ _ _ => true
  | .otpWordProgrammed _ _ => true
  | .fwBegin _ _ => true
  | .fwData _ _ => true
  | .fwVerify _ _ => true
  | .fwActivate _ _ => true
  | .noteWrite _ _ => true
  | .narrowWindowEnd _ => true
  | .watchdogHoldTimeout => true
  | .entropyHealthTest _ => true
  | .trainStitchReceived _ => true
  | .trstNEdge => true

end Sys2Proof
end

