-- ==== Sys2Proof/Tests/Slice0.lean ====
section
/-! SUPPORT. The tests: a state and operands that meet the premises of each clause of each statement, ill-formed commands that
WellFormed refuses, and the spec's own or a published standard's values for the calculations the model rests on. -/

namespace Sys2Proof.Tests

set_option Elab.async false

open Sys2Proof Sys2Proof.Machine

/-- A state with register fields set: field, entry, value. -/
def withRegs (s : State) (l : List (Fld × Nat × Nat)) : State := l.foldl (fun s x => s.wr x.1 x.2.2 x.2.1) s

/-- The state after reset with register fields set. -/
def atReset (l : List (Fld × Nat × Nat)) : State := withRegs State.reset l

/-- A register value with fields set. -/
def word (l : List (Fld × Nat)) : BitVec 64 := BitVec.ofNat 64 (l.foldl (fun n x => n + x.2 * 2 ^ x.1.lo) 0)

/-- A module in Serve. -/
def served : State := atReset [(R.MOD.STATUS.MODE, 0, modeServe)]

/-- A module in Maintenance. -/
def maintained : State := atReset [(R.MOD.STATUS.MODE, 0, modeMaint)]

/-- A module in Hold. -/
def held : State := atReset [(R.MOD.STATUS.MODE, 0, modeHold)]

/-- A module in Shadow. -/
def shadowed : State := atReset [(R.MOD.STATUS.MODE, 0, modeShadow)]

/-- One strap sample. -/
def straps : Straps := ⟨true, 5⟩

/-- The key-encryption key of the examples of RFC 3394. -/
def rfcKek : List Byte := (List.range 32).map (BitVec.ofNat 8)

/-- The key of the example of RFC 3394 section 4.6. -/
def rfcKey : List Byte := (List.range 16).map (fun k => BitVec.ofNat 8 (17 * k)) ++ (List.range 16).map (BitVec.ofNat 8)

/-- The wrapped key of that example. -/
def rfcBlob : List Byte :=
  [0x28, 0xC9, 0xF4, 0x04, 0xC4, 0xB8, 0x10, 0xF4, 0xCB, 0xCC, 0xB3, 0x5C, 0xFB, 0x87, 0xF8, 0x26, 0x3F, 0x57, 0x86, 0xE2,
   0xD8, 0x0E, 0xD3, 0x26, 0xCB, 0xC7, 0xF0, 0xE7, 0x1A, 0x99, 0xF4, 0x3B, 0xFB, 0x98, 0x8B, 0x9B, 0x7A, 0x02, 0xDD, 0x21]

/-- RFC 3394 section 4.6 (R314, R420). -/
theorem test_keyUnwrap : keyUnwrap rfcKek rfcBlob = some rfcKey := by decide +kernel

/-- FIPS 180-4: SHA-384 of "abc" (R470). -/
theorem test_sha384 : sha384 [0x61, 0x62, 0x63] =
    [0xCB, 0x00, 0x75, 0x3F, 0x45, 0xA3, 0x5E, 0x8B, 0xB5, 0xA0, 0x3D, 0x69, 0x9A, 0xC6, 0x50, 0x07, 0x27, 0x2C, 0x32, 0xAB,
     0x0E, 0xDE, 0xD1, 0x63, 0x1A, 0x8B, 0x60, 0x5A, 0x43, 0xFF, 0x5B, 0xED, 0x80, 0x86, 0x07, 0x2B, 0xA1, 0xE7, 0xCC, 0x23,
     0x58, 0xBA, 0xEC, 0xA1, 0x34, 0xC8, 0x25, 0xA7] := by decide +kernel

/-- FIPS 197, example C.3 (R320). -/
theorem test_aes256 : aes256 ((List.range 32).map (BitVec.ofNat 8)) ((List.range 16).map (fun k => BitVec.ofNat 8 (17 * k))) =
    [0x8E, 0xA2, 0xB7, 0xCA, 0x51, 0x67, 0x45, 0xBF, 0xEA, 0xFC, 0x49, 0x90, 0x4B, 0x49, 0x60, 0x89] := by decide +kernel

/-- Test case 14 of the GCM specification (R426). -/
theorem test_gcm :
    gcmCrypt (List.replicate 32 0) (List.replicate 12 0) (List.replicate 16 0) =
      [0xCE, 0xA7, 0x40, 0x3D, 0x4D, 0x60, 0x6B, 0x6E, 0x07, 0x4E, 0xC5, 0xD3, 0xBA, 0xF3, 0x9D, 0x18] ∧
    gcmTag (List.replicate 32 0) (List.replicate 12 0) [] (gcmCrypt (List.replicate 32 0) (List.replicate 12 0) (List.replicate 16 0)) =
      [0xD0, 0xD1, 0xC8, 0xA7, 0x99, 0x99, 0x6B, 0xF0, 0x26, 0x5B, 0x98, 0xB5, 0xD4, 0x8A, 0xB9, 0x19] := by decide +kernel

/-- NIST SP 800-38B, AES-256 example 2 (R313). -/
theorem test_cmac : cmac
    [0x60, 0x3D, 0xEB, 0x10, 0x15, 0xCA, 0x71, 0xBE, 0x2B, 0x73, 0xAE, 0xF0, 0x85, 0x7D, 0x77, 0x81,
     0x1F, 0x35, 0x2C, 0x07, 0x3B, 0x61, 0x08, 0xD7, 0x2D, 0x98, 0x10, 0xA3, 0x09, 0x14, 0xDF, 0xF4]
    [0x6B, 0xC1, 0xBE, 0xE2, 0x2E, 0x40, 0x9F, 0x96, 0xE9, 0x3D, 0x7E, 0x11, 0x73, 0x93, 0x17, 0x2A] =
    [0x28, 0xA7, 0x02, 0x3F, 0x45, 0x2E, 0x8F, 0x82, 0xBD, 0x4B, 0xF2, 0x8D, 0x8C, 0x37, 0xC3, 0x5C] := by decide +kernel

theorem witness_EmptyQueueIsOneTick :
    State.reset.pending = [] ∧ State.reset.awake = true ∧ ({ State.reset with powered := false } : State).awake = false := by
  decide

theorem witness_QueueRunsInOrder :
    ({ State.reset with pending := [.aliveToggle, .kick 0] } : State).pending = [.aliveToggle] ++ [.kick 0] := by decide +kernel

theorem witness_UnpoweredModuleIsInert :
    ({ State.reset with powered := false } : State).powered = false ∧ (∀ x r, Instr.powerLoss ≠ .powerGood x r) ∧
      (({ State.reset with clocks := { State.reset.clocks with stopped := true } } : State).awake = false ∧
        Instr.aliveToggle ≠ .powerLoss) := by
  exact ⟨rfl, (fun _ _ h => by cases h), rfl, by decide⟩

theorem witness_EveryStepKeepsInvariant : State.reset.Inv ∧ step State.reset = .next (State.reset.idle.ends State.reset) :=
  ⟨⟨rfl, fun h => by cases h⟩, rfl⟩

theorem witness_EndOfACommand :
    State.reset.due = {} ∧ ({ served with due := { reset := some Src.thimbleLockup } } : State).due.reset = some Src.thimbleLockup := by
  decide +kernel

theorem witness_RaiseRecordsTheFault :
    Src.ethLinkDown < 128 ∧ (atReset [(R.FLT.SRC.PIN, Src.ethLinkDown, 1)]).on R.FLT.SRC.PIN Src.ethLinkDown = true ∧
      R.MOD.STATUS.MODE.notFault = true := by decide +kernel

/-- A source under each reaction. -/
def reacting (n : Nat) (m : Nat) : State := atReset [(R.FLT.SRC.REACTION, 5, n), (R.MOD.STATUS.MODE, 0, m), (R.FLT.SRC.CLIENT, 5, 1)]

theorem witness_ReactionsOfARaise :
    (reacting 0 1).rd R.FLT.SRC.REACTION 5 = 0 ∧ (reacting 1 1).rd R.FLT.SRC.REACTION 5 = 1 ∧
    (reacting 2 1).rd R.FLT.SRC.REACTION 5 = 2 ∧
    ((reacting 3 1).rd R.FLT.SRC.REACTION 5 = 3 ∧ (reacting 3 1).rd R.FLT.SRC.CLIENT 5 = 1) ∧
    ((reacting 4 1).rd R.FLT.SRC.REACTION 5 = 4 ∧ (reacting 4 1).mode ≠ modeBoot ∧ (reacting 4 1).mode ≠ modeMaint ∧
      (reacting 4 1).due.reset = none) ∧
    ((reacting 4 16).rd R.FLT.SRC.REACTION 5 = 4 ∧ (reacting 4 16).mode = modeMaint) := by decide +kernel

theorem witness_PowerLossAndPowerGood :
    State.reset.powered = true ∧ State.reset.per.job = none ∧ ({ State.reset with powered := false } : State).powered = false := by
  decide

/-- Pins as named. -/
def pinned (p : Pins) : State := { State.reset with pins := p }

theorem witness_PinCommands :
    (pinned { samples := List.replicate 5 straps }).pins.samples.length < 6 ∧
    (pinned { samples := List.replicate 6 straps }).pins.samples.length = 6 ∧
    (pinned { rstN := ⟨true, false, [], true⟩ }).pins.rstN.chattering = true ∧
    (pinned { peerAlive := ⟨true, false, [], true⟩ }).pins.peerAlive.chattering = true ∧
    (pinned { trstN := ⟨true, false, [], true⟩ }).pins.trstN.chattering = true ∧
    (State.reset.awake = true ∧ State.reset.pins.rstN.level = true ∧ State.reset.pins.rstN.seen = true ∧
      (State.reset.pins.rstN.edge State.reset.tick).2 = false ∧ State.reset.pins.rstN.chattering = false) ∧
    ((pinned { rstN := ⟨false, false, [], false⟩ }).pins.rstN.level = false ∧
      (pinned { rstN := ⟨false, false, [], false⟩ }).pins.rstN.seen = false ∧
      ((pinned { rstN := ⟨false, false, [], false⟩ }).pins.rstN.edge 0).2 = false) ∧
    ((⟨true, true, List.replicate 16 7, false⟩ : Chat).edge 7).2 = true := by decide +kernel

theorem witness_BootCommands :
    (State.reset.booting = true ∧ State.reset.boot.resetHeld = false) ∧
    (atReset [(R.CLK.STATUS.REF_OK, 0, 1)]).on R.CLK.STATUS.REF_OK = true ∧
    (State.reset.on R.CLK.STATUS.REF_OK = false ∧ State.reset.on R.CLK.STATUS.REF_SEL = false) ∧
    ((atReset [(R.CLK.STATUS.PLL_LOCK, 0, 255)]).rd R.CLK.STATUS.PLL_LOCK = 255 ∧
      (atReset [(R.CLK.STATUS.PLL_LOCK, 0, 254)]).rd R.CLK.STATUS.PLL_LOCK ≠ 255) ∧
    ({} : BootReport).romOk = true ∧ ({ romOk := false } : BootReport).romOk = false ∧ ({} : BootReport).railsOk = true ∧
    ({ railsOk := false } : BootReport).railsOk = false ∧
    ({ State.reset with bist := { waves := [7] } } : State).bist.waves ≠ [] ∧
    (State.reset.bist.waves = [] ∧ State.reset.allTorn = false) ∧
    ({ State.reset with mem := { torn := List.range 64 } } : State).allTorn = true := by decide +kernel

/-- A module in Maintenance with BIST's last wave to run: lanes locked, shares given. -/
def testing : State :=
  { withRegs maintained ((R.CLK.STATUS.PLL_LOCK, 0, 255) :: (List.range 8).flatMap (fun k =>
      [(R.HEM.COL.SHARE_T0, k, 16), (R.HEM.COL.SHARE_T1, k, 16), (R.HEM.COL.SHARE_T2, k, 16), (R.HEM.COL.SHARE_T3, k, 16)]))
    with bist := { waves := [7] } }

theorem witness_BistCommands :
    (testing.bist.waves = 7 :: [] ∧ testing.mode = modeMaint ∧ testing.waveReady 7 = true ∧
      testing.on R.PRT.MRIGHTS.READ 70 = true ∧ testing.on R.PRT.MRIGHTS.WRITE 70 = true) ∧
    (maintained.pathOk .smb = true ∧ maintained.mode = modeMaint ∧ maintained.bist.waves = [] ∧
      part (word [(R.BST.CTRL.START, 1)]).toNat R.BST.CTRL.START = 1) ∧
    (served.mode ≠ modeMaint ∧ served.pathOk .smb = true) ∧
    (part (word [(R.BST.CTRL.POP, 1)]).toNat R.BST.CTRL.START = 0 ∧
      part (word [(R.BST.CTRL.POP, 1)]).toNat R.BST.CTRL.POP = 1) := by decide +kernel

theorem witness_ClockCommands :
    (atReset [(R.CLK.STATUS.BKP_OK, 0, 1)]).on R.CLK.STATUS.BKP_OK = true ∧
    (inRange 1568 = true ∧ inRange 1632 = true ∧ inRange 1567 = false ∧ inRange 1633 = false) ∧
    63 ≤ (atReset [(R.CLK.STATUS.GOOD_RUN, 0, 63)]).rd R.CLK.STATUS.GOOD_RUN ∧
    (atReset [(R.CLK.STATUS.BAD_RUN, 0, 2)]).rd R.CLK.STATUS.BAD_RUN < 3 ∧
    ({ State.reset with clocks := { moving := some true } } : State).clocks.moving = some true ∧
    (atReset [(R.CLK.STATUS.BKP_OK, 0, 0)]).on R.CLK.STATUS.BKP_OK = false ∧
    ((atReset [(R.CLK.STATUS.REF_SEL, 0, 1), (R.CLK.STATUS.REF_OK, 0, 1)]).on R.CLK.STATUS.REF_SEL = true ∧
      (atReset [(R.CLK.STATUS.REF_SEL, 0, 1), (R.CLK.STATUS.REF_OK, 0, 1)]).on R.CLK.STATUS.REF_OK = true ∧
      (atReset [(R.CLK.STATUS.REF_SEL, 0, 1), (R.CLK.STATUS.REF_OK, 0, 1)]).clocks.moving = none ∧
      (atReset [(R.CLK.STATUS.REF_SEL, 0, 1), (R.CLK.STATUS.REF_OK, 0, 1)]).pathOk .smb = true) := by decide +kernel

/-- A module whose port 0 may come up, or (link) is up, with the port's hidden state. -/
def ported (x : Port) (l : List (Fld × Nat × Nat) := []) : State :=
  (withRegs served ([(R.ETH.CTRL.ADMIN_UP, 0, 1), (R.CLK.STATUS.PLL_LOCK, 0, 255)] ++ l)).setPort 0 x

theorem witness_PortLinkCommands :
    (((ported {}).port 0).waiting = false ∧ ((ported {}).port 0).attempt = false ∧ (ported {}).on R.ETH.STATUS.LINK 0 = false ∧
      (ported {}).portReady 0 = true ∧ (ported {}).portPlan 0 = some ((ported {}).port 0).pair ∧ (ported {}).awake = true) ∧
    (((ported { attempt := true }).port 0).attempt = true ∧ (ported { attempt := true }).portReady 0 = true ∧
      ((ported { attempt := true }).port 0).lastFail = none) ∧
    (((ported { attempt := true, lastFail := some 0 }).port 0).attempt = true ∧
      ((ported { attempt := true, lastFail := some 0 }).port 0).lastFail = some 0 ∧
      (ported { attempt := true, lastFail := some 0 }).tick - 0 < 60000000000) ∧
    ((ported { waiting := true }).port 0).waiting = true ∧
    (ported {} [(R.ETH.STATUS.LINK, 0, 1)]).on R.ETH.STATUS.LINK 0 = true ∧
    (part (word [(R.ETH.CTRL.MEDIA, 2), (R.ETH.CTRL.ADMIN_UP, 1)]).toNat R.ETH.CTRL.MEDIA ≠ 3 ∧
      part (word [(R.ETH.CTRL.MEDIA, 2), (R.ETH.CTRL.ADMIN_UP, 1)]).toNat R.ETH.CTRL.RESTORE_FULL = 0 ∧
      part (word [(R.ETH.CTRL.MEDIA, 2), (R.ETH.CTRL.ADMIN_UP, 1)]).toNat R.ETH.CTRL.ADMIN_UP = 1) ∧
    (part (word [(R.ETH.CTRL.MEDIA, 3)]).toNat R.ETH.CTRL.MEDIA = 3 ∧ served.rd R.ETH.CTRL.MEDIA 0 ≠ 3) ∧
    (part (word [(R.ETH.CTRL.RESTORE_FULL, 1)]).toNat R.ETH.CTRL.MEDIA ≠ 3 ∧
      part (word [(R.ETH.CTRL.RESTORE_FULL, 1)]).toNat R.ETH.CTRL.RESTORE_FULL = 1 ∧
      (portLanes 0).any (fun l => (atReset [(R.SDS.STATUS.FAILED, 3, 1)]).on R.SDS.STATUS.FAILED l) = true ∧
      (portLanes 1).any (fun l => (atReset [(R.SDS.STATUS.FAILED, 3, 1)]).on R.SDS.STATUS.FAILED l) = false) := by
  decide +kernel

theorem witness_LinkDropState : ∀ c, c < 64 → served.rd R.SHU.EQ_CTRL.MASK c = 0 := by decide +kernel

theorem witness_LaneCommands :
    ((atReset [(R.SDS.STATUS.LOS, 7, 0)]).on R.SDS.STATUS.LOS 7 = false ∧
      (atReset [(R.SDS.STATUS.LOL, 7, 0)]).on R.SDS.STATUS.LOL 7 = false ∧
      State.reset.on R.SDS.STATUS.FAILED 7 = false ∧ (7 : Fin 16).val < 8 ∧ State.reset.laneFails 7 = false ∧
      (State.reset.setPort 1 { untrained := ({} : SMap Nat).put 3 3 }).laneFails 7 = true) ∧
    (State.reset.on R.SDS.STATUS.FAILED 8 = false ∧ 8 ≤ (8 : Fin 16).val ∧ State.reset.tack.lanes.contains (8 - 8) = false ∧
      State.reset.pathOk .smb = true ∧ State.reset.tack.aligned.contains (8 - 8) = false) ∧
    (({ State.reset with tack := { lanes := [0] } } : State).tack.lanes.contains (8 - 8) = true ∧
      ({ State.reset with tack := { failRun := ({} : SMap Nat).put 0 3 } } : State).laneFails 8 = true) ∧
    ((atReset [(R.SDS.CTRL.PRBS_CHK, 3, 1)]).on R.SDS.CTRL.PRBS_CHK 3 = true ∧
      (atReset [(R.SDS.CTRL.PRBS_CHK, 3, 1)]).seesPattern 3 = true ∧
      (atReset [(R.SDS.CTRL.PRBS_CHK, 3, 1)]).on R.SDS.PRBS_ERR.LOCKED 3 = false) := by decide +kernel

/-- A RoCE frame to the port's own addresses. -/
def roceFrame : Frame := ⟨true, 64, 0x020000000001, 2, [], .roce false 0x0A000001 false⟩

/-- A wake frame. -/
def wakeUp : Frame := ⟨true, 64, 0x020000000001, 2, [], .wake (leBytes 6 0x123456)⟩

/-- A module whose port 0 has its link, addresses and pause thresholds. -/
def linked (held : Nat) (l : List (Fld × Nat × Nat) := []) : State :=
  ported { held := (({} : SMap Nat).put 3 held) } ([(R.ETH.STATUS.LINK, 0, 1), (R.ETH.VLAN.UNTAGGED_OK, 0, 1),
    (R.ETH.MAC.ADDR, 0, 0x020000000001), (R.ETH.IP4.ADDR, 0, 0x0A000001), (R.ETH.QOS_MAP.LOSSLESS, 0, 8),
    (R.ETH.PFC.XOFF, 0, 100), (R.ETH.PFC.XON, 0, 50)] ++ l)

/-- A module in Hold that waits for a wake frame, at a tick of the round's period. -/
def sleeping (tick : Nat) : State :=
  { withRegs held [(R.CLK.CTRL.WAKE_PORT, 0, 0), (R.ETH.WAKE.EN, 0, 1), (R.ETH.MAC.ADDR, 0, 0x020000000001),
    (R.ETH.WAKE.CODE, 0, 0x123456)] with tick := tick }

theorem witness_FrameCommands :
    ((linked 100).awake = true ∧ (linked 100).on R.ETH.STATUS.LINK 0 = true ∧ ({ roceFrame with fcsOk := false } : Frame).fcsOk = false) ∧
    (({ roceFrame with len := 9217 } : Frame).fcsOk = true ∧ 64 ≤ ({ roceFrame with len := 9217 } : Frame).len ∧
      9216 < ({ roceFrame with len := 9217 } : Frame).len) ∧
    (roceFrame.fcsOk = true ∧ 64 ≤ roceFrame.len ∧ roceFrame.len ≤ 9216 ∧ (linked 0).tagsOk 0 roceFrame.tags = true ∧
      (linked 0).macOk 0 roceFrame.dst = true ∧ (linked 0).ipOk 0 false 0x0A000001 = true) ∧
    served.on R.ETH.STATUS.LINK 0 = false ∧ ((linked 0).port 0).txq = [] ∧
    ((linked 100).rdBit R.ETH.QOS_MAP.LOSSLESS 3 0 = true ∧ (linked 100).pausing 0 3 = false ∧
      (linked 100).rd R.ETH.PFC.XOFF 0 ≤ ((linked 100).port 0).held.get 0 3) ∧
    ((linked 50 [(R.ETH.STATUS.PFC_TX_XOFF, 0, 8)]).pausing 0 3 = true ∧
      (linked 50 [(R.ETH.STATUS.PFC_TX_XOFF, 0, 8)]).rd R.ETH.PFC.XON 0 ≤
        ((linked 50 [(R.ETH.STATUS.PFC_TX_XOFF, 0, 8)]).port 0).held.get 0 3) ∧
    ((linked 49 [(R.ETH.STATUS.PFC_TX_XOFF, 0, 8)]).pausing 0 3 = true ∧
      ((linked 49 [(R.ETH.STATUS.PFC_TX_XOFF, 0, 8)]).port 0).held.get 0 3 <
        (linked 49 [(R.ETH.STATUS.PFC_TX_XOFF, 0, 8)]).rd R.ETH.PFC.XON 0) ∧
    ((sleeping 499999).wakes 0 wakeUp = true ∧ (sleeping 499999).inRound = true) ∧
    ((sleeping 500000).wakes 0 wakeUp = true ∧ (sleeping 500000).inRound = false) := by decide +kernel

/-- A module in Serve whose QP 0, a command QP of client 1 on port 0, is open; grant 3 lets client 1 into bolt 1. -/
def answering (l : List (Fld × Nat × Nat) := []) : State :=
  withRegs served ([(R.ETH.STATUS.LINK, 0, 1), (R.XPT.QP_STATE.STATE, 0, 3), (R.XPT.QP_STATE.CLIENT, 0, 1),
    (R.XPT.QP_STATE.BOUND, 0, 1), (R.XPT.QP_STATE.ROLE, 0, 1), (R.XPT.QP_DEST.PKEY, 0, 0xFFFF),
    (R.XPT.QP_DIP_LO.ADDR_LO, 0, 0x0A000002), (R.BLT.CLIENT.VALID, 1, 1), (R.BLT.BOLT_ATTR.STATE, 1, 2),
    (R.BLT.BOLT_ATTR.KEY_ID, 1, 7), (R.BLT.BOLT_BASE.BASE_SW, 1, 16), (R.BLT.BOLT_BASE.LEN_SW, 1, 1),
    (R.BLT.GRANT.ISSUED, 3, 1), (R.BLT.GRANT.GEN, 3, 1), (R.BLT.GRANT.CLIENT, 3, 1), (R.BLT.GRANT.BOLT, 3, 1),
    (R.BLT.GRANT.RIGHTS, 3, 15), (R.BLT.GRANT_RANGE.LEN_SW, 3, 1)] ++ l)

/-- A request on QP 0 for eight bytes at an offset of bolt 1. -/
def request (op : Nat) (off : Nat := 0) : Packet :=
  { port := 0, srcIp := 0x0A000002, opcode := op, destQpn := 0x100, va := 7 * 2 ^ 52 + 16 * 65536 + off,
    rkey := 3 * 2 ^ 20 + 1, dmaLen := 8, payload := if op = opRead then [] else List.replicate 8 1 }

/-- Its state after the checks before the request's own. -/
def checked (op : Nat) (off : Nat := 0) : State := (answering.inbound (request op off)).1

theorem witness_PacketChecks :
    (served.on R.ETH.STATUS.LINK (request opRead).port = false ∧ (served.port (request opRead).port).rx = [] ∧
      ((ported { rx := [(64, 0)] }).port (request opRead).port).rx ≠ []) ∧
    (answering.on R.ETH.STATUS.LINK (request opRead).port = true ∧ ({ request opRead with icrcOk := false } : Packet).icrcOk = false) ∧
    ((request opRead).icrcOk = true ∧ ({ request opRead with version := 1 } : Packet).version ≠ 0) ∧
    ((request opRead).version = 0 ∧ 0x100 ≤ (request opRead).destQpn ∧ ({ request opRead with destQpn := 0x4FF } : Packet).destQpn < 0x500 ∧
      answering.qpOpen (0x4FF - 0x100) = false) ∧
    (answering.qpOpen 0 = true ∧ answering.rd R.XPT.QP_DEST.PKEY 0 ≠ ({ request opRead with pkey := 1 } : Packet).pkey) ∧
    (answering.rd R.XPT.QP_STATE.PORT 0 = (request opRead).port.val ∧
      gidOf (request opRead).ipv6 (request opRead).srcIp = gidOf (answering.on R.XPT.QP_DEST.IPV6 0) (answering.qpDip 0) ∧
      answering.rd R.XPT.QP_DEST.PKEY 0 = (request opRead).pkey ∧ (request opRead).ce = false) := by decide +kernel

/-- The premises that every request of ResponderCommands shares. -/
def requestReady (op : Nat) (off : Nat := 0) : Bool :=
  let u := checked op off
  let v := u.setQp 0 { u.qp 0 with nakSent := false }
  (answering.inbound (request op off)).2 == some 0 && !u.doomed 0 && (request op off).psn % 2 ^ 24 == u.rd R.XPT.QP_PSN.RQ_PSN 0 &&
    !v.malformed 0 (request op off) && v.admits (v.firstBuffers 0 (request op off))

theorem witness_ResponderCommands :
    (requestReady opWriteOnly = true ∧ ((checked opWriteOnly).target 1 (request opWriteOnly)).1 = 0) ∧
    (requestReady opRead = true ∧ ((checked opRead).target 1 (request opRead)).1 = 0) ∧
    (requestReady opSwap = true ∧ (checked opSwap).target 1 (request opSwap) = (0, .bolt 3)) ∧
    (requestReady opAdd = true ∧ (checked opAdd).target 1 (request opAdd) = (0, .bolt 3)) ∧
    (requestReady opSend = true ∧ (checked opSend).rd R.XPT.QP_STATE.ROLE 0 = 1 ∧
      (checked opSend).target 1 (request opSend) = (0, .bell)) ∧
    (requestReady opWriteOnly 65529 = true ∧ ((checked opWriteOnly 65529).target 1 (request opWriteOnly 65529)).1 = stDenied) ∧
    (((checked opWriteOnly).qp 0).broken = false ∧
      ((answering.setQp 0 { broken := true }).inbound (request opWriteOnly)).2 = some 0 ∧
      (((answering.setQp 0 { broken := true }).inbound (request opWriteOnly)).1.qp 0).broken = true ∧
      ((answering.setQp 0 { broken := true }).inbound (request opWriteOnly)).1.doomed 0 = false) ∧
    (((request opWriteOnly).psn % 2 ^ 24 = answering.rd R.XPT.QP_PSN.RQ_PSN 0) ∧
      answering.malformed 0 { request opWriteOnly with dmaLen := 9 } = true) ∧
    ({ request opWriteOnly with psn := 1 } : Packet).psn % 2 ^ 24 ≠ answering.rd R.XPT.QP_PSN.RQ_PSN 0 := by decide +kernel

theorem witness_RequestsWaitInOrder :
    ((answering.setQp 0 { held := [{ kind := .read, psn := 0, waits := [4096] }] }).qp 0).held = [{ kind := .read, psn := 0, waits := [4096] }] ∧
    ({ kind := .read, psn := 0, waits := [4096] } : HeldReq).waits.any
      ({ answering.setQp 0 { held := [{ kind := .read, psn := 0, waits := [4096] }] } with lng := { fills := [4096] } } : State).lng.fills.contains = true := by
  decide +kernel

/-- A request of the module that is outstanding. -/
def outgoing : Req := ⟨true, 0, 0, 8, List.replicate 8 0, 0, 1, .release 0, 0⟩

theorem witness_RequesterCommands :
    ((answering.setQp 0 { unacked := [4, 5] }).qp 0).unacked.getLast? = some 5 ∧
    ((answering.inbound { request 0x10 with opcode := 0x10 }).2 = some 0 ∧
      (request opAck).opcode = opAck ∧ bits ({ request opAck with syndrome := 0x1F } : Packet).syndrome 5 2 = 0 ∧
      bits ({ request opAck with syndrome := 0x62 } : Packet).syndrome 5 2 = 3 ∧
      bits ({ request opAck with syndrome := 0x21 } : Packet).syndrome 5 2 = 1 ∧ answering.outstanding 0 5 = false) ∧
    ((answering.qp 0).lastCut = none ∧ (answering [(R.XPT.CC.CC_EN, 0, 1)]).on R.XPT.CC.CC_EN = true ∧ answering.qpRts 0 = true) ∧
    ((answering.setQp 0 { rnrWait := true }).qp 0).rnrWait = true ∧ (answering.qp 0).rnrWait = false ∧
    (answering.qpRts 0 = true ∧ ((answering.setQp 0 { sent := [outgoing] }).qp 0).sent ≠ [] ∧ answering.pausedFor 0 = false ∧
      ((answering [(R.XPT.QP_STATE.RETRY_CNT, 0, 7)]).setQp 0 { retries := 6 } |>.qp 0).retries <
        (answering [(R.XPT.QP_STATE.RETRY_CNT, 0, 7)]).rd R.XPT.QP_STATE.RETRY_CNT 0 ∧
      (answering [(R.XPT.QP_STATE.RETRY_CNT, 0, 7)]).rd R.XPT.QP_STATE.RETRY_CNT 0 ≤
        ((answering.setQp 0 { retries := 7 }).qp 0).retries) ∧
    (answering.periodOver 0 = true ∧ (answering.setQp 0 { period := some 0 }).periodOver 0 = false) := by decide +kernel

theorem witness_SetupResponse :
    (stDenied < 256 ∧ 0xFFFF8 < 2 ^ 20 ∧ stDenied ≠ 0) ∧
    (R.MOD.STATUS.MODE.addr ≠ 0x100 ∧ R.MOD.STATUS.MODE.addr ≠ 0x108 ∧ R.MOD.STATUS.MODE.addr < 2 ^ 20 ∧ R.MOD.STATUS.MODE.lo < 64) := by
  decide

theorem witness_PlainSetupCommands :
    (served.awake = true ∧ served.pathOk .smb = true) ∧
    (withRegs served [(R.BLT.CLIENT.VALID, 2, 1), (R.BLT.CLIENT.STEWARD, 2, 1)]).pathOk (.rdma 2) = true ∧
    served.pathOk (.rdma 2) = false := by decide +kernel

theorem witness_EpochNote :
    (State.reset.awake = true ∧ State.reset.settled ∧ State.reset.tick < 2 ^ 64) ∧
    (R.MOD.STATUS.MODE.addr ≠ 0x39008 ∧ R.MOD.STATUS.MODE.addr ≠ 0x39010 ∧ R.MOD.STATUS.MODE.addr ≠ 0x100) :=
  ⟨⟨rfl, rfl, by decide⟩, by decide⟩

/-- QP_STATE as it stands, but for a STATE of RTS. -/
def toRts : BitVec 64 :=
  word ((R.XPT.QP_STATE.STATE, 3) :: ((R.XPT.QP_STATE.MTU :: qpReqFields).map (fun f => (f, served.rd f))))

theorem witness_QpTableCommands :
    (part (word [(R.BLT.QP_BIND.QP, 1023), (R.BLT.QP_BIND.CLIENT, 1)]).toNat R.BLT.QP_BIND.UNBIND = 0 ∧
      answering.rd R.XPT.QP_STATE.STATE (part (word [(R.BLT.QP_BIND.QP, 1023)]).toNat R.BLT.QP_BIND.QP) ≤ 1 ∧
      answering.on R.BLT.CLIENT.VALID (part (word [(R.BLT.QP_BIND.CLIENT, 1)]).toNat R.BLT.QP_BIND.CLIENT) = true) ∧
    answering.on R.BLT.CLIENT.VALID (part (word [(R.BLT.QP_BIND.CLIENT, 63)]).toNat R.BLT.QP_BIND.CLIENT) = false ∧
    part (word [(R.BLT.QP_BIND.UNBIND, 1)]).toNat R.BLT.QP_BIND.UNBIND = 1 ∧
    1 < answering.rd R.XPT.QP_STATE.STATE (part (word []).toNat R.BLT.QP_BIND.QP) ∧
    (served.rd R.XPT.QP_SEL.INDEX = 0 ∧ served.rd R.XPT.QP_STATE.STATE 0 = 0 ∧
      part toRts.toNat R.XPT.QP_STATE.STATE = 3 ∧ served.chgAny toRts.toNat 0 qpReqFields = false ∧
      served.chg R.XPT.QP_STATE.MTU toRts.toNat 0 = false) := by
  decide +kernel

/-- A grant to client 1 in bolt 1, as GRANT.CMD n. -/
def grantWord (n : Nat) : BitVec 64 :=
  word [(R.BLT.GRANT.CMD, n), (R.BLT.GRANT.CLIENT, 1), (R.BLT.GRANT.BOLT, 1), (R.BLT.GRANT.RIGHTS, 15)]

theorem witness_BoltAndGrantCommands :
    (answering.awake = true ∧ answering.pathOk .smb = true ∧ answering.rd R.TCK.STATUS.PAIR = 0) ∧
    (answering.rd R.BLT.BOLT_BASE.BASE_SW 1 ≤ 16 ∧
      16 < answering.rd R.BLT.BOLT_BASE.BASE_SW 1 + answering.rd R.BLT.BOLT_BASE.LEN_SW 1) ∧
    answering.on R.BLT.BOLT_ATTR.STATE 1 = true ∧ answering.rd R.BLT.BOLT_ATTR.STATE 2 < 2 ∧
    4 < (answering [(R.BLT.BOLT_ATTR.STATE, 2, 5)]).rd R.BLT.BOLT_ATTR.STATE 2 ∧
    (answering [(R.BLT.BOLT_ATTR.STATE, 2, 1)]).rd R.BLT.BOLT_ATTR.STATE 2 = 1 ∧
    (answering [(R.BLT.BOLT_ATTR.STATE, 2, 5)]).rd R.BLT.BOLT_ATTR.STATE 2 = 5 ∧ answering.rd R.BLT.BOLT_ATTR.STATE 2 ≠ 5 ∧
    (part (grantWord 1).toNat R.BLT.GRANT.CMD = 1 ∧
      (answering [(R.BLT.GRANT_RANGE.LEN_SW, 0, 1)]).on R.BLT.GRANT.ISSUED (answering [(R.BLT.GRANT_RANGE.LEN_SW, 0, 1)]).selGrant = false ∧
      ((answering [(R.BLT.GRANT_RANGE.LEN_SW, 0, 1)]).takes (grantWord 1).toNat (answering [(R.BLT.GRANT_RANGE.LEN_SW, 0, 1)]).selGrant
        [R.BLT.GRANT.CLIENT, R.BLT.GRANT.BOLT, R.BLT.GRANT.RIGHTS]).mayGrant (answering [(R.BLT.GRANT_RANGE.LEN_SW, 0, 1)]).selGrant = true) ∧
    (part (grantWord 2).toNat R.BLT.GRANT.CMD = 2 ∧ answering.on R.BLT.GRANT.ISSUED answering.selGrant = false) ∧
    ((answering [(R.BLT.GRANT_SEL.INDEX, 0, 3)]).on R.BLT.GRANT.ISSUED (answering [(R.BLT.GRANT_SEL.INDEX, 0, 3)]).selGrant = true ∧
      (answering [(R.BLT.GRANT_SEL.INDEX, 0, 3)]).chgAny (grantWord 2).toNat (answering [(R.BLT.GRANT_SEL.INDEX, 0, 3)]).selGrant
        [R.BLT.GRANT.CLIENT, R.BLT.GRANT.BOLT, R.BLT.GRANT.RIGHTS] = false) := by decide +kernel

theorem witness_AccessCommands :
    ((⟨4, [0xF8, 0xFF, 0x0F, 1], .good⟩ : SmbBlock).count = 4 ∧ (⟨4, [0xF8, 0xFF, 0x0F, 1], .good⟩ : SmbBlock).data.length = 4 ∧
      leNat ([0xF8, 0xFF, 0x0F, 1].take 3 : List Byte) % 8 = 0 ∧ leNat ([0xF8, 0xFF, 0x0F, 1].take 3 : List Byte) < 2 ^ 20) ∧
    (⟨5, [], .good⟩ : SmbBlock).count ≠ 4 ∧
    ((⟨8, List.replicate 8 0, .good⟩ : SmbBlock).count = 8 ∧ (⟨8, List.replicate 8 0, .good⟩ : SmbBlock).data.length = 8 ∧
      (⟨8, List.replicate 8 0, .wrong⟩ : SmbBlock).pec = .wrong) ∧
    (atReset [(R.FLT.SRC.ALERT, 5, 1), (R.FLT.STICKY0.STICKY, 0, 32)]).alertN = false ∧ State.reset.alertN = true ∧
    (regAt 0xFFFF8 = none ∧ State.reset.pathOk .smb = true) := by decide +kernel

theorem witness_AlertOutput :
    ((atReset [(R.FLT.SRC.ALERT, 127, 1), (R.FLT.STICKY1.STICKY, 0, 2 ^ 63)]).awake = true ∧
      (atReset [(R.FLT.SRC.ALERT, 127, 1), (R.FLT.STICKY1.STICKY, 0, 2 ^ 63)]).settled ∧
      (atReset [(R.FLT.SRC.ALERT, 127, 1), (R.FLT.STICKY1.STICKY, 0, 2 ^ 63)]).alertN = false) ∧
    (State.reset.settled ∧ State.reset.alertN = true) ∧ ∀ i, i < 128 → State.reset.sticky i = false :=
  ⟨⟨rfl, rfl, by decide +kernel⟩, ⟨rfl, by decide +kernel⟩, by decide +kernel⟩

/-- A value of ETHn.PFC. -/
def pfcWord (xon xoff limit : Nat) : Nat := (word [(R.ETH.PFC.XON, xon), (R.ETH.PFC.XOFF, xoff), (R.ETH.PFC.RX_LIMIT, limit)]).toNat

theorem witness_PfcRule :
    pfcRule State.reset ∧ part (pfcWord 9 9 9) R.ETH.PFC.XOFF ≤ part (pfcWord 9 9 9) R.ETH.PFC.XON ∧
    part (pfcWord 8 9 8) R.ETH.PFC.RX_LIMIT < part (pfcWord 8 9 8) R.ETH.PFC.XOFF ∧
    4096 < part (pfcWord 0 1 4095) R.ETH.PFC.RX_LIMIT + State.reset.rd R.ETH.PFC.RX_LIMIT 1 ∧
    (part (pfcWord 8 9 9) R.ETH.PFC.XON < part (pfcWord 8 9 9) R.ETH.PFC.XOFF ∧
      part (pfcWord 8 9 9) R.ETH.PFC.XOFF ≤ part (pfcWord 8 9 9) R.ETH.PFC.RX_LIMIT ∧
      part (pfcWord 8 9 9) R.ETH.PFC.RX_LIMIT + State.reset.rd R.ETH.PFC.RX_LIMIT 1 ≤ 4096) ∧
    (0x4040 : BitVec 20).toNat = 0x3040 + 0x1000 * (1 : Fin 2).val := by
  refine ⟨⟨?_, ?_⟩, ?_⟩ <;> decide +kernel

/-- Ring 4 of client 1 in a state, on QP 0. -/
def ringed (st : Nat) (l : List (Fld × Nat × Nat) := []) : State :=
  answering ([(R.SHU.RING_CTRL.STATE, 4, st), (R.SHU.RING_SEL.INDEX, 0, 4), (R.SHU.RING_CTRL.RING_LOG2, 4, 6),
    (R.SHU.RING_CTRL.CQ_LOG2, 4, 6)] ++ l)

/-- RING_CTRL as it stands with a command. -/
def ringWord (n log2 : Nat) : BitVec 64 :=
  word [(R.SHU.RING_CTRL.CMD, n), (R.SHU.RING_CTRL.QP, 0), (R.SHU.RING_CTRL.RING_LOG2, log2), (R.SHU.RING_CTRL.CQ_LOG2, log2)]

theorem witness_RingCommands :
    State.reset.serving = false ∧
    ((ringed 1).serving = true ∧ (ringed 1).ending = false ∧ (ringed 0).badDoorbell 1 (doorbellRing 1 .send 0) 0 = true ∧
      (ringed 1).badDoorbell 1 (doorbellRing 1 .send 0) 0 = false) ∧
    (4 = (ringed 0).rd R.SHU.RING_SEL.INDEX ∧ (ringed 0).pathOk .smb = true ∧ (ringed 0).ringState 4 = ringDisabled ∧
      (ringed 0).limited = false ∧ part (ringWord 1 16).toNat R.SHU.RING_CTRL.CMD = 1 ∧
      6 ≤ part (ringWord 1 16).toNat R.SHU.RING_CTRL.RING_LOG2 ∧ part (ringWord 1 16).toNat R.SHU.RING_CTRL.RING_LOG2 ≤ 16 ∧
      6 ≤ part (ringWord 1 6).toNat R.SHU.RING_CTRL.CQ_LOG2 ∧ part (ringWord 1 6).toNat R.SHU.RING_CTRL.CQ_LOG2 ≤ 16 ∧
      (ringed 0).rd R.SHU.RING_BASE.VA 4 % 64 = 0 ∧ (ringed 0).rd R.SHU.RING_CQ.VA 4 % 32 = 0 ∧
      (ringed 0).cmdQpOf (part (ringWord 1 6).toNat R.SHU.RING_CTRL.QP) (4 / 4) = true) ∧
    (part (ringWord 2 6).toNat R.SHU.RING_CTRL.CMD = 2 ∧ part (ringWord 3 6).toNat R.SHU.RING_CTRL.CMD = 3) ∧
    ((ringed 1).ringState 4 = ringActive ∧ part (ringWord 3 6).toNat R.SHU.RING_CTRL.QP = (ringed 1).rd R.SHU.RING_CTRL.QP 4 ∧
      part (ringWord 3 6).toNat R.SHU.RING_CTRL.RING_LOG2 = (ringed 1).rd R.SHU.RING_CTRL.RING_LOG2 4 ∧
      part (ringWord 3 6).toNat R.SHU.RING_CTRL.CQ_LOG2 = (ringed 1).rd R.SHU.RING_CTRL.CQ_LOG2 4) ∧
    ((ringed 4).drained 4 = true ∧ (ringed 1).drained 4 = false) ∧
    (1 = (ringed 1 [(R.SHU.EQ_SEL.CLIENT, 0, 1)]).rd R.SHU.EQ_SEL.CLIENT ∧ (ringed 1).on R.SHU.EQ_CTRL.EN 1 = false ∧
      part (word [(R.SHU.EQ_CTRL.EN, 1), (R.SHU.EQ_CTRL.LOG2, 12)]).toNat R.SHU.EQ_CTRL.EN = 1 ∧
      6 ≤ part (word [(R.SHU.EQ_CTRL.EN, 1), (R.SHU.EQ_CTRL.LOG2, 12)]).toNat R.SHU.EQ_CTRL.LOG2 ∧
      part (word [(R.SHU.EQ_CTRL.EN, 1), (R.SHU.EQ_CTRL.LOG2, 12)]).toNat R.SHU.EQ_CTRL.LOG2 ≤ 12 ∧
      (ringed 1).rd R.SHU.EQ_BASE.VA 1 % 32 = 0 ∧
      (ringed 1).cmdQpOf (part (word [(R.SHU.EQ_CTRL.EN, 1), (R.SHU.EQ_CTRL.LOG2, 12)]).toNat R.SHU.EQ_CTRL.QP) 1 = true ∧
      (ringed 1 [(R.SHU.EQ_BASE.VA, 1, 16)]).rd R.SHU.EQ_BASE.VA 1 % 32 ≠ 0) := by decide +kernel

/-- A descriptor of an opcode in a stage. -/
def descr (op : Nat) (stage : DescStage) (active : Bool := false) : Desc :=
  { serial := 0, index := 0, image := BitVec.ofNat 8 op :: List.replicate 63 0, stage := stage, active := active, startNo := 1 }

/-- Ring 4 with one descriptor. -/
def ringHolds (d : Desc) : State := (ringed 1).setRing 4 { descs := [d], serial := 1 }

theorem witness_DescriptorCommands :
    (ringed 1).awake = true ∧ (ringed 1).fetchSize 4 = 0 ∧ (ringed 1 [(R.SHU.RING_STATUS.TAIL, 4, 8)]).fetchSize 4 ≠ 0 ∧
    (ringed 0).ringState 4 ≠ ringActive ∧ ((ringed 1).ring 4).returned = [] ∧
    (((ringed 1).setRing 4 { returned := [(0, List.replicate 64 0)] }).ring 4).returned = [(0, List.replicate 64 0)] ∧
    (((ringHolds (descr 0x23 .consumed)).ring 4).descs.find? (fun d => d.stage == .consumed) = some (descr 0x23 .consumed) ∧
      (ringHolds (descr 0x23 .consumed)).mayStart 4 (descr 0x23 .consumed) = true ∧
      (ringHolds (descr 0x23 .consumed)).checkDesc (4 / 4) (descr 0x23 .consumed) = (0, [])) ∧
    ((ringHolds (descr 0x7F .consumed)).mayStart 4 (descr 0x7F .consumed) = true ∧
      (ringHolds (descr 0x7F .consumed)).checkDesc (4 / 4) (descr 0x7F .consumed) = (stUnsupported, []) ∧
      stUnsupported ≠ 0 ∧ (stUnsupported < 0x10 ∨ 0x13 < stUnsupported)) ∧
    ((ringHolds (descr 0x23 .consumed)).setRing 4 { fence := some (0, 0) }).mayStart 4 (descr 0x23 .consumed) = false ∧
    (ringHolds (descr 0x23 .done)).readyDesc 4 = some (descr 0x23 .done) ∧ (ringed 1).readyDesc 4 = none ∧
    (∃ e ∈ ((ringHolds (descr 0x23 .done)).ring 4).descs, e.serial = 0) := by decide +kernel

/-- A started descriptor on the first bytes of bolt 1: opcode, SUBOP, ELEM, LENGTH. -/
def working (op subop elem len : Nat) : Desc :=
  let va := leBytes 8 (7 * 2 ^ 52 + 16 * 65536)
  { serial := 0, index := 0, stage := .started, active := true, startNo := 1,
    image := leBytes 8 (op + subop * 2 ^ 8 + elem * 2 ^ 16) ++ va ++ List.replicate 16 0 ++ leBytes 8 len ++ List.replicate 24 0 }

theorem witness_MoveCommands :
    (∀ op ∈ [0x01, 0x02, 0x03, 0x04, 0x20, 0x21, 0x22, 0x23],
      ((ringHolds (descr op .started)).ring 4).descs.find? (fun d => d.stage == .started && d.op == op) = some (descr op .started)) ∧
    ((ringHolds (descr 0x22 .started)).ring 4).descs.find? (fun d => d.stage == .started && d.op == 0x23) = none ∧
    (ringHolds (descr 0x22 .started)).allBefore 4 1 = false ∧
    ((ringHolds (descr 0x22 .started)).allBefore 4 0 = true ∧ ((ringHolds (descr 0x22 .started)).ring 4).fenceOthers = []) ∧
    ((ringHolds (working 0x01 0 0 8)).descWaits 4 (working 0x01 0 0 8) = false ∧
      ({ ringHolds (working 0x01 0 0 8) with lng := { fills := [4096] } } : State).descWaits 4 (working 0x01 0 0 8) = true) := by
  decide +kernel

theorem witness_NeedleCommands :
    (∀ op ∈ [0x10, 0x11, 0x12, 0x13, 0x14, 0x15, 0x16],
      ((ringHolds (descr op .started true)).needleSlots.ring 4).descs.find?
        (fun d => d.stage == .started && d.op == op && d.active) = some (descr op .started true) ∧
      (ringHolds (descr op .started true)).needleHeld (descr op .started true) = false) ∧
    ((ringHolds (working 0x10 0 0x04 1)).needleSlots.descWaits 4 (working 0x10 0 0x04 1) = false ∧
      ({ ringHolds (working 0x10 0 0x04 1) with lng := { fills := [4096] } } : State).needleSlots.descWaits 4 (working 0x10 0 0x04 1) = true) ∧
    ((working 0x10 0 0x04 1).dest = 0 ∧ (working 0x10 0 0x04 1).imm0 = 0 ∧ 0 < (working 0x10 0 0x04 1).length ∧
      (working 0x11 0 0x04 1).opt / 16 = 0) := by decide +kernel

/-- Two lines of a source read whole from the zero state, as REDUCE and SELECT read them. -/
theorem witness_NeedleReads :
    ((ringHolds (working 0x10 0 0x04 1)).needleRead 4 (working 0x10 0 0x04 1).srcA
        ((working 0x10 0 0x04 1).length * (working 0x10 0 0x04 1).size)).2.1 = 0 ∧
    ((ringHolds (working 0x10 0 0x04 1)).needleRead 4 (working 0x10 0 0x04 1).srcA
        ((working 0x10 0 0x04 1).length * (working 0x10 0 0x04 1).size)).2.2.1.length =
      (working 0x10 0 0x04 1).length * (working 0x10 0 0x04 1).size := by decide +kernel

/-- A slot of a master and class at pseudo-channel 0. -/
def slotOf (master cls : Nat) (use : SlotUse := .work none) (issued : Bool := false) : Slot :=
  { pc := 0, ply := 0, bank := 0, row := 0, isRead := true, master := master, use := use, cls := cls, issued := issued }

/-- A fill of line 4096 whose slot channel 3 has issued. -/
def filling : State := { answering.setChan 3 { admitted := [slotOf 1 1 (.fill 4096) true] } with lng := { fills := [4096] } }

/-- A fill of line 4096 without a slot. -/
def slotless : State := { answering with lng := { fills := [4096] } }

/-- Two requests that wait for pool buffers: a client's and the dumper's, whose guarantee is not served yet. -/
def starved : State :=
  { answering with lng := { bufWait := [(3, slotOf 1 2), (4, slotOf 66 0)] } }

/-- A write-back of line 4096, sector 2, with failures. -/
def writingBack (fails : Nat) (flying : Bool := false) : State :=
  { answering with lng := { wbs := [⟨4096, 2, fails, 69, flying⟩] } }

/-- One dirty line with the dirty threshold at zero. -/
def dirtied : State :=
  { atReset [(R.MOD.STATUS.MODE, 0, modeServe), (R.LNG.CFG.DIRTY_HIGH, 0, 0)] with
    lng := { lines := ({} : SMap Line).put 0 ⟨4096, 1, false, [⟨true, true, List.replicate 64 0⟩]⟩ } }

theorem witness_LiningCommands :
    answering.lng.fills.contains 4096 = false ∧
    (slotless.lng.fills.contains 4096 = true ∧ slotless.wbOpen 4096 = false ∧
      (slotless.runTo (.fill 4096)).issuedSlot (.fill 4096) = none) ∧
    ((filling.runTo (.fill 4096)).issuedSlot (.fill 4096) = some (3, slotOf 1 1 (.fill 4096) true) ∧
      filling.lng.fills.contains 4096 = true ∧ filling.wbOpen 4096 = false) ∧
    (writingBack 3).wbOpen 4096 = true ∧ held.mode = modeHold ∧ answering.mode ≠ modeHold ∧
    ((writingBack 4).wbOf 4096 2 = some ⟨4096, 2, 4, 69, false⟩) ∧ answering.wbOf 4096 2 = none ∧
    ((writingBack 1).wbOf 4096 2 = some ⟨4096, 2, 1, 69, false⟩ ∧ (writingBack 0 true).wbOf 4096 2 = some ⟨4096, 2, 0, 69, true⟩ ∧
      (writingBack 3 true).wbOf 4096 2 = some ⟨4096, 2, 3, 69, true⟩ ∧ (writingBack 3 true).lng.entering = [] ∧
      (writingBack 3 true).mem.moves = []) ∧
    served.dirtyLines ≤ served.rd R.LNG.CFG.DIRTY_HIGH * 1024 ∧
    (dirtied.rd R.LNG.CFG.DIRTY_HIGH * 1024 < dirtied.dirtyLines ∧ dirtied.on R.LNG.STATUS.CLEANING = false ∧ dirtied.mode ≠ modeHold) ∧
    (part (word [(R.LNG.CMD.CLEAN_ALL, 1)]).toNat R.LNG.CMD.CLEAN_ALL = 1 ∧
      (atReset [(R.LNG.STATUS.CLEANING, 0, 1)]).on R.LNG.STATUS.CLEANING = true) ∧
    (served.lng.bufWait = [] ∧ starved.nextWaiting = some 0 ∧ starved.lng.bufWait[0]? = some (3, slotOf 1 2)) := by
  decide +kernel

/-- Channel 3 of a module whose clocks run, with shares given and a hidden state. -/
def channelled (x : Chan) (l : List (Fld × Nat × Nat) := []) : State :=
  (withRegs served ([(R.CLK.STATUS.PLL_LOCK, 0, 255), (R.HEM.COL.SHARE_T0, 3, 16), (R.HEM.COL.SHARE_T0, 0, 16)] ++ l)).setChan 3 x

/-- Refresh debts and credits of ply 5 of channel 3, and its slots. -/
def refreshing (postponed pulled : Nat) (ws : List Slot := []) : State :=
  channelled { postponed := ({} : SMap Nat).put 5 postponed, pulled := ({} : SMap Nat).put 5 pulled, waiting := ws }

/-- A slot of ply 5. -/
def busySlot : Slot := { slotOf 1 1 with pc := 1, ply := 1 }

/-- A torn pseudo-channel, channel 3's second, with a failed CA lane or not. -/
def tornOne (lane : Option Nat) : State :=
  { channelled {} with mem := { torn := [7] },
                       per := { pat := match lane with | some n => ({} : SMap Nat).put 11 (2 ^ n) | none => {} } }

theorem witness_ChannelCommands :
    served.mayAdmit 3 = false ∧ (channelled {}).nextSlot 3 = none ∧
    ((channelled { credit := 1, waiting := [slotOf 1 2, slotOf 2 0] }).mayAdmit 3 = true ∧
      (channelled { credit := 1, waiting := [slotOf 1 2, slotOf 2 0] }).nextSlot 3 = some (slotOf 2 0)) ∧
    (5 = (1 : Fin 2).val * 4 + (1 : Fin 4).val ∧ (channelled {}).asleep = false ∧ (channelled {}).clocks.stopped = false ∧
      (channelled {}).on R.CHN.STATUS.IN_WINDOW 3 = false ∧ (channelled {}).booting = false ∧
      (channelled {}).tornPc (2 * 3 + 1) = false ∧ (channelled {}).inReset 3 = false ∧ served.inReset 3 = true) ∧
    (held.asleep = true ∧ ({ served with clocks := { stopped := true } } : State).clocks.stopped = true ∧
      (State.reset.booting = true ∧ State.reset.rd R.MOD.STATUS.BOOT_STEP < 5)) ∧
    ((tornOne (some 36)).tornPc (2 * 3 + 1) = true ∧ (tornOne (some 36)).caWhole 3 1 = false ∧
      (tornOne none).tornPc (2 * 3 + 1) = true ∧ (tornOne none).caWhole 3 1 = true) ∧
    (atReset [(R.CHN.STATUS.IN_WINDOW, 3, 1)]).on R.CHN.STATUS.IN_WINDOW 3 = true ∧
    (((refreshing 7 0).chan 3).postponed.get 0 5 < 8 ∧ 8 ≤ ((refreshing 8 0).chan 3).postponed.get 0 5) ∧
    (((refreshing 0 1 [busySlot]).chan 3).busyPly 1 1 = true ∧ ((refreshing 0 1 [busySlot]).chan 3).pulled.get 0 5 ≠ 0) ∧
    (((refreshing 7 0 [busySlot]).chan 3).busyPly 1 1 = true ∧ ((refreshing 7 0 [busySlot]).chan 3).pulled.get 0 5 = 0) ∧
    (((refreshing 7 7).chan 3).busyPly 1 1 = false ∧ ((refreshing 7 7).chan 3).pulled.get 0 5 < 8) ∧
    8 ≤ ((refreshing 7 8).chan 3).pulled.get 0 5 := by decide +kernel

/-- A command parity report. -/
def parity (failures : Nat) : CaReport := ⟨1, true, 4096, 0, failures⟩

/-- A module with a swatch of bolt 1 on the stack. -/
def stacked : State :=
  let s := (answering [(R.ECC.CFG.SCRUB_EN, 0, 1), (R.CLK.STATUS.PLL_LOCK, 0, 255), (R.HEM.COL.SHARE_T0, 0, 16)]).setChan 0
    { credit := 1 }
  { s with scrub := { grant := 1 },
           mem := { map := ({} : SMap Nat).put 16 (mapEntry 0 0 0),
                    groups := [{ cls := 0, set := 0, row := 0, members := [.swatch 16] }] } }

/-- A module that scrubs with every pseudo-channel torn. -/
def tornAll : State := { withRegs served [(R.ECC.CFG.SCRUB_EN, 0, 1)] with mem := { torn := List.range 64 } }

theorem witness_ErrorCommands :
    (({ served with mem := { torn := [7] } } : State).tornPc (2 * 3 + 1) = true ∧ held.mode = modeHold) ∧
    (stacked.tornPc (2 * 3 + 1) = false ∧ stacked.mode ≠ modeHold ∧ (parity 2).failures < 3 ∧ 3 ≤ (parity 3).failures ∧
      ((stacked.countChan 3 9).calUrgent 3 1 [36, 37, 38, 39, 40]).onStack (parity 3).line.toNat = true ∧
      ((served.countChan 3 9).calUrgent 3 1 [36, 37, 38, 39, 40]).onStack (parity 3).line.toNat = false) ∧
    (min (atReset [(R.ECC.BUCKET.LEVEL, 3, 1)] |>.rd R.ECC.BUCKET.LEVEL 3 |>.pred) (State.reset.rd R.ECC.CFG.DEPTH) ≤ State.reset.rd R.ECC.CFG.REARM ∧
      State.reset.rd R.ECC.CFG.REARM < min ((atReset [(R.ECC.BUCKET.LEVEL, 3, 255)]).rd R.ECC.BUCKET.LEVEL 3 - 1) (State.reset.rd R.ECC.CFG.DEPTH)) ∧
    State.reset.scrubbing = false ∧ (stacked.scrubbing = true ∧ stacked.idleFor 0 65 = true ∧ stacked.scrub.taken.get 0 0 < stacked.scrub.grant ∧
      served.scrub.grant ≤ served.scrub.taken.get 0 0 ∧ (stacked.scrubNext 0).isSome = true) ∧
    (tornAll.scrubNext 31 = none ∧ served.idleFor 0 65 = false) ∧
    State.reset.scrub.lapStart = none ∧
    (({ State.reset with scrub := { lapStart := some 5 } } : State).scrub.lapStart = some 5 ∧
      ({ State.reset with scrub := { lapStart := some 5 } } : State).scrub.warned = false) := by decide +kernel

/-- A move of swatch 16. -/
def moving (flipped : Bool) : Move :=
  { swatch := 16, oldCls := 0, oldFrame := 0, newCls := 1, newFrame := 64, flipped := flipped }

/-- A module with that move. -/
def placing (flipped : Bool) (l : List (Fld × Nat × Nat) := []) : State :=
  let s := answering l
  { s with mem := { moves := [moving flipped] } }

theorem witness_PlacementCommands :
    State.reset.running = false ∧ (answering.running = true ∧ answering.leaving = false) ∧
    ({ answering with boot := { target := 3 } } : State).leaving = true ∧ (answering [(R.PLC.CFG.MAX_MOVES, 0, 0)]).moveBudget = 0 ∧
    answering.moveOf 16 = none ∧ (placing false).moveOf 16 = some (moving false) ∧
    (placing false).mem.moves.find? (fun m => m.swatch == 16 && m.flipped) = none ∧
    ((placing true).mem.moves.find? (fun m => m.swatch == 16 && m.flipped) = some (moving true) ∧
      filling.lng.fills.any (fun l => l / 256 == 16) = true ∧ (placing true).lng.fills.any (fun l => l / 256 == 16) = false) ∧
    answering.rd R.PLC.RESTITCH_STATUS.STATE ≠ 1 ∧
    ((answering [(R.PLC.RESTITCH_STATUS.STATE, 0, 1)]).rd R.PLC.RESTITCH_STATUS.STATE = 1 ∧
      (answering [(R.PLC.RESTITCH_STATUS.STATE, 0, 1)]).restitchTorn = [] ∧ answering.mem.partner = none ∧
      answering.mem.zeroMode = false) ∧
    (({ answering [(R.PLC.RESTITCH_STATUS.STATE, 0, 1)] with mem := { zeroMode := true } } : State).mem.zeroMode = true ∧
      ({ answering [(R.PLC.RESTITCH_STATUS.STATE, 0, 1)] with
          mem := { partner := some { swatch := 16, bolt := 1, cls := 0, frame := 0 } } } : State).mem.partner.isSome = true) ∧
    (part (word [(R.PLC.RESTITCH.GO, 1)]).toNat R.PLC.RESTITCH.GO = 1 ∧ part (word [(R.PLC.RESTITCH.GO, 1)]).toNat R.PLC.RESTITCH.COUNT = 0) ∧
    (answering.mem.s32Due = false ∧ ({ answering with mem := { s32Due := true } } : State).mem.s32Due = true) ∧
    (List.range 8).find? (fun e => !answering.on R.PLC.S32_GEN.VALID e) = some 0 := by decide +kernel

/-- A value of QOS.MASTER. -/
def masterWord (budget guar : Nat) : Nat := (word [(R.QOS.MASTER.BUDGET, budget), (R.QOS.MASTER.GUAR, guar)]).toNat

theorem witness_RegulationCommands :
    (served.chan 3).waiting.findIdx? (fun k => k.master == 7 && k.cls == 2) = none ∧ (65 : Fin 80).val = 65 ∧
    ((channelled { waiting := [slotOf 7 2] }).chan 3).waiting.findIdx? (fun k => k.master == 7 && k.cls == 2) = some 0 ∧
    ((atReset [(R.QOS.MASTER_SEL.INDEX, 0, 70), (R.QOS.MASTER.GUAR, 1, 800)]).rd R.QOS.MASTER_SEL.INDEX = 70 ∧
      part (masterWord 1 850) R.QOS.MASTER.BUDGET ≠ 0 ∧ part (masterWord 1 850) R.QOS.MASTER.GUAR ≤ 850 ∧
      (atReset [(R.QOS.MASTER.GUAR, 1, 800)]).rd R.QOS.MASTER.GUAR 70 < part (masterWord 1 850) R.QOS.MASTER.GUAR ∧
      850 < (atReset [(R.QOS.MASTER.GUAR, 1, 800)]).guarSum - (atReset [(R.QOS.MASTER.GUAR, 1, 800)]).rd R.QOS.MASTER.GUAR 70 +
        part (masterWord 1 850) R.QOS.MASTER.GUAR ∧
      (atReset [(R.QOS.MASTER.GUAR, 1, 800)]).guarSum - (atReset [(R.QOS.MASTER.GUAR, 1, 800)]).rd R.QOS.MASTER.GUAR 70 +
        part (masterWord 1 1) R.QOS.MASTER.GUAR ≤ 850) ∧
    held.mode = modeHold ∧ served.mode ≠ modeHold ∧ served.on R.HEM.STATUS.BURST = false ∧
    (served.share 3 ≠ 0 ∨ served.share 3 = 0) := by decide +kernel

theorem witness_DumpCommands :
    ((withRegs served [(R.PMC.CTRL.DUMP_EN, 0, 0)]).on R.PMC.CTRL.DUMP_EN = false ∧ served.dump.busy = false ∧ served.running = true) ∧
    ((atReset [(R.PMC.CTRL.DUMP_EN, 0, 1)]).on R.PMC.CTRL.DUMP_EN = true ∧ State.reset.running = false) ∧
    (({ served with dump := { busy := true } } : State).dump.busy = true ∧
      ({ served with dump := { busy := true } } : State).dumpWaits true = false ∧
      ({ served with lng := { fills := [0xFFFF0000] } } : State).dumpWaits true = true) ∧ served.mode ≠ modeHold ∧ held.mode = modeHold := by
  decide +kernel

/-- Both keys of a slot, and their blob under the key-encryption key of RFC 3394's examples. -/
def slotKeys : List Byte := List.replicate 32 7 ++ List.replicate 32 9

/-- A deployed module whose key registers hold a blob. -/
def keyed (blob : List Byte) (l : List (Fld × Nat × Nat) := []) : State :=
  let s := answering ([(R.PRT.LIFE.LIFECYCLE, 0, 2), (R.PRT.LIFE.KEK_OK, 0, 1), (R.PRT.KEY_SEL.SLOT, 0, 7)] ++
    (List.range 9).map (fun n => (R.PRT.KEY_WRAP.DATA, n, leNat (sliceBytes blob (8 * n) 8))) ++ l)
  { s with per := { kek := some rfcKek } }

/-- PRT.KEY_CTRL with a command. -/
def keyWord (n : Nat) : Nat := (word [(R.PRT.KEY_CTRL.CMD, n)]).toNat

theorem witness_KeySlotCommands :
    ((keyed []).awake = true ∧ (keyed []).pathOk .smb = true ∧ (keyed []).rd R.TCK.STATUS.ROLE = 0 ∧
      7 = (keyed []).rd R.PRT.KEY_SEL.SLOT ∧ part (keyWord 1) R.PRT.KEY_CTRL.CMD = 1 ∧ part (keyWord 2) R.PRT.KEY_CTRL.CMD = 2) ∧
    (State.reset.noLoad = true ∧ (keyed []).noLoad = false) ∧ (keyless 0 = true ∧ keyless 7 = false) ∧
    (keyed [] [(R.PRT.KEY_CTRL.STATE, 7, 1)]).on R.PRT.KEY_CTRL.STATE 7 = true ∧ (keyed []).on R.PRT.KEY_CTRL.STATE 7 = false ∧
    keyUnwrap ((keyed []).per.kek.getD []) (keyed []).keyBlob = none ∧
    keyUnwrap ((keyed (keyWrap rfcKek slotKeys)).per.kek.getD []) (keyed (keyWrap rfcKek slotKeys)).keyBlob = some slotKeys ∧
    (keyed []).keyBolts 7 ≠ [] ∧ ((keyed []).keyBolts 8 = [] ∧ (keyed []).rd R.PRT.KEY_CTRL.STATE 8 ≠ 2) := by decide +kernel

/-- PRT.REKEY of slot 7 with staging slot 8. -/
def rekeyWord : Nat := (word [(R.PRT.REKEY.GO, 1), (R.PRT.REKEY.TARGET, 7), (R.PRT.REKEY.STAGING, 8)]).toNat

/-- A module with a Native bolt under slot 7, and slot 8 loaded. -/
def staged (l : List (Fld × Nat × Nat) := []) : State := keyed [] ([(R.BLT.BOLT_ATTR.MODE, 1, 2), (R.PRT.KEY_CTRL.STATE, 8, 1)] ++ l)

/-- A rekey of slot 7 whose bolt waits for its conversion, with a scope of master 69. -/
def converting (scope : Nat) : State :=
  staged [(R.PRT.REKEY.STATE, 0, 1), (R.PRT.REKEY.TARGET, 0, 7), (R.BLT.BOLT_ATTR.STATE, 1, 4), (R.PRT.MRIGHTS.READ, 69, 1),
    (R.PRT.MRIGHTS.WRITE, 69, 1), (R.PRT.MRIGHTS.SCOPE, 69, scope)]

theorem witness_RekeyCommands :
    (staged.pathOk .smb = true ∧ staged.rd R.TCK.STATUS.ROLE = 0 ∧ part rekeyWord R.PRT.REKEY.GO = 1 ∧
      7 = part rekeyWord R.PRT.REKEY.TARGET ∧ 8 = part rekeyWord R.PRT.REKEY.STAGING) ∧
    ((staged [(R.PRT.REKEY.STATE, 0, 1)]).rekeyOn = true ∧
      (staged [(R.PRT.REKEY.STATE, 0, 1)]).chgAny rekeyWord 0 [R.PRT.REKEY.TARGET, R.PRT.REKEY.STAGING] = true) ∧
    (staged.rekeyOn = false ∧ staged.rd R.PRT.KEY_CTRL.STATE 7 ≠ 1) ∧
    (keyless 7 = false ∧ keyless 8 = false ∧ (7 : Nat) ≠ 8 ∧ staged.rd R.PRT.KEY_CTRL.STATE 8 = 1 ∧ staged.keyBolts 8 = [] ∧
      (staged.keyBolts 7).any (fun b => staged.boltMode b != 0) = true ∧
      (staged.keyBolts 7).any (fun b => staged.rd R.BLT.BOLT_ATTR.STATE b == 1 || staged.rd R.BLT.BOLT_ATTR.STATE b == 5) = false) ∧
    ((staged [(R.PRT.REKEY.STATE, 0, 1)]).running = true ∧ (staged [(R.PRT.REKEY.STATE, 0, 1)]).guard.rekeyPaused = false) ∧
    ((converting 2).rekeyOn = true ∧ ((converting 2).keyBolts ((converting 2).rd R.PRT.REKEY.TARGET)).filter
        (fun b => (converting 2).rd R.BLT.BOLT_ATTR.STATE b == 4) = [1] ∧
      (converting 2).masterOwns 69 1 = true ∧ (converting 0).masterOwns 69 1 = false) := by
  decide +kernel

/-- A debug access to bolt 1. -/
def debugging (write : Bool) (key : Nat := 7) : DebugAccess :=
  ⟨write, BitVec.ofNat 64 (key * 2 ^ 52 + 16 * 65536), 8, List.replicate 8 5⟩

/-- A module that lets a debug access into every bolt. -/
def debugged (l : List (Fld × Nat × Nat) := []) : State :=
  let s := answering ([(R.PRT.MRIGHTS.READ, 68, 1), (R.PRT.MRIGHTS.WRITE, 68, 1), (R.PRT.MRIGHTS.SCOPE, 68, 2)] ++ l)
  { s with pins := { trstN := ⟨true, true, [], false⟩ } }

theorem witness_ScanAndDebugCommands :
    (served.mode ≠ modeMaint ∧ maintained.pins.trstN.seen = false) ∧
    (({ maintained with pins := { trstN := ⟨true, true, [], false⟩ } } : State).mode = modeMaint ∧
      ({ maintained with pins := { trstN := ⟨true, true, [], false⟩ } } : State).pins.trstN.seen = true ∧
      (List.replicate 7 true).all id = true ∧ (false :: List.replicate 6 true).all id = false) ∧
    (held.running = false ∧ held.mode ≠ modeMaint) ∧ (debugged [(R.MOD.STATUS.SCAN, 0, 1)]).on R.MOD.STATUS.SCAN = true ∧
    (debugged.running = true ∧ debugged.pins.trstN.seen = true ∧ debugged.on R.MOD.STATUS.SCAN = false) ∧
    (debugged.debugCheck (debugging true 8)).1 = stKeyMismatch ∧
    ((debugged.debugCheck (debugging true)) = (0, 1) ∧ (debugged.debugCheck (debugging false)) = (0, 1) ∧
      debugged.debugWaits (debugging true) = false ∧
      ({ debugged with lng := { fills := [4096] } } : State).debugWaits (debugging true) = true) ∧
    (debugged.debugCheck { debugging true with va := 2 ^ 40 }).1 = stBadAddress ∧
    ((debugged.wr R.BLT.BOLT_ATTR.STATE 3 1).debugCheck (debugging true)).1 = stKeyExhausted := by decide +kernel

/-- A module between waves, or in one. -/
def waving (w : Waves) : State := { served with waves := w }

theorem witness_WaveCommands :
    ((waving { now := some 3 }).waves.now = some 3 ∧ ∀ c ∈ tierChannels 3, ((waving { now := some 3 }).narrowOf c).due = false) ∧
    ((served.setNarrow 23 { window := true, due := true }).narrowOf 23).due = true ∧ served.waves.next = [] ∧
    ((waving { next := [2, 4] }).waves.now = none ∧ (waving { next := [2, 4] }).waves.next = 2 :: [4] ∧
      (tierChannels 2).any (fun c => ((waving { next := [2, 4] }).narrowOf c).window) = false ∧ 16 ∈ tierChannels 2) ∧
    (tierChannels 2).any (fun c => ((served.setNarrow 23 { window := true }).narrowOf c).window) = true ∧
    ((served.setNarrow 23 { window := true }).narrowOf 23).window = true ∧ (served.narrowOf 23).window = false := by decide +kernel

/-- A lane sweep's readings with every code passing or none. -/
def sweepOf (m : Nat) : SweepReport := ⟨List.replicate 8 m, 2000, [], [], 0, 0, 40, 16, []⟩

/-- Channel 3 sweeping lane 5. -/
def sweeping (rotating : Nat) : State :=
  let s := withRegs served [(R.CAL.STATUS.STATE, 3, 1), (R.CAL.STATUS.ROTATING, 3, rotating)]
  { s with cal := { held := ({} : SMap Nat).put 3 1, now := ({} : SMap (Bool × SweepItem)).put 3 (true, ⟨2, 0, 0, 5⟩) } }

/-- Channel 3 sweeping the timing of ply 2. -/
def plying : State :=
  { withRegs served [(R.CAL.STATUS.STATE, 3, 1)] with cal := { held := ({} : SMap Nat).put 3 1, now := ({} : SMap (Bool × SweepItem)).put 3 (false, ⟨1, 0, 2, 0⟩) } }

/-- Channel 3 with what a sweep of lane 5 found, before its rotation point. -/
def rotated : State :=
  let s := sweeping 1
  { s with cal := { s.cal with swept := ({} : SMap SweepReport).put 3 (sweepOf 1) } }

/-- Channel 3 before its rotation of lane 5 takes selvedge lane 7, and before its held interval. -/
def unready (taking : Bool) : State :=
  let s := sweeping 0
  { s with cal := { s.cal with held := {}, taking := if taking then ({} : SMap Nat).put 3 7 else {} } }

/-- Channel 3 with a repair that waits for its rotation point. -/
def repairing : State := { served with cal := { repairs := [⟨3, 5, 1, 7⟩] } }

/-- Governing temperatures. -/
def hot (q : Int) : State := { served with hem := { gov := [q] } }

theorem witness_RoundAndSweepCommands :
    ((92 : Nat) < 95 ∧ 4 * ((95 : Nat) : Int) ≤ hottest (hot 380).hem.gov ∧ hottest (hot 368).hem.gov ≤ 4 * ((92 : Nat) : Int) ∧
      4 * ((92 : Nat) : Int) < hottest (hot 379).hem.gov ∧ hottest (hot 379).hem.gov < 4 * ((95 : Nat) : Int)) ∧
    (held.maySweep 3 = false ∧ (atReset [(R.CAL.STATUS.STATE, 3, 1)]).rd R.CAL.STATUS.STATE 3 ≠ 0 ∧
      (atReset [(R.CAL.STATUS.STATE, 3, 1)]).rd R.CAL.STATUS.STATE 3 ≠ 2) ∧
    ((channelled {}).maySweep 3 = true ∧ (channelled {}).rd R.CAL.STATUS.STATE 3 = 0 ∧
      (({ channelled {} with cal := { urgent := ({} : SMap (List SweepItem)).put 3 [⟨2, 0, 0, 5⟩] } } : State).cal.urgent.get [] 3).find?
        (({ channelled {} with cal := { urgent := ({} : SMap (List SweepItem)).put 3 [⟨2, 0, 0, 5⟩] } } : State).itemLive 3) = some ⟨2, 0, 0, 5⟩) ∧
    (atReset [(R.CAL.STATUS.STATE, 3, 2)]).rd R.CAL.STATUS.STATE 3 = 2 ∧ served.cal.now.find 3 = none ∧
    ((sweeping 0).cal.now.find 3 = some (true, ⟨2, 0, 0, 5⟩) ∧ (sweeping 0).rd R.CAL.STATUS.STATE 3 = 1 ∧
      (sweeping 0).cal.swept.find 3 = none ∧ (2 : Nat) ≠ 1 ∧ (sweeping 0).runsOk 3 5 (sweepOf (2 ^ 64 - 1)) = true ∧
      (sweeping 0).runsOk 3 5 (sweepOf 0) = false ∧ (sweeping 1).on R.CAL.STATUS.ROTATING 3 = true ∧
      (sweeping 0).on R.CAL.STATUS.ROTATING 3 = false ∧ (sweeping 0).sweepReady 3 = true ∧ (sweeping 1).sweepReady 3 = true) ∧
    ((unready true).cal.taking.find 3 = some 7 ∧ (unready true).sweepReady 3 = false ∧ (unready false).sweepReady 3 = false ∧
      (unready false).wantsInterval 3 0 2 = true ∧ (unready false).cal.lastHeld.find 6 = none ∧
      (unready true).takeRepairs 3 0 = unready true) ∧
    ((plying.cal.now.find 3 = some (false, ⟨1, 0, 2, 0⟩) ∧ plying.rd R.CAL.STATUS.STATE 3 = 1 ∧ plying.cal.swept.find 3 = none ∧ plying.sweepReady 3 = true) ∧
      ((5 : Fin 32).val / 8 = (3 : Fin 32).val / 8 ∧ (5 : Fin 32).val ≠ (3 : Fin 32).val ∧ served.tornPc (2 * 5 + 127 / 64) = false)) ∧
    (served.cal.repairs = [] ∧ (repairing.cal.repairs = [⟨(3 : Fin 32), 5, (1 : Fin 2), 7⟩] ∧ repairing.patFrozen (3 * 3) = false ∧
      repairing.per.patShadow.find (3 * 3) = none)) ∧
    (rotated.takeRepairs 3 0 = rotated ∧ rotated.cal.swept.find 3 = some (sweepOf 1) ∧ rotated.cal.now.find 3 = some (true, ⟨2, 0, 0, 5⟩)) ∧
    (0 : Nat) = (0 : Fin 2).val ∧ (0 : Nat) ≠ (1 : Fin 2).val := by decide +kernel

/-- A module ready for its Tack link, with the link's registers and hidden state. -/
def tacked (x : Tack) (l : List (Fld × Nat × Nat) := []) : State :=
  let s := withRegs served ([(R.TCK.CTRL.EN, 0, 1), (R.CLK.STATUS.PLL_LOCK, 0, 255)] ++ l)
  { s with tack := x }

/-- The Tack link up and carrying frames. -/
def joined (x : Tack) (l : List (Fld × Nat × Nat) := []) : State := tacked { x with carries := true } ([(R.TCK.STATUS.LINK, 0, 1)] ++ l)

/-- An IDENT. -/
def ident : Ident := ⟨0, 0, 0, 0, 0, false⟩

theorem witness_TackLinkCommands :
    (served.awake = true ∧ served.tackReady = false) ∧
    ((tacked {}).tackReady = true ∧ (tacked {}).on R.TCK.STATUS.LINK = false ∧ (tacked {}).tack.attempt = false) ∧
    (tacked { attempt := true }).tack.attempt = true ∧
    (part (word []).toNat R.TCK.ALIGN.START = 0 ∧ part (word [(R.TCK.ALIGN.START, 1)]).toNat R.TCK.ALIGN.START = 1) ∧
    ((tacked {}).tack.counting ≠ some (3 : Fin 8).val ∧ (tacked { counting := some 3 }).tack.counting = some (3 : Fin 8).val ∧
      (tacked { attempt := true }).tack.tries.get 0 3 < 64) ∧
    (tacked { attempt := true }).tack.deskewed = false ∧
    ((tacked { attempt := true, deskewed := true, peer := some ident }).tack.attempt = true ∧
      (tacked { attempt := true, deskewed := true, peer := some ident }).tack.deskewed = true ∧
      (tacked { attempt := true, deskewed := true, peer := some ident }).tack.peer = some ident ∧
      (tacked { attempt := true, deskewed := true, peer := some ident }).tackReady = true ∧
      (tacked { attempt := true, deskewed := true, peer := some ident }).tack.settled = none ∧
      (tacked { settled := some (1, 0, false) }).tack.settled = some (1, 0, false)) ∧
    (joined {}).on R.TCK.STATUS.LINK = true := by decide +kernel

/-- A frame of one record under an all-zero key, as the sender would build it. -/
def frameOf (seq : Nat) (recs : List Byte) : List Byte :=
  let ct := gcmCrypt (List.replicate 32 0) (frameNonce seq) recs
  leBytes 8 seq ++ ct ++ gcmTag (List.replicate 32 0) (frameNonce seq) (leBytes 8 seq) ct

/-- The receiver of such frames. -/
def receiving (l : List (Fld × Nat × Nat) := []) : State := joined { rxKey := List.replicate 32 0 } l

theorem witness_TackTrafficCommands :
    (tacked {}).on R.TCK.STATUS.LINK = false ∧ (receiving.on R.TCK.STATUS.LINK = true ∧ receiving.tack.carries = true) ∧
    openFrame receiving.tack.rxKey (List.replicate 126 0) = none ∧
    (openFrame receiving.tack.rxKey (frameOf 1 (List.replicate 16 0)) = some (1, List.replicate 16 0) ∧ 1 = receiving.tack.expect ∧
      receiving.rd R.TCK.STATUS.ROLE ≠ 2) ∧
    (openFrame receiving.tack.rxKey (frameOf 2 []) = some (2, []) ∧ 2 ≠ receiving.tack.expect) ∧
    (tacked { unacked := [(5, 0, [])] }).tack.unacked.all (fun f => decide (4 + (tacked {}).tack.base < f.1)) = true ∧
    ((tacked {}).tack.coded = false ∧ (tacked { coded := true }).tack.coded = true ∧ (tacked { coded := true }).tack.deskewed = false ∧
      (tacked { coded := true, deskewed := true }).tack.deskewed = true) ∧
    ((joined {} [(R.TCK.STATUS.ROLE, 0, 2), (R.TCK.STATUS.PAIR, 0, 2)]).on R.TCK.STATUS.LINK = true ∧
      (joined {} [(R.TCK.STATUS.ROLE, 0, 2), (R.TCK.STATUS.PAIR, 0, 2)]).rd R.TCK.STATUS.ROLE = 2 ∧
      (joined {} [(R.TCK.STATUS.ROLE, 0, 2), (R.TCK.STATUS.PAIR, 0, 2)]).rd R.TCK.STATUS.PAIR = 2 ∧ receiving.rd R.TCK.STATUS.PAIR ≠ 2) ∧
    ((tacked { attempt := true, coded := true, deskewed := true }).tack.deskewed = true ∧
      (tacked { attempt := true, coded := true, deskewed := true }).tack.coded = true) ∧
    ((tacked { attempt := true, coded := true }).tack.attempt = true ∧ (tacked { attempt := true, coded := true }).tack.deskewed = false ∧
      (joined {}).tack.attempt = false) ∧
    ((joined {}).tack.openRecs = [] ∧ (joined { openRecs := [[1]] }).tack.openRecs ≠ []) := by decide +kernel

/-- TCK.CTRL with EN set and a command. -/
def tackWord (n : Nat) : Nat := (word [(R.TCK.CTRL.EN, 1), (R.TCK.CTRL.CMD, n)]).toNat

/-- A module that can pair. -/
def pairable : State := tacked { key := some (List.replicate 32 1) } [(R.QOS.MASTER.GUAR, 67, 100)]

/-- A deployed module that holds the wrapped pair key of RFC 3394's example. -/
def wrapped (l : List (Fld × Nat × Nat) := []) : State :=
  withRegs (keyed []) ((List.range 5).map (fun n => (R.TCK.PKEY_WRAP.DATA, n, leNat (sliceBytes rfcBlob (8 * n) 8))) ++ l)

theorem witness_PairCommands :
    (pairable.awake = true ∧ pairable.pathOk .smb = true ∧
      ∀ n ∈ [1, 2, 3, 4, 5, 6, 7], part (tackWord n) R.TCK.CTRL.EN = 1 ∧ part (tackWord n) R.TCK.CTRL.CMD = n ∧
        part (tackWord n - 1) R.TCK.CTRL.EN = 0 ∧ part (tackWord n - 1) R.TCK.CTRL.CMD = n) ∧
    (joined {} [(R.TCK.STATUS.PAIR, 0, 2)]).on R.TCK.STATUS.PAIR = true ∧
    (pairable.on R.TCK.STATUS.PAIR = false ∧ pairable.on R.TCK.STATUS.ROLE = false ∧ pairable.pairUnready = false ∧ (tacked {}).pairUnready = true) ∧
    (answering.joinBusy = true ∧ pairable.joinBusy = false) ∧
    (pairable.rd R.TCK.STATUS.PAIR ≠ 3 ∧ pairable.on R.TCK.STATUS.FENCED = false ∧ pairable.rd R.TCK.STATUS.ROLE ≠ 1) ∧
    ((joined {} [(R.TCK.STATUS.PAIR, 0, 3)]).rd R.TCK.STATUS.PAIR = 3 ∧ (joined {} [(R.TCK.STATUS.PAIR, 0, 3)]).mirroring = false) ∧
    ((joined {} [(R.TCK.STATUS.ROLE, 0, 1), (R.TCK.STATUS.PAIR, 0, 2)]).mirroring = true ∧
      (joined {} [(R.TCK.STATUS.ROLE, 0, 1), (R.TCK.STATUS.PAIR, 0, 2)]).tack.carries = true) ∧
    ((joined {} [(R.TCK.STATUS.ROLE, 0, 1), (R.TCK.STATUS.PAIR, 0, 2)]).rd R.TCK.STATUS.ROLE = 1 ∧
      (joined {} [(R.TCK.STATUS.ROLE, 0, 1), (R.TCK.STATUS.PAIR, 0, 2)]).rd R.TCK.STATUS.PAIR = 2 ∧
      (joined {} [(R.TCK.STATUS.ROLE, 0, 1), (R.TCK.STATUS.PAIR, 0, 2)]).on R.TCK.STATUS.LINK = true) ∧
    ((tacked {} [(R.TCK.STATUS.ROLE, 0, 2), (R.TCK.STATUS.PAIR, 0, 3), (R.TCK.STATUS.HB_LOST, 0, 1)]).rd R.TCK.STATUS.ROLE = 2 ∧
      (tacked {} [(R.TCK.STATUS.ROLE, 0, 2), (R.TCK.STATUS.PAIR, 0, 3), (R.TCK.STATUS.HB_LOST, 0, 1)]).on R.TCK.STATUS.HB_LOST = true) ∧
    ((tacked {} [(R.TCK.STATUS.FENCED, 0, 1), (R.TCK.STATUS.HB_LOST, 0, 1)]).on R.TCK.STATUS.FENCED = true ∧
      (tacked {} [(R.TCK.STATUS.FENCED, 0, 1), (R.TCK.STATUS.HB_LOST, 0, 1)]).on R.TCK.STATUS.HB_LOST = true) ∧
    (State.reset.noLoad = true ∧ wrapped.noLoad = false ∧ (wrapped [(R.TCK.STATUS.PAIR, 0, 2)]).on R.TCK.STATUS.PAIR = true ∧
      wrapped.on R.TCK.STATUS.PAIR = false) := by decide +kernel

theorem witness_PairKeyUnwraps : keyUnwrap (wrapped.per.kek.getD []) wrapped.pkeyBlob = some rfcKey := by
  have h : wrapped.pkeyBlob = rfcBlob ∧ wrapped.per.kek.getD [] = rfcKek := by decide +kernel
  rw [h.1, h.2]
  exact test_keyUnwrap

/-- A paired module that has lost its link: its role, pair state and registers. -/
def parted (role pair : Nat) (x : Tack := {}) (l : List (Fld × Nat × Nat) := []) : State :=
  tacked x ([(R.TCK.STATUS.ROLE, 0, role), (R.TCK.STATUS.PAIR, 0, pair)] ++ l)

theorem witness_PairEvents :
    served.rd R.TCK.STATUS.ROLE ≠ 1 ∧
    ((joined { copyEnd := some 0 } [(R.TCK.STATUS.ROLE, 0, 1), (R.TCK.STATUS.PAIR, 0, 1)]).rd R.TCK.STATUS.PAIR = 1 ∧
      (joined { copyEnd := some 0 } [(R.TCK.STATUS.ROLE, 0, 1), (R.TCK.STATUS.PAIR, 0, 1)]).copyDone = true) ∧
    (served.mirroring = false ∧ (parted 1 2).mirroring = true ∧ (parted 1 2).on R.TCK.STATUS.LINK = false) ∧
    ((parted 2 1).rd R.TCK.STATUS.ROLE = 2 ∧ (parted 2 1).rd R.TCK.STATUS.PAIR = 1 ∧ (parted 2 1).on R.TCK.STATUS.LINK = false ∧
      (parted 2 1).tack.decided = false) ∧
    (served.mayTakeOver = false ∧ served.rd R.TCK.STATUS.ROLE ≠ 2) ∧
    (served.tack.claims = 0 ∧ (tacked { claims := 2 }).tack.claims ≠ 0) ∧
    ((parted 1 2 {} [(R.FLT.ALIVE.TOGGLING, 0, 0)]).rd R.TCK.STATUS.ROLE = 1 ∧
      (parted 1 2 {} [(R.FLT.ALIVE.TOGGLING, 0, 0)]).on R.TCK.STATUS.FENCED = false ∧
      (parted 1 2 {} [(R.FLT.ALIVE.TOGGLING, 0, 0)]).on R.FLT.ALIVE.TOGGLING = false ∧
      (parted 1 2 {} [(R.FLT.ALIVE.TOGGLING, 0, 1)]).on R.FLT.ALIVE.TOGGLING = true) := by decide +kernel

/-- FLT.INJECT of a source and unit. -/
def injectWord (src unit : Nat) : Nat := (word [(R.FLT.INJECT.GO, 1), (R.FLT.INJECT.SOURCE, src), (R.FLT.INJECT.UNIT, unit)]).toNat

/-- FLT.WDT with a period and KICK. -/
def kickWord (ms : Nat) : Nat := (word [(R.FLT.WDT.PERIOD_MS, ms), (R.FLT.WDT.KICK, 1)]).toNat

/-- A module in Serve whose PLLs have locked. -/
def locked : State := atReset [(R.MOD.STATUS.MODE, 0, modeServe), (R.CLK.STATUS.PLL_LOCK, 0, 0xFF)]

theorem witness_FaultCommands :
    (served.awake = true ∧ maintained.awake = true ∧ (atReset [(R.FLT.WDT.ARMED, 0, 1)]).awake = true ∧
      (atReset [(R.FLT.ALIVE.TOGGLING, 0, 1)]).awake = true ∧ (atReset [(R.FLT.ALIVE.WDT_HELD, 0, 1)]).awake = true ∧
      ({ locked with thimble := { resetting := true } } : State).awake = true ∧ locked.awake = true) ∧
    (locked.sysLocked = true ∧ locked.thimble.resetting = false ∧ served.sysLocked = false ∧
      ({ locked with thimble := { resetting := true } } : State).sysLocked = true ∧
      ({ locked with thimble := { resetting := true } } : State).thimble.resetting = true ∧
      locked.thimble.expiryReset = false ∧ ({ locked with thimble := { expiryReset := true } } : State).thimble.expiryReset = true) ∧
    (maintained.pathOk .smb = true ∧ part (injectWord 0 2) R.FLT.INJECT.GO = 1 ∧ served.mode ≠ modeMaint ∧ maintained.mode = modeMaint ∧
      injectUnit (part (injectWord Src.ethLinkDown 2) R.FLT.INJECT.SOURCE) (part (injectWord Src.ethLinkDown 2) R.FLT.INJECT.UNIT) = none ∧
      injectUnit (part (injectWord Src.ethLinkDown 1) R.FLT.INJECT.SOURCE) (part (injectWord Src.ethLinkDown 1) R.FLT.INJECT.UNIT) = some (.port 1)) ∧
    faultReserved 127 = true ∧
    (({ served with thimble := { resetting := true } } : State).thimble.resetting = true ∧ served.thimble.resetting = false) ∧
    (part (kickWord 9) R.FLT.WDT.PERIOD_MS ≠ served.rd R.FLT.WDT.PERIOD_MS ∧ part (kickWord 9) R.FLT.WDT.PERIOD_MS < 10 ∧
      10000 < part (kickWord 10001) R.FLT.WDT.PERIOD_MS) ∧
    (10 ≤ part (kickWord 10) R.FLT.WDT.PERIOD_MS ∧ part (kickWord 10000) R.FLT.WDT.PERIOD_MS ≤ 10000 ∧ part (kickWord 10) R.FLT.WDT.KICK = 1) ∧
    ((atReset [(R.FLT.WDT.ARMED, 0, 1)]).on R.FLT.WDT.ARMED = true ∧ served.on R.FLT.WDT.ARMED = false) ∧
    (({ served with tick := 1000000000, thimble := { lastExpiry := some 0 } } : State).thimble.lastExpiry = some 0 ∧ 1000000000 - 0 ≤ 1000000000) ∧
    ((atReset [(R.FLT.ALIVE.TOGGLING, 0, 1)]).on R.FLT.ALIVE.TOGGLING = true ∧ (atReset [(R.FLT.ALIVE.TOGGLING, 0, 0)]).on R.FLT.ALIVE.TOGGLING = false) ∧
    ((atReset [(R.FLT.ALIVE.WDT_HELD, 0, 1)]).on R.FLT.ALIVE.WDT_HELD = true ∧ served.on R.FLT.ALIVE.WDT_HELD = false) ∧
    (atReset [(R.FLT.ALIVE.WDT_HELD, 0, 1)]).aliveHeld = true ∧
    ((atReset [(R.FLT.ALIVE.BOOT_HELD, 0, 0), (R.FLT.ALIVE.TOGGLING, 0, 0)]).aliveHeld = false ∧ State.reset.clocks.stopped = false) ∧
    (served.guard.entropyBad = false ∧ 1023 ≤ ({ entropyBad := true, entropyPasses := 1023 } : Guard).entropyPasses ∧
      ({ entropyBad := true, entropyPasses := 1022 } : Guard).entropyPasses < 1023) := by decide +kernel

/-- MOD.REQ for a target and point. -/
def reqWord (t p : Nat) : Nat := (word [(R.MOD.REQ.TARGET, t), (R.MOD.REQ.POINT, p), (R.MOD.REQ.CONFIRM, 0xA5)]).toNat

/-- A module between housekeeping rounds. -/
def settledAt (s : State) : State := { s with tick := 500000 }

theorem witness_ModeRequests :
    (∀ t ∈ [1, 2, 3, 4, 5], part (reqWord t 2) R.MOD.REQ.TARGET = t ∧ part (reqWord t 2) R.MOD.REQ.POINT ≠ 0) ∧
    (served.inRound = true ∧ served.booting = false ∧ State.reset.booting = true) ∧
    ((settledAt served).inRound = false ∧ (settledAt served).thermalHold = false ∧ (settledAt served).pathOk .smb = true) ∧
    (∀ t ∈ [2, 3, 4], (settledAt served).reqStatus (reqWord t 2) = 0 ∧ (settledAt served).sameMode t 2 = false) ∧
    ((settledAt held).reqStatus (reqWord 1 2) = 0 ∧ (settledAt held).sameMode 1 2 = false) ∧
    ((settledAt served).reqStatus (reqWord 1 2) = 0 ∧ (settledAt served).sameMode 1 2 = true) ∧
    ((settledAt (withRegs served [(R.MOD.STATUS.BUSY, 0, 1)])).on R.MOD.STATUS.BUSY = true ∧
      (settledAt (withRegs served [(R.MOD.STATUS.BUSY, 0, 1)])).reqStatus (reqWord 3 2) ≠ 0) ∧
    (reqAllowed (settledAt maintained).mode 3 = false ∧ (settledAt maintained).sameMode 3 2 = false) ∧
    ((settledAt { held with hem := { gov := [373] } }).tooHot = true ∧ (settledAt { held with hem := { gov := [372] } }).tooHot = false) ∧
    (settledAt (withRegs served [(R.TCK.STATUS.PAIR, 0, 1)])).rd R.TCK.STATUS.PAIR = 1 ∧
    (part 5 R.MOD.REQ.TARGET = 5 ∧ part 5 R.MOD.REQ.CONFIRM ≠ 0xA5 ∧ part (reqWord 5 0) R.MOD.REQ.CONFIRM = 0xA5) := by
  decide +kernel

/-- A module on its way to a mode. -/
def leaving (t : Nat) (draining : Bool) (s : State := served) : State :=
  { s.wr R.MOD.STATUS.BUSY 1 with boot := { target := t, draining := draining } }

theorem witness_ModeTransitions :
    (served.boot.draining = false ∧ (leaving 3 true).boot.draining = true ∧ (leaving 3 true).workDone = true ∧
      (leaving 3 true).framesDone = true ∧ (leaving 3 true).boot.target ≠ 5 ∧ (leaving 3 true).tack.handover = false) ∧
    ((answering.setQp 0 { unacked := [], sent := [outgoing] }).workDone = false) ∧
    (served.targetReady = false ∧ (leaving 3 false).targetReady = true) ∧ modeBoot < 64 ∧
    ((leaving 4 false).boot.target ≠ 0 ∧ (leaving 4 false).boot.target ≤ 4) := by decide +kernel

/-- A module in Maintenance in a lifecycle, its patch word 192 selected. -/
def fusing (life : Nat) (l : List (Fld × Nat × Nat) := []) : State :=
  withRegs maintained ([(R.PRT.LIFE.LIFECYCLE, 0, life), (R.OTP.STATUS.SECRET_SET, 0, 1), (R.PRT.LIFE.KEK_OK, 0, 1),
    (R.OTP.SEL.WORD, 0, 192)] ++ l)

/-- OTP.CMD with a command and a lock. -/
def otpWord (n lock : Nat) : Nat := (word [(R.OTP.CMD.CMD, n), (R.OTP.CMD.LOCK, lock)]).toNat

theorem witness_OtpCommands :
    (∀ n ∈ [1, 2, 3, 4, 5, 6, 7], n = part (otpWord n 1) R.OTP.CMD.CMD ∧ part (otpWord n 1) R.OTP.CMD.LOCK ≠ 3) ∧
    (served.mode ≠ modeMaint ∧ (fusing 0 [(R.OTP.CMD.RESULT, 0, 1)]).rd R.OTP.CMD.RESULT = 1) ∧
    ((fusing 0).mode = modeMaint ∧ (fusing 0).rd R.OTP.CMD.RESULT ≠ 1 ∧ (fusing 0).pathOk .smb = true) ∧
    ((fusing 1).otpLife 2 = false ∧ (fusing 0).otpLife 3 = false ∧ (fusing 0).otpLife 4 = false ∧ (fusing 3).otpLife 5 = false) ∧
    ((fusing 0).otpLife 1 = true ∧ (fusing 0 [(R.OTP.SEL.WORD, 0, 448)]).otpWords 1 0 = none) ∧
    (((fusing 0).otpWords 1 0).isSome = true ∧ (fusing 0).otpWords 1 0 ≠ some []) ∧
    ((fusing 0).otpLife 2 = true ∧ (fusing 1).otpLife 3 = true ∧ (fusing 1).otpLife 4 = true ∧ (fusing 2).otpLife 5 = true ∧
      (fusing 0).otpLife 6 = true ∧ (fusing 0).otpLife 7 = true) ∧
    (fusing 0).per.job = none ∧
    (({ fusing 0 with per := { job := some ⟨1, [(192, 5)]⟩ } } : State).per.job = some ⟨1, (192, 5) :: []⟩ ∧
      ({ fusing 0 with per := { job := some ⟨2, [(8, 5), (9, 6)]⟩ } } : State).per.job = some ⟨2, (8, 5) :: [(9, 6)]⟩) := by
  decide +kernel

/-- Where the running SVN is 0, RAISE_SVN has no word to program. -/
theorem witness_noWords : ((fusing 0).wr R.MOD.FW_STATUS.RUN_SVN 0).otpWords 7 0 = some [] := by
  simp [State.otpWords]

/-- A firmware image of the shortest length, its digest in place; its signature is all zeros. -/
def image : List Byte :=
  let body : List Byte := List.replicate 8 0
  leBytes 8 fwIdent ++ leBytes 4 0 ++ leBytes 4 1 ++ leBytes 4 8 ++ List.replicate 44 0 ++ sha384 body ++ List.replicate 144 0 ++ body ++
    List.replicate 96 0

/-- A module with bytes staged, for an image of n bytes. -/
def updating (n : Nat) (bytes : List Byte) (l : List (Fld × Nat × Nat) := []) : State :=
  { withRegs served l with fw := { staged := bytes, length := n } }

/-- MOD.FW_CTRL. -/
def fwWord (cmd len : Nat) : Nat := (word [(R.MOD.FW_CTRL.CMD, cmd), (R.MOD.FW_CTRL.LENGTH, len)]).toNat

theorem witness_FirmwareCommands :
    (∀ n ∈ [1, 2, 3], part (fwWord n 360) R.MOD.FW_CTRL.CMD = n ∧ 360 ≤ part (fwWord n 360) R.MOD.FW_CTRL.LENGTH ∧
      part (fwWord n 524640) R.MOD.FW_CTRL.LENGTH ≤ 524640) ∧
    (held.fwMode = false ∧ served.fwMode = true ∧ part (fwWord 1 359) R.MOD.FW_CTRL.LENGTH < 360 ∧
      524640 < part (fwWord 1 524641) R.MOD.FW_CTRL.LENGTH) ∧
    served.imageOk = false ∧
    ((updating 360 image [(R.MOD.FW_STATUS.STATE, 0, 2)]).rd R.MOD.FW_STATUS.STATE = 2 ∧ served.on R.MOD.STATUS.BUSY = false) ∧
    served.rd R.MOD.FW_STATUS.STATE ≠ 1 ∧ (updating 360 [] [(R.MOD.FW_STATUS.STATE, 0, 1)]).rd R.MOD.FW_STATUS.STATE = 1 ∧
    (updating 360 image).fw.length < (updating 360 image).fw.staged.length + 8 ∧
    (updating 360 (image.take 352)).fw.staged.length + 8 ≤ (updating 360 (image.take 352)).fw.length := by decide +kernel

/-- The signature of "sample" in appendix A.2.6 of RFC 6979, which works out ECDSA of FIPS 186-5 with P-384 and SHA-384. -/
theorem test_ecdsa :
    ecdsaOk 0xEC3A4E415B4E19A4568618029F427FA5DA9A8BC4AE92E02E06AAE5286B300C64DEF8F0EA9055866064A254515480BC13
      0x8015D9B72D7D57244EA8EF9AC0C621896708A59367F9DFB9F54CA84B3F1C9DB1288B231C3AE0D4FE7344FD2533264720
      [0x73, 0x61, 0x6D, 0x70, 0x6C, 0x65]
      0x94EDBB92A5ECB8AAD4736E56C691916B3F88140666CE9FA73D64C4EA95AD133C81A648152E44ACF96E36DD1E80FABE46
      0x99EF4AEB15F178CEA1FE40DB2603138F130E740A19624526203B6351D0A3A94FA329C145786E679E7B82C71A38628AC8 = true := by
  decide +kernel

/-- The image passes VERIFY where its signature verifies under the key in mask ROM, which the model leaves open. -/
theorem witness_imageOk (h : signatureOk (image.take 264) (image.drop 264) = true) : (updating 360 image).imageOk = true := by
  have e : imageNat image 0 8 = fwIdent ∧ image.length = 360 ∧ imageNat image 16 4 = 8 ∧
      sha384 ((image.drop 256).take 8) = (image.drop 64).take 48 ∧
      (updating 360 image).rd R.MOD.FW_STATUS.MIN_SVN ≤ imageNat image 12 1 := by decide +kernel
  have hs : (updating 360 image).fw.staged = image ∧ (updating 360 image).fw.length = 360 := ⟨rfl, rfl⟩
  obtain ⟨e1, e2, e3, e4, e5⟩ := e
  simp [State.imageOk, hs, e1, e2, e3, e4, e5, h]

theorem witness_LiningConfigRule :
    (served.awake = true ∧ served.pathOk .smb = true ∧ liningRule served) ∧
    16 < part (word [(R.LNG.CFG.STICKY_MIB, 17)]).toNat R.LNG.CFG.STICKY_MIB ∧
    (part (word [(R.LNG.CFG.DIRTY_HIGH, 9), (R.LNG.CFG.DIRTY_LOW, 9)]).toNat R.LNG.CFG.DIRTY_HIGH ≤
      part (word [(R.LNG.CFG.DIRTY_HIGH, 9), (R.LNG.CFG.DIRTY_LOW, 9)]).toNat R.LNG.CFG.DIRTY_LOW) ∧
    (part (word [(R.LNG.CFG.STICKY_MIB, 16), (R.LNG.CFG.DIRTY_HIGH, 1)]).toNat R.LNG.CFG.STICKY_MIB ≤ 16 ∧
      part (word [(R.LNG.CFG.STICKY_MIB, 16), (R.LNG.CFG.DIRTY_HIGH, 1)]).toNat R.LNG.CFG.DIRTY_LOW <
        part (word [(R.LNG.CFG.STICKY_MIB, 16), (R.LNG.CFG.DIRTY_HIGH, 1)]).toNat R.LNG.CFG.DIRTY_HIGH) ∧
    (R.LNG.CFG.STICKY_MIB.addr = 0x9000 ∧ R.LNG.CFG.STICKY_MIB.lo < 64) :=
  ⟨⟨rfl, rfl, by decide +kernel, by decide +kernel⟩, by decide +kernel⟩

theorem witness_StoredSectorReadsBack : (List.replicate 72 (7 : Byte)).length = 72 ∧ State.reset.mem.wf = true ∧ (4 : Nat) ≠ 5 := by
  decide +kernel

theorem witness_FrameAndMapEncoding :
    (32511 < 32512 ∧ 63 < 64 ∧ 31 < 32 ∧ 1 < 2 ∧ 2 ≤ 7) ∧ (7 < 8 ∧ 3 < 4 ∧ 2 ^ 26 - 1 < 2 ^ 26) := by decide

theorem witness_StackUnchanged : storesNothing .aliveToggle = true ∧ storesNothing (.kick 0) = true := ⟨rfl, rfl⟩

/-- 06, "one bolt, one grant, five accesses". -/
def boltSeven : State := atReset [(R.MOD.STATUS.MODE, 0, modeServe), (R.BLT.CLIENT.VALID, 12, 1), (R.BLT.BOLT_ATTR.STATE, 7, 2),
  (R.BLT.BOLT_ATTR.MODE, 7, 2), (R.BLT.BOLT_ATTR.KEY_ID, 7, 0x2A), (R.BLT.BOLT_BASE.BASE_SW, 7, 0x100), (R.BLT.BOLT_BASE.LEN_SW, 7, 65536),
  (R.BLT.GRANT.ISSUED, 55, 1), (R.BLT.GRANT.GEN, 55, 21), (R.BLT.GRANT.CLIENT, 55, 12), (R.BLT.GRANT.BOLT, 55, 7),
  (R.BLT.GRANT.RIGHTS, 55, 3), (R.BLT.GRANT_RANGE.START_SW, 55, 34), (R.BLT.GRANT_RANGE.LEN_SW, 55, 16)]

/-- The table of 06's example, and the charge it names (R146, R149). -/
theorem test_fiveAccesses :
    boltSeven.chargeOf 7 = 4784128 ∧
    boltSeven.directRights 12 0x02A0000001230000 10000 0x03700015 rightWrite = (0, 55) ∧
    boltSeven.directRights 12 0x02A000000131F000 8192 0x03700015 rightRead = (stDenied, 55) ∧
    boltSeven.directRights 12 0x02B0000001230000 4096 0x03700015 rightRead = (stKeyMismatch, 55) ∧
    boltSeven.directRights 12 0x02A0000001240008 8 0x03700015 rightAtomic = (stDenied, 55) ∧
    boltSeven.directRights 12 0x02A0010001230000 4096 0x03700015 rightRead = (stBadAddress, 55) := by decide +kernel

/-- 09, "where byte 0x10_0012_3456 lies" (R225, R229, R230). -/
theorem test_placeOfAByte :
    let s := atReset [(R.PLC.S32_GEN.VALID, 0, 1), (R.PLC.S32_GEN.CURRENT, 0, 1), (R.PLC.S32_GEN.MASK, 0, 2 ^ 32 - 1)]
    mapEntry 3 0 0x1284B0 = 0xB01284B0 ∧ frameParts 3 0x1284B0 = (0, 37, 1200) ∧ s.granulePlace 3 0x1284B0 52 = (52, 148) := by
  decide +kernel

/-- 10, "a short write to a plaintext line" (R261). -/
theorem test_sliceAndSet : sliceOf 0x10001234 = 9 ∧ setOf 0x10001234 = 177 := by decide +kernel

/-- Client guarantees of 11's example. -/
def promised (l : List (Fld × Nat × Nat) := []) : State :=
  atReset ([(R.QOS.MASTER.GUAR, 3, 300), (R.QOS.MASTER.GUAR, 5, 250), (R.QOS.MASTER.GUAR, 9, 200)] ++ l)

/-- 11, "admission and a throttle" (R284, R285, R290, R291, R294). -/
theorem test_admissionAndThrottle :
    promised.guarSum = 790 ∧ (promised.writeQosMaster 20 (masterWord 1 100)).2 = 0x50 ∧
    (promised.writeQosMaster 20 (masterWord 1 60)).2 = 0 ∧ (promised.writeQosMaster 20 (masterWord 1 60)).1.guarSum = 850 ∧
    promised.gWin 3 1024 = 150000 ∧ scaleFactor 4000 = 819 ∧ promised.gWin 3 819 = 119970 ∧ promised.gWin 64 819 = 12796 := by
  decide +kernel

/-- 05, "one cut and the climb back": the first cut (R131). -/
theorem test_firstCut :
    let s := answering [(R.XPT.CC.CC_EN, 0, 1), (R.XPT.QP_RATE.RATE, 0, 400)]
    (s.cnpIn 0).rd R.XPT.QP_RATE.RATE 0 = 200 ∧ ((s.cnpIn 0).cnpIn 0).rd R.XPT.QP_RATE.RATE 0 = 200 := by decide +kernel

/-- 14, "Hem forces P2 from P0": the order of the waves, and C after the last (R284, R355). -/
theorem test_waveOrder :
    let s : State := { State.reset with hem := { cellTemp := [79, 88, 97, 91].flatMap (fun t => List.replicate 8 t) } }
    s.planWaves 2 = [2, 3, 1, 0] ∧
    (withRegs s ((List.range 32).map (fun c => (R.CHN.STATUS.POINT, c, 2)))).capacitySum = 5120 := by decide +kernel

/-- A round's readings with n sensors. -/
def readings (n : Nat) : RoundReadings :=
  ⟨List.replicate n (some 100), List.replicate 28 0, 48000, 0, 6000, 0, List.replicate 6 0, [40, 40], List.replicate 32 0, List.replicate 8 0,
    List.replicate 4 0, List.replicate 3 0, List.replicate 3 0, List.replicate 16 0⟩

/-- 17 R389, R403 by hand: 3,000,000 pJ of the base die at panel 2 are 3 uJ of its column; 1 uJ in a period of 10 us is 0.1 W, and
0.2 W at an efficiency of one half. -/
theorem test_energy :
    (State.reset.thermal { readings 80 with baseDie := [0, 0, 3000000, 0, 0, 0, 0, 0] }).rd R.HEM.COL_ENERGY.UJ 2 = 3 ∧
    ({ State.reset with hem := { spent := 1000000, drawn := 2, given := 1 } } : State).periodPower = 200000 := by decide +kernel

/-- 15 R369: the buffer of a waiting fill is bad, and its sectors will be UNCORRECTABLE; a frame's buffer is bad, and it is FILTERED. -/
theorem test_bufferLost :
    ((channelled { waiting := [⟨0, 0, 0, 0, true, 0, .fill 7, 1, false, 0, false⟩] }).sramSlot 3 0).lng.bufErr = [7] ∧
    (let s := State.reset.setPort 1 { rx := [(3, 2), (4, 1)], held := (({} : SMap Nat).put 3 2).put 4 1 }
     let t := s.sramFrame 1 1
     (t.port 1).rx = [(3, 2)] ∧ t.rd R.ETH.RX_DROP.FILTERED 1 = 1) := by decide +kernel

theorem test_wellFormed :
    Instr.wf (.frameReceived 0 roceFrame) = true ∧ Instr.wf (.rdmaWrite (request opWriteOnly)) = true ∧
    Instr.wf (.housekeepingRound (readings 80)) = true ∧ Instr.wf (.refWindowEnd ⟨1600, List.replicate 8 0, 0, 0⟩) = true := by decide +kernel

theorem test_illFormed :
    Instr.wf (.frameReceived 0 { roceFrame with dst := 2 ^ 48 }) = false ∧
    Instr.wf (.frameReceived 0 { roceFrame with tags := [⟨2 ^ 16, 0⟩] }) = false ∧
    Instr.wf (.frameReceived 0 { roceFrame with body := .arpRequest (2 ^ 32) 0 0 }) = false ∧
    Instr.wf (.frameReceived 0 { roceFrame with body := .neighbourSolicit 0 (2 ^ 128) }) = false ∧
    Instr.wf (.frameReceived 0 { roceFrame with body := .other (2 ^ 16) }) = false ∧
    Instr.wf (.pfcFrameReceived 0 1 (List.replicate 7 0)) = false ∧ Instr.wf (.pfcFrameReceived 0 1 (List.replicate 8 (2 ^ 16))) = false ∧
    Instr.wf (.rdmaWrite { request opWriteOnly with psn := 2 ^ 24 }) = false ∧
    Instr.wf (.ackReceived { request opAck with syndrome := 256 }) = false ∧
    Instr.wf (.smbDataWrite ⟨1, [0, 0], .good⟩) = false ∧ Instr.wf (.setupWrite 4 0 .smb) = false ∧ Instr.wf (.rcRead 1 .smb) = false ∧
    Instr.wf (.fillComplete 0 { flips := [(8, 0, 1)] }) = false ∧ Instr.wf (.scrubReadDone 0 { path := [(.node 2, 72, 1)] }) = false ∧
    Instr.wf (.refWindowEnd ⟨1600, [], 0, 0⟩) = false ∧ Instr.wf (.housekeepingRound (readings 79)) = false ∧
    Instr.wf (.sweepComplete 0 { sweepOf 0 with fill := 17 }) = false ∧ Instr.wf (.scanEnter []) = false ∧
    Instr.wf (.alignCountDone 0 1025) = false ∧ Instr.wf (.stitchMarker [0]) = false ∧
    Instr.wf (.tackFrameReceived (List.replicate 125 0) true) = false ∧ Instr.wf (.jtagDebugAccess { debugging true with len := 9 }) = false := by
  decide +kernel

/-- No row gives bits: no word spells a command, and a word put in front leaves the state as it is. -/
theorem test_noWords : decodeTableWord 32 0 = none ∧ State.reset.withFetchWord 32 0 = State.reset := ⟨rfl, rfl⟩

end Sys2Proof.Tests
end

section
/-! The outcome of every command: a next state with the queue as it stood (00 R4). -/

namespace Sys2Proof.Machine

/-- A command whose answer is `live s u` has the effect u on a module that acts. -/
theorem effect_of_live {c : Instr} {s u : State} (ha : s.awake = true) (h : exec c s = live s u) : effect c s u :=
  h.trans (live_awake s u ha)

theorem live_answers (s t : State) : ∃ u, live s t = .next u ∧ u.pending = s.pending := by
  cases h : s.awake with
  | true => exact ⟨t.ends s, live_awake s t h, t.ends_pending s⟩
  | false => exact ⟨s, live_asleep s t h, rfl⟩

@[simp] theorem State.interruptWord_pending (s : State) : s.interruptWord.pending = s.pending := by
  unfold State.interruptWord
  split
  · dsimp only
    split <;> rfl
  · rfl

@[simp] theorem State.powerDown_pending (s : State) : s.powerDown.pending = s.pending := s.interruptWord_pending

/-- The two supply commands do not end as the others do, so they are looked at by themselves (R408, R457). -/
theorem exec_answers (c : Instr) (s : State) : ∃ t, exec c s = .next t ∧ t.pending = s.pending := by
  rcases exec_live c s with ⟨t, ht⟩ | ⟨straps, rstN, rfl⟩ | rfl
  · rw [ht]
    exact live_answers s t
  · exact ⟨_, rfl, by split <;> simp⟩
  · exact ⟨_, rfl, by split <;> simp⟩

theorem step_answers (s : State) : ∃ t, step s = .next t ∧ t.pending = s.pending.tail := by
  unfold step
  split
  · next c rest hq => simpa [hq] using exec_answers c { s with pending := rest }
  · next hq => simpa [hq] using live_answers s s.idle

end Sys2Proof.Machine
end

section
/-! Register reads and writes by offset (00 R16, 06 R154, R157). -/

namespace Sys2Proof.Machine

theorem State.readReg_of_regAt (s : State) {off : Nat} {d : RegDef} {k : Nat} (h : regAt off = some (d, k)) :
    s.readReg off = (s.clearRead d k, s.regValue d k % 2 ^ 64) := by
  unfold State.readReg
  rw [h]

theorem State.readReg_noRegister (s : State) (off : Nat) (h : regAt off = none) : s.readReg off = (s, 0) := by
  unfold State.readReg
  rw [h]

theorem State.writeReg_noRegister (s : State) (path : Path) (off v : Nat) (h : regAt off = none)
    (hp : s.pathOk path = true) : s.writeReg path off v = s.respond path off stBadAddress := by
  unfold State.writeReg
  rw [h]
  simp [State.setup, hp, State.refuse]

theorem State.placeValue_stored (s : State) (e : Nat) (p : Place) (h : p.fld.acc ≠ .wo) :
    s.placeValue [] e p = s.rd p.fld (e * p.mul + p.add) := by
  simp [State.placeValue, h]

/-- Fields placed at bit n and above leave the low n bits of a register's value alone (R15). -/
theorem foldl_places_mod (x : Place → Nat) (n : Nat) (ps : List Place) (h : ∀ p ∈ ps, n ≤ p.lo) (v : Nat) :
    ps.foldl (fun v p => v + x p * 2 ^ p.lo) v % 2 ^ n = v % 2 ^ n := by
  induction ps generalizing v with
  | nil => rfl
  | cons p ps ih =>
    obtain ⟨k, hk⟩ : 2 ^ n ∣ x p * 2 ^ p.lo := Nat.dvd_mul_left_of_dvd (Nat.pow_dvd_pow 2 (h p (by simp))) _
    rw [List.foldl_cons, ih (fun q hq => h q (by simp [hq])), hk, Nat.add_mul_mod_self_left]

/-- TIM.TICK, as the table of registers has it. -/
def timTickReg : RegDef := ⟨"TIM.TICK", 0x39000, [], .one, [⟨R.TIM.TICK.TICK, 0, 1, 0⟩]⟩

theorem regAt_timTick : regAt 0x39000 = some (timTickReg, 0) := rfl

theorem State.readReg_timTick (s : State) : (s.readReg 0x39000).2 = s.tick % 2 ^ 64 := by
  rw [s.readReg_of_regAt regAt_timTick]
  simp [timTickReg, State.regValue, State.derived, State.placeValue, State.entryOf, R.TIM.TICK.TICK]

/-- BLT.ACC_FAULT, as the table of registers has it. -/
def accFaultReg : RegDef :=
  ⟨"BLT.ACC_FAULT", 0x6308, [], .one, [⟨R.BLT.ACC_FAULT.DENIED, 0, 1, 0⟩, ⟨R.BLT.ACC_FAULT.BAD_ADDR, 16, 1, 0⟩,
    ⟨R.BLT.ACC_FAULT.KEY_MISMATCH, 32, 1, 0⟩, ⟨R.BLT.ACC_FAULT.MASTER, 48, 1, 0⟩]⟩

theorem regAt_accFault : regAt 0x6308 = some (accFaultReg, 0) := rfl

/-- No field of BLT.ACC_FAULT is worked out from other state. -/
theorem State.regValue_accFault (s : State) : s.regValue accFaultReg 0 =
    accFaultReg.places.foldl (fun v p => v + s.placeValue [] 0 p * 2 ^ p.lo) 0 := rfl

theorem State.clearRead_accFault (s : State) : s.clearRead accFaultReg 0 = (((s.wr R.BLT.ACC_FAULT.DENIED 0).wr
    R.BLT.ACC_FAULT.BAD_ADDR 0).wr R.BLT.ACC_FAULT.KEY_MISMATCH 0).wr R.BLT.ACC_FAULT.MASTER 0 := rfl

theorem State.readReg_accFault_clears (s : State) : (s.readReg 0x6308).1.rd R.BLT.ACC_FAULT.DENIED = 0 := by
  rw [s.readReg_of_regAt regAt_accFault, s.clearRead_accFault, State.rd_wr_field _ _ _ _ _ _ (by decide),
    State.rd_wr_field _ _ _ _ _ _ (by decide), State.rd_wr_field _ _ _ _ _ _ (by decide), State.rd_wr_same, Nat.zero_mod]

theorem State.regValue_accFault_low (s : State) : s.regValue accFaultReg 0 % 2 ^ 16 = s.rd R.BLT.ACC_FAULT.DENIED := by
  have hlt : s.rd R.BLT.ACC_FAULT.DENIED < 2 ^ 16 := s.rd_lt R.BLT.ACC_FAULT.DENIED 0
  rw [s.regValue_accFault, accFaultReg, List.foldl_cons, foldl_places_mod _ _ _ (by decide),
    s.placeValue_stored _ _ (by decide)]
  simpa using hlt

theorem State.readReg_accFault_counts (s : State) : (s.readReg 0x6308).2 % 2 ^ 16 = s.rd R.BLT.ACC_FAULT.DENIED := by
  rw [s.readReg_of_regAt regAt_accFault, Nat.mod_mod_of_dvd _ (Nat.pow_dvd_pow 2 (by decide)), s.regValue_accFault_low]

end Sys2Proof.Machine
end

section
/-! The SMBus slave (06 R155, R156, 19 R455). -/

namespace Sys2Proof.Machine

theorem State.readOn_smb (s : State) (off cmd : Nat) : s.readOn .smb off cmd =
    (s.readReg off).1.emit
      (.smbRead (leBytes 8 (s.readReg off).2) ((s.readReg off).1.readPec cmd (leBytes 8 (s.readReg off).2))) := rfl

theorem State.smbSetAddr_taken (s : State) (w : SmbBlock) (hc : w.count = 4) (hl : w.data.length = 4)
    (ha : leNat (w.data.take 3) % 8 = 0) (hb : leNat (w.data.take 3) < 2 ^ 20) (hp : w.pec = .good) :
    s.smbSetAddr w = { s with smb := { addr := leNat (w.data.take 3), autoInc := bit (w.data.getD 3 0).toNat 0 } } := by
  have hhigh : bits (leNat (w.data.take 3)) 20 4 = 0 := by rw [bits, Nat.div_eq_of_lt hb, Nat.zero_mod]
  simp [State.smbSetAddr, hc, hl, ha, hhigh, hp]

theorem State.smbSetAddr_badCount (s : State) (w : SmbBlock) (hc : w.count ≠ 4) : s.smbSetAddr w = s.emit .smbNack := by
  simp [State.smbSetAddr, hc, State.smbRefuse]

theorem State.smbWrite_taken (s : State) (w : SmbBlock) (hc : w.count = 8) (hl : w.data.length = 8) (hp : w.pec = .good) :
    s.smbWrite w = (s.writeReg .smb s.smb.addr (leNat w.data)).smbAdvance := by
  simp [State.smbWrite, hc, hl, hp]

theorem State.smbWrite_wrongPec (s : State) (w : SmbBlock) (hc : w.count = 8) (hl : w.data.length = 8)
    (hp : w.pec = .wrong) : s.smbWrite w = (s.bump R.GLB.SETUP_RESP_SMB.PEC_ERR).emit .smbNack := by
  simp [State.smbWrite, hc, hl, hp, State.pecFail]

theorem effect_smbAlertResponse (s : State) (ha : s.awake = true) :
    effect .smbAlertResponse s (if s.alertN then s else s.emit (.smbAddress s.smbAddr)) := effect_of_live ha rfl

end Sys2Proof.Machine
end

section
/-! The statements about the scope: the queue, the outcome of a step, and set-up accesses. -/

namespace Sys2Proof.Machine

/-- Settles O1: the definition of a step at a queue that is not empty. -/
theorem stepRunsFrontCommand : Obligations.StepRunsFrontCommand := fun _ _ _ => rfl

/-- Settles O3: every command, and the tick of an empty queue, ends with the queue as it stood. -/
theorem everyStepAnswers : Obligations.EveryStepAnswers := step_answers

/-- Settles O4, by induction on the commands in front. -/
theorem queueRunsInOrder : Obligations.QueueRunsInOrder := by
  intro cs rest
  induction cs with
  | nil => exact fun s hq => ⟨s, rfl, hq⟩
  | cons c cs ih =>
    intro s hq
    obtain ⟨t, ht, hp⟩ := step_answers s
    obtain ⟨u, hu, hr⟩ := ih t (by rw [hp, hq]; rfl)
    exact ⟨u, by simpa [State.stepsOn, ht] using hu, hr⟩

/-- Settles O29: each command is `live` at its unit's operation, whose own lemma says what that is in each form. -/
theorem accessCommands : Obligations.AccessCommands := by
  intro s ha
  refine ⟨fun w hc hl hm hb hp => ?setAddr, fun w hc => ?setAddrNack, fun w hc hl hp => ?write,
    fun w hc hl hp => ?writePec, effect_of_live ha rfl, effect_of_live ha rfl, effect_of_live ha rfl,
    fun hn => ?alert, fun hn => ?noAlert, fun _ _ _ => effect_of_live ha rfl, fun _ _ => effect_of_live ha rfl,
    fun addr cmd => ?readOut, s.readReg_noRegister, fun off v path hr hp => ?badAddress,
    s.readReg_timTick, s.readReg_accFault_clears, s.readReg_accFault_counts⟩
  case setAddr => exact s.smbSetAddr_taken w hc hl hm hb hp ▸ effect_of_live ha rfl
  case setAddrNack => exact s.smbSetAddr_badCount w hc ▸ effect_of_live ha rfl
  case write => exact s.smbWrite_taken w hc hl hp ▸ effect_of_live ha rfl
  case writePec => exact s.smbWrite_wrongPec w hc hl hp ▸ effect_of_live ha rfl
  case alert => simpa [hn] using effect_smbAlertResponse s ha
  case noAlert => simpa [hn] using effect_smbAlertResponse s ha
  case readOut => rw [s.readOn_smb, State.emit]
  case badAddress => exact s.writeReg_noRegister path _ v.toNat hr hp ▸ effect_of_live ha rfl

end Sys2Proof.Machine
end

section
/-! What carrying a transition out leaves alone: the stack and its map, the mode requests and BUSY (14 R351, R354, R356, 16 R383,
R386, R387). -/

namespace Sys2Proof.Machine

/-- The parts of the state that a transition reports itself in, and the memory. -/
def State.transit (s : State) : Mem × Boot × Nat := (s.mem, s.boot, s.rd R.MOD.STATUS.BUSY)

/-- Two states of one transit agree in each of its parts. -/
theorem State.transit_eq_iff (s t : State) :
    s.transit = t.transit ↔ s.mem = t.mem ∧ s.boot = t.boot ∧ s.rd R.MOD.STATUS.BUSY = t.rd R.MOD.STATUS.BUSY := by
  simp [State.transit]

/-- Registers, memory and requests are all that a transition's transit looks at. -/
theorem State.transit_congr {s t : State} (hr : t.regs = s.regs) (hm : t.mem = s.mem) (hb : t.boot = s.boot) :
    t.transit = s.transit := by
  simp [State.transit, hm, hb, t.rd_congr s hr]

theorem State.wr_transit (s : State) (f : Fld) (v e : Nat) (h : R.MOD.STATUS.BUSY.id ≠ f.id) :
    (s.wr f v e).transit = s.transit := by
  simp [State.transit, State.rd_wr_field _ _ _ _ _ _ h]

/-- What keeps the transit at each element keeps it over a list. -/
theorem foldl_transit {α : Type} (f : State → α → State) (h : ∀ s x, (f s x).transit = s.transit) (l : List α)
    (s : State) : (l.foldl f s).transit = s.transit := by
  induction l generalizing s with
  | nil => rfl
  | cons a l ih => rw [List.foldl_cons, ih, h]

@[simp] theorem State.count_transit (s : State) (n k : Nat) : (s.count n k).transit = s.transit :=
  State.transit_congr (s.count_regs n k) (s.count_mem n k) (s.count_boot n k)

@[simp] theorem State.countChan_transit (s : State) (c k n : Nat) : (s.countChan c k n).transit = s.transit :=
  s.count_transit _ _

@[simp] theorem State.setChan_transit (s : State) (c : Nat) (x : Chan) : (s.setChan c x).transit = s.transit := rfl

@[simp] theorem State.charge_transit (s : State) (k : Charge) (c ply n : Nat) : (s.charge k c ply n).transit = s.transit := rfl

@[simp] theorem State.setCal_transit (s : State) (x : Cal) : ({ s with cal := x } : State).transit = s.transit := rfl

theorem State.setCalReg_transit (s : State) (x : Cal) (y : Reg) : ({ s with reg := y, cal := x } : State).transit = s.transit := rfl

@[simp] theorem State.setNarrow_transit (s : State) (c : Nat) (x : Narrow) : (s.setNarrow c x).transit = s.transit := rfl

@[simp] theorem State.refresh_transit (s : State) (c pc ply k : Nat) : (s.refresh c pc ply k).transit = s.transit := by
  unfold State.refresh State.put
  rw [State.wr_transit _ _ _ _ (by decide)]
  simp

@[simp] theorem State.refreshAll_transit (s : State) (c : Nat) : (s.refreshAll c).transit = s.transit := by
  refine foldl_transit _ (fun s n => ?_) _ s
  split <;> simp

@[simp] theorem State.wakeStack_transit (s : State) : s.wakeStack.transit = s.transit :=
  foldl_transit _ State.refreshAll_transit _ s

@[simp] theorem State.takeTrace_transit (s : State) (c n : Nat) (t : RowTrace) : (s.takeTrace c n t).transit = s.transit := by
  unfold State.takeTrace State.bump
  rw [State.charge_transit, State.wr_transit _ _ _ _ (by decide), State.wr_transit _ _ _ _ (by decide)]
  simp

@[simp] theorem State.fillBurst_transit (s : State) (c : Nat) (a : FillActs) : (s.fillBurst c a).transit = s.transit := by
  unfold State.fillBurst State.fillRow
  dsimp only
  split
  · rfl
  · split
    · rfl
    · simp only [State.setCal_transit, State.setChan_transit, State.charge_transit, State.takeTrace_transit]

@[simp] theorem State.clearSweep_transit (s : State) (c : Nat) : (s.clearSweep c).transit = s.transit := by
  simp (disch := decide) only [State.clearSweep, State.setCal_transit, State.wr_transit]

@[simp] theorem State.abandonSweep_transit (s : State) (c : Nat) : (s.abandonSweep c).transit = s.transit := by
  have hfill (t : State) (acts : List FillActs) : (t.fillBursts c acts).transit = t.transit :=
    foldl_transit _ (fun s a => s.fillBurst_transit c a) acts t
  show (s.stopSweep c).transit = s.transit
  unfold State.stopSweep
  split
  · exact (hfill _ _).trans (s.clearSweep_transit c)
  · split
    · exact s.clearSweep_transit c
    · rfl

@[simp] theorem State.openWindow_transit (s : State) (c : Nat) : (s.openWindow c).transit = s.transit := by
  unfold State.openWindow
  rw [State.wr_transit _ _ _ _ (by decide), State.setCalReg_transit, State.refreshAll_transit, State.abandonSweep_transit]

@[simp] theorem State.oweNarrow_transit (s : State) (c : Nat) : (s.oweNarrow c).transit = s.transit := by
  unfold State.oweNarrow
  dsimp only
  split <;> simp

@[simp] theorem State.requestPoint_transit (s : State) (p : Nat) : (s.requestPoint p).transit = s.transit := by
  refine (foldl_transit _ (fun s c => ?_) _ _).trans (s.wr_transit R.MOD.STATUS.POINT p 0 (by decide))
  split <;> simp

@[simp] theorem State.trainPoint_transit (s : State) (p : Nat) : (s.trainPoint p).transit = s.transit :=
  foldl_transit _ (fun s c => (s.setStamp c p).wr_transit R.CAL.STATUS.FILL_CAP 16 c (by decide)) _ s

end Sys2Proof.Machine
end

section
/-! How a request for a mode is judged (20 R461, R462), case by case. -/

namespace Sys2Proof.Machine

/-- A field other than the two statuses reads as before an answer of OK (R157). -/
theorem State.rd_respond_ok (s : State) (path : Path) (off : Nat) (g : Fld) (e : Nat)
    (hs : g.id ≠ R.GLB.SETUP_RESP_SMB.STATUS.id) (hr : g.id ≠ R.GLB.SETUP_RESP_RDMA.STATUS.id) :
    (s.respond path off 0).rd g e = s.rd g e := by
  cases path with
  | smb => exact (State.rd_wr_field _ _ _ _ _ _ hs).trans (s.count_rd 8 1 g e)
  | rdma c => exact (State.rd_wr_field _ _ _ _ _ _ hr).trans (s.count_rd 8 1 g e)

/-- An answer of OK changes registers and counters. -/
theorem State.respond_ok_frame (s : State) (path : Path) (off : Nat) :
    (s.respond path off 0).mem = s.mem ∧ (s.respond path off 0).per = s.per := by
  cases path <;> simp [State.respond]

theorem State.respond_ok_serving (s : State) (path : Path) (off : Nat) : (s.respond path off 0).serving = s.serving := by
  simp (disch := decide) only [State.serving, State.mode, State.rd_respond_ok]

theorem State.respond_ok_thermalHold (s : State) (path : Path) (off : Nat) :
    (s.respond path off 0).thermalHold = s.thermalHold := by
  simp (disch := decide) only [State.thermalHold, State.on, State.rd_respond_ok]

theorem State.respond_ok_sameMode (s : State) (path : Path) (off t p : Nat) :
    (s.respond path off 0).sameMode t p = s.sameMode t p := by
  simp (disch := decide) only [State.sameMode, State.mode, State.rd_respond_ok]

theorem State.modReq_inRound (s : State) (path : Path) (v : Nat) (hp : s.pathOk path = true) (hr : s.inRound = true)
    (hb : s.booting = false) (h1 : 1 ≤ part v R.MOD.REQ.TARGET) (h4 : part v R.MOD.REQ.TARGET ≤ 4) :
    s.modReq path v = { s with boot := { s.boot with held := s.boot.held ++ [(v, some path)] } } := by
  simp [State.modReq, hp, hr, hb, h1, h4]

/-- Outside a round, in Boot, and for a reset, a request is judged at once (R462). -/
theorem State.modReq_judged (s : State) (path : Path) (v : Nat)
    (h : s.inRound = false ∨ s.booting = true ∨ part v R.MOD.REQ.TARGET = 5) : s.modReq path v = s.judgeReq path v := by
  unfold State.modReq
  refine if_neg fun ⟨hr, hb, _, h4, _⟩ => ?_
  rcases h with h | h | h
  · simp [h] at hr
  · exact hb h
  · omega

/-- A refused request has its answer and no other effect (R462). -/
theorem State.judgeReq_refused (s : State) (path : Path) (v : Nat) (hp : s.pathOk path = true) (h : s.reqStatus v ≠ 0) :
    s.judgeReq path v = s.respond path 0x1008 (s.reqStatus v) := by
  simp [State.judgeReq, State.setup, hp, h]

theorem State.judgeReq_reset (s : State) (path : Path) (v : Nat) (hp : s.pathOk path = true) (h : s.reqStatus v = 0)
    (ht : part v R.MOD.REQ.TARGET = 5) :
    s.judgeReq path v = (s.respond path 0x1008 0).requestReset (part v R.MOD.REQ.END_MAINT == 1) := by
  simp [State.judgeReq, State.setup, hp, h, ht]

/-- The state after an accepted request, thermal hold aside: the answer, and a transition unless the mode and point are in use
already (R461). -/
theorem State.judgeReq_ok (s : State) (path : Path) (v : Nat) (hp : s.pathOk path = true) (h : s.reqStatus v = 0)
    (ht : part v R.MOD.REQ.TARGET ≠ 5) (hh : s.thermalHold = false) :
    s.judgeReq path v =
      if s.sameMode (part v R.MOD.REQ.TARGET) (part v R.MOD.REQ.POINT) then s.respond path 0x1008 0
      else (s.respond path 0x1008 0).startChange (part v R.MOD.REQ.TARGET) (part v R.MOD.REQ.POINT) := by
  simp [State.judgeReq, State.setup, State.startRequest, State.respond_ok_thermalHold, State.respond_ok_sameMode, hp, h, ht, hh]

theorem State.reqStatus_reset (s : State) (v : Nat) (ht : part v R.MOD.REQ.TARGET = 5) :
    s.reqStatus v = if part v R.MOD.REQ.CONFIRM = 0xA5 then stOk else stMalformed := by
  by_cases hc : part v R.MOD.REQ.CONFIRM = 0xA5 <;> simp [State.reqStatus, ht, hc]

/-- A request that names a mode and, for Ease, a point is denied in Boot (R462). -/
theorem State.reqStatus_booting (s : State) (v : Nat) (hb : s.booting = true) (h1 : 1 ≤ part v R.MOD.REQ.TARGET)
    (h4 : part v R.MOD.REQ.TARGET ≤ 4) (hp : part v R.MOD.REQ.TARGET = 2 → part v R.MOD.REQ.POINT ≠ 0) :
    s.reqStatus v = stDenied := by
  unfold State.reqStatus
  dsimp only
  rw [if_neg (by omega), if_neg (by omega), if_pos (Or.inl hb)]

/-- What the acceptance of a request for a mode needs: no transition in progress, and outside thermal hold, for a change of mode or
point, the status OK that the rules give the change (R462). -/
theorem State.reqStatus_ok (s : State) (v : Nat) (h : s.reqStatus v = 0) (ht : part v R.MOD.REQ.TARGET ≠ 5) :
    s.on R.MOD.STATUS.BUSY = false ∧ (s.thermalHold = false →
      s.sameMode (part v R.MOD.REQ.TARGET) (part v R.MOD.REQ.POINT) = false →
      s.changeStatus (part v R.MOD.REQ.TARGET) (part v R.MOD.REQ.POINT) = 0) := by
  unfold State.reqStatus at h
  dsimp only at h
  split at h
  · exact absurd h (by decide)
  · split at h
    · exact absurd h (by decide)
    · next hfree =>
      rw [not_or, Bool.not_eq_true, Bool.not_eq_true] at hfree
      exact ⟨hfree.2, fun hh hm => by simpa [hh, hm] using h⟩

/-- What a change needs, of the grounds of R462: a transition that R461 gives, for Serve no temperature above the throttle clear
level, and for Hold and Maintenance a module that is neither SYNCING nor PAIRED. -/
theorem State.changeStatus_ok (s : State) (t p : Nat) (h : s.changeStatus t p = 0) :
    reqAllowed s.mode t = true ∧ (t = 1 → s.tooHot = false) ∧
      (3 ≤ t → ¬ (s.rd R.TCK.STATUS.PAIR = 1 ∨ s.rd R.TCK.STATUS.PAIR = 2)) := by
  refine ⟨?allowed, fun h1 => ?cool, fun h3 hpair => ?unpaired⟩
  case allowed =>
    rw [← Bool.not_eq_false]
    intro hn
    simp [State.changeStatus, hn, stDenied] at h
  case cool =>
    rw [← Bool.not_eq_true]
    intro hot
    simp [State.changeStatus, h1, hot, stDenied] at h
  case unpaired => simp [State.changeStatus, h3, hpair, stDenied] at h

end Sys2Proof.Machine
end

section
/-! The transition that an accepted request starts, and the reset that one asks for (20 R457, R461, R463). -/

namespace Sys2Proof.Machine

theorem State.setTarget_busy (s : State) (t p : Nat) : (s.setTarget t p).rd R.MOD.STATUS.BUSY = 1 := State.rd_wr_same _ _ _ _

/-- A transition that ends client service only marks it so; whatever else one starts keeps the stored state, the target and
BUSY as they were set (R463). -/
theorem State.startChange_transit (s : State) (t p : Nat) (h : ¬ (3 ≤ t ∧ s.serving = true)) :
    (s.startChange t p).transit = (s.setTarget t (if t = 1 then 0 else p)).transit := by
  unfold State.startChange
  dsimp only
  split
  · next h3 =>
    rw [if_neg fun hs => h ⟨h3, hs⟩]
    split <;> simp
  · split
    · simp
    · split <;> simp

theorem State.startChange_ending (s : State) (t p : Nat) (h3 : 3 ≤ t) (hs : s.serving = true) :
    s.startChange t p =
      { s.setTarget t p with boot := { (s.setTarget t p).boot with draining := true } } := by
  have h1 : t ≠ 1 := by omega
  simp [State.startChange, h3, hs, h1]

/-- An accepted transition has its target and BUSY, and the stack is as it was; where client service is to end it is ending
(R27, R463). -/
theorem State.startChange_sets (s : State) (t p : Nat) :
    (s.startChange t p).boot.target = t ∧ (s.startChange t p).rd R.MOD.STATUS.BUSY = 1 ∧ (s.startChange t p).mem = s.mem ∧
      (3 ≤ t → s.serving = true → (s.startChange t p).boot.draining = true) := by
  by_cases h : 3 ≤ t ∧ s.serving = true
  · rw [s.startChange_ending t p h.1 h.2]
    exact ⟨rfl, s.setTarget_busy t p, rfl, fun _ _ => rfl⟩
  · obtain ⟨hm, hb, hbusy⟩ := (State.transit_eq_iff _ _).mp (s.startChange_transit t p h)
    exact ⟨by rw [hb]; rfl, by rw [hbusy, State.setTarget_busy], hm, fun h3 hs => absurd ⟨h3, hs⟩ h⟩

/-- What Boot step 1 takes from the OTP leaves the mode and the OTP's own words as they are (R457). -/
theorem State.otpBoot_frame (s : State) :
    s.otpBoot.mode = s.mode ∧ s.otpBoot.per.otp = s.per.otp := by
  unfold State.otpBoot State.mode State.put
  dsimp only
  constructor
  · split <;> split <;>
      simp (disch := decide) only [State.rd_raise, State.rd_wr_field] <;> rfl
  · split <;> split <;> simp

theorem State.rd_setClocks (s : State) (x : Clocks) (f : Fld) (e : Nat) : ({ s with clocks := x } : State).rd f e = s.rd f e := rfl

/-- A reset leads to Boot, with the OTP as it was (R457). -/
theorem State.reboot_frame (s : State) : s.reboot.mode = modeBoot ∧ s.reboot.per.otp = s.per.otp := by
  unfold State.reboot State.patBoot
  dsimp only
  constructor
  · rw [State.mode, State.rd_wr_field _ _ _ _ _ _ (by decide)]
    refine (State.otpBoot_frame _).1.trans ?_
    simp (disch := decide) only [State.mode, State.rd_setClocks, State.rd_wr_field]
    exact State.rd_congr _ State.reset rfl _ _
  · exact (State.otpBoot_frame _).2

/-- A requested reset leads to Boot, which ends as the request says, with the stored bytes and the OTP as they were (R461). -/
theorem State.requestReset_sets (s : State) (maint : Bool) :
    (s.requestReset maint).boot.endMaint = some maint ∧ (s.requestReset maint).mode = modeBoot ∧
      (s.requestReset maint).mem.cells = s.mem.cells ∧ (s.requestReset maint).per.otp = s.per.otp :=
  ⟨rfl, s.reboot_frame.1, s.reboot_cells, s.reboot_frame.2⟩

end Sys2Proof.Machine
end

section
/-! The statements about modes and their transitions (01 R26, R27, 20 R461-R463). -/

namespace Sys2Proof.Machine

/-- A module in Serve on its way to Hold, its work done, with one map line in the map cache. -/
def drainedForHold : State :=
  { State.reset.wr R.MOD.STATUS.MODE modeServe with boot := { target := 3, draining := true }, mem := { mapCache := [0] } }

/-- The module meets every condition on which SERVICE_DRAINED ends its service, and the end leaves its map cache. -/
theorem drainedForHold_keeps_mapCache :
    (drainedForHold.awake = true ∧ drainedForHold.boot.draining = true ∧ drainedForHold.workDone = true ∧
      drainedForHold.framesDone = true ∧ drainedForHold.tack.handover = false) ∧
    drainedForHold.boot.target ≠ 5 ∧ drainedForHold.endService.mem.mapCache = [0] := by
  decide +kernel

/-- Refutes O54 by `drainedForHold`: the end of client service leaves the map cache as it is, which is forgotten only as Hold or
Maintenance is entered (`State.restStack`, `State.portsOff`). -/
theorem not_modeTransitions : ¬ Obligations.ModeTransitions := by
  unfold Obligations.ModeTransitions
  intro h
  obtain ⟨⟨hawake, -⟩, htarget, hcache⟩ := drainedForHold_keeps_mapCache
  obtain ⟨-, -, ⟨-, hforgets⟩, -⟩ := h drainedForHold hawake
  rw [hforgets htarget] at hcache
  exact absurd hcache (by decide)

/-- The five commands of a request are one write of MOD.REQ. -/
theorem effect_modReq {s : State} {v : BitVec 64} {path : Path} {c : Instr} {t : Nat} (ha : s.awake = true)
    (hc : c = .modeReqServe v path ∧ t = 1 ∨ c = .modeReqEase v path ∧ t = 2 ∨ c = .modeReqHold v path ∧ t = 3 ∨
      c = .modeReqMaintenance v path ∧ t = 4 ∨ c = .modeReqReset v path ∧ t = 5) :
    effect c s (s.modReq path v.toNat) ∧ 1 ≤ t := by
  rcases hc with ⟨rfl, rfl⟩ | ⟨rfl, rfl⟩ | ⟨rfl, rfl⟩ | ⟨rfl, rfl⟩ | ⟨rfl, rfl⟩ <;>
    exact ⟨effect_of_live ha rfl, by decide⟩

/-- Settles O53: each command is a write of MOD.REQ, held in a round and else judged; what an accepted one starts is
`State.startChange_sets` and `State.requestReset_sets`. -/
theorem modeRequests : Obligations.ModeRequests := by
  intro s v path c t ha hp hc ht
  obtain ⟨he, h1⟩ := effect_modReq ha hc
  subst ht
  refine ⟨fun hr hb h4 => ?held, fun hb h4 hpt => ?booting, fun hr hb h4 => ?judged, fun h5 hc => ?malformed,
    fun h5 hc => ?reset⟩
  case held => rwa [s.modReq_inRound path _ hp hr hb h1 h4] at he
  case booting =>
    have hst := s.reqStatus_booting _ hb h1 h4 hpt
    rwa [s.modReq_judged path _ (.inr (.inl hb)), s.judgeReq_refused path _ hp (by rw [hst]; decide), hst] at he
  case malformed =>
    have hst : s.reqStatus v.toNat = stMalformed := (s.reqStatus_reset _ h5).trans (if_neg hc)
    rwa [s.modReq_judged path _ (.inr (.inr h5)), s.judgeReq_refused path _ hp (by rw [hst]; decide), hst] at he
  case reset =>
    have hst : s.reqStatus v.toNat = 0 := (s.reqStatus_reset _ h5).trans (if_pos hc)
    rw [s.modReq_judged path _ (.inr (.inr h5)), s.judgeReq_reset path _ hp hst h5] at he
    obtain ⟨hm, hper⟩ := s.respond_ok_frame path 0x1008
    obtain ⟨hend, hmode, hcells, hotp⟩ :=
      (s.respond path 0x1008 0).requestReset_sets (part v.toNat R.MOD.REQ.END_MAINT == 1)
    exact ⟨_, he, hend, hmode, by rw [hcells, hm], by rw [hotp, hper]⟩
  case judged =>
    have h5 : part v.toNat R.MOD.REQ.TARGET ≠ 5 := by omega
    rw [s.modReq_judged path _ (.inl hr)] at he
    have hchange (hst : s.reqStatus v.toNat = 0) hh hm := s.changeStatus_ok _ _ ((s.reqStatus_ok _ hst h5).2 hh hm)
    refine ⟨fun st hst h0 => ?refused, fun hst hh hm => ?same, fun hst hh hm => ?change, fun hb hst => ?busy,
      fun _ hh hm hn hst => ?notAllowed, fun hh hm => ⟨fun h1 hot hst => ?hot, fun h3 hpair hst => ?paired⟩⟩
    case refused =>
      subst hst
      rwa [s.judgeReq_refused path _ hp h0] at he
    case same => rwa [s.judgeReq_ok path _ hp hst h5 hh, if_pos hm] at he
    case change =>
      rw [s.judgeReq_ok path _ hp hst h5 hh, if_neg (by simp [hm])] at he
      obtain ⟨htarget, hbusy, hmem, hdrain⟩ := (s.respond path 0x1008 0).startChange_sets
        (part v.toNat R.MOD.REQ.TARGET) (part v.toNat R.MOD.REQ.POINT)
      rw [s.respond_ok_serving] at hdrain
      exact ⟨_, he, htarget, hbusy, hmem.trans (s.respond_ok_frame path 0x1008).1, hdrain⟩
    case busy => exact absurd (s.reqStatus_ok _ hst h5).1 (by simp [hb])
    case notAllowed => exact absurd (hchange hst hh hm).1 (by simp [hn])
    case hot => exact absurd ((hchange hst hh hm).2.1 h1) (by simp [hot])
    case paired => exact (hchange hst hh hm).2.2 h3 hpair

end Sys2Proof.Machine
end

section
/-! Bits of a number and of a field (00 R6, R15). -/

namespace Sys2Proof.Machine

theorem bit_eq_testBit (v i : Nat) : bit v i = v.testBit i := Nat.testBit_eq_decide_div_mod_eq.symm

theorem bit_mod_two_pow (v w i : Nat) (h : i < w) : bit (v % 2 ^ w) i = bit v i := by
  simp [bit_eq_testBit, h]

/-- The bits above a bit that is clear see nothing of its being added: there is no carry. -/
theorem div_two_pow_add_clear {v i j : Nat} (h : bit v i = false) (hj : i < j) : (v + 2 ^ i) / 2 ^ j = v / 2 ^ j := by
  obtain ⟨k, rfl⟩ : ∃ k, j = i + 1 + k := ⟨j - (i + 1), by omega⟩
  have hlow : v % 2 ^ (i + 1) < 2 ^ i := by
    have hbit : v / 2 ^ i % 2 = 0 := by simpa [bit] using h
    rw [Nat.mod_pow_succ, hbit, Nat.mul_zero, Nat.add_zero]
    exact Nat.mod_lt v (Nat.two_pow_pos i)
  have hv := Nat.div_add_mod v (2 ^ (i + 1))
  have hsum : v + 2 ^ i = v % 2 ^ (i + 1) + 2 ^ i + 2 ^ (i + 1) * (v / 2 ^ (i + 1)) := by omega
  have hsmall : (v % 2 ^ (i + 1) + 2 ^ i) / 2 ^ (i + 1) = 0 := Nat.div_eq_of_lt (by rw [Nat.pow_succ] at *; omega)
  rw [Nat.pow_add, ← Nat.div_div_eq_div_mul, ← Nat.div_div_eq_div_mul, hsum,
    Nat.add_mul_div_left _ _ (Nat.two_pow_pos _), hsmall, Nat.zero_add]

/-- Setting a bit sets that bit and no other. -/
theorem bit_setBit_true (v i j : Nat) : bit (setBit v i true) j = (j == i || bit v j) := by
  unfold setBit
  cases h : bit v i with
  | true =>
    by_cases hj : j = i <;> simp [hj, h]
  | false =>
    rw [if_neg (by simp), if_pos rfl]
    rcases Nat.lt_trichotomy j i with hlt | rfl | hgt
    · simp [bit_eq_testBit, Nat.add_comm v, Nat.testBit_two_pow_add_gt hlt, Nat.ne_of_lt hlt]
    · simpa [bit_eq_testBit, Nat.add_comm v, Nat.testBit_two_pow_add_eq] using h
    · rw [bit, div_two_pow_add_clear h hgt, ← bit]
      simp [Nat.ne_of_gt hgt]

theorem State.rdBit_wrBit_true (s : State) (f : Fld) (i j e : Nat) (h : j < f.width) :
    (s.wrBit f i true e).rdBit f j e = (j == i || s.rdBit f j e) := by
  rw [State.wrBit, State.rdBit, State.rd_wr_same, bit_mod_two_pow _ _ _ h, bit_setBit_true, State.rdBit]

theorem State.rdBit_wrBit_other (s : State) (f : Fld) (i j e : Nat) (h : j ≠ i) :
    (s.wrBit f i true e).rdBit f j e = s.rdBit f j e := by
  by_cases hj : j < f.width
  · simp [State.rdBit_wrBit_true _ _ _ _ _ hj, h]
  · have hclear (t : State) : t.rdBit f j e = false := by
      have hlt : t.rd f e < 2 ^ j := Nat.lt_of_lt_of_le (t.rd_lt f e) (Nat.pow_le_pow_right (by decide) (by omega))
      rw [State.rdBit, bit_eq_testBit, Nat.testBit_lt_two_pow hlt]
    rw [hclear, hclear]

/-- A count field that is advanced stops at its largest value. -/
theorem State.rd_bump_same (s : State) (f : Fld) (e n : Nat) : (s.bump f e n).rd f e = min (s.rd f e + n) f.max := by
  have hmax : f.max < 2 ^ f.width := Nat.sub_lt (Nat.two_pow_pos _) Nat.one_pos
  rw [State.bump, State.rd_wr_same, Nat.mod_eq_of_lt (Nat.lt_of_le_of_lt (Nat.min_le_right _ _) hmax)]

theorem State.rd_bump_field (s : State) (f g : Fld) (e n j : Nat) (h : g.id ≠ f.id) : (s.bump f e n).rd g j = s.rd g j :=
  s.rd_wr_field f g _ e j h

end Sys2Proof.Machine
end

section
/-! Loops over channels and other numbered parts. -/

namespace Sys2Proof.Machine

/-- What every step of a loop keeps the loop keeps. -/
theorem foldl_keeps {α β : Type} (f : State → α → State) (view : State → β) (l : List α)
    (h : ∀ s, ∀ x ∈ l, view (f s x) = view s) (s : State) : view (l.foldl f s) = view s := by
  induction l generalizing s with
  | nil => rfl
  | cons x l ih => rw [List.foldl_cons, ih (fun s y hy => h s y (by simp [hy])), h s x (by simp)]

/-- A loop in which each element gives its own entry of a table one value, and changes no other entry: every entry of the list ends
with that value. -/
theorem foldl_sets {α : Type} (f : State → Nat → State) (g : State → Nat → α) (v : α) (hself : ∀ s k, g (f s k) k = v)
    (hother : ∀ s k j, j ≠ k → g (f s k) j = g s j) {l : List Nat} {j : Nat} (hj : j ∈ l) (s : State) :
    g (l.foldl f s) j = v := by
  induction l generalizing s with
  | nil => simp at hj
  | cons k l ih =>
    rw [List.foldl_cons]
    by_cases hl : j ∈ l
    · exact ih hl _
    · obtain rfl : j = k := by simpa [hl] using hj
      have hne (x : Nat) (hx : x ∈ l) : j ≠ x := fun h => hl (h ▸ hx)
      rw [foldl_keeps f (g · j) l (fun s x hx => hother s x j (hne x hx)), hself]

/-- A loop in which each element gives its own entry of a table a value, and changes neither the entry nor that value of another:
each entry of the list ends with the value that the state before the loop gives it. -/
theorem foldl_each {α : Type} (f : State → Nat → State) (g v : State → Nat → α) (l : List Nat)
    (hself : ∀ s, ∀ k ∈ l, g (f s k) k = v s k)
    (hother : ∀ s, ∀ k ∈ l, ∀ j, j ≠ k → g (f s k) j = g s j ∧ v (f s k) j = v s j)
    (hl : l.Nodup) (s : State) (j : Nat) : g (l.foldl f s) j = if j ∈ l then v s j else g s j := by
  induction l generalizing s with
  | nil => rfl
  | cons k l ih =>
    obtain ⟨hk, hl⟩ := List.nodup_cons.mp hl
    rw [List.foldl_cons, ih (fun s i hi => hself s i (by simp [hi])) (fun s i hi => hother s i (by simp [hi])) hl]
    by_cases hj : j = k
    · subst hj
      simp [hk, hself s j]
    · obtain ⟨hg, hv⟩ := hother s k (by simp) j hj
      simp [hj, hg, hv]

end Sys2Proof.Machine
end

section
/-! Codewords in the stack, key by key (02 R38, 13 R318). -/

namespace Sys2Proof.Machine

/-- The runs of 72 bytes of two keys do not overlap. -/
theorem cellsOf_putBytes_other (m : SMap Byte) (w : List Byte) (k j : Nat) (hw : w.length = 72) (h : j ≠ k) :
    cellsOf (putBytes m (k * 72) w) j = cellsOf m j := by
  refine List.map_congr_left fun i hi => putBytes_get_other m _ _ w ?_
  have hlt : i < 72 := List.mem_range.mp hi
  omega

/-- Settles O58: each clause reads one part of the memory that the store leaves, by the laws of its maps. -/
theorem storedSectorReadsBack : Obligations.StoredSectorReadsBack := by
  intro s k w hw
  refine ⟨s.storeAt_read w k hw, SMap.get_put_same _ _ _ _, fun j hj => ⟨?_, SMap.get_put_other _ _ _ _ _ hj⟩, rfl, rfl,
    s.storeAt_wf w k⟩
  exact cellsOf_putBytes_other s.mem.cells w k j hw hj

end Sys2Proof.Machine
end

section
/-! The sticky bits of the fault collector after a raise (19 R443). -/

namespace Sys2Proof.Machine

theorem stickyField_width (i : Nat) : (stickyField i).width = 64 := by unfold stickyField; split <;> rfl

/-- A write of any other register than the two sticky words leaves every sticky bit alone. -/
theorem State.wr_sticky (s : State) (f : Fld) (v e k : Nat) (h0 : R.FLT.STICKY0.STICKY.id ≠ f.id)
    (h1 : R.FLT.STICKY1.STICKY.id ≠ f.id) : (s.wr f v e).sticky k = s.sticky k := by
  have hk : (stickyField k).id ≠ f.id := by unfold stickyField; split <;> assumption
  rw [State.sticky, State.rdBit, State.rd_wr_field _ _ _ _ _ _ hk, State.sticky, State.rdBit]

/-- The sticky bits are registers. -/
theorem State.sticky_congr {s t : State} (h : s.regs = t.regs) (k : Nat) : s.sticky k = t.sticky k := by
  rw [State.sticky, State.rdBit, s.rd_congr t h, State.sticky, State.rdBit]

@[simp] theorem State.count_sticky (s : State) (n m k : Nat) : (s.count n m).sticky k = s.sticky k :=
  State.sticky_congr (s.count_regs n m) k

@[simp] theorem State.recordLast_sticky (s : State) (i k : Nat) (b : Bool) : (s.recordLast i b).sticky k = s.sticky k := by
  unfold State.recordLast State.bump State.put
  dsimp only
  split <;> simp (disch := decide) only [State.wr_sticky]

@[simp] theorem State.aliveFollow_sticky (s : State) (k : Nat) : s.aliveFollow.sticky k = s.sticky k := by
  have hheld (b : Bool) : (s.put R.FLT.ALIVE.PIN_HELD b).sticky k = s.sticky k := s.wr_sticky _ _ _ _ (by decide) (by decide)
  unfold State.aliveFollow
  dsimp only
  split
  · simp (disch := decide) only [State.wr_sticky, hheld]
  · split
    · exact hheld _
    · refine (State.sticky_congr (t := State.wr (State.wr _ R.FLT.ALIVE.LEVEL 1) R.FLT.ALIVE.TOGGLING 1) rfl k).trans ?_
      simp (disch := decide) only [State.wr_sticky, hheld]

@[simp] theorem State.hold_sticky (s : State) (i j k : Nat) (b : Bool) :
    (s.wrBit (holdField i) j b).sticky k = s.sticky k := by
  unfold State.wrBit holdField
  split <;> exact s.wr_sticky _ _ _ _ (by decide) (by decide)

theorem State.sticky_wrBit_same (s : State) (i : Nat) : (s.wrBit (stickyField i) (i % 64) true).sticky i = true := by
  rw [State.sticky, State.rdBit_wrBit_true _ _ _ _ _ (by rw [stickyField_width]; omega)]
  simp

/-- The sticky bit of a source is set once it has been raised. -/
theorem State.raise_sticky (s : State) (i : Nat) (u : Block) (b : Bool) : (s.raise i u b).sticky i = true := by
  show (s.markFault i b).sticky i = true
  have hcount (t : State) : (t.bump R.FLT.SRC.COUNT i).sticky i = t.sticky i := t.wr_sticky _ _ _ _ (by decide) (by decide)
  unfold State.markFault
  dsimp only
  split <;> split <;>
    simp only [State.aliveFollow_sticky, State.hold_sticky, State.recordLast_sticky, State.count_sticky, hcount,
      State.sticky_wrBit_same]

end Sys2Proof.Machine
end

section
/-! The leaky buckets, the scrubber's read, and the on-die memories (15 R366, R369-R373). -/

namespace Sys2Proof.Machine

/-- A bucket's level, and whether it is armed. -/
def State.bucket (s : State) (c : Nat) : Nat × Bool := (s.rd R.ECC.BUCKET.LEVEL c, s.rdBit R.ECC.BUCKET_OVF.ARMED c)

/-- The level and the arming that a leak gives a bucket (R366). -/
def State.leaked (s : State) (c : Nat) : Nat × Bool :=
  let v := min ((s.bucket c).1 - 1) (s.rd R.ECC.CFG.DEPTH)
  (v, decide (v ≤ s.rd R.ECC.CFG.REARM) || (s.bucket c).2)

/-- Everything beside the registers. -/
def State.offRegs (s : State) : State := { s with regs := {} }

theorem State.offRegs_frame {s t : State} (h : t.offRegs = s.offRegs) :
    t.mem = s.mem ∧ t.pmc = s.pmc ∧ t.out = s.out ∧ t.due = s.due :=
  ⟨(congrArg State.mem h :), (congrArg State.pmc h :), (congrArg State.out h :), (congrArg State.due h :)⟩

theorem State.leak_offRegs (s : State) (c : Nat) : (s.leak c).offRegs = s.offRegs := by
  unfold State.leak
  dsimp only
  split <;> rfl

/-- A leak writes the level of its bucket and the bits of arming. -/
theorem State.rd_leak (s : State) (c : Nat) (g : Fld) (e : Nat) (hl : g.id ≠ R.ECC.BUCKET.LEVEL.id)
    (ha : g.id ≠ R.ECC.BUCKET_OVF.ARMED.id) : (s.leak c).rd g e = s.rd g e := by
  unfold State.leak
  dsimp only
  split
  · rw [State.wrBit, State.rd_wr_field _ _ _ _ _ _ ha, State.rd_wr_field _ _ _ _ _ _ hl]
  · exact s.rd_wr_field _ _ _ _ _ hl

/-- What a write of a bucket's level leaves of the words of arming. -/
theorem State.rdBit_armed_level (s : State) (v c j : Nat) :
    (s.wr R.ECC.BUCKET.LEVEL v c).rdBit R.ECC.BUCKET_OVF.ARMED j = s.rdBit R.ECC.BUCKET_OVF.ARMED j := by
  rw [State.rdBit, State.rd_wr_field _ _ _ _ _ _ (by decide), State.rdBit]

/-- What setting a bit of arming leaves of the levels. -/
theorem State.rd_level_armed (s : State) (c j : Nat) :
    (s.wrBit R.ECC.BUCKET_OVF.ARMED c true).rd R.ECC.BUCKET.LEVEL j = s.rd R.ECC.BUCKET.LEVEL j :=
  s.rd_wr_field _ _ _ _ _ (by decide)

theorem State.leaked_armed (s : State) (c : Nat) : (s.leaked c).2 =
    (decide ((s.leaked c).1 ≤ s.rd R.ECC.CFG.REARM) || s.rdBit R.ECC.BUCKET_OVF.ARMED c) := rfl

theorem State.leak_bucket_same (s : State) (c : Nat) (h : c < 32) : (s.leak c).bucket c = s.leaked c := by
  have hlevel : (s.wr R.ECC.BUCKET.LEVEL (s.leaked c).1 c).rd R.ECC.BUCKET.LEVEL c = (s.leaked c).1 := by
    have hlt : s.rd R.ECC.BUCKET.LEVEL c < 2 ^ 8 := s.rd_lt R.ECC.BUCKET.LEVEL c
    rw [State.rd_wr_same]
    exact Nat.mod_eq_of_lt (Nat.lt_of_le_of_lt (Nat.min_le_left _ _) (Nat.lt_of_le_of_lt (Nat.sub_le _ _) hlt))
  have hrearm : (s.wr R.ECC.BUCKET.LEVEL (s.leaked c).1 c).rd R.ECC.CFG.REARM = s.rd R.ECC.CFG.REARM :=
    s.rd_wr_field _ _ _ _ _ (by decide)
  show State.bucket (if (s.leaked c).1 ≤ (s.wr R.ECC.BUCKET.LEVEL (s.leaked c).1 c).rd R.ECC.CFG.REARM
      then (s.wr R.ECC.BUCKET.LEVEL (s.leaked c).1 c).wrBit R.ECC.BUCKET_OVF.ARMED c true
      else s.wr R.ECC.BUCKET.LEVEL (s.leaked c).1 c) c = s.leaked c
  rw [hrearm]
  split
  · next hle =>
    rw [State.bucket, State.rd_level_armed, hlevel, State.rdBit_wrBit_true _ _ _ _ _ h]
    exact Prod.ext rfl (by simp [State.leaked_armed, hle])
  · next hle =>
    rw [State.bucket, hlevel, State.rdBit_armed_level]
    exact Prod.ext rfl (by simp [State.leaked_armed, hle])

theorem State.leak_bucket_other (s : State) (c j : Nat) (h : j ≠ c) : (s.leak c).bucket j = s.bucket j := by
  unfold State.leak State.bucket
  dsimp only
  split
  · rw [State.rd_level_armed, State.rd_wr_entry _ _ _ _ _ _ h, State.rdBit_wrBit_other _ _ _ _ _ h, State.rdBit_armed_level]
  · rw [State.rd_wr_entry _ _ _ _ _ _ h, State.rdBit_armed_level]

/-- A leak of another bucket changes nothing that a bucket's own leak gives it. -/
theorem State.leak_leaked_other (s : State) (c j : Nat) (h : j ≠ c) : (s.leak c).leaked j = s.leaked j := by
  simp (disch := decide) only [State.leaked, State.leak_bucket_other _ _ _ h, State.rd_leak]

/-- After a leak of every bucket each holds what its own leak gives it (R366). -/
theorem State.leakAll_bucket (s : State) (c : Fin 32) : ((List.range 32).foldl State.leak s).bucket c = s.leaked c := by
  rw [foldl_each State.leak State.bucket State.leaked (List.range 32)
    (fun s k hk => s.leak_bucket_same k (List.mem_range.mp hk))
    (fun s k _ j hj => ⟨s.leak_bucket_other k j hj, s.leak_leaked_other k j hj⟩) List.nodup_range,
    if_pos (List.mem_range.mpr c.isLt)]

theorem State.leakAll_offRegs (s : State) : ((List.range 32).foldl State.leak s).offRegs = s.offRegs :=
  foldl_keeps State.leak State.offRegs _ (fun s c _ => s.leak_offRegs c) s

/-- The scrubber reads nothing at a channel that has something else to issue, nothing left to walk or no more of the rate (R371). -/
theorem State.scrubRead_idle (s : State) (c : Nat) (noise : ReadNoise)
    (h : s.idleFor c 65 = false ∨ s.scrubNext c = none ∨ s.scrub.grant ≤ s.scrub.taken.get 0 c) :
    s.scrubRead c noise = s := by
  unfold State.scrubRead
  split
  · rfl
  · next hfree =>
    obtain ⟨hleft, hidle⟩ := Decidable.not_not.mp hfree
    have htaken : s.scrub.taken.get 0 c < s.scrub.grant := of_decide_eq_true hleft
    rcases h with h | h | h
    · simp [h] at hidle
    · rw [h]
    · omega

/-- A write of the log's control register with POP set drops the oldest entry (R358). -/
theorem State.writeErrlog_pop (s : State) (c : Nat) :
    s.writeErrlog c 1 = (s.setChan c { s.chan c with log := (s.chan c).log.drop 1 }).accept := rfl

/-- An uncorrectable fetch of the Thimble counts in both counts of the on-die memories (R369). -/
theorem State.rd_fetchCounts (s : State) :
    ((s.bump R.ECC.SRAM.UNCORR).bump R.ECC.SRAM.THIMBLE_TRAPS).rd R.ECC.SRAM.UNCORR =
        min (s.rd R.ECC.SRAM.UNCORR + 1) R.ECC.SRAM.UNCORR.max ∧
      ((s.bump R.ECC.SRAM.UNCORR).bump R.ECC.SRAM.THIMBLE_TRAPS).rd R.ECC.SRAM.THIMBLE_TRAPS =
        min (s.rd R.ECC.SRAM.THIMBLE_TRAPS + 1) R.ECC.SRAM.THIMBLE_TRAPS.max := by
  constructor
  · rw [State.rd_bump_field _ _ _ _ _ _ (by decide), State.rd_bump_same]
  · rw [State.rd_bump_same, State.rd_bump_field _ _ _ _ _ _ (by decide)]

/-- A bad line of the map cache is counted, raised and dropped (R369). -/
theorem State.sramBad_mapLine (s : State) (k : BitVec 20) :
    (s.sramBad (.mapLine k)).rd R.ECC.SRAM.UNCORR = min (s.rd R.ECC.SRAM.UNCORR + 1) R.ECC.SRAM.UNCORR.max ∧
      (s.sramBad (.mapLine k)).sticky Src.sramUc = true ∧
      (s.sramBad (.mapLine k)).mem.mapCache.contains k.toNat = false ∧ (s.sramBad (.mapLine k)).mem.map = s.mem.map := by
  have heq : s.sramBad (.mapLine k) = { (s.bump R.ECC.SRAM.UNCORR).raise Src.sramUc with
      mem := { s.mem with mapCache := s.mem.mapCache.filter (· != k.toNat) } } := by
    simp [State.sramBad]
  have hregs : (s.sramBad (.mapLine k)).regs = ((s.bump R.ECC.SRAM.UNCORR).raise Src.sramUc).regs := by rw [heq]
  refine ⟨?count, ?raised, ?dropped, ?map⟩
  case count => rw [State.rd_congr _ _ hregs, State.rd_raise _ _ _ _ _ _ rfl, State.rd_bump_same]
  case raised => rw [State.sticky_congr hregs, State.raise_sticky]
  case dropped => simp [heq]
  case map => rw [heq]

end Sys2Proof.Machine
end

section
/-! The statement about errors of the stack and of the on-die memories (02 R47, 14 R357, R358, 15 R366, R369-R373). -/

namespace Sys2Proof.Machine

/-- What CA_PARITY_ERROR does with a report (R47, R357). -/
theorem effect_caParityError {s : State} (ha : s.awake = true) (c : Fin 32) (pc : Fin 2) (r : CaReport) :
    effect (.caParityError c pc r) s (if s.tornPc (2 * c.val + pc.val) ∨ s.mode = modeHold then s else
      if 3 ≤ r.failures ∧ ((s.countChan c 9).calUrgent c pc [36, 37, 38, 39, 40]).onStack r.line.toNat then
        ((s.countChan c 9).calUrgent c pc [36, 37, 38, 39, 40]).commandFailed r
      else (s.countChan c 9).calUrgent c pc [36, 37, 38, 39, 40]) := effect_of_live ha rfl

theorem effect_errlogPop {s : State} (ha : s.awake = true) (c : Fin 32) (path : Path) :
    effect (.errlogPop c path) s (s.setup path (0x10068 + c.val * 0x800) (s.writeErrlog c 1)) := effect_of_live ha rfl

/-- A leak of every bucket changes the buckets and nothing beside registers (R366). -/
theorem effect_bucketLeak {s : State} (ha : s.awake = true) (c : Fin 32) :
    ∃ u, effect .bucketLeak s u ∧ u.bucket c = s.leaked c ∧ u.offRegs = s.offRegs :=
  ⟨_, effect_of_live ha rfl, s.leakAll_bucket c, s.leakAll_offRegs⟩

theorem effect_scrubReadDone {s : State} (ha : s.awake = true) (c : Fin 32) (noise : ReadNoise) :
    effect (.scrubReadDone c noise) s (if s.scrubbing then s.scrubRead c noise else s) := effect_of_live ha rfl

theorem effect_scrubLapWarn {s : State} (ha : s.awake = true) :
    effect .scrubLapWarn s (if s.scrub.lapStart.isSome ∧ ¬ s.scrub.warned then
      ({ s with scrub := { s.scrub with warned := true } } : State).raise Src.scrubSlow else s) := effect_of_live ha rfl

theorem effect_sramWalk {s : State} (ha : s.awake = true) (r : SramReport) :
    effect (.sramWalk r) s (r.bad.foldl State.sramBad (s.bump R.ECC.SRAM.CORRECTED 0 r.corrected)) := effect_of_live ha rfl

/-- Settles O39: each command is `live` at its operation; what a leak gives a bucket is `State.leaked`, and a raise sets the
sticky bit of its source (`State.raise_sticky`). -/
theorem errorCommands : Obligations.ErrorCommands := by
  intro s c ha
  refine ⟨fun pc r => ⟨fun h => ?inert, fun ht hh hr => ?reissued, fun ht hh hr =>
      ⟨fun hl => ?failed, fun hl => ?unheld⟩⟩, fun path hp => ?pop, ?leak,
    fun noise => ⟨fun h => ?off, fun h => ?idle, fun pc row sg aim wrap h hi hg hn => ?read⟩,
    fun h => ?noWarn, fun t hl hw => ?warn, fun n => ?corrected, fun n bad => ?walk, fun n k => ?mapLine, fun m => ?fetch⟩
  case inert => simpa [h] using effect_caParityError ha c pc r
  case reissued =>
    have hn : ¬ 3 ≤ r.failures := Nat.not_le.mpr hr
    simpa [ht, hh, hn] using effect_caParityError ha c pc r
  case failed => simpa [ht, hh, hr, hl] using effect_caParityError ha c pc r
  case unheld => simpa [ht, hh, hr, hl] using effect_caParityError ha c pc r
  case pop => simpa [s.writeErrlog_pop, State.setup, hp, State.accept, stOk] using effect_errlogPop ha c path
  case leak =>
    obtain ⟨u, he, hbucket, hrest⟩ := effect_bucketLeak ha c
    obtain ⟨hlevel, harmed⟩ := Prod.ext_iff.mp hbucket
    rw [s.leaked_armed] at harmed
    refine ⟨u, he, hlevel, fun (hle : (s.leaked c).1 ≤ _) => harmed.trans ?_,
      fun (hlt : _ < (s.leaked c).1) => harmed.trans ?_, State.offRegs_frame hrest⟩
    · rw [decide_eq_true hle, Bool.true_or]
    · rw [decide_eq_false (Nat.not_le.mpr hlt), Bool.false_or]
  case off => simpa [h] using effect_scrubReadDone ha c noise
  case idle => simpa [s.scrubRead_idle c noise h] using effect_scrubReadDone ha c noise
  case read => simpa [h] using effect_scrubReadDone ha c noise
  case noWarn =>
    have hn : ¬ (s.scrub.lapStart.isSome ∧ ¬ s.scrub.warned) := by
      rcases h with h | h <;> simp [h]
    simpa only [if_neg hn] using effect_scrubLapWarn ha
  case warn => simpa [hl, hw] using effect_scrubLapWarn ha
  case corrected => exact effect_sramWalk ha ⟨n, []⟩
  case walk => exact effect_sramWalk ha ⟨n, bad⟩
  case mapLine =>
    have hcount : (s.bump R.ECC.SRAM.CORRECTED 0 n).rd R.ECC.SRAM.UNCORR = s.rd R.ECC.SRAM.UNCORR :=
      s.rd_bump_field _ _ _ _ _ (by decide)
    obtain ⟨huncorr, hsticky, hcache, hmap⟩ := (s.bump R.ECC.SRAM.CORRECTED 0 n).sramBad_mapLine k
    exact ⟨_, effect_sramWalk ha ⟨n, [.mapLine k]⟩, hcount ▸ huncorr, hsticky, hcache, hmap⟩
  case fetch =>
    obtain ⟨huncorr, htraps⟩ := s.rd_fetchCounts
    have hraise (x : Thimble) (g : Fld) (hg : g.notFault = true) :
        (({ (s.bump R.ECC.SRAM.UNCORR).bump R.ECC.SRAM.THIMBLE_TRAPS with thimble := x } : State).raise
          Src.thimbleFetchUc).rd g = ((s.bump R.ECC.SRAM.UNCORR).bump R.ECC.SRAM.THIMBLE_TRAPS).rd g :=
      (State.rd_raise _ _ _ _ _ _ hg).trans (State.rd_congr _ _ rfl _ _)
    refine ⟨_, effect_of_live ha rfl, ?_, ?_, ?_, State.raise_sticky _ _ _ _, ?_⟩
    · rw [hraise _ _ rfl, huncorr]
    · rw [hraise _ _ rfl, htraps]
    · simp
    · simp

end Sys2Proof.Machine
end

section
/-! What the upkeep of a channel leaves alone: its REFs, the fill and the end of a sweep, its triggers, and the throughput figures
(14 R348, R351, 16 R377, R383, R386, 10 R284). -/

namespace Sys2Proof.Machine

/-- The numbers of the fields that the upkeep of a channel writes. -/
def upkeepIds : List Nat :=
  [R.CHN.STATUS.REF_FAST, R.CHN.RH_STAT.NEIGHBOUR_REFRESHES, R.CHN.RH_STAT.PEAK, R.CAL.STATUS.STATE, R.CAL.STATUS.LANE,
    R.CAL.STATUS.PC, R.CAL.STATUS.ROTATING, R.CAL.STATUS.SV, R.CAL.STATUS.PENDING, R.QOS.DELIVER.NOW,
    R.QOS.DELIVER.LIMIT].map Fld.id

/-- All that the upkeep of a channel leaves alone: the state but for the registers, the counters, the channels, Hem, calibration and
the draws, and of the registers the fields beside `upkeepIds`. -/
def State.upkept (s : State) : State × ({ f : Fld // f.id ∉ upkeepIds } → Nat → Nat) :=
  ({ s with regs := {}, pmc := {}, chans := {}, hem := {}, cal := {}, freeCtr := 0 }, fun f e => s.rd f e)

theorem State.rd_of_upkept {s t : State} (h : t.upkept = s.upkept) (f : Fld) (e : Nat) (hf : f.id ∉ upkeepIds) :
    t.rd f e = s.rd f e := congrFun (congrFun (congrArg Prod.snd h) ⟨f, hf⟩) e

/-- What waves and narrow-mode windows work on beside the registers. -/
theorem State.parts_of_upkept {s t : State} (h : t.upkept = s.upkept) :
    t.mem = s.mem ∧ t.waves = s.waves ∧ t.narrow = s.narrow ∧ t.reg = s.reg := by
  have h : t.upkept.1 = s.upkept.1 := congrArg Prod.fst h
  exact ⟨(congrArg State.mem h :), (congrArg State.waves h :), (congrArg State.narrow h :), (congrArg State.reg h :)⟩

theorem State.wr_upkept (s : State) (f : Fld) (v e : Nat) (h : f.id ∈ upkeepIds) : (s.wr f v e).upkept = s.upkept :=
  Prod.ext rfl (funext fun g => funext fun j => s.rd_wr_field f g v e j fun hg => g.2 (hg ▸ h))

@[simp] theorem State.count_upkept (s : State) (n k : Nat) : (s.count n k).upkept = s.upkept := by
  obtain ⟨m, hm⟩ := s.count_does n k
  rw [hm]
  rfl

@[simp] theorem State.countChan_upkept (s : State) (c k n : Nat) : (s.countChan c k n).upkept = s.upkept := s.count_upkept _ _

@[simp] theorem State.setChan_upkept (s : State) (c : Nat) (x : Chan) : (s.setChan c x).upkept = s.upkept := rfl

@[simp] theorem State.charge_upkept (s : State) (k : Charge) (c ply n : Nat) : (s.charge k c ply n).upkept = s.upkept := rfl

@[simp] theorem State.setCal_upkept (s : State) (x : Cal) : ({ s with cal := x } : State).upkept = s.upkept := rfl

@[simp] theorem State.refresh_upkept (s : State) (c pc ply k : Nat) : (s.refresh c pc ply k).upkept = s.upkept := by
  unfold State.refresh State.put
  rw [State.wr_upkept _ _ _ _ (by decide)]
  simp

@[simp] theorem State.refreshAll_upkept (s : State) (c : Nat) : (s.refreshAll c).upkept = s.upkept := by
  refine foldl_keeps _ State.upkept _ (fun s n _ => ?_) s
  split <;> simp

@[simp] theorem State.takeTrace_upkept (s : State) (c n : Nat) (t : RowTrace) : (s.takeTrace c n t).upkept = s.upkept := by
  unfold State.takeTrace State.bump
  rw [State.charge_upkept, State.wr_upkept _ _ _ _ (by decide), State.wr_upkept _ _ _ _ (by decide)]
  simp

@[simp] theorem State.fillBursts_upkept (s : State) (c : Nat) (acts : List FillActs) :
    (s.fillBursts c acts).upkept = s.upkept := by
  refine foldl_keeps _ State.upkept _ (fun s a _ => ?_) s
  unfold State.fillBurst State.fillRow
  dsimp only
  split
  · rfl
  · split
    · rfl
    · rw [State.setCal_upkept, State.setChan_upkept, State.charge_upkept, State.takeTrace_upkept]

@[simp] theorem State.clearSweep_upkept (s : State) (c : Nat) : (s.clearSweep c).upkept = s.upkept := by
  simp (disch := decide) only [State.clearSweep, State.setCal_upkept, State.wr_upkept]

@[simp] theorem State.abandonSweep_upkept (s : State) (c : Nat) : (s.abandonSweep c).upkept = s.upkept := by
  show (s.stopSweep c).upkept = s.upkept
  unfold State.stopSweep
  split
  · exact (State.fillBursts_upkept _ c _).trans (s.clearSweep_upkept c)
  · split
    · exact s.clearSweep_upkept c
    · rfl

@[simp] theorem State.calTrigger_upkept (s : State) (c cls : Nat) : (s.calTrigger c cls).upkept = s.upkept :=
  s.wr_upkept _ _ _ (by decide)

/-- The check of a channel's stamp writes at most a stamp and triggers (R377). -/
@[simp] theorem State.checkStamp_upkept (s : State) (c : Nat) : (s.checkStamp c).upkept = s.upkept := by
  have htrigger (t : State) (b : Bool) (k : Nat) : (if b then t.calTrigger c k else t).upkept = t.upkept := by
    split
    · exact t.calTrigger_upkept c k
    · rfl
  unfold State.checkStamp
  dsimp only
  split
  · rfl
  · split
    · rfl
    · split
      · rfl
      · exact (htrigger _ _ _).trans (htrigger _ _ _)

/-- The throughput figures computed anew keep an exclusion of the regulation window (R284, R295). -/
theorem State.recompute_upkept (s : State) : ∃ r : Reg, (s.reg.excluded = true → r.excluded = true) ∧
    s.recompute.upkept = ({ s with reg := r } : State).upkept := by
  refine ⟨s.recompute.reg, fun h => ?_, ?_⟩
  · simp [State.recompute, h]
  · exact (State.wr_upkept (State.wr { s with reg := s.recompute.reg } R.QOS.DELIVER.NOW _ 0) R.QOS.DELIVER.LIMIT _ 0
      (by decide)).trans (State.wr_upkept _ _ _ _ (by decide))

end Sys2Proof.Machine
end

section
/-! Windows of channels, and waves (02 R55, 14 R354-R356). -/

namespace Sys2Proof.Machine

/-- What waves and narrow-mode windows work on beside the registers. -/
def State.waveParts (s : State) : Mem × Waves × SMap Narrow := (s.mem, s.waves, s.narrow)

theorem State.waveParts_eq_iff (s t : State) :
    t.waveParts = s.waveParts ↔ t.mem = s.mem ∧ t.waves = s.waves ∧ t.narrow = s.narrow := by
  simp [State.waveParts]

theorem State.waveParts_of_upkept {s t : State} (h : t.upkept = s.upkept) : t.waveParts = s.waveParts := by
  obtain ⟨hm, hw, hn, -⟩ := State.parts_of_upkept h
  exact (State.waveParts_eq_iff _ _).mpr ⟨hm, hw, hn⟩

@[simp] theorem State.wr_waveParts (s : State) (f : Fld) (v e : Nat) : (s.wr f v e).waveParts = s.waveParts := rfl

theorem State.setCalReg_waveParts (s : State) (x : Cal) (y : Reg) :
    ({ s with reg := y, cal := x } : State).waveParts = s.waveParts := rfl

theorem State.setCalReg_rd (s : State) (x : Cal) (y : Reg) (f : Fld) (e : Nat) :
    ({ s with reg := y, cal := x } : State).rd f e = s.rd f e := rfl

theorem State.openWindow_waveParts (s : State) (c : Nat) : (s.openWindow c).waveParts = s.waveParts := by
  unfold State.openWindow
  rw [State.wr_waveParts, State.setCalReg_waveParts, State.waveParts_of_upkept (State.refreshAll_upkept _ c),
    State.waveParts_of_upkept (s.abandonSweep_upkept c)]

theorem State.openWindow_inWindow_same (s : State) (c : Nat) : (s.openWindow c).rd R.CHN.STATUS.IN_WINDOW c = 1 := by
  unfold State.openWindow
  exact State.rd_wr_same _ _ _ _

theorem State.openWindow_inWindow_other (s : State) (c j : Nat) (h : j ≠ c) :
    (s.openWindow c).rd R.CHN.STATUS.IN_WINDOW j = s.rd R.CHN.STATUS.IN_WINDOW j := by
  unfold State.openWindow
  rw [State.rd_wr_entry _ _ _ _ _ _ h, State.setCalReg_rd, State.rd_of_upkept (State.refreshAll_upkept _ c) _ _ (by decide),
    State.rd_of_upkept (s.abandonSweep_upkept c) _ _ (by decide)]

theorem openWindows_waveParts (l : List Nat) (s : State) : (l.foldl State.openWindow s).waveParts = s.waveParts :=
  foldl_keeps State.openWindow State.waveParts l (fun s c _ => s.openWindow_waveParts c) s

theorem openWindows_inWindow {l : List Nat} {c : Nat} (hc : c ∈ l) (s : State) :
    (l.foldl State.openWindow s).rd R.CHN.STATUS.IN_WINDOW c = 1 :=
  foldl_sets State.openWindow (fun s c => s.rd R.CHN.STATUS.IN_WINDOW c) 1 State.openWindow_inWindow_same
    State.openWindow_inWindow_other hc s

/-- Tier t is in its window, and the tiers of a list are still to come (R355, R356). -/
def State.inWave (s : State) (t : Nat) (rest : List Nat) : State :=
  { s with waves := { s.waves with now := some t, next := rest, nowPoint := s.waves.target } }

/-- A wave that may start opens the windows of its tier's channels (R354, R355). -/
theorem State.waveStart_free (s : State) (t : Nat) (rest : List Nat) (hnow : s.waves.now = none)
    (hnext : s.waves.next = t :: rest) (hfree : (tierChannels t).any (fun c => (s.narrowOf c).window) = false) :
    s.waveStart = ((tierChannels t).foldl State.openWindow s).inWave t rest := by
  unfold State.waveStart
  rw [hnow, hnext]
  simp only [hfree]
  rfl

/-- A wave that starts puts its tier in its window (R354, R355). -/
theorem State.waveStart_starts (s : State) (t : Nat) (rest : List Nat) (hnow : s.waves.now = none)
    (hnext : s.waves.next = t :: rest) (hfree : (tierChannels t).any (fun c => (s.narrowOf c).window) = false) :
    s.waveStart.waves = { s.waves with now := some t, next := rest, nowPoint := s.waves.target } ∧ s.waveStart.mem = s.mem ∧
      ∀ c ∈ tierChannels t, s.waveStart.rd R.CHN.STATUS.IN_WINDOW c = 1 := by
  rw [s.waveStart_free t rest hnow hnext hfree]
  obtain ⟨hm, hw, -⟩ := (State.waveParts_eq_iff _ _).mp (openWindows_waveParts (tierChannels t) s)
  have hwindow (c : Nat) (hc : c ∈ tierChannels t) := openWindows_inWindow hc s
  generalize (tierChannels t).foldl State.openWindow s = u at *
  exact ⟨by rw [State.inWave, hw], hm, fun c hc => (State.rd_congr _ u rfl _ _).trans (hwindow c hc)⟩

theorem State.waveStart_inWindow (s : State) (t : Nat) (h : s.waves.now = some t) : s.waveStart = s := by
  simp [State.waveStart, h]

theorem State.waveStart_noneDue (s : State) (h : s.waves.next = []) : s.waveStart = s := by
  simp [State.waveStart, h]

theorem State.waveStart_blocked (s : State) (t : Nat) (rest : List Nat) (hnow : s.waves.now = none)
    (hnext : s.waves.next = t :: rest) (h : (tierChannels t).any (fun c => (s.narrowOf c).window) = true) : s.waveStart = s := by
  unfold State.waveStart
  rw [hnow, hnext]
  simp only [h, if_true]

/-- A channel with no switch due leaves its window at a point (R354). -/
def State.leaveWindow (p : Nat) (s : State) (c : Nat) : State := (s.wr R.CHN.STATUS.POINT p c).closeWindow c

theorem State.closeWindow_waveParts (s : State) (c : Nat) : (s.closeWindow c).waveParts = s.waveParts := by
  unfold State.closeWindow
  rw [State.setCalReg_waveParts, State.wr_waveParts, State.waveParts_of_upkept (s.refreshAll_upkept c)]

theorem State.closeWindow_inWindow_same (s : State) (c : Nat) : (s.closeWindow c).rd R.CHN.STATUS.IN_WINDOW c = 0 := by
  unfold State.closeWindow
  rw [State.setCalReg_rd, State.rd_wr_same, Nat.zero_mod]

theorem State.closeWindow_inWindow_other (s : State) (c j : Nat) (h : j ≠ c) :
    (s.closeWindow c).rd R.CHN.STATUS.IN_WINDOW j = s.rd R.CHN.STATUS.IN_WINDOW j := by
  unfold State.closeWindow
  rw [State.setCalReg_rd, State.rd_wr_entry _ _ _ _ _ _ h, State.rd_of_upkept (s.refreshAll_upkept c) _ _ (by decide)]

theorem State.closeWindow_point (s : State) (c j : Nat) :
    (s.closeWindow c).rd R.CHN.STATUS.POINT j = s.rd R.CHN.STATUS.POINT j := by
  unfold State.closeWindow
  rw [State.setCalReg_rd, State.rd_wr_field _ _ _ _ _ _ (by decide), State.rd_of_upkept (s.refreshAll_upkept c) _ _ (by decide)]

theorem State.leaveWindow_waveParts (p : Nat) (s : State) (c : Nat) : (s.leaveWindow p c).waveParts = s.waveParts :=
  State.closeWindow_waveParts _ c

theorem State.leaveWindow_inWindow_other (p : Nat) (s : State) (c j : Nat) (h : j ≠ c) :
    (s.leaveWindow p c).rd R.CHN.STATUS.IN_WINDOW j = s.rd R.CHN.STATUS.IN_WINDOW j :=
  (State.closeWindow_inWindow_other _ c j h).trans (s.rd_wr_field _ _ _ _ _ (by decide))

theorem State.leaveWindow_point_same (p : Nat) (s : State) (c : Nat) :
    (s.leaveWindow p c).rd R.CHN.STATUS.POINT c = p % 2 ^ R.CHN.STATUS.POINT.width :=
  (State.closeWindow_point _ c c).trans (s.rd_wr_same _ _ _)

theorem State.leaveWindow_point_other (p : Nat) (s : State) (c j : Nat) (h : j ≠ c) :
    (s.leaveWindow p c).rd R.CHN.STATUS.POINT j = s.rd R.CHN.STATUS.POINT j :=
  (State.closeWindow_point _ c j).trans (s.rd_wr_entry _ _ _ _ _ h)

theorem leaveWindows_waveParts (p : Nat) (l : List Nat) (s : State) :
    (l.foldl (State.leaveWindow p) s).waveParts = s.waveParts :=
  foldl_keeps (State.leaveWindow p) State.waveParts l (fun s c _ => s.leaveWindow_waveParts p c) s

theorem leaveWindows_inWindow (p : Nat) {l : List Nat} {c : Nat} (hc : c ∈ l) (s : State) :
    (l.foldl (State.leaveWindow p) s).rd R.CHN.STATUS.IN_WINDOW c = 0 :=
  foldl_sets (State.leaveWindow p) (fun s c => s.rd R.CHN.STATUS.IN_WINDOW c) 0
    (fun _ c => State.closeWindow_inWindow_same _ c) (State.leaveWindow_inWindow_other p) hc s

theorem leaveWindows_point (p : Nat) {l : List Nat} {c : Nat} (hc : c ∈ l) (s : State) :
    (l.foldl (State.leaveWindow p) s).rd R.CHN.STATUS.POINT c = p % 2 ^ R.CHN.STATUS.POINT.width :=
  foldl_sets (State.leaveWindow p) (fun s c => s.rd R.CHN.STATUS.POINT c) _ (State.leaveWindow_point_same p)
    (State.leaveWindow_point_other p) hc s

theorem State.settleNarrow_notDue (s : State) (c : Nat) (h : (s.narrowOf c).due = false) : s.settleNarrow c = s := by
  simp [State.settleNarrow, h]

/-- The channels of a tier leave their windows at a point: steps 3 to 5 of R354. -/
def State.leaveTier (s : State) (p : Nat) (l : List Nat) : State := l.foldl (fun s c => (s.swapSet p c).closeWindow c) s

/-- Where no switch of a channel is due the channels leave their windows and nothing else takes place. -/
theorem State.leaveTier_notDue (s : State) (p : Nat) (l : List Nat) (h : ∀ c ∈ l, (s.narrowOf c).due = false) :
    s.leaveTier p l = l.foldl (State.leaveWindow p) s := by
  induction l generalizing s with
  | nil => rw [State.leaveTier, List.foldl_nil, List.foldl_nil]
  | cons c l ih =>
    have hstep : (s.swapSet p c).closeWindow c = s.leaveWindow p c := by
      unfold State.swapSet State.leaveWindow
      rw [s.settleNarrow_notDue c (h c (by simp))]
    obtain ⟨-, -, hnarrow⟩ := (State.waveParts_eq_iff _ _).mp (s.leaveWindow_waveParts p c)
    rw [State.leaveTier, List.foldl_cons, hstep, List.foldl_cons]
    exact ih _ fun j hj => by rw [State.narrowOf, hnarrow]; exact h j (by simp [hj])

/-- No tier is in its window. -/
def State.outOfWave (s : State) : State := { s with waves := { s.waves with now := none } }

/-- A wave that ends leaves no tier in its window; beside that it is its channels' leaving their windows, the throughput figures and
the stamps (R354, R377). -/
theorem State.waveEnd_upkept (s : State) (t : Nat) (h : s.waves.now = some t) : ∃ r : Reg, s.waveEnd.upkept =
    ({ (s.leaveTier s.waves.nowPoint (tierChannels t)).outOfWave with reg := r } : State).upkept := by
  have hend : s.waveEnd = (tierChannels t).foldl State.checkStamp
      (s.leaveTier s.waves.nowPoint (tierChannels t)).outOfWave.recompute := by
    unfold State.waveEnd
    rw [h]
    rfl
  obtain ⟨r, -, hr⟩ := (s.leaveTier s.waves.nowPoint (tierChannels t)).outOfWave.recompute_upkept
  exact ⟨r, by rw [hend, foldl_keeps State.checkStamp State.upkept _ (fun s c _ => s.checkStamp_upkept c), hr]⟩

theorem State.waveEnd_now (s : State) (t : Nat) (h : s.waves.now = some t) : s.waveEnd.waves.now = none := by
  obtain ⟨r, hr⟩ := s.waveEnd_upkept t h
  obtain ⟨-, hw, -, -⟩ := State.parts_of_upkept hr
  rw [hw, State.outOfWave]

/-- What a wave with no switch due leaves at its end: its channels are out of their windows and at its point (R354). -/
theorem State.waveEnd_notDue (s : State) (t : Nat) (h : s.waves.now = some t)
    (hdue : ∀ c ∈ tierChannels t, (s.narrowOf c).due = false) :
    s.waveEnd.waves = { s.waves with now := none } ∧ s.waveEnd.mem = s.mem ∧
      ∀ c ∈ tierChannels t, s.waveEnd.rd R.CHN.STATUS.IN_WINDOW c = 0 ∧
        s.waveEnd.rd R.CHN.STATUS.POINT c = s.waves.nowPoint % 2 ^ R.CHN.STATUS.POINT.width := by
  obtain ⟨r, hr⟩ := s.waveEnd_upkept t h
  rw [s.leaveTier_notDue _ _ hdue] at hr
  obtain ⟨hm, hw, -⟩ := (State.waveParts_eq_iff _ _).mp (leaveWindows_waveParts s.waves.nowPoint (tierChannels t) s)
  have hwindow (c : Nat) (hc : c ∈ tierChannels t) := leaveWindows_inWindow s.waves.nowPoint hc s
  have hpoint (c : Nat) (hc : c ∈ tierChannels t) := leaveWindows_point s.waves.nowPoint hc s
  generalize (tierChannels t).foldl (State.leaveWindow s.waves.nowPoint) s = u at *
  have hrd (f : Fld) (c : Nat) (hf : f.id ∉ upkeepIds) : s.waveEnd.rd f c = u.rd f c := State.rd_of_upkept hr f c hf
  obtain ⟨hmem, hwaves, -⟩ := State.parts_of_upkept hr
  refine ⟨by rw [hwaves, State.outOfWave, hw], hmem.trans hm, fun c hc => ⟨?_, ?_⟩⟩
  · rw [hrd _ _ (by decide), hwindow c hc]
  · rw [hrd _ _ (by decide), hpoint c hc]

theorem State.waveEnd_noWave (s : State) (h : s.waves.now = none) : s.waveEnd = s := by
  simp [State.waveEnd, h]

@[simp] theorem State.setNarrow_same (s : State) (c : Nat) (x : Narrow) : (s.setNarrow c x).narrowOf c = x := by
  simp [State.narrowOf, State.setNarrow]

/-- What a narrow-mode window leaves at its end: the channel is out of its window and the regulation window is excluded; where no
switch is due memory is as it was (R55). -/
theorem State.narrowEnd_leaves (s : State) (c : Nat) :
    ((s.narrowEnd c).narrowOf c).window = false ∧ (s.narrowEnd c).rd R.CHN.STATUS.IN_WINDOW c = 0 ∧
      (s.narrowEnd c).reg.excluded = true ∧ ((s.narrowOf c).due = false → (s.narrowEnd c).mem = s.mem) := by
  obtain ⟨hmem, -, -⟩ := (State.waveParts_eq_iff _ _).mp ((s.settleNarrow c).closeWindow_waveParts c)
  have hin := (s.settleNarrow c).closeWindow_inWindow_same c
  have hexcl : ((s.settleNarrow c).closeWindow c).reg.excluded = true := rfl
  have hend := State.checkStamp_upkept ((((s.settleNarrow c).closeWindow c).setNarrow c
    { ((s.settleNarrow c).closeWindow c).narrowOf c with window := false }).recompute) c
  unfold State.narrowEnd
  generalize (s.settleNarrow c).closeWindow c = u at *
  obtain ⟨r, hr, hrecompute⟩ := (u.setNarrow c { u.narrowOf c with window := false }).recompute_upkept
  obtain ⟨hm, -, hn, hreg⟩ := State.parts_of_upkept (hend.trans hrecompute)
  refine ⟨?_, (State.rd_of_upkept (hend.trans hrecompute) _ _ (by decide)).trans hin, ?_, fun hdue => ?_⟩
  · rw [State.narrowOf, hn]
    exact congrArg Narrow.window (u.setNarrow_same c _)
  · rw [hreg]
    exact hr hexcl
  · rw [s.settleNarrow_notDue c hdue] at hmem
    exact hm.trans hmem

end Sys2Proof.Machine
end

section
/-! The statement about waves and narrow-mode windows (02 R55, 14 R354-R356). -/

namespace Sys2Proof.Machine

theorem effect_waveStart {s : State} (ha : s.awake = true) : effect .waveStart s s.waveStart := effect_of_live ha rfl

theorem effect_waveEnd {s : State} (ha : s.awake = true) : effect .waveEnd s s.waveEnd := effect_of_live ha rfl

theorem effect_narrowWindowEnd {s : State} (ha : s.awake = true) (c : Fin 32) :
    effect (.narrowWindowEnd c) s (if (s.narrowOf c).window then s.narrowEnd c else s) := effect_of_live ha rfl

/-- Settles O46: a channel of the tier has its window opened or closed in its own turn, which no other channel's turn undoes
(`foldl_sets`), and what else takes place is upkeep (`State.upkept`). -/
theorem waveCommands : Obligations.WaveCommands := by
  intro s ha
  refine ⟨fun t h => ?inWindow, fun h => ?noneDue, fun t rest hnow hnext => ⟨fun h => ?blocked, fun h => ?starts⟩,
    fun h => ?noEnd, fun t h => ?ends, fun t h _ hdue => ?endsNotDue, fun c => ⟨fun h => ?noNarrow, fun h => ?narrowEnds⟩⟩
  case inWindow => simpa only [s.waveStart_inWindow t h] using effect_waveStart ha
  case noneDue => simpa only [s.waveStart_noneDue h] using effect_waveStart ha
  case blocked => simpa only [s.waveStart_blocked t rest hnow hnext h] using effect_waveStart ha
  case starts =>
    obtain ⟨hwaves, hmem, hwindow⟩ := s.waveStart_starts t rest hnow hnext h
    exact ⟨_, effect_waveStart ha, by rw [hwaves], by rw [hwaves], by rw [hwaves], hmem, fun _ => hwindow⟩
  case noEnd => simpa only [s.waveEnd_noWave h] using effect_waveEnd ha
  case ends => exact ⟨_, effect_waveEnd ha, s.waveEnd_now t h⟩
  case endsNotDue =>
    obtain ⟨hwaves, hmem, hleft⟩ := s.waveEnd_notDue t h hdue
    exact ⟨_, effect_waveEnd ha, by rw [hwaves], by rw [hwaves], hmem, hleft⟩
  case noNarrow => simpa [h] using effect_narrowWindowEnd ha c
  case narrowEnds => exact ⟨_, by simpa only [h, if_true] using effect_narrowWindowEnd ha c, s.narrowEnd_leaves c⟩

end Sys2Proof.Machine
end

section
/-! What the posting of an event leaves of the registers (07 R192, R193, 05 R128). -/

namespace Sys2Proof.Machine

@[simp] theorem State.putPacket_regs (s : State) (q : Nat) (p : TxPacket) : (s.putPacket q p).regs = s.regs := by
  unfold State.putPacket
  dsimp only
  split
  · simp [State.frameSent, State.countPort]
  · rfl

@[simp] theorem State.sendPacket_regs (s : State) (q : Nat) (p : TxPacket) : (s.sendPacket q p).regs = s.regs := by
  unfold State.sendPacket
  dsimp only
  split
  · rfl
  · exact s.putPacket_regs q p

@[simp] theorem State.transmit_regs (s : State) (q : Nat) (r : Req) : (s.transmit q r).regs = s.regs :=
  foldl_keeps _ State.regs _ (fun s p _ => s.sendPacket_regs q p) s

/-- The numbers of the fields that the posting of an event writes: those of the queue, and the next PSN of its QP. -/
def postIds : List Nat :=
  [R.XPT.QP_PSN.SQ_PSN, R.SHU.EQ_STATUS.POSTED, R.SHU.EQ_STATUS.PHASE, R.SHU.EQ_STATUS.FULL, R.SHU.EQ_STATUS.LOST].map Fld.id

section
variable {g : Fld} (hg : g.id ∉ postIds)
include hg

theorem State.rd_wr_post (s : State) (f : Fld) (v e j : Nat) (hf : f.id ∈ postIds) : (s.wr f v e).rd g j = s.rd g j :=
  s.rd_wr_field f g v e j fun h => hg (h ▸ hf)

theorem State.rd_issueReq (s : State) (q : Nat) (r : Req) (j : Nat) : (s.issueReq q r).rd g j = s.rd g j := by
  unfold State.issueReq
  dsimp only
  rw [State.rd_congr _ _ ((State.transmit_regs _ _ _).trans (State.setQp_regs _ _ _)), s.rd_wr_post hg _ _ _ _ (by decide)]

theorem State.rd_drainReqs (k : Nat) (s : State) (q j : Nat) : (State.drainReqs k s q).rd g j = s.rd g j := by
  induction k generalizing s with
  | zero => rfl
  | succ k ih =>
    unfold State.drainReqs
    split
    · rfl
    · split
      · rw [ih, State.rd_issueReq hg, State.rd_congr _ s (s.setQp_regs _ _)]
      · rfl

theorem State.rd_postWrite (s : State) (q va rkey : Nat) (data : List Byte) (use : ReqUse) (j : Nat) :
    (s.postWrite q va rkey data use).rd g j = s.rd g j := by
  unfold State.postWrite State.request State.drainQp
  split
  · rw [State.rd_drainReqs hg, State.rd_congr _ s (s.setQp_regs _ _)]
  · rfl

theorem State.rd_eqWrite (s : State) (c typ a b j : Nat) : (s.eqWrite c typ a b).rd g j = s.rd g j := by
  have hmark (t : State) : ((t.count 70).eqMark c).rd g j = t.rd g j := by
    rw [State.eqMark, State.put, State.rd_wr_post hg _ _ _ _ _ (by decide), State.rd_congr _ t (t.count_regs _ _)]
  unfold State.eqWrite
  dsimp only
  rw [hmark]
  split
  · rw [State.put, State.rd_wr_post hg _ _ _ _ _ (by decide), State.rd_wr_post hg _ _ _ _ _ (by decide), State.rd_postWrite hg]
  · rw [State.rd_wr_post hg _ _ _ _ _ (by decide), State.rd_postWrite hg]

theorem State.rd_eqLose (s : State) (c j : Nat) : (s.eqLose c).rd g j = s.rd g j := by
  rw [State.eqLose, State.rd_congr _ _ (State.count_regs _ _ _), State.bump, State.rd_wr_post hg _ _ _ _ _ (by decide),
    State.rd_congr _ s (s.setEq_regs _ _)]

theorem State.rd_eqRecover (s : State) (c j : Nat) : (s.eqRecover c).rd g j = s.rd g j := by
  unfold State.eqRecover
  split
  · rw [State.rd_eqWrite hg, State.rd_congr _ s (s.setEq_regs _ _)]
  · rfl

theorem State.rd_postEvent (s : State) (c cls typ a b j : Nat) : (s.postEvent c cls typ a b).rd g j = s.rd g j := by
  unfold State.postEvent
  dsimp only
  split
  · rfl
  · split
    · split
      · rw [State.rd_eqLose hg, State.rd_eqRecover hg]
      · rw [State.rd_eqWrite hg, State.rd_eqRecover hg]
    · split
      · exact s.rd_eqLose hg c j
      · rfl

theorem State.rd_postAll (s : State) (cls typ a b j : Nat) : (s.postAll cls typ a b).rd g j = s.rd g j :=
  foldl_keeps _ (State.rd · g j) _ (fun s c _ => s.rd_postEvent hg c cls typ a b j) s

/-- The interrupts, traps and events that are owed reach the Thimble and the event queues (R443, R444). -/
theorem State.rd_settleEvents (s : State) (j : Nat) : s.settleEvents.rd g j = s.rd g j :=
  foldl_keeps _ (State.rd · g j) _ (fun s i _ => s.rd_postAll hg 4 0x0030 i 0 j) _

end

theorem stickyField_not_post (k : Nat) : (stickyField k).id ∉ postIds := by unfold stickyField; split <;> decide

@[simp] theorem State.postAll_sticky (s : State) (cls typ a b k : Nat) : (s.postAll cls typ a b).sticky k = s.sticky k := by
  rw [State.sticky, State.rdBit, State.rd_postAll (stickyField_not_post k), State.sticky, State.rdBit]

@[simp] theorem State.settleEvents_sticky (s : State) (k : Nat) : s.settleEvents.sticky k = s.sticky k := by
  rw [State.sticky, State.rdBit, State.rd_settleEvents (stickyField_not_post k), State.sticky, State.rdBit]

@[simp] theorem State.settleEvents_mode (s : State) : s.settleEvents.mode = s.mode := State.rd_settleEvents (by decide) s 0

end Sys2Proof.Machine
end

section
/-! The reactions that the raises of a command owe clear no sticky bit, unless one is a reset (19 R443, R445-R447). -/

namespace Sys2Proof.Machine

/-- Every sticky bit that is set in a state is set in another. -/
def State.stickyWithin (s t : State) : Prop := ∀ k, s.sticky k = true → t.sticky k = true

theorem State.stickyWithin_trans {s t u : State} (h : s.stickyWithin t) (g : t.stickyWithin u) : s.stickyWithin u :=
  fun k hk => g k (h k hk)

theorem State.stickyWithin_of_eq {s t : State} (h : ∀ k, t.sticky k = s.sticky k) : s.stickyWithin t :=
  fun k hk => (h k).trans hk

/-- What clears no sticky bit at any element clears none over a list. -/
theorem foldl_stickyWithin {α : Type} (f : State → α → State) (h : ∀ (s : State) x, s.stickyWithin (f s x)) (l : List α) (s : State) :
    s.stickyWithin (l.foldl f s) := by
  induction l generalizing s with
  | nil => exact fun _ hk => hk
  | cons x l ih => exact State.stickyWithin_trans (h s x) (ih _)

/-- The sticky words of two sources are one field, or two with different numbers. -/
theorem stickyField_eq_or_id_ne (k i : Nat) :
    stickyField k = stickyField i ∨ (stickyField k).id ≠ (stickyField i).id := by
  unfold stickyField
  split <;> split
  · exact .inl rfl
  · exact .inr (by decide)
  · exact .inr (by decide)
  · exact .inl rfl

theorem State.stickyWithin_wrBit (s : State) (i : Nat) : s.stickyWithin (s.wrBit (stickyField i) (i % 64) true) := by
  intro k hk
  rcases stickyField_eq_or_id_ne k i with hf | hid
  · have hbit : s.rdBit (stickyField i) (k % 64) = true := by rwa [State.sticky, hf] at hk
    rw [State.sticky, hf, State.rdBit_wrBit_true _ _ _ _ _ (by rw [stickyField_width]; omega), hbit, Bool.or_true]
  · rwa [State.sticky, State.rdBit, State.wrBit, State.rd_wr_field _ _ _ _ _ _ hid]

/-- A raise sets its own sticky bit and clears none. -/
theorem State.stickyWithin_raise (s : State) (i : Nat) (u : Block) (b : Bool) : s.stickyWithin (s.raise i u b) := by
  refine State.stickyWithin_trans (s.stickyWithin_wrBit i) (State.stickyWithin_of_eq fun k => ?_)
  show (s.markFault i b).sticky k = _
  have hcount (t : State) : (t.bump R.FLT.SRC.COUNT i).sticky k = t.sticky k := t.wr_sticky _ _ _ _ (by decide) (by decide)
  unfold State.markFault
  dsimp only
  split <;> split <;>
    simp only [State.aliveFollow_sticky, State.hold_sticky, State.recordLast_sticky, State.count_sticky, hcount]

@[simp] theorem State.setPort_sticky (s : State) (p k : Nat) (x : Port) : (s.setPort p x).sticky k = s.sticky k :=
  State.sticky_congr (s.setPort_regs p x) k

@[simp] theorem State.portIdle_sticky (s : State) (p k : Nat) : (s.portIdle p).sticky k = s.sticky k := by
  rw [State.portIdle, State.wr_sticky _ _ _ _ _ (by decide) (by decide), State.setPort_sticky]

@[simp] theorem State.portDrop_sticky (s : State) (p k : Nat) : (s.portDrop p).sticky k = s.sticky k := by
  have hrate (t : State) : (t.portRate p 0).sticky k = t.sticky k := by
    unfold State.portRate
    split <;> exact t.wr_sticky _ _ _ _ (by decide) (by decide)
  have hqps (t : State) (l : List Nat) :
      (l.foldl (fun (s : State) q => s.setQp q { s.qp q with unacked := [] }) t).sticky k = t.sticky k :=
    foldl_keeps _ (State.sticky · k) l (fun s q _ => State.sticky_congr (s.setQp_regs _ _) k) t
  unfold State.portDrop
  dsimp only
  rw [State.postAll_sticky, hrate, State.countPort, State.count_sticky, State.bump]
  simp (disch := decide) only [State.wr_sticky, hqps, State.setPort_sticky, State.portIdle_sticky]

theorem State.stickyWithin_portLinkDown (s : State) (p : Nat) : s.stickyWithin (s.portLinkDown p) := by
  unfold State.portLinkDown
  split
  · exact State.stickyWithin_trans (State.stickyWithin_of_eq fun k => s.portDrop_sticky p k) (State.stickyWithin_raise _ _ _ _)
  · exact State.stickyWithin_of_eq fun k => s.portIdle_sticky p k

@[simp] theorem State.setTack_sticky (s : State) (x : Tack) (k : Nat) : ({ s with tack := x } : State).sticky k = s.sticky k := rfl

@[simp] theorem State.tackDrop_sticky (s : State) (k : Nat) : s.tackDrop.sticky k = s.sticky k := by
  have hlink : ((s.wr R.TCK.STATUS.LINK 0).wr R.TCK.STATUS.WIDTH 0).sticky k = s.sticky k := by
    simp (disch := decide) only [State.wr_sticky]
  unfold State.tackDrop State.dropHandover
  dsimp only
  rw [State.setTack_sticky]
  split
  · rw [State.wr_sticky _ _ _ _ _ (by decide) (by decide)]
    exact hlink
  · exact hlink

theorem State.stickyWithin_tackLinkDown (s : State) : s.stickyWithin s.tackLinkDown := by
  unfold State.tackLinkDown
  split
  · exact State.stickyWithin_trans (State.stickyWithin_of_eq s.tackDrop_sticky) (State.stickyWithin_raise _ _ _ _)
  · exact State.stickyWithin_of_eq fun k => s.setTack_sticky _ k

@[simp] theorem State.lanesReset_sticky (s : State) (lo n k : Nat) : (s.lanesReset lo n).sticky k = s.sticky k :=
  foldl_keeps _ (State.sticky · k) _ (fun s i _ => by simp (disch := decide) only [State.wr_sticky]) s

theorem stickyField_not_upkeep (k : Nat) : (stickyField k).id ∉ upkeepIds := by unfold stickyField; split <;> decide

@[simp] theorem State.abandonSweeps_sticky (s : State) (k : Nat) : s.abandonSweeps.sticky k = s.sticky k := by
  have hupkept : s.abandonSweeps.upkept = s.upkept :=
    foldl_keeps _ State.upkept _ (fun s c _ => s.abandonSweep_upkept c) s
  rw [State.sticky, State.rdBit, State.rd_of_upkept hupkept _ _ (stickyField_not_upkeep k), State.sticky, State.rdBit]

@[simp] theorem State.thimbleReset_sticky (s : State) (k : Nat) : s.thimbleReset.sticky k = s.sticky k := by
  have hsweeps : (s.wr R.FLT.WDT.ARMED 0).abandonSweeps.sticky k = s.sticky k := by
    rw [State.abandonSweeps_sticky, State.wr_sticky _ _ _ _ _ (by decide) (by decide)]
  unfold State.thimbleReset
  dsimp only
  generalize (s.wr R.FLT.WDT.ARMED 0).abandonSweeps = t at hsweeps
  exact (State.sticky_congr (t := t) rfl k).trans hsweeps

theorem State.stickyWithin_blockReset (s : State) (b : Block) : s.stickyWithin (s.blockReset b) := by
  cases b with
  | port p =>
    refine State.stickyWithin_trans (s.stickyWithin_portLinkDown p) (State.stickyWithin_of_eq fun k => ?_)
    unfold State.blockReset State.portReset
    dsimp only
    rw [State.lanesReset_sticky, State.wr_sticky _ _ _ _ _ (by decide) (by decide), State.setPort_sticky]
  | tack =>
    refine State.stickyWithin_trans s.stickyWithin_tackLinkDown (State.stickyWithin_of_eq fun k => ?_)
    unfold State.blockReset State.tackReset
    dsimp only
    rw [State.lanesReset_sticky, State.setTack_sticky]
  | thimble => exact State.stickyWithin_of_eq s.thimbleReset_sticky
  | other => exact fun _ hk => hk

theorem State.stickyWithin_settleBlocks (s : State) : s.stickyWithin s.settleBlocks :=
  foldl_stickyWithin State.blockReset State.stickyWithin_blockReset s.due.blocks.eraseDups
    { s with due := { s.due with blocks := [] } }

/-- A reset that a fault causes leads to Boot (R447). -/
theorem State.settleReset_mode (s : State) (n i : Nat) : (s.settleReset n i).mode = modeBoot :=
  (State.settleEvents_mode _).trans (State.reboot_frame _).1

/-- The end of a command leads to Boot, or clears no sticky bit. -/
theorem State.ends_boots_or_stickyWithin (t s : State) : (t.ends s).mode = modeBoot ∨ t.stickyWithin (t.ends s) := by
  show (t.settleAll s.out.length).mode = modeBoot ∨ t.stickyWithin (t.settleAll s.out.length)
  have hblocks := t.stickyWithin_settleBlocks
  unfold State.settleAll
  split
  · exact .inl (t.settleReset_mode _ _)
  · generalize t.settleBlocks = b at hblocks
    dsimp only
    split
    · exact .inl (b.settleReset_mode _ _)
    · exact .inr (State.stickyWithin_trans hblocks (State.stickyWithin_of_eq b.settleEvents_sticky))

end Sys2Proof.Machine
end

section
/-! The statement about the clock monitor (03 R71-R80). -/

namespace Sys2Proof.Machine

/-- A module in Serve whose reference is REFCLK and whose PLLs are in holdover: REFCLK has stopped, the backup oscillator runs. -/
def refclkStopped : State := (State.reset.wr R.MOD.STATUS.MODE modeServe).wr R.CLK.STATUS.PLL_HOLDOVER 0xFF

theorem effect_clkBackupLost {s : State} (ha : s.awake = true) (hb : s.on R.CLK.STATUS.BKP_OK = true) :
    effect .clkBackupLost s s.backupLost := by
  have he : effect .clkBackupLost s (if s.on R.CLK.STATUS.BKP_OK then s.backupLost else s) := effect_of_live ha rfl
  rwa [if_pos hb] at he

/-- Both clocks have stopped once `refclkStopped` loses the backup oscillator: it stays in Serve and records no fault (R80). -/
theorem refclkStopped_backupLost :
    (refclkStopped.awake = true ∧ refclkStopped.on R.CLK.STATUS.BKP_OK = true) ∧
      refclkStopped.backupLost.clocks.stopped = true ∧
      (refclkStopped.backupLost.ends refclkStopped).mode = modeServe ∧
      (refclkStopped.backupLost.ends refclkStopped).sticky Src.clkBackupLost = false := by
  decide +kernel

/-- Refutes O15 by `refclkStopped`: CLK_BACKUP_LOST is raised only while REFCLK is running (R80), so a backup oscillator that stops
after REFCLK leaves its source's sticky bit clear; a bit that the effect had set would still be set at the end of the command, which
is not in Boot (`State.ends_boots_or_stickyWithin`). -/
theorem not_clockCommands : ¬ Obligations.ClockCommands := by
  unfold Obligations.ClockCommands
  intro h
  obtain ⟨⟨hawake, hbkp⟩, -, hmode, hclear⟩ := refclkStopped_backupLost
  obtain ⟨-, -, -, -, -, hlost, -, -⟩ := h refclkStopped hawake
  obtain ⟨u, hu, -, hset⟩ := hlost hbkp
  have hends : u.ends refclkStopped = refclkStopped.backupLost.ends refclkStopped :=
    Host.Outcome.next.inj (hu.symm.trans (effect_clkBackupLost hawake hbkp))
  rw [← hends] at hmode hclear
  rcases u.ends_boots_or_stickyWithin refclkStopped with hboot | hkept
  · exact absurd (hmode.symm.trans hboot) (by decide)
  · exact absurd (hkept _ hset) (by simp [hclear])

end Sys2Proof.Machine
end

section
/-! What the fields of a register read after an accepted write of it (00 R15, 06 R157). -/

namespace Sys2Proof.Machine

theorem part_lt (v : Nat) (f : Fld) : part v f < 2 ^ f.width := Nat.mod_lt _ (Nat.two_pow_pos _)

theorem State.rd_take_same (s : State) (f : Fld) (v e : Nat) : (s.take f v e).rd f e = part v f := by
  rw [State.take, State.rd_wr_same, Nat.mod_eq_of_lt (part_lt v f)]

/-- A field that takes no part of the written value reads as before. -/
theorem State.rd_takes_field (s : State) (v e : Nat) (fs : List Fld) (g : Fld) (j : Nat) (h : g.id ∉ fs.map Fld.id) :
    (s.takes v e fs).rd g j = s.rd g j :=
  foldl_keeps _ (State.rd · g j) fs (fun t f hf => t.rd_wr_field f g _ e j fun he => h (he ▸ List.mem_map_of_mem hf)) s

/-- Another entry of the register reads as before. -/
theorem State.rd_takes_entry (s : State) (v e : Nat) (fs : List Fld) (g : Fld) (j : Nat) (h : j ≠ e) :
    (s.takes v e fs).rd g j = s.rd g j :=
  foldl_keeps _ (State.rd · g j) fs (fun t f _ => t.rd_wr_entry f g _ e j h) s

/-- Each field of the list reads as its part of the written value. -/
theorem State.rd_takes_mem (s : State) (v e : Nat) {fs : List Fld} {f : Fld} (hf : f ∈ fs) (hn : (fs.map Fld.id).Nodup) :
    (s.takes v e fs).rd f e = part v f := by
  induction fs generalizing s with
  | nil => simp at hf
  | cons g fs ih =>
    obtain ⟨hg, hn⟩ := List.nodup_cons.mp hn
    rcases List.mem_cons.mp hf with rfl | hf
    · exact ((s.take f v e).rd_takes_field v e fs f e hg).trans (s.rd_take_same f v e)
    · exact ih (s.take g v e) hf hn

/-- Taking the parts of a written value changes registers only. -/
theorem State.takes_regsOnly (s : State) (v e : Nat) (fs : List Fld) : s.regsOnly (s.takes v e fs) := by
  induction fs generalizing s with
  | nil => exact s.regsOnly_refl
  | cons f fs ih =>
    obtain ⟨r, hr⟩ := ih (s.take f v e)
    exact ⟨r, hr⟩

end Sys2Proof.Machine
end

section
/-! The rule of ETHn.PFC (04 R104). -/

namespace Sys2Proof.Machine

/-- A value of ETHn.PFC keeps the rule beside the other port's RX_LIMIT. -/
def pfcFits (v other : Nat) : Prop :=
  part v R.ETH.PFC.XON < part v R.ETH.PFC.XOFF ∧ part v R.ETH.PFC.XOFF ≤ part v R.ETH.PFC.RX_LIMIT ∧
    part v R.ETH.PFC.RX_LIMIT + other ≤ 4096

/-- The state that takes a value of ETHn.PFC. -/
def State.withPfc (s : State) (p v : Nat) : State :=
  s.takes v p [R.ETH.PFC.RX_LIMIT, R.ETH.PFC.XOFF, R.ETH.PFC.XON, R.ETH.PFC.QUANTA]

theorem State.rd_withPfc (s : State) (p v : Nat) {f : Fld}
    (hf : f ∈ [R.ETH.PFC.RX_LIMIT, R.ETH.PFC.XOFF, R.ETH.PFC.XON, R.ETH.PFC.QUANTA]) : (s.withPfc p v).rd f p = part v f :=
  s.rd_takes_mem v p hf (by decide)

theorem State.rd_withPfc_other (s : State) (p v : Nat) (f : Fld) (j : Nat) (h : j ≠ p) :
    (s.withPfc p v).rd f j = s.rd f j := s.rd_takes_entry v p _ f j h

theorem State.writePfc_fits (s : State) (p v : Nat) (h : pfcFits v (s.rd R.ETH.PFC.RX_LIMIT (1 - p))) :
    s.writePfc p v = (s.withPfc p v, stOk) := by
  obtain ⟨hxon, hxoff, hsum⟩ := h
  refine if_neg fun ⟨_, hbad⟩ => ?_
  omega

/-- The other port's RX_LIMIT and one's own are the two that R104 adds. -/
theorem rxLimit_sum (s : State) (p : Fin 2) (n : Nat) (h : s.rd R.ETH.PFC.RX_LIMIT p = n) :
    s.rd R.ETH.PFC.RX_LIMIT 0 + s.rd R.ETH.PFC.RX_LIMIT 1 = n + s.rd R.ETH.PFC.RX_LIMIT (1 - p.val) := by
  subst h
  match p with
  | 0 => rfl
  | 1 => exact Nat.add_comm _ _

/-- Where the rule holds, a value that breaks it differs from what the register shows, so it is refused. -/
theorem State.writePfc_breaks (s : State) (p : Fin 2) (v : Nat) (hs : pfcRule s)
    (h : ¬ pfcFits v (s.rd R.ETH.PFC.RX_LIMIT (1 - p.val))) : s.writePfc p v = (s, stMalformed) := by
  obtain ⟨hown, hsum⟩ := hs
  obtain ⟨hxon, hxoff⟩ := hown p
  rw [rxLimit_sum s p _ rfl] at hsum
  unfold pfcFits at h
  refine if_pos ⟨?_, by omega⟩
  refine Decidable.byContradiction fun hsame => ?_
  simp only [List.any_cons, List.any_nil, Bool.or_false, Bool.or_eq_true, State.chg, bne_iff_ne, ne_eq, not_or,
    Decidable.not_not] at hsame
  obtain ⟨hlim, hoff, hon⟩ := hsame
  rw [hlim, hoff, hon] at h
  exact h ⟨hxon, hxoff, hsum⟩

theorem State.pfcRule_withPfc (s : State) (p : Fin 2) (v : Nat) (hs : pfcRule s)
    (h : pfcFits v (s.rd R.ETH.PFC.RX_LIMIT (1 - p.val))) : pfcRule (s.withPfc p v) := by
  obtain ⟨hxon, hxoff, hsum⟩ := h
  have hother : 1 - p.val ≠ p.val := by omega
  refine ⟨fun q => ?_, ?_⟩
  · by_cases hq : q = p
    · subst hq
      simpa [State.rd_withPfc] using And.intro hxon hxoff
    · have hne : q.val ≠ p.val := fun he => hq (Fin.ext he)
      simpa [State.rd_withPfc_other _ _ _ _ _ hne] using hs.1 q
  · rw [rxLimit_sum _ p _ (s.rd_withPfc p v (by simp)), State.rd_withPfc_other _ _ _ _ _ hother]
    exact hsum

/-- A write of ETHn.PFC keeps the rule, whatever the value. -/
theorem State.writePfc_pfcRule (s : State) (p : Fin 2) (v : Nat) (hs : pfcRule s) : pfcRule (s.writePfc p v).1 := by
  by_cases h : pfcFits v (s.rd R.ETH.PFC.RX_LIMIT (1 - p.val))
  · rw [s.writePfc_fits p v h]
    exact s.pfcRule_withPfc p v hs h
  · rw [s.writePfc_breaks p v hs h]
    exact hs

/-- ETHn.PFC, as the table of registers has it. -/
def ethPfcReg : RegDef :=
  ⟨"ETH.PFC", 0x3040, [(0x1000, 2)], .one, [⟨R.ETH.PFC.RX_LIMIT, 0, 1, 0⟩, ⟨R.ETH.PFC.XOFF, 12, 1, 0⟩,
    ⟨R.ETH.PFC.XON, 24, 1, 0⟩, ⟨R.ETH.PFC.QUANTA, 36, 1, 0⟩]⟩

theorem regAt_ethPfc (p : Fin 2) : regAt (0x3040 + 0x1000 * p.val) = some (ethPfcReg, p.val) := by
  match p with
  | 0 => rfl
  | 1 => rfl

theorem State.writeReg_ethPfc (s : State) (p : Fin 2) (v : Nat) :
    s.writeReg .smb (0x3040 + 0x1000 * p.val) v =
      (s.writePfc p v).1.respond .smb (0x3040 + 0x1000 * p.val) (s.writePfc p v).2 := by
  unfold State.writeReg
  rw [regAt_ethPfc p]
  rfl

/-- Settles O31: a value is refused or taken as it fits the rule or not; a value that the register shows already fits it. -/
theorem pfcRule_kept : Obligations.PfcRule := by
  refine ⟨by unfold pfcRule; decide +kernel, fun s p v hs => ⟨fun hbad => ?_, fun hxon hxoff hsum => ?_, ?_, ?_⟩⟩
  · exact s.writePfc_breaks p v.toNat hs fun ⟨hxon, hxoff, hsum⟩ => by omega
  · rw [s.writePfc_fits p v.toNat ⟨hxon, hxoff, hsum⟩]
    exact ⟨rfl, s.rd_withPfc _ _ (by simp), s.rd_withPfc _ _ (by simp), s.rd_withPfc _ _ (by simp), s.rd_withPfc _ _ (by simp)⟩
  · exact s.writePfc_pfcRule p v.toNat hs
  · intro ha off hoff
    rw [hoff, ← s.writeReg_ethPfc p v.toNat, ← hoff]
    exact effect_of_live ha rfl

end Sys2Proof.Machine
end

section
/-! The drop of a port's link and what comes with it (04 R90, R94, R95, 19 R443). -/

namespace Sys2Proof.Machine

@[simp] theorem State.countPort_regs (s : State) (p k n : Nat) : (s.countPort p k n).regs = s.regs := s.count_regs _ _

@[simp] theorem State.countPort_rd (s : State) (p k n : Nat) (g : Fld) (j : Nat) : (s.countPort p k n).rd g j = s.rd g j :=
  s.count_rd _ _ g j

@[simp] theorem State.countPort_ports (s : State) (p k n : Nat) : (s.countPort p k n).ports = s.ports := s.count_ports _ _

@[simp] theorem State.countPort_out (s : State) (p k n : Nat) : (s.countPort p k n).out = s.out := s.count_out _ _

theorem State.port_congr {s t : State} (h : t.ports = s.ports) (p : Nat) : t.port p = s.port p := by rw [State.port, State.port, h]

theorem State.rd_portRate (s : State) (p rate : Nat) (g : Fld) (j : Nat) (h0 : g.id ≠ R.QOS.PORT.PORT0.id)
    (h1 : g.id ≠ R.QOS.PORT.PORT1.id) : (s.portRate p rate).rd g j = s.rd g j := by
  unfold State.portRate
  split
  · exact s.rd_wr_field _ _ _ _ _ h0
  · exact s.rd_wr_field _ _ _ _ _ h1

/-- A line rate is shown in registers. -/
theorem State.portRate_regsOnly (s : State) (p rate : Nat) : s.regsOnly (s.portRate p rate) := by
  unfold State.portRate
  split <;> exact ⟨_, rfl⟩

/-- Frames queued on the port are discarded, and an attempt or the wait after one ends (R90). -/
def State.emptyPort (s : State) (p : Nat) : State :=
  (s.portIdle p).setPort p { (s.portIdle p).port p with txq := [], frames := [] }

/-- What the drop of a link does to the port's hidden state and to the QPs bound to it, whose responses not yet sent are discarded. -/
def State.quietPort (s : State) (p : Nat) : State :=
  ((s.emptyPort p).qpsOnPort p).foldl (fun (s : State) q => s.setQp q { s.qp q with unacked := [] }) (s.emptyPort p)

/-- What the drop of a link does to the port's status, ahead of the events that tell of it. -/
def State.showDown (s : State) (p : Nat) : State :=
  let s := ((s.wr R.ETH.STATUS.LINK 0 p).wr R.ETH.STATUS.SPEED 0 p).wr R.ETH.STATUS.ACTIVE_LANES 0 p
  let s := s.wr R.ETH.STATUS.PFC_TX_XOFF 0 p
  let s := (s.bump R.ETH.LINK_EVT.DOWNS p).wr R.ETH.LINK_TICK.TICK s.tick p
  (s.countPort p 11).portRate p 0

theorem State.portDrop_eq (s : State) (p : Nat) : s.portDrop p = ((s.quietPort p).showDown p).postAll 2 0x0010 p 0 := rfl

/-- What does not show the QPs' hidden state is as the port alone leaves it. -/
theorem State.quietPort_keeps {α : Type} (view : State → α) (h : ∀ s x, view { s with qps := x } = view s) (s : State) (p : Nat) :
    view (s.quietPort p) = view (s.emptyPort p) := foldl_keeps _ view _ (fun s _ _ => h s _) _

theorem State.quietPort_port (s : State) (p : Nat) :
    (s.quietPort p).port p = { s.port p with attempt := false, waiting := false, txq := [], frames := [] } := by
  rw [State.quietPort_keeps (State.port · p) (fun _ _ => rfl), State.emptyPort, State.setPort_same, State.portIdle, State.wr_port,
    State.setPort_same]

theorem State.quietPort_rd (s : State) (p : Nat) (g : Fld) (j : Nat) :
    (s.quietPort p).rd g j = (s.wr R.ETH.STATUS.BRINGUP 0 p).rd g j :=
  State.quietPort_keeps (State.rd · g j) (fun _ _ => rfl) s p

theorem State.quietPort_tick (s : State) (p : Nat) : (s.quietPort p).tick = s.tick :=
  State.quietPort_keeps State.tick (fun _ _ => rfl) s p

/-- What does not show registers and counters is as before. -/
theorem State.showDown_keeps {α : Type} (view : State → α) (hr : ∀ s x, view { s with regs := x } = view s)
    (hm : ∀ s x, view { s with pmc := x } = view s) (s : State) (p : Nat) : view (s.showDown p) = view s := by
  have hrate (t : State) : view (t.portRate p 0) = view t := by
    obtain ⟨r, h⟩ := t.portRate_regsOnly p 0
    rw [h, hr]
  have hcount (t : State) : view (t.countPort p 11) = view t := by
    obtain ⟨m, h⟩ := t.count_does (16 + 16 * p + 11) 1
    rw [State.countPort, h, hm]
  have hwr (t : State) (f : Fld) (v : Nat) : view (t.wr f v p) = view t := hr t _
  unfold State.showDown State.bump
  dsimp only
  rw [hrate, hcount, hwr, hwr, hwr, hwr, hwr, hwr]

/-- The numbers of the registers that show a link going down. -/
def downIds : List Nat :=
  [R.ETH.STATUS.LINK, R.ETH.STATUS.SPEED, R.ETH.STATUS.ACTIVE_LANES, R.ETH.STATUS.PFC_TX_XOFF, R.ETH.LINK_EVT.DOWNS,
    R.ETH.LINK_TICK.TICK, R.QOS.PORT.PORT0, R.QOS.PORT.PORT1].map Fld.id

theorem State.showDown_rd (s : State) (p : Nat) (g : Fld) (j : Nat) (h : g.id ∉ downIds) : (s.showDown p).rd g j = s.rd g j := by
  have hne {f : Fld} (hf : f.id ∈ downIds) : g.id ≠ f.id := fun he => h (he ▸ hf)
  unfold State.showDown
  dsimp only
  rw [State.rd_portRate _ _ _ _ _ (hne (by decide)) (hne (by decide)), State.countPort_rd,
    State.rd_wr_field _ _ _ _ _ _ (hne (by decide)), State.rd_bump_field _ _ _ _ _ _ (hne (by decide)),
    State.rd_wr_field _ _ _ _ _ _ (hne (by decide)), State.rd_wr_field _ _ _ _ _ _ (hne (by decide)),
    State.rd_wr_field _ _ _ _ _ _ (hne (by decide)), State.rd_wr_field _ _ _ _ _ _ (hne (by decide))]

theorem State.showDown_shows (s : State) (p : Nat) :
    (s.showDown p).rd R.ETH.STATUS.LINK p = 0 ∧ (s.showDown p).rd R.ETH.STATUS.SPEED p = 0 ∧
    (s.showDown p).rd R.ETH.STATUS.ACTIVE_LANES p = 0 ∧
    (s.showDown p).rd R.ETH.LINK_EVT.DOWNS p = min (s.rd R.ETH.LINK_EVT.DOWNS p + 1) R.ETH.LINK_EVT.DOWNS.max ∧
    (s.showDown p).rd R.ETH.LINK_TICK.TICK p = s.tick % 2 ^ 64 := by
  unfold State.showDown
  dsimp only
  simp (disch := decide) only [State.rd_portRate, State.countPort_rd, State.rd_wr_field, State.rd_bump_field, State.rd_wr_same,
    State.rd_bump_same, Nat.zero_mod, State.wr_tick, true_and]
  rfl

/-- An event reaches no client where none subscribes to any (R192). -/
theorem State.postAll_unsubscribed (s : State) (cls typ a b : Nat) (h : ∀ c, c < 64 → s.rd R.SHU.EQ_CTRL.MASK c = 0) :
    s.postAll cls typ a b = s := by
  refine List.foldlRecOn (motive := (· = s)) _ _ rfl fun t ht c hc => ?_
  have hmask : s.rdBit R.SHU.EQ_CTRL.MASK cls c = false := by
    rw [State.rdBit, h c (List.mem_range.mp hc), bit_eq_testBit, Nat.zero_testBit]
  simp [ht, State.postEvent, hmask]

theorem State.portDrop_unsubscribed (s : State) (p : Nat) (h : ∀ c, c < 64 → s.rd R.SHU.EQ_CTRL.MASK c = 0) :
    s.portDrop p = (s.quietPort p).showDown p := by
  refine (s.portDrop_eq p).trans (State.postAll_unsubscribed _ _ _ _ _ fun c hc => ?_)
  rw [State.showDown_rd _ _ _ _ (by decide), State.quietPort_rd, State.rd_wr_field _ _ _ _ _ _ (by decide), h c hc]

/-- Settles O17: with no event to post, the drop of a link is what it does to the port and then what it shows. -/
theorem linkDropState : Obligations.LinkDropState := by
  intro s p hmask
  obtain ⟨hlink, hspeed, hlanes, hdowns, htick⟩ := (s.quietPort p).showDown_shows p
  have hkeeps {α : Type} (view : State → α) (hr : ∀ s x, view { s with regs := x } = view s)
      (hm : ∀ s x, view { s with pmc := x } = view s) : view ((s.quietPort p).showDown p) = view (s.quietPort p) :=
    State.showDown_keeps view hr hm _ _
  have hport := hkeeps (State.port · p) (fun _ _ => rfl) (fun _ _ => rfl)
  have hframe := (hkeeps (fun t => (t.mem, t.out, t.guard)) (fun _ _ => rfl) fun _ _ => rfl).trans
    (State.quietPort_keeps (fun t => (t.mem, t.out, t.guard)) (fun _ _ => rfl) s p)
  simp only [Prod.mk.injEq] at hframe
  rw [s.portDrop_unsubscribed p hmask]
  refine ⟨hlink, hspeed, hlanes, ?_, ?_, ?_, ?_, ?_, hframe⟩
  · rw [State.showDown_rd _ _ _ _ (by decide), State.quietPort_rd, State.rd_wr_same, Nat.zero_mod]
  · rw [hdowns, State.quietPort_rd, State.rd_wr_field _ _ _ _ _ _ (by decide)]
  · rw [htick, s.quietPort_tick p]
  · rw [hport, s.quietPort_port p]
  · rw [hport, s.quietPort_port p]

end Sys2Proof.Machine
end

section
/-! A bring-up attempt, its end, and a write of ETHn.CTRL (04 R87-R91, R93, R96). -/

namespace Sys2Proof.Machine

/-- A port that keeps its width takes no step of R94. -/
theorem State.takePlan_pair (s : State) (p : Nat) : s.takePlan p (s.port p).pair = s := by
  unfold State.takePlan
  split
  · next k hk => rw [if_pos hk]
  · rfl

/-- An attempt of port p trains its lanes (R87). -/
def State.trains (s : State) (p : Nat) : Bool := s.rd R.ETH.CTRL.MEDIA p != 0 && s.on R.ETH.CTRL.AN_EN p

/-- The state in an attempt of port p, ahead of what the lanes advertise. -/
def State.attempting (s : State) (p : Nat) : State :=
  (s.setPort p { s.port p with attempt := true, waiting := false, training := s.trains p }).wr R.ETH.STATUS.BRINGUP 1 p

theorem State.attempting_port (s : State) (p : Nat) :
    (s.attempting p).port p = { s.port p with attempt := true, waiting := false, training := s.trains p } := by
  rw [State.attempting, State.wr_port, State.setPort_same]

theorem State.attempting_anTech (s : State) (p : Nat) : (s.attempting p).anTech p = s.anTech p := by
  have hmedia : (s.attempting p).rd R.ETH.CTRL.MEDIA p = s.rd R.ETH.CTRL.MEDIA p := by
    rw [State.attempting, State.rd_wr_field _ _ _ _ _ _ (by decide), State.setPort_rd]
  rw [State.anTech, State.attempting_port, hmedia, State.anTech]

/-- An attempt at the width the port has: with training it advertises one technology (R87, R88). -/
theorem State.startAttempt_ownPlan (s : State) (p : Nat) (ha : (s.port p).attempt = false) (hl : s.on R.ETH.STATUS.LINK p = false)
    (hr : s.portReady p = true) (hp : s.portPlan p = some (s.port p).pair) :
    s.startAttempt p = if s.trains p then (s.attempting p).emit (.autoNeg p (s.anTech p) true) else s.attempting p := by
  rw [← s.attempting_anTech p]
  simp only [State.startAttempt, ha, hl, hr, hp, s.takePlan_pair p]
  rfl

theorem State.trains_iff (s : State) (p : Nat) :
    s.trains p = true ↔ s.rd R.ETH.CTRL.MEDIA p ≠ 0 ∧ s.on R.ETH.CTRL.AN_EN p = true := by simp [State.trains]

theorem Port.trained_lastFail (x : Port) (u : BitVec 4) : (x.trained u).lastFail = x.lastFail := by
  unfold Port.trained
  dsimp only
  split
  · split <;> rfl
  · rfl

/-- The state after an abandoned attempt of port p, ahead of its fault; `last` is the failure that the next one is judged by (R89). -/
def State.abandoned (s : State) (p : Nat) (u : BitVec 4) (last : Option Nat) : State :=
  (s.setPort p { (s.port p).trained u with attempt := false, waiting := true, lastFail := last }).wr R.ETH.STATUS.BRINGUP 0 p

theorem State.abandoned_port (s : State) (p : Nat) (u : BitVec 4) (last : Option Nat) : (s.abandoned p u last).port p =
    { (s.port p).trained u with attempt := false, waiting := true, lastFail := last } := by
  rw [State.abandoned, State.wr_port, State.setPort_same]

/-- The first failure raises ETH_LINK_DOWN (R89). -/
theorem State.abandonAttempt_first (s : State) (p : Nat) (u : BitVec 4) (ha : (s.port p).attempt = true)
    (hl : (s.port p).lastFail = none) :
    s.abandonAttempt p u = (s.abandoned p u (some s.tick)).raise Src.ethLinkDown (.port p) := by
  simp [State.abandonAttempt, ha, hl, Port.trained_lastFail, State.abandoned]

/-- A failure within 60 s of the one that raised ETH_LINK_DOWN raises nothing (R89). -/
theorem State.abandonAttempt_again (s : State) (p : Nat) (u : BitVec 4) (t : Nat) (ha : (s.port p).attempt = true)
    (hl : (s.port p).lastFail = some t) (ht : s.tick - t < 60000000000) :
    s.abandonAttempt p u = s.abandoned p u (some t) := by
  have hearly : decide (60000000000 ≤ s.tick - t) = false := decide_eq_false (Nat.not_le.mpr ht)
  simp [State.abandonAttempt, ha, hl, Port.trained_lastFail, State.abandoned, hearly]

/-- A cause of a link loss shows only in the fault bits (R90). -/
theorem State.rd_linkFault (s : State) (p : Nat) (c : LinkCause) (g : Fld) (j : Nat) (hl : g.id ≠ R.ETH.STATUS.LOCAL_FAULT.id)
    (hr : g.id ≠ R.ETH.STATUS.REMOTE_FAULT.id) : (s.linkFault p c).rd g j = s.rd g j := by
  cases c with
  | localFault => exact s.rd_wr_field _ _ _ _ _ hl
  | remoteFault => exact s.rd_wr_field _ _ _ _ _ hr
  | alignment lanes => exact s.setPort_rd _ _ _ _
  | condition => rfl

theorem State.portLinkDown_up (s : State) (p : Nat) (h : s.on R.ETH.STATUS.LINK p = true) :
    s.portLinkDown p = (s.portDrop p).raise Src.ethLinkDown (.port p) := if_pos h

theorem State.linkFault_portLinkDown (s : State) (p : Nat) (c : LinkCause) (h : s.on R.ETH.STATUS.LINK p = true) :
    (s.linkFault p c).portLinkDown p = ((s.linkFault p c).portDrop p).raise Src.ethLinkDown (.port p) := by
  refine State.portLinkDown_up _ _ ?_
  rwa [State.on, State.rd_linkFault _ _ _ _ _ (by decide) (by decide)]

/-- The state whose ETHn.CTRL takes a value. -/
def State.withEthCtrl (s : State) (p v : Nat) : State :=
  s.takes v p [R.ETH.CTRL.ADMIN_UP, R.ETH.CTRL.MEDIA, R.ETH.CTRL.AN_EN, R.ETH.CTRL.FALLBACK_EN, R.ETH.CTRL.ECT_EN,
    R.ETH.CTRL.ICMP_ECHO]

/-- The reserved medium is refused unless it stands already (R91). -/
theorem State.writeEthCtrl_reserved (s : State) (p v : Nat) (hv : part v R.ETH.CTRL.MEDIA = 3)
    (hs : s.rd R.ETH.CTRL.MEDIA p ≠ 3) : s.writeEthCtrl p v = (s, stMalformed) :=
  if_pos ⟨by simpa [State.chg, hv] using Ne.symm hs, hv⟩

theorem State.writeEthCtrl_failedLane (s : State) (p v : Nat) (hm : part v R.ETH.CTRL.MEDIA ≠ 3)
    (hf : part v R.ETH.CTRL.RESTORE_FULL = 1) (hl : (portLanes p).any (fun l => s.on R.SDS.STATUS.FAILED l) = true) :
    s.writeEthCtrl p v = (s, stDenied) :=
  (if_neg fun h => hm h.2).trans (if_pos ⟨hf, hl⟩)

/-- A write that leaves the port enabled and asks for nothing else takes its fields, and the link stays as it is (R91). -/
theorem State.writeEthCtrl_enabled (s : State) (p v : Nat) (hm : part v R.ETH.CTRL.MEDIA ≠ 3)
    (hf : part v R.ETH.CTRL.RESTORE_FULL = 0) (hu : part v R.ETH.CTRL.ADMIN_UP = 1) :
    s.writeEthCtrl p v = (s.withEthCtrl p v, 0) := by
  have hup : (s.withEthCtrl p v).on R.ETH.CTRL.ADMIN_UP p = true := by
    rw [State.on, State.withEthCtrl, State.rd_takes_mem _ _ _ (by simp) (by decide), hu]
    rfl
  rw [State.withEthCtrl] at hup
  simp [State.writeEthCtrl, hm, hf, hup, State.withEthCtrl, State.accept, stOk]

/-- RESTORE_FULL without a failed lane is accepted (R96). -/
theorem State.writeEthCtrl_restored (s : State) (p v : Nat) (hm : part v R.ETH.CTRL.MEDIA ≠ 3)
    (hf : part v R.ETH.CTRL.RESTORE_FULL = 1) (hl : (portLanes p).any (fun l => s.on R.SDS.STATUS.FAILED l) = false) :
    (s.writeEthCtrl p v).2 = 0 := by
  simp [State.writeEthCtrl, hm, hf, hl, State.accept, stOk]

end Sys2Proof.Machine
end

section
/-! The statement about bring-up, loss and control of a port's link (04 R88-R91, R96). -/

namespace Sys2Proof.Machine

/-- A command that does u where a guard holds has the effect u there. -/
theorem effect_of_guard {c : Instr} {s u : State} {g : Prop} [Decidable g] (ha : s.awake = true)
    (h : exec c s = live s (if g then u else s)) (hg : g) : effect c s u := effect_of_live ha (by rw [h, if_pos hg])

theorem effect_portBringupStart {s : State} (ha : s.awake = true) (p : Fin 2) (hw : (s.port p).waiting = false) :
    effect (.portBringupStart p) s (s.startAttempt p) := by
  have he : effect (.portBringupStart p) s (if (s.port p).waiting then s else s.startAttempt p) := effect_of_live ha rfl
  rwa [hw, if_neg Bool.false_ne_true] at he

theorem effect_linkUp {s : State} (ha : s.awake = true) (p : Fin 2) (hx : (s.port p).attempt = true)
    (hr : s.portReady p = true) : effect (.linkUp p) s (s.portUp p) := effect_of_guard ha rfl ⟨hx, hr⟩

theorem effect_bringupAbandon {s : State} (ha : s.awake = true) (p : Fin 2) (u : BitVec 4) :
    effect (.bringupAbandon ⟨p, u⟩) s (s.abandonAttempt p u) := effect_of_live ha rfl

theorem effect_bringupRetry {s : State} (ha : s.awake = true) (p : Fin 2) (hw : (s.port p).waiting = true) :
    effect (.bringupRetry p) s ((s.setPort p { s.port p with waiting := false }).startAttempt p) := effect_of_guard ha rfl hw

theorem effect_linkDown {s : State} (ha : s.awake = true) (p : Fin 2) (c : LinkCause) (hl : s.on R.ETH.STATUS.LINK p = true) :
    effect (.linkDown p c) s (((s.linkFault p c).portDrop p).raise Src.ethLinkDown (.port p)) := by
  rw [← s.linkFault_portLinkDown p c hl]
  exact effect_of_guard ha rfl hl

/-- A write of a set-up register that its path lets through has its answer. -/
theorem State.setup_ok (s : State) (path : Path) (off : Nat) (r : SetupResult) (h : s.pathOk path = true) :
    s.setup path off r = r.1.respond path off r.2 := if_pos h

theorem effect_adminUpWrite {s : State} (ha : s.awake = true) (p : Fin 2) (v : BitVec 64) (path : Path)
    (hp : s.pathOk path = true) : effect (.adminUpWrite p v path) s
      ((s.writeEthCtrl p v.toNat).1.respond path (ethOff p 0) (s.writeEthCtrl p v.toNat).2) := by
  rw [← s.setup_ok path _ _ hp]
  exact effect_of_live ha rfl

theorem effect_restoreFull {s : State} (ha : s.awake = true) (p : Fin 2) (v : BitVec 64) (path : Path)
    (hp : s.pathOk path = true) : effect (.restoreFull p v path) s
      ((s.writeEthCtrl p v.toNat).1.respond path (ethOff p 0) (s.writeEthCtrl p v.toNat).2) := by
  rw [← s.setup_ok path _ _ hp]
  exact effect_of_live ha rfl

/-- Settles O16: each command is `live` at its unit's operation, whose own lemma says what that is in each form. -/
theorem portLinkCommands : Obligations.PortLinkCommands := by
  intro s p ha
  refine ⟨fun hw hx hl hr hp => ⟨_, effect_portBringupStart ha p hw, ?start⟩,
    effect_linkUp ha p,
    fun u hx hf => ⟨_, effect_bringupAbandon ha p u, ?firstFailure⟩,
    fun t u hx hf ht => ⟨_, effect_bringupAbandon ha p u, ?laterFailure⟩,
    effect_bringupRetry ha p,
    effect_linkDown ha p,
    fun v path hp hm hf hu => ⟨s.withEthCtrl p v.toNat, ?written, ?adminUp, ?media, ?link⟩,
    fun v path hp hv hs => ?reserved,
    fun v path hp hm hf hl => ?failedLane,
    fun v path hp hm hf hl => ?restored⟩
  case start =>
    rw [s.startAttempt_ownPlan p hx hl hr hp]
    simp only [← s.trains_iff p]
    have hbringup : (s.attempting p).rd R.ETH.STATUS.BRINGUP p = 1 := State.rd_wr_same _ _ _ _
    have hattempt : ((s.attempting p).port p).attempt = true := by rw [s.attempting_port p]
    cases s.trains p with
    | true => exact ⟨(State.emit_rd _ _ _ _).trans hbringup, by rw [if_pos rfl, State.emit_port, hattempt], rfl, rfl⟩
    | false => exact ⟨hbringup, hattempt, rfl, (List.append_nil _).symm⟩
  case firstFailure =>
    rw [s.abandonAttempt_first p u hx hf]
    refine ⟨?_, ?_, ?_, ?_, State.raise_sticky _ _ _ _⟩
    · rw [State.rd_raise _ _ _ _ _ _ rfl, State.abandoned, State.rd_wr_same, Nat.zero_mod]
    all_goals rw [State.raise_port, State.abandoned_port]
  case laterFailure =>
    rw [s.abandonAttempt_again p u t hx hf ht, State.abandoned_port]
    exact ⟨rfl, rfl, rfl⟩
  case written => simpa [s.writeEthCtrl_enabled p v.toNat hm hf hu] using effect_adminUpWrite ha p v path hp
  case adminUp => rw [State.withEthCtrl, State.rd_takes_mem _ _ _ (by simp) (by decide), hu]
  case media => rw [State.withEthCtrl, State.rd_takes_mem _ _ _ (by simp) (by decide)]
  case link => rw [State.withEthCtrl, State.rd_takes_field _ _ _ _ _ _ (by decide)]
  case reserved => simpa [s.writeEthCtrl_reserved p v.toNat hv hs] using effect_adminUpWrite ha p v path hp
  case failedLane => simpa [s.writeEthCtrl_failedLane p v.toNat hm hf hl] using effect_restoreFull ha p v path hp
  case restored => simpa [s.writeEthCtrl_restored p v.toNat hm hf hl] using effect_restoreFull ha p v path hp

end Sys2Proof.Machine
end

section
/-! SerDes lanes: what their failure and the drop of their link leave of the registers, and the word boundary (04 R92-R95, R107, R108,
18 R417). -/

namespace Sys2Proof.Machine

theorem State.rd_portIdle (s : State) (p : Nat) (g : Fld) (j : Nat) (h : g.id ≠ R.ETH.STATUS.BRINGUP.id) :
    (s.portIdle p).rd g j = s.rd g j := by
  rw [State.portIdle, State.rd_wr_field _ _ _ _ _ _ h, State.setPort_rd]

/-- The drop of a link leaves the registers that neither the port nor its events write. -/
theorem State.rd_portDrop (s : State) (p : Nat) (g : Fld) (j : Nat) (hp : g.id ∉ postIds) (hd : g.id ∉ downIds)
    (hb : g.id ≠ R.ETH.STATUS.BRINGUP.id) : (s.portDrop p).rd g j = s.rd g j := by
  rw [s.portDrop_eq, State.rd_postAll hp, State.showDown_rd _ _ _ _ hd, State.quietPort_rd, State.rd_wr_field _ _ _ _ _ _ hb]

theorem State.rd_portLinkDown (s : State) (p : Nat) (g : Fld) (j : Nat) (hp : g.id ∉ postIds) (hd : g.id ∉ downIds)
    (hb : g.id ≠ R.ETH.STATUS.BRINGUP.id) (hf : g.notFault = true) : (s.portLinkDown p).rd g j = s.rd g j := by
  unfold State.portLinkDown
  split
  · rw [State.rd_raise _ _ _ _ _ _ hf, s.rd_portDrop p g j hp hd hb]
  · exact s.rd_portIdle p g j hb

theorem State.rd_clampRates (s : State) (p rate : Nat) (g : Fld) (j : Nat) (h : g.id ≠ R.XPT.QP_RATE.RATE.id) :
    (s.clampRates p rate).rd g j = s.rd g j :=
  foldl_keeps _ (State.rd · g j) _ (fun t _ _ => t.rd_wr_field _ _ _ _ _ h) s

/-- A fallback writes the port's width and the rates of its QPs (R94, R95). -/
theorem State.rd_fallBack (s : State) (p k : Nat) (g : Fld) (j : Nat) (hr : g.id ≠ R.XPT.QP_RATE.RATE.id)
    (hl : g.id ≠ R.ETH.STATUS.ACTIVE_LANES.id) (hb : g.id ≠ R.ETH.LINK_EVT.FALLBACKS.id) (hf : g.notFault = true) :
    (s.fallBack p k).rd g j = s.rd g j := by
  unfold State.fallBack
  dsimp only
  rw [State.rd_raise _ _ _ _ _ _ hf, State.rd_clampRates _ _ _ _ _ hr, State.rd_wr_field _ _ _ _ _ _ hl,
    State.rd_bump_field _ _ _ _ _ _ hb, State.setPort_rd]

/-- A lane that is declared failed stays so whatever its port does then (R93). -/
theorem State.declareLane_failed (s : State) (l : Nat) : (s.declareLane l).on R.SDS.STATUS.FAILED l = true := by
  have hfailed (t : State) : (((t.wr R.SDS.STATUS.FAILED 1 l).portLinkDown (l / 4))).rd R.SDS.STATUS.FAILED l = 1 := by
    rw [State.rd_portLinkDown _ _ _ _ (by decide) (by decide) (by decide) rfl, State.rd_wr_same]
    rfl
  suffices h : (s.declareLane l).rd R.SDS.STATUS.FAILED l = 1 by rw [State.on, h]; rfl
  unfold State.declareLane
  dsimp only
  split
  · rw [State.rd_fallBack _ _ _ _ _ (by decide) (by decide) (by decide) rfl, hfailed]
  · exact hfailed _
  · rw [State.rd_raise _ _ _ _ _ _ rfl, hfailed]

/-- The value of SDS.CTRL that BITSLIP writes, place by place. -/
theorem State.slipValue_eq (s : State) (l : Nat) : s.slipValue l = 2 ^ 10 + s.rd R.SDS.CTRL.TX_INV l + s.rd R.SDS.CTRL.RX_INV l * 2 +
    s.rd R.SDS.CTRL.TX_SQUELCH l * 4 + s.rd R.SDS.CTRL.LOOPBACK l * 8 + s.rd R.SDS.CTRL.PRBS_GEN l * 64 +
    s.rd R.SDS.CTRL.PRBS_CHK l * 256 := by
  simp [State.slipValue, R.SDS.CTRL.TX_INV]
  rfl

/-- That value has each field as it stands, and BITSLIP set. -/
theorem State.parts_slipValue (s : State) (l : Nat) :
    part (s.slipValue l) R.SDS.CTRL.LOOPBACK = s.rd R.SDS.CTRL.LOOPBACK l ∧
    part (s.slipValue l) R.SDS.CTRL.PRBS_GEN = s.rd R.SDS.CTRL.PRBS_GEN l ∧
    part (s.slipValue l) R.SDS.CTRL.PRBS_CHK = s.rd R.SDS.CTRL.PRBS_CHK l ∧ part (s.slipValue l) R.SDS.CTRL.BITSLIP = 1 := by
  have htx : s.rd R.SDS.CTRL.TX_INV l < 2 ^ 1 := s.rd_lt _ l
  have hrx : s.rd R.SDS.CTRL.RX_INV l < 2 ^ 1 := s.rd_lt _ l
  have hsq : s.rd R.SDS.CTRL.TX_SQUELCH l < 2 ^ 1 := s.rd_lt _ l
  have hlo : s.rd R.SDS.CTRL.LOOPBACK l < 2 ^ 3 := s.rd_lt _ l
  have hgen : s.rd R.SDS.CTRL.PRBS_GEN l < 2 ^ 2 := s.rd_lt _ l
  have hchk : s.rd R.SDS.CTRL.PRBS_CHK l < 2 ^ 2 := s.rd_lt _ l
  rw [s.slipValue_eq l]
  refine ⟨?_, ?_, ?_, ?_⟩
  · show _ / 2 ^ 3 % 2 ^ 3 = _
    omega
  · show _ / 2 ^ 6 % 2 ^ 2 = _
    omega
  · show _ / 2 ^ 8 % 2 ^ 2 = _
    omega
  · show _ / 2 ^ 10 % 2 ^ 1 = _
    omega

/-- The state whose SDS.CTRL takes a value; the checker looks for its pattern anew (R108). -/
def State.withSdsCtrl (s : State) (l v : Nat) : State :=
  (s.takes v l [R.SDS.CTRL.TX_INV, R.SDS.CTRL.RX_INV, R.SDS.CTRL.TX_SQUELCH, R.SDS.CTRL.LOOPBACK, R.SDS.CTRL.PRBS_GEN,
    R.SDS.CTRL.PRBS_CHK]).wr R.SDS.PRBS_ERR.LOCKED 0 l

theorem State.withSdsCtrl_tack (s : State) (l v : Nat) : (s.withSdsCtrl l v).tack = s.tack := by
  obtain ⟨r, hr⟩ := s.takes_regsOnly v l [R.SDS.CTRL.TX_INV, R.SDS.CTRL.RX_INV, R.SDS.CTRL.TX_SQUELCH, R.SDS.CTRL.LOOPBACK,
    R.SDS.CTRL.PRBS_GEN, R.SDS.CTRL.PRBS_CHK]
  rw [State.withSdsCtrl, hr]
  rfl

/-- A write that changes no test asks nothing of the mode (R107). -/
theorem State.writeSdsCtrl_slipValue (s : State) (l : Nat) :
    s.writeSdsCtrl l (s.slipValue l) = (((s.withSdsCtrl l (s.slipValue l)).slip l).testMark, 0) := by
  obtain ⟨hloop, hgen, hchk, hslip⟩ := s.parts_slipValue l
  simp [State.writeSdsCtrl, State.chg, hloop, hgen, hchk, hslip, State.withSdsCtrl, State.accept, stOk]

theorem State.slip_free (s : State) (l : Nat) (h : 8 ≤ l) (hf : s.tack.aligned.contains (l - 8) = false) :
    s.slip l = s.wr R.SDS.STATUS.SLIP_POS ((s.rd R.SDS.STATUS.SLIP_POS l + 1) % 64) l := by
  refine if_pos ⟨h, ?_⟩
  rw [hf]
  exact Bool.false_ne_true

theorem State.rd_testMark (s : State) (g : Fld) (j : Nat) (h : g.id ≠ R.ETH.STATUS.LOOPBACK.id) : s.testMark.rd g j = s.rd g j := by
  rw [State.testMark, State.put, State.put, State.rd_wr_field _ _ _ _ _ _ h, State.rd_wr_field _ _ _ _ _ _ h]

/-- BITSLIP on an unaligned Tack lane moves its word boundary by one bit of 64 and keeps the rest of SDS.CTRL (R108). -/
theorem State.writeSdsCtrl_slips (s : State) (l : Nat) (h : 8 ≤ l) (hf : s.tack.aligned.contains (l - 8) = false) :
    (s.writeSdsCtrl l (s.slipValue l)).1.rd R.SDS.STATUS.SLIP_POS l = (s.rd R.SDS.STATUS.SLIP_POS l + 1) % 64 ∧
    (s.writeSdsCtrl l (s.slipValue l)).1.rd R.SDS.CTRL.LOOPBACK l = s.rd R.SDS.CTRL.LOOPBACK l := by
  rw [s.writeSdsCtrl_slipValue, State.slip_free _ _ h (by rwa [State.withSdsCtrl_tack])]
  dsimp only
  refine ⟨?_, ?_⟩
  · rw [State.rd_testMark _ _ _ (by decide), State.rd_wr_same, State.withSdsCtrl, State.rd_wr_field _ _ _ _ _ _ (by decide),
      State.rd_takes_field _ _ _ _ _ _ (by decide)]
    exact Nat.mod_mod _ 64
  · rw [State.rd_testMark _ _ _ (by decide), State.rd_wr_field _ _ _ _ _ _ (by decide), State.withSdsCtrl,
      State.rd_wr_field _ _ _ _ _ _ (by decide), State.rd_takes_mem _ _ _ (by simp) (by decide)]
    exact (s.parts_slipValue l).1

end Sys2Proof.Machine
end

section
/-! The statement about SerDes lanes (04 R92, R93, R108, 18 R417). -/

namespace Sys2Proof.Machine

theorem State.assertLane_clear (s : State) (l : Nat) (now sticky : Fld) (src : Nat) (h : s.on now l = false) :
    s.assertLane l now sticky src = ((s.wr now 1 l).wr sticky 1 l).raise src (laneUnit l) := by
  rw [State.assertLane, h, if_neg Bool.false_ne_true]

theorem effect_losAssert {s : State} (ha : s.awake = true) (l : Fin 16) :
    effect (.losAssert l) s (s.assertLane l R.SDS.STATUS.LOS R.SDS.STATUS.LOS_STICKY Src.sdsLos).judge := effect_of_live ha rfl

theorem effect_lolAssert {s : State} (ha : s.awake = true) (l : Fin 16) :
    effect (.lolAssert l) s (s.assertLane l R.SDS.STATUS.LOL R.SDS.STATUS.LOL_STICKY Src.sdsLol) := effect_of_live ha rfl

theorem effect_laneDeclaredFailed {s : State} (ha : s.awake = true) (l : Fin 16) : effect (.laneDeclaredFailed l) s
    (if s.on R.SDS.STATUS.FAILED l ∨ ¬ s.laneFails l then s else if l.val < 8 then s.declareLane l else s.declareTackLane l) :=
  effect_of_live ha rfl

theorem State.declareTackLane_unused (s : State) (l : Nat) (h : s.tack.lanes.contains (l - 8) = false) :
    s.declareTackLane l = s.wr R.SDS.STATUS.FAILED 1 l := if_neg (ne_true_of_eq_false h)

theorem State.declareTackLane_used (s : State) (l : Nat) (h : s.tack.lanes.contains (l - 8) = true) :
    s.declareTackLane l = (s.wr R.SDS.STATUS.FAILED 1 l).tackLinkDown := if_pos h

/-- A port-lane that meets a condition of R93 is declared failed once. -/
theorem effect_laneDeclaredFailed_port {s : State} (ha : s.awake = true) (l : Fin 16) (hn : s.on R.SDS.STATUS.FAILED l = false)
    (hf : s.laneFails l = true) (hl : l.val < 8) : effect (.laneDeclaredFailed l) s (s.declareLane l) := by
  simpa [hn, hf, hl] using effect_laneDeclaredFailed ha l

/-- A Tack lane that meets a condition of R93 or R417 is declared failed once. -/
theorem effect_laneDeclaredFailed_tack {s : State} (ha : s.awake = true) (l : Fin 16) (hn : s.on R.SDS.STATUS.FAILED l = false)
    (hf : s.laneFails l = true) (hl : 8 ≤ l.val) : effect (.laneDeclaredFailed l) s (s.declareTackLane l) := by
  simpa [hn, hf, Nat.not_lt.mpr hl] using effect_laneDeclaredFailed ha l

theorem effect_bitslip {s : State} (ha : s.awake = true) (l : Fin 16) (path : Path) (hp : s.pathOk path = true) :
    effect (.bitslip l path) s ((s.writeSdsCtrl l (s.slipValue l)).1.respond path (sdsOff l 0)
      (s.writeSdsCtrl l (s.slipValue l)).2) := by
  rw [← s.setup_ok path _ _ hp]
  exact effect_of_live ha rfl

theorem effect_prbsCheckerLock {s : State} (ha : s.awake = true) (l : Fin 16) (hc : s.on R.SDS.CTRL.PRBS_CHK l = true)
    (hs : s.seesPattern l = true) (hn : s.on R.SDS.PRBS_ERR.LOCKED l = false) : effect (.prbsCheckerLock l) s
      ((s.wr R.SDS.PRBS_ERR.LOCKED 1 l).wr R.SDS.PRBS_ERR.ERRORS 0 l) :=
  effect_of_guard ha rfl ⟨hc, hs, ne_true_of_eq_false hn⟩

/-- Settles O18: each command is `live` at its lane's operation; `State.writeSdsCtrl_slips` says what a bit slip leaves, and
`State.declareLane_failed` what a failure does. -/
theorem laneCommands : Obligations.LaneCommands := by
  intro s l ha
  refine ⟨fun h => ?losAssert, fun h => ?lolAssert, effect_of_live ha rfl, effect_of_live ha rfl,
    effect_laneDeclaredFailed_port ha l,
    fun hn hf hl hu => ?unusedTackLane,
    fun hn hf hl hu => ?usedTackLane,
    fun hf => ?soundLane,
    fun path hp hl hfree => ⟨_, ?bitslip, s.writeSdsCtrl_slips l hl hfree⟩,
    effect_prbsCheckerLock ha l,
    s.declareLane_failed l⟩
  case losAssert =>
    rw [← s.assertLane_clear l _ _ _ h]
    exact effect_losAssert ha l
  case lolAssert =>
    rw [← s.assertLane_clear l _ _ _ h]
    exact effect_lolAssert ha l
  case unusedTackLane =>
    rw [← s.declareTackLane_unused l hu]
    exact effect_laneDeclaredFailed_tack ha l hn hf hl
  case usedTackLane =>
    rw [← s.declareTackLane_used l hu]
    exact effect_laneDeclaredFailed_tack ha l hn hf hl
  case soundLane => simpa [hf] using effect_laneDeclaredFailed ha l
  case bitslip =>
    have he := effect_bitslip ha l path hp
    have hst : (s.writeSdsCtrl l (s.slipValue l)).2 = 0 := by rw [s.writeSdsCtrl_slipValue l]
    rwa [hst] at he

end Sys2Proof.Machine
end

section
/-! Frames that reach a port or leave it, and pauses (04 R98-R103, R105). -/

namespace Sys2Proof.Machine

theorem State.tagsOk_congr {s t : State} (h : t.regs = s.regs) (p : Nat) (tags : List Tag) : t.tagsOk p tags = s.tagsOk p tags := by
  simp only [State.tagsOk, State.on, State.rd_congr t s h]

theorem State.macOk_congr {s t : State} (h : t.regs = s.regs) (p dst : Nat) : t.macOk p dst = s.macOk p dst := by
  simp only [State.macOk, State.useVirtual, State.on, State.rd_congr t s h]

theorem State.ipOk_congr {s t : State} (h : t.regs = s.regs) (p : Nat) (v6 : Bool) (ip : Nat) : t.ipOk p v6 ip = s.ipOk p v6 ip := by
  simp only [State.ipOk, State.ownIp, State.virtIp, State.useVirtual, State.on, State.rd_congr t s h]

/-- The arrival of a frame of n bytes is counted (R306). -/
def State.arrived (s : State) (p n : Nat) : State := (s.countPort p 0).countPort p 2 (ceilDiv n 64)

theorem State.arrived_regs (s : State) (p n : Nat) : (s.arrived p n).regs = s.regs := by simp [State.arrived]

theorem State.frameIn_up (s : State) (p : Nat) (f : Frame) (h : s.on R.ETH.STATUS.LINK p = true) :
    s.frameIn p f = (s.arrived p f.len).filter p f := if_pos h

theorem State.frameIn_down (s : State) (p : Nat) (f : Frame) (h : s.on R.ETH.STATUS.LINK p = false) : s.frameIn p f = s :=
  if_neg (ne_true_of_eq_false h)

theorem State.filter_badFcs (s : State) (p : Nat) (f : Frame) (h : f.fcsOk = false) :
    s.filter p f = s.dropFrame p R.ETH.RX_DROP.BAD_FCS := if_pos (.inl (ne_true_of_eq_false h))

theorem State.filter_oversize (s : State) (p : Nat) (f : Frame) (hf : f.fcsOk = true) (hmin : 64 ≤ f.len) (hmax : 9216 < f.len) :
    s.filter p f = s.dropFrame p R.ETH.RX_DROP.OVERSIZE := by
  rw [State.filter, if_neg (by simp [hf, hmin]), if_pos hmax]

/-- A frame of the module's transport is delivered (R98). -/
theorem State.filter_roce (s : State) (p : Nat) (f : Frame) (v6 : Bool) (ip : Nat) (ce : Bool) (hf : f.fcsOk = true)
    (hmin : 64 ≤ f.len) (hmax : f.len ≤ 9216) (hb : f.body = .roce v6 ip ce) (ht : s.tagsOk p f.tags = true)
    (hm : s.macOk p f.dst = true) (hi : s.ipOk p v6 ip = true) : s.filter p f = s.deliver p f := by
  rw [State.filter, if_neg (by simp [hf, hmin]), if_neg (Nat.not_lt.mpr hmax), hb]
  dsimp only
  rw [if_pos ht, State.answer, hb]
  exact if_pos ⟨hm, hi⟩

theorem State.filter_pfc (s : State) (p : Nat) (vec : BitVec 8) (quanta : List Nat) :
    s.filter p { fcsOk := true, len := 64, dst := pfcMac, src := 0, tags := [], body := .pfc vec quanta } =
      s.applyPfc p vec.toNat quanta := by
  rw [State.filter, if_neg (by simp), if_neg (by simp)]
  exact if_pos rfl

/-- Clearing a bit clears it. -/
theorem bit_setBit_false_same (v i : Nat) : bit (setBit v i false) i = false := by
  unfold setBit
  cases h : bit v i with
  | false => simp [h]
  | true =>
    have hle : 2 ^ i ≤ v := Nat.ge_two_pow_of_testBit (by rwa [← bit_eq_testBit])
    have hflip : bit (2 ^ i + (v - 2 ^ i)) i = !bit (v - 2 ^ i) i := by
      rw [bit_eq_testBit, bit_eq_testBit, Nat.testBit_two_pow_add_eq]
    rw [Nat.add_sub_cancel' hle, h] at hflip
    simpa using hflip.symm

theorem State.rdBit_wrBit_false (s : State) (f : Fld) (i e : Nat) (h : i < f.width) : (s.wrBit f i false e).rdBit f i e = false := by
  rw [State.wrBit, State.rdBit, State.rd_wr_same, bit_mod_two_pow _ _ _ h, bit_setBit_false_same]

/-- A frame that leaves is put out and counted. -/
theorem State.putFrame_keeps (s : State) (p : Nat) (f : TxFrame) (n : Nat) :
    (s.putFrame p f n).regs = s.regs ∧ (s.putFrame p f n).ports = s.ports := by
  unfold State.putFrame
  split <;> simp [State.frameSent]

/-- What a pause held leaves in order, and with no packet held only the port's own frames do, which change neither the registers nor
the pauses (R103). -/
theorem State.resumePort_noPackets (s : State) (p : Nat) (h : (s.port p).txq = []) :
    (s.resumePort p).regs = s.regs ∧ ((s.resumePort p).port p).paused = (s.port p).paused := by
  have hframes (l : List (TxFrame × Nat)) (t : State) :
      (l.foldl (fun (s : State) e => s.putFrame p e.1 e.2) t).regs = t.regs ∧
      (l.foldl (fun (s : State) e => s.putFrame p e.1 e.2) t).port p = t.port p :=
    ⟨foldl_keeps _ State.regs l (fun t e _ => (t.putFrame_keeps p e.1 e.2).1) t,
      foldl_keeps _ (State.port · p) l (fun t e _ => State.port_congr (t.putFrame_keeps p e.1 e.2).2 p) t⟩
  unfold State.resumePort
  split
  · exact ⟨rfl, rfl⟩
  · dsimp only
    rw [h]
    dsimp only [List.length_nil, State.serveReady]
    rw [State.setPort_regs, State.setPort_same, (hframes _ _).1, (hframes _ _).2, State.setPort_same]
    exact ⟨rfl, rfl⟩

/-- A pause that has ended is shown so (R103). -/
theorem State.pauseEnds_clears (s : State) (p k : Nat) (hk : k < 8) (h : (s.port p).txq = []) :
    ((s.pauseEnds p k).port p).paused.get 0 k = 0 ∧ (s.pauseEnds p k).rdBit R.ETH.STATUS.PFC_RX_PAUSED k p = false := by
  have hx : ((s.setPort p { s.port p with paused := (s.port p).paused.set 0 k 0 }).wrBit R.ETH.STATUS.PFC_RX_PAUSED k false p).port p =
      { s.port p with paused := (s.port p).paused.set 0 k 0 } := by rw [State.wrBit_port, State.setPort_same]
  obtain ⟨hregs, hpaused⟩ := State.resumePort_noPackets _ p ((congrArg Port.txq hx).trans h)
  refine ⟨?_, ?_⟩
  · rw [State.pauseEnds, hpaused, hx, SMap.get_set_same]
  · rw [State.pauseEnds, State.rdBit, State.rd_congr _ _ hregs]
    exact State.rdBit_wrBit_false _ _ k p hk

/-- A PFC frame has no tag and no IP header (R99). -/
theorem State.frameHdr_pfc (s : State) (p k q : Nat) : s.frameHdr p (.pfc k q) = {} := by
  simp [State.frameHdr, TxFrame.isPfc, TxFrame.isIp]

/-- No pause holds a PFC frame back (R101, R103). -/
theorem State.sendFrame_pfc (s : State) (p k q : Nat) (h : s.on R.ETH.STATUS.LINK p = true) :
    s.sendFrame p (.pfc k q) = (s.emit (.frame p {} (.pfc k q))).frameSent p 64 := by
  rw [State.sendFrame, if_neg (by simp [TxFrame.isPfc]), State.putFrame, if_pos h, State.frameHdr_pfc]

theorem State.sendPfc_sends (s : State) (p k q : Nat) (h : s.on R.ETH.STATUS.LINK p = true) :
    (s.sendPfc p k q).out = s.out ++ [.frame p {} (.pfc k q)] ∧ (s.sendPfc p k q).regs = s.regs := by
  rw [State.sendPfc, s.sendFrame_pfc p k q h, State.frameSent]
  simp only [State.countPort_out, State.countPort_regs]
  exact ⟨rfl, rfl⟩

end Sys2Proof.Machine
end

section
/-! The statement about frames, priority flow control and the wake frame (04 R98, R101-R105, 20 R462). -/

namespace Sys2Proof.Machine

theorem effect_frameReceived {s : State} (ha : s.awake = true) (p : Fin 2) (f : Frame) :
    effect (.frameReceived p f) s (s.frameIn p f) := effect_of_live ha rfl

theorem effect_pfcFrameReceived {s : State} (ha : s.awake = true) (p : Fin 2) (vec : BitVec 8) (quanta : List Nat) :
    effect (.pfcFrameReceived p vec quanta) s
      (s.frameIn p { fcsOk := true, len := 64, dst := pfcMac, src := 0, tags := [], body := .pfc vec quanta }) :=
  effect_of_live ha rfl

theorem effect_pfcXoff {s : State} (ha : s.awake = true) (p : Fin 2) (k : Fin 8) (hl : s.on R.ETH.STATUS.LINK p = true)
    (hk : s.rdBit R.ETH.QOS_MAP.LOSSLESS k p = true) (hp : s.pausing p k = false)
    (hx : s.rd R.ETH.PFC.XOFF p ≤ (s.port p).held.get 0 k) : effect (.pfcXoff p k) s
      ((s.sendPfc p k (s.rd R.ETH.PFC.QUANTA p)).wrBit R.ETH.STATUS.PFC_TX_XOFF k true p) :=
  effect_of_guard ha rfl ⟨hl, hk, ne_true_of_eq_false hp, hx⟩

theorem effect_pfcRepeat {s : State} (ha : s.awake = true) (p : Fin 2) (k : Fin 8) (hl : s.on R.ETH.STATUS.LINK p = true)
    (hp : s.pausing p k = true) (hx : s.rd R.ETH.PFC.XON p ≤ (s.port p).held.get 0 k) :
    effect (.pfcRepeat p k) s (s.sendPfc p k (s.rd R.ETH.PFC.QUANTA p)) := effect_of_guard ha rfl ⟨hl, hp, hx⟩

theorem effect_pfcXon {s : State} (ha : s.awake = true) (p : Fin 2) (k : Fin 8) (hl : s.on R.ETH.STATUS.LINK p = true)
    (hp : s.pausing p k = true) (hx : (s.port p).held.get 0 k < s.rd R.ETH.PFC.XON p) :
    effect (.pfcXon p k) s ((s.sendPfc p k 0).wrBit R.ETH.STATUS.PFC_TX_XOFF k false p) := effect_of_guard ha rfl ⟨hl, hp, hx⟩

theorem effect_wakeFrame {s : State} (ha : s.awake = true) (p : Fin 2) (f : Frame) (hw : s.wakes p f = true) :
    effect (.wakeFrame p f) s s.wakeBy := effect_of_guard ha rfl hw

/-- Settles O19: a frame is what the receive filter makes of it, a PFC frame is what leaves in its place, and a wake frame is a request
for Serve, held in a round. -/
theorem frameCommands : Obligations.FrameCommands := by
  intro s p f ha
  have hin (hl : s.on R.ETH.STATUS.LINK p = true) : effect (.frameReceived p f) s ((s.arrived p f.len).filter p f) := by
    rw [← s.frameIn_up p f hl]
    exact effect_frameReceived ha p f
  refine ⟨fun hl hf => ?badFcs,
    fun hl hf hmin hmax => ?oversize,
    fun v6 ip ce hl hf hmin hmax hb ht hm hi => ?transport,
    fun hl => ?portDown,
    fun vec quanta hl => ?pfcIn,
    fun k => effect_of_live ha rfl,
    fun k => s.pauseEnds_clears p k k.isLt,
    fun k hl hk hp hx => ⟨_, effect_pfcXoff ha p k hl hk hp hx, ?pausing, (s.sendPfc_sends p k _ hl).1⟩,
    fun k hl hp hx => ⟨_, effect_pfcRepeat ha p k hl hp hx, ?repeated⟩,
    fun k hl hp hx => ⟨_, effect_pfcXon ha p k hl hp hx, State.rdBit_wrBit_false _ _ _ _ k.isLt, (s.sendPfc_sends p k _ hl).1⟩,
    fun hw hr => ⟨_, effect_wakeFrame ha p f hw, ?heldWake⟩,
    fun hw hr => ?wake⟩
  case badFcs =>
    have he := hin hl
    rwa [State.filter_badFcs _ _ _ hf] at he
  case oversize =>
    have he := hin hl
    rwa [State.filter_oversize _ _ _ hf hmin hmax] at he
  case transport =>
    have hregs := s.arrived_regs p f.len
    have he := hin hl
    rwa [State.filter_roce _ p f v6 ip ce hf hmin hmax hb (by rwa [State.tagsOk_congr hregs]) (by rwa [State.macOk_congr hregs])
      (by rwa [State.ipOk_congr hregs])] at he
  case portDown =>
    have he := effect_frameReceived ha p f
    rwa [s.frameIn_down p f hl] at he
  case pfcIn =>
    have he := effect_pfcFrameReceived ha p vec quanta
    have hlen : ceilDiv 64 64 = 1 := rfl
    rwa [s.frameIn_up p _ hl, State.filter_pfc, State.arrived, hlen] at he
  case pausing => rw [State.pausing, State.rdBit_wrBit_true _ _ _ _ _ k.isLt, beq_self_eq_true, Bool.true_or]
  case repeated =>
    obtain ⟨hout, hregs⟩ := s.sendPfc_sends p k (s.rd R.ETH.PFC.QUANTA p) hl
    rw [State.pausing, State.rdBit, State.rd_congr _ s hregs]
    exact ⟨hp, hout⟩
  case heldWake =>
    rw [State.wakeBy, if_pos hr]
    exact ⟨rfl, rfl⟩
  case wake =>
    have he := effect_wakeFrame ha p f hw
    rwa [State.wakeBy, if_neg (ne_true_of_eq_false hr)] at he

end Sys2Proof.Machine
end

section
/-! The checks of a received packet, and where it goes after them (05 R117). -/

namespace Sys2Proof.Machine

theorem State.rd_consumeFrame (s : State) (p i : Nat) (g : Fld) (j : Nat) (h : g.id ≠ R.ETH.STATUS.RX_BUFFERS.id) :
    (s.consumeFrame p i).rd g j = s.rd g j := by
  unfold State.consumeFrame
  dsimp only
  split
  · rfl
  · rw [State.rd_wr_field _ _ _ _ _ _ h, State.setPort_rd]

/-- The state in which a packet is checked: its frame is consumed, and the packet counted (R306). -/
def State.taken (s : State) (p : Packet) : State := (s.consumeFrame p.port).count 48

theorem State.rd_taken (s : State) (p : Packet) (g : Fld) (j : Nat) (h : g.id ≠ R.ETH.STATUS.RX_BUFFERS.id) :
    (s.taken p).rd g j = s.rd g j := by
  rw [State.taken, State.count_rd, s.rd_consumeFrame _ _ _ _ h]

theorem State.on_taken (s : State) (p : Packet) (g : Fld) (j : Nat) (h : g.id ≠ R.ETH.STATUS.RX_BUFFERS.id) :
    (s.taken p).on g j = s.on g j := by
  rw [State.on, s.rd_taken p g j h, State.on]

theorem State.qpOpen_taken (s : State) (p : Packet) (q : Nat) : (s.taken p).qpOpen q = s.qpOpen q := by
  simp (disch := decide) only [State.qpOpen, State.qpRts, State.rd_taken]

theorem State.qpDip_taken (s : State) (p : Packet) (q : Nat) : (s.taken p).qpDip q = s.qpDip q := by
  simp (disch := decide) only [State.qpDip, State.on_taken, State.rd_taken]

/-- A port that is down and holds no frame passes no packet (04 R90). -/
theorem State.inbound_absent (s : State) (p : Packet) (hl : s.on R.ETH.STATUS.LINK p.port = false)
    (hr : (s.port p.port).rx = []) : s.inbound p = (s, none) :=
  if_pos ⟨ne_true_of_eq_false hl, by rw [hr, List.isEmpty_nil]⟩

section
variable {s : State} {p : Packet} (harr : s.on R.ETH.STATUS.LINK p.port = true ∨ (s.port p.port).rx ≠ [])
include harr

theorem State.not_absent : ¬(¬s.on R.ETH.STATUS.LINK p.port = true ∧ (s.port p.port).rx.isEmpty = true) := by
  rw [List.isEmpty_iff]
  exact fun h => harr.elim h.1 fun hr => hr h.2

theorem State.inbound_badIcrc (hi : p.icrcOk = false) : s.inbound p = ((s.taken p).bump R.XPT.DROP.ICRC, none) :=
  (if_neg (State.not_absent harr)).trans (if_pos (ne_true_of_eq_false hi))

variable (hi : p.icrcOk = true)
include hi

theorem State.inbound_badQpn (hq : p.version ≠ 0 ∨ p.destQpn < 0x100 ∨ 0x500 ≤ p.destQpn) :
    s.inbound p = ((s.taken p).bump R.XPT.DROP.BAD_QP, none) :=
  (if_neg (State.not_absent harr)).trans <| (if_neg (not_not_intro hi)).trans (if_pos hq)

variable (hv : p.version = 0) (hlo : 0x100 ≤ p.destQpn) (hhi : p.destQpn < 0x500)
include hv hlo hhi

/-- A packet whose QPN is one of the module's passes the first two checks. -/
theorem State.inbound_qpn : s.inbound p =
    if ¬(s.taken p).qpOpen (p.destQpn - 0x100) then ((s.taken p).bump R.XPT.DROP.BAD_QP, none)
    else if (s.taken p).rd R.XPT.QP_STATE.PORT (p.destQpn - 0x100) ≠ p.port.val ∨
        gidOf p.ipv6 p.srcIp ≠ gidOf ((s.taken p).on R.XPT.QP_DEST.IPV6 (p.destQpn - 0x100)) ((s.taken p).qpDip (p.destQpn - 0x100)) ∨
        (s.taken p).rd R.XPT.QP_DEST.PKEY (p.destQpn - 0x100) ≠ p.pkey then ((s.taken p).bump R.XPT.DROP.PKEY_GID, none)
    else (if p.ce ∧ p.opcode ≠ opCnp then (s.taken p).noteCe (p.destQpn - 0x100) else s.taken p, some (p.destQpn - 0x100)) :=
  (if_neg (State.not_absent harr)).trans <| (if_neg (not_not_intro hi)).trans <|
    if_neg fun h => by unfold qpnBase at h; omega

theorem State.inbound_closed (ho : s.qpOpen (p.destQpn - 0x100) = false) :
    s.inbound p = ((s.taken p).bump R.XPT.DROP.BAD_QP, none) := by
  rw [State.inbound_qpn harr hi hv hlo hhi, s.qpOpen_taken, ho, if_pos Bool.false_ne_true]

variable (ho : s.qpOpen (p.destQpn - 0x100) = true)
include ho

theorem State.inbound_badPkey (hk : s.rd R.XPT.QP_DEST.PKEY (p.destQpn - 0x100) ≠ p.pkey) :
    s.inbound p = ((s.taken p).bump R.XPT.DROP.PKEY_GID, none) := by
  rw [State.inbound_qpn harr hi hv hlo hhi, s.qpOpen_taken, ho, if_neg (not_not_intro rfl),
    s.rd_taken p R.XPT.QP_DEST.PKEY _ (by decide), if_pos (.inr (.inr hk))]

/-- A packet that passes all four checks and has no CE mark reaches its QP. -/
theorem State.inbound_reaches (hport : s.rd R.XPT.QP_STATE.PORT (p.destQpn - 0x100) = p.port.val)
    (hgid : gidOf p.ipv6 p.srcIp = gidOf (s.on R.XPT.QP_DEST.IPV6 (p.destQpn - 0x100)) (s.qpDip (p.destQpn - 0x100)))
    (hk : s.rd R.XPT.QP_DEST.PKEY (p.destQpn - 0x100) = p.pkey) (hce : p.ce = false) :
    s.inbound p = (s.taken p, some (p.destQpn - 0x100)) := by
  rw [State.inbound_qpn harr hi hv hlo hhi, s.qpOpen_taken, s.qpDip_taken, s.on_taken _ _ _ (by decide),
    s.rd_taken _ _ _ (by decide), s.rd_taken _ _ _ (by decide)]
  simp [ho, hport, hgid, hk, hce]

end

section
variable {s u : State} {p : Packet}

theorem State.packetIn_dropped (h : s.inbound p = (u, none)) : s.packetIn p = u := by rw [State.packetIn, h]

variable {q : Nat} (h : s.inbound p = (u, some q))
include h

theorem State.packetIn_cnp (ho : p.opcode = opCnp) : s.packetIn p = u.cnpIn q := by
  rw [State.packetIn, h]
  exact if_pos ho

theorem State.packetIn_ack (ho : p.opcode = opAck) : s.packetIn p = u.aethIn q p := by
  rw [State.packetIn, h]
  exact (if_neg (by rw [ho]; decide)).trans (if_pos ho)

theorem State.packetIn_readResponseOnly (ho : p.opcode = 0x10) : s.packetIn p = u.readResponseIn q p := by
  rw [State.packetIn, h]
  simp [ho, opCnp, opAck, opAtomicAck, isAnswer]

/-- A packet that answers nothing is a request. -/
theorem State.packetIn_request (ho : isAnswer p.opcode = false) : s.packetIn p = u.requestIn q p := by
  have hother {op : Nat} (hop : isAnswer op = true) : p.opcode ≠ op := fun h => by simp [← h, ho] at hop
  rw [State.packetIn, h]
  dsimp only
  rw [if_neg (hother (by decide)), if_neg (hother (by decide)), if_neg (hother (by decide)), ho, if_neg Bool.false_ne_true]

end

theorem effect_dropped {c : Instr} {s u : State} {p : Packet} (ha : s.awake = true) (hc : exec c s = live s (s.packetIn p))
    (h : s.inbound p = (u, none)) : effect c s u := by
  rw [← State.packetIn_dropped h]
  exact effect_of_live ha hc

/-- Settles O20: each form is a packet that `State.inbound` drops at one check, having passed those before it, or hands on. -/
theorem packetChecks : Obligations.PacketChecks := by
  intro s p ha
  refine ⟨fun hl hr => effect_dropped ha rfl (s.inbound_absent p hl hr), fun harr => ⟨
    fun hi => effect_dropped ha rfl (State.inbound_badIcrc harr hi),
    fun hi hq => effect_dropped ha rfl (State.inbound_badQpn harr hi hq),
    fun hi hv hlo hhi ho => effect_dropped ha rfl (State.inbound_closed harr hi hv hlo hhi ho),
    fun hi hv hlo hhi ho hk => effect_dropped ha rfl (State.inbound_badPkey harr hi hv hlo hhi ho hk),
    fun hi hv hlo hhi ho hport hgid hk hce => State.inbound_reaches harr hi hv hlo hhi ho hport hgid hk hce⟩⟩

end Sys2Proof.Machine
end

section
/-! The responder: checks 5 to 9 of a request (05 R117-R126, 15 R369). -/

namespace Sys2Proof.Machine

section
variable {u v : State} {p : Packet} {q : Nat} (hd : u.doomed q = false)
include hd

/-- A context that has lost a word answers every request with 0x63 (15 R369). -/
theorem State.requestIn_broken (hb : (u.qp q).broken = true) : u.requestIn q p = u.nakAt q (p.psn % 2 ^ 24) 0x63 :=
  (if_neg (ne_true_of_eq_false hd)).trans (if_pos hb)

variable (hb : (u.qp q).broken = false) (ho : u.opOk q p.opcode = true)
include hb ho

theorem State.requestIn_offSequence (hp : p.psn % 2 ^ 24 ≠ u.rd R.XPT.QP_PSN.RQ_PSN q) :
    u.requestIn q p = u.offSequence q p (p.psn % 2 ^ 24) :=
  (if_neg (ne_true_of_eq_false hd)).trans <| (if_neg (ne_true_of_eq_false hb)).trans <|
    (if_neg (not_not_intro ho)).trans (if_pos hp)

variable (hp : p.psn % 2 ^ 24 = u.rd R.XPT.QP_PSN.RQ_PSN q) (hv : v = u.setQp q { u.qp q with nakSent := false })
include hp hv

/-- A request in sequence is checked for its form, and then by its place in its message. -/
theorem State.requestIn_inSequence : u.requestIn q p =
    if v.malformed q p then v.nakAt q (p.psn % 2 ^ 24) 0x61
    else if isMore p.opcode then v.morePacket q p (p.psn % 2 ^ 24) else v.firstPacket q p (p.psn % 2 ^ 24) := by
  subst hv
  exact (if_neg (ne_true_of_eq_false hd)).trans <| (if_neg (ne_true_of_eq_false hb)).trans <|
    (if_neg (not_not_intro ho)).trans (if_neg (not_not_intro hp))

theorem State.requestIn_malformed (hm : v.malformed q p = true) : u.requestIn q p = v.nakAt q (p.psn % 2 ^ 24) 0x61 := by
  rw [State.requestIn_inSequence hd hb ho hp hv, if_pos hm]

theorem State.requestIn_first (hm : v.malformed q p = false) (hf : isMore p.opcode = false) :
    u.requestIn q p = v.firstPacket q p (p.psn % 2 ^ 24) := by
  rw [State.requestIn_inSequence hd hb ho hp hv, hm, hf, if_neg Bool.false_ne_true, if_neg Bool.false_ne_true]

end

section
variable {v : State} {p : Packet} {q psn : Nat} (had : v.admits (v.firstBuffers q p) = true)
include had

/-- An admitted message whose rights fail is counted and answered with its status (06 R146, R127). -/
theorem State.firstPacket_denied {st : Nat} {t : MsgTarget} (hst : st ≠ 0) (ht : v.target (v.qpClient q) p = (st, t)) :
    v.firstPacket q p psn = (v.countDenied (v.qpClient q) st).nakAt q psn (nakOf st) := by
  refine (if_neg (not_not_intro had)).trans ?_
  rw [ht]
  cases st with
  | zero => exact absurd rfl hst
  | succ n => rfl

variable {t : MsgTarget} (ht : v.target (v.qpClient q) p = (0, t))
include ht

theorem State.firstPacket_write (ho : p.opcode = opWriteOnly) :
    v.firstPacket q p psn = v.beginWrite q p psn (v.firstBuffers q p) t := by
  refine (if_neg (not_not_intro had)).trans ?_
  rw [ht, ho]
  rfl

theorem State.firstPacket_read (ho : p.opcode = opRead) : v.firstPacket q p psn =
    (v.expectNext q (max 1 (ceilDiv p.dmaLen (v.mtu q)))).beginRead q p psn (v.firstBuffers q p) t := by
  refine (if_neg (not_not_intro had)).trans ?_
  rw [ht, ho]
  rfl

end

section
variable {v : State} {p : Packet} {q psn : Nat} {op : Nat} (had : v.admits (v.firstBuffers q p) = true)
  (ho : p.opcode = op) (hw : isWriteOp op = false) (hr : op ≠ opRead)
include had ho hw hr

/-- A message that is neither WRITE nor READ is an ATOMIC where it goes to a bolt. -/
theorem State.firstPacket_atomic {g : Nat} (ht : v.target (v.qpClient q) p = (0, .bolt g)) :
    v.firstPacket q p psn = v.beginAtomic q p psn (v.firstBuffers q p) g := by
  refine (if_neg (not_not_intro had)).trans ?_
  rw [ht, ho]
  exact (if_neg (ne_true_of_eq_false hw)).trans (if_neg hr)

/-- A message that is neither WRITE nor READ is a SEND where it goes to the doorbell (07 R164). -/
theorem State.firstPacket_send (ht : v.target (v.qpClient q) p = (0, .bell)) :
    v.firstPacket q p psn = (v.expectNext q 1).enqueue q
      { kind := .sendBell, psn := psn, ackReq := p.ackReq, data := p.payload, buffers := v.firstBuffers q p } := by
  refine (if_neg (not_not_intro had)).trans ?_
  rw [ht, ho]
  exact (if_neg (ne_true_of_eq_false hw)).trans (if_neg hr)

end

theorem effect_request {c : Instr} {s u : State} {p : Packet} {q op : Nat} (ha : s.awake = true) (hin : s.inbound p = (u, some q))
    (hc : exec c s = live s (s.packetIn p)) (ho : p.opcode = op) (hop : isAnswer op = false) : effect c s (u.requestIn q p) := by
  rw [← State.packetIn_request hin (by rw [ho, hop])]
  exact effect_of_live ha hc

/-- Settles O21: a request passes `State.requestIn`'s checks in their order; a message's first packet that is in sequence and well
formed is what `State.firstPacket` makes of it. -/
theorem responderCommands : Obligations.ResponderCommands := by
  intro s u v p q ha hin hd hv
  refine ⟨fun hb ho => ?broken, fun hb hp hm had => ?first, fun hb hp hm ho => ?malformed, fun hb hp ho => ?offSequence⟩
  case broken =>
    rw [← State.requestIn_broken hd hb]
    exact effect_request ha hin rfl ho rfl
  case first =>
    have hfirst {c : Instr} {op : Nat} (hc : exec c s = live s (s.packetIn p)) (ho : p.opcode = op) (hop : isAnswer op = false)
        (hok : u.opOk q op = true) (hmore : isMore op = false) : effect c s (v.firstPacket q p (p.psn % 2 ^ 24)) := by
      rw [← State.requestIn_first hd hb (by rw [ho, hok]) hp hv hm (by rw [ho, hmore])]
      exact effect_request ha hin hc ho hop
    refine ⟨fun t ho ht => ?write, fun t ho ht => ?read, fun g ho ht => ?swap, fun g ho ht => ?add, fun ho hrole ht => ?send,
      fun st t ho hst ht => ?denied⟩
    case write =>
      rw [← State.firstPacket_write had ht ho]
      exact hfirst rfl ho rfl rfl rfl
    case read =>
      rw [← State.firstPacket_read had ht ho]
      exact hfirst rfl ho rfl rfl rfl
    case swap =>
      have he := hfirst (c := .atomicCompareSwap p) rfl ho rfl rfl rfl
      rwa [State.firstPacket_atomic had ho rfl (by decide) ht] at he
    case add =>
      have he := hfirst (c := .atomicFetchAdd p) rfl ho rfl rfl rfl
      rwa [State.firstPacket_atomic had ho rfl (by decide) ht] at he
    case send =>
      have hcommand : u.on R.XPT.QP_STATE.ROLE q = true := by
        rw [hv, State.setQp_rd] at hrole
        rw [State.on, hrole]
        rfl
      have he := hfirst (c := .sendOnly p) rfl ho rfl (by rw [State.opOk, hcommand]; rfl) rfl
      rwa [State.firstPacket_send had ho rfl (by decide) ht] at he
    case denied =>
      rw [← State.firstPacket_denied had hst ht]
      exact hfirst rfl ho rfl rfl rfl
  case malformed =>
    rw [← State.requestIn_malformed hd hb (by rw [ho]; rfl) hp hv hm]
    exact effect_request ha hin rfl ho rfl
  case offSequence =>
    rw [← State.requestIn_offSequence hd hb (by rw [ho]; rfl) hp]
    exact effect_request ha hin rfl ho rfl

end Sys2Proof.Machine
end

section
/-! The order of a QP's held requests (05 R122, 15 R369). -/

namespace Sys2Proof.Machine

/-- A READ that waits for the fill of line 0, and whose pool buffer has gone bad meanwhile (15 R369). -/
def spoiltRead : HeldReq := { kind := .read, psn := 0, waits := [0], spoilt := true }

/-- A module whose QP 0 holds `spoiltRead` while the fill of line 0 is on its way. -/
def fillingSpoilt : State := { State.reset.setQp 0 { held := [spoiltRead] } with lng := { fills := [0] } }

/-- The request that joins lets the spoilt one fail, which takes the QP to ERROR with no request left. -/
theorem fillingSpoilt_enqueue :
    (fillingSpoilt.qp 0).held = [spoiltRead] ∧ spoiltRead.waits.any fillingSpoilt.lng.fills.contains = true ∧
      ((fillingSpoilt.enqueue 0 { kind := .write, psn := 1 }).qp 0).held = [] := by
  decide +kernel

/-- Refutes O22 by `fillingSpoilt`: a held request whose pool buffer is bad fails as soon as it is first in its QP, whatever lines it
waits for (15 R369, `State.pumpStep`), so what joins behind it does not wait but ends with its QP (R116). The statement has no premise
that the first request's buffer is sound. -/
theorem not_requestsWaitInOrder : ¬ Obligations.RequestsWaitInOrder := by
  unfold Obligations.RequestsWaitInOrder
  intro h
  obtain ⟨hheld, hwaits, hempty⟩ := fillingSpoilt_enqueue
  obtain ⟨hjoined, -⟩ := h fillingSpoilt 0 spoiltRead { kind := .write, psn := 1 } [] hheld hwaits
  rw [hempty] at hjoined
  exact List.cons_ne_nil _ _ hjoined.symm

end Sys2Proof.Machine
end

section
/-! The requester: what the client answers, retransmission and the transmit rate (05 R123, R128, R131). -/

namespace Sys2Proof.Machine

theorem State.aethIn_ack (u : State) (q : Nat) (p : Packet) (h : bits p.syndrome 5 2 = 0) :
    u.aethIn q p = u.ackIn q (p.psn % 2 ^ 24) := by rw [State.aethIn, h]; rfl

theorem State.aethIn_rnr (u : State) (q : Nat) (p : Packet) (h : bits p.syndrome 5 2 = 1) :
    u.aethIn q p = u.rnrIn q (p.psn % 2 ^ 24) := by rw [State.aethIn, h]; rfl

theorem State.aethIn_nak (u : State) (q : Nat) (p : Packet) (h : bits p.syndrome 5 2 = 3) :
    u.aethIn q p = u.nakIn q (p.psn % 2 ^ 24) (p.syndrome % 256) := by rw [State.aethIn, h]; rfl

/-- An acknowledge packet that reached its QP has the effect its syndrome says. -/
theorem effect_acknowledge {c : Instr} {s u w : State} {p : Packet} {q : Nat} (ha : s.awake = true)
    (hin : s.inbound p = (u, some q)) (hc : exec c s = live s (s.packetIn p)) (ho : p.opcode = opAck)
    (hw : u.aethIn q p = w) : effect c s w := by
  rw [← hw, ← State.packetIn_ack hin ho]
  exact effect_of_live ha hc

theorem effect_readResponseReceived {s u : State} {p : Packet} {q : Nat} (ha : s.awake = true)
    (hin : s.inbound p = (u, some q)) (ho : p.opcode = 0x10) : effect (.readResponseReceived p) s (u.readResponseIn q p) := by
  rw [← State.packetIn_readResponseOnly hin ho]
  exact effect_of_live ha rfl

theorem effect_cnpReceived {s u : State} {p : Packet} {q : Nat} (ha : s.awake = true)
    (hin : s.inbound p = (u, some q)) (ho : p.opcode = opCnp) : effect (.cnpReceived p) s (u.cnpIn q) := by
  rw [← State.packetIn_cnp hin ho]
  exact effect_of_live ha rfl

theorem effect_ackDelayExpiry {s : State} (ha : s.awake = true) (qp : Fin 1024) {psn : Nat}
    (h : (s.qp qp).unacked.getLast? = some psn) : effect (.ackDelayExpiry qp) s (s.sendAck qp psn) := by
  have he : effect (.ackDelayExpiry qp) s (match (s.qp qp).unacked.getLast? with | some psn => s.sendAck qp psn | none => s) :=
    effect_of_live ha rfl
  rwa [h] at he

/-- The CNP is counted before its QP's rate is cut (R131). -/
def State.cnpCounted (s : State) (q : Nat) : State := (s.bump R.XPT.QP_RATE.CNP_RX q).count 56

theorem State.rd_cnpCounted (s : State) (q : Nat) (g : Fld) (j : Nat) (h : g.id ≠ R.XPT.QP_RATE.CNP_RX.id) :
    (s.cnpCounted q).rd g j = s.rd g j := by
  rw [State.cnpCounted, State.count_rd, State.rd_bump_field _ _ _ _ _ _ h]

theorem State.cnpCounted_qp (s : State) (q j : Nat) : (s.cnpCounted q).qp j = s.qp j := by
  rw [State.cnpCounted, State.count_qp, State.bump_qp]

theorem State.cnpCounted_tick (s : State) (q : Nat) : (s.cnpCounted q).tick = s.tick := by
  rw [State.cnpCounted, State.count_tick, State.bump_tick]

/-- The first CNP of a QP that sends under rate control cuts its rate and starts a period (R131). -/
theorem State.cnpIn_first (s : State) (q : Nat) (hcut : (s.qp q).lastCut = none) (hcc : s.on R.XPT.CC.CC_EN = true)
    (hrts : s.qpRts q = true) : s.cnpIn q =
      ((s.cnpCounted q).setQp q { s.qp q with period := some s.tick, lastCut := some s.tick }).wr R.XPT.QP_RATE.RATE
        (s.cutRate q) q := by
  have hon : (s.cnpCounted q).on R.XPT.CC.CC_EN = true := by rwa [State.on, s.rd_cnpCounted q _ _ (by decide)]
  have hopen : (s.cnpCounted q).qpRts q = true := by rwa [State.qpRts, s.rd_cnpCounted q _ _ (by decide)]
  have hrate : (s.cnpCounted q).cutRate q = s.cutRate q := by
    rw [State.cutRate, s.rd_cnpCounted q _ _ (by decide), s.rd_cnpCounted q _ _ (by decide), State.cutRate]
  rw [State.cnpIn, ← State.cnpCounted]
  simp only [hon, hopen, hrate, s.cnpCounted_qp, s.cnpCounted_tick, hcut]
  rfl

theorem effect_rnrWaitExpiry {s : State} (ha : s.awake = true) (qp : Fin 1024) :
    effect (.rnrWaitExpiry qp) s (s.rnrOver qp) := effect_of_live ha rfl

theorem State.rnrOver_waiting (s : State) (q : Nat) (h : (s.qp q).rnrWait = true) :
    s.rnrOver q = ((s.setQp q { s.qp q with rnrWait := false }).retransmit q).drainQp q := if_pos h

theorem State.rnrOver_idle (s : State) (q : Nat) (h : (s.qp q).rnrWait = false) : s.rnrOver q = s :=
  if_neg (ne_true_of_eq_false h)

theorem effect_ackTimeout {s : State} (ha : s.awake = true) (qp : Fin 1024) : effect (.ackTimeout qp) s (s.timeout qp) :=
  effect_of_live ha rfl

/-- A timer that runs retransmits for as long as retries are left (R128). -/
theorem State.timeout_running (s : State) (q : Nat) (hrts : s.qpRts q = true) (hsent : (s.qp q).sent ≠ [])
    (hwait : (s.qp q).rnrWait = false) (hpause : s.pausedFor q = false) : s.timeout q =
      if s.rd R.XPT.QP_STATE.RETRY_CNT q ≤ (s.qp q).retries then ((s.bump R.XPT.RETRY.TIMEOUTS).count 57).qpError q 0xFF 0
      else (((s.bump R.XPT.RETRY.TIMEOUTS).count 57).setQp q { s.qp q with retries := (s.qp q).retries + 1 }).retransmit q := by
  have hrun : ¬(¬s.qpRts q = true ∨ (s.qp q).sent.isEmpty = true ∨ (s.qp q).rnrWait = true ∨ s.pausedFor q = true) := by
    simp [hrts, hsent, hwait, hpause]
  refine (if_neg hrun).trans ?_
  rw [State.count_rd, State.rd_bump_field _ _ _ _ _ _ (by decide)]

/-- A new increase period of QP q starts, at a rate (R131). -/
def State.newPeriod (s : State) (q rate : Nat) : State :=
  (s.setQp q { s.qp q with period := some s.tick }).wr R.XPT.QP_RATE.RATE rate q

theorem effect_rateStep_due {s : State} (ha : s.awake = true) (qp : Fin 1024) (hrts : s.qpRts qp = true)
    (hcc : s.on R.XPT.CC.CC_EN = true) (hover : s.periodOver qp = true) : effect (.rateStep qp) s
      (s.newPeriod qp (min (s.rd R.XPT.QP_RATE.RATE qp + s.rd R.XPT.CC.RATE_STEP) (s.lineRate (s.rd R.XPT.QP_STATE.PORT qp)))) :=
  effect_of_guard ha rfl ⟨hrts, hcc, hover⟩

theorem effect_rateStep_early {s : State} (ha : s.awake = true) (qp : Fin 1024) (hover : s.periodOver qp = false) :
    effect (.rateStep qp) s s :=
  effect_of_live ha (congrArg (live s) (if_neg fun h => ne_true_of_eq_false hover h.2.2))

/-- Settles O23: an answer that reached its QP goes to the requester by its opcode and syndrome, and each timer is `live` at its
operation, whose own lemma says what that is in each form. -/
theorem requesterCommands : Obligations.RequesterCommands := by
  intro s qp ha
  refine ⟨fun psn => effect_ackDelayExpiry ha qp,
    fun u q p hin => ⟨effect_readResponseReceived ha hin,
      fun ho hsyn => effect_acknowledge ha hin rfl ho (u.aethIn_ack q p hsyn),
      fun ho hsyn => effect_acknowledge ha hin rfl ho (u.aethIn_nak q p hsyn),
      fun ho hsyn => effect_acknowledge ha hin rfl ho (u.aethIn_rnr q p hsyn),
      effect_cnpReceived ha hin, fun hout => if_neg (ne_true_of_eq_false hout)⟩,
    fun hcut hcc hrts => ?firstCnp,
    fun hwait => ?rnrOver,
    fun hwait => ?noRnrWait,
    fun hrts hsent hwait hpause => ⟨fun hleft => ?retry, fun hnone => ?noRetry⟩,
    fun hrts hcc hover => ⟨_, effect_rateStep_due ha qp hrts hcc hover, State.rd_wr_same _ _ _ _, rfl, rfl, rfl⟩,
    effect_rateStep_early ha qp⟩
  case firstCnp =>
    rw [s.cnpIn_first qp hcut hcc hrts, State.rd_wr_same, State.wr_qp, State.setQp_same]
    exact ⟨rfl, rfl⟩
  case rnrOver =>
    rw [← s.rnrOver_waiting qp hwait]
    exact effect_rnrWaitExpiry ha qp
  case noRnrWait =>
    have he := effect_rnrWaitExpiry ha qp
    rwa [s.rnrOver_idle qp hwait] at he
  case retry =>
    have he := effect_ackTimeout ha qp
    rwa [s.timeout_running qp hrts hsent hwait hpause, if_neg (Nat.not_le.mpr hleft)] at he
  case noRetry =>
    have he := effect_ackTimeout ha qp
    rwa [s.timeout_running qp hrts hsent hwait hpause, if_pos hnone] at he

end Sys2Proof.Machine
end

section
/-! The QP table: bindings and states (05 R114, R115, 06 R136). -/

namespace Sys2Proof.Machine

/-- A write of a set-up register that its path lets through has the effect of its answer (R157). -/
theorem effect_setup {c : Instr} {s : State} {path : Path} {off : Nat} {r : SetupResult} (ha : s.awake = true)
    (hp : s.pathOk path = true) (hc : exec c s = live s (s.setup path off r)) : effect c s (r.1.respond path off r.2) := by
  rw [← s.setup_ok path off r hp]
  exact effect_of_live ha hc

/-- The state whose QP q shows a binding (R136). -/
def State.withBinding (s : State) (q bound client : Nat) : State :=
  (s.wr R.XPT.QP_STATE.BOUND bound q).wr R.XPT.QP_STATE.CLIENT client q

theorem State.rd_withBinding (s : State) (q bound client : Nat) :
    (s.withBinding q bound client).rd R.XPT.QP_STATE.BOUND q = bound % 2 ∧
    (s.withBinding q bound client).rd R.XPT.QP_STATE.CLIENT q = client % 2 ^ R.XPT.QP_STATE.CLIENT.width := by
  rw [State.withBinding, State.rd_wr_same, State.rd_wr_field _ _ _ _ _ _ (by decide), State.rd_wr_same]
  exact ⟨rfl, rfl⟩

section
variable {s : State} {v : Nat}

/-- Beyond INIT neither binding nor unbinding is accepted (R136). -/
theorem State.writeQpBind_late (hs : 1 < s.rd R.XPT.QP_STATE.STATE (part v R.BLT.QP_BIND.QP)) :
    s.writeQpBind v = (s, stDenied) := by
  simp [State.writeQpBind, State.checked, hs]

theorem State.writeQpBind_noClient (hu : part v R.BLT.QP_BIND.UNBIND = 0)
    (hc : s.on R.BLT.CLIENT.VALID (part v R.BLT.QP_BIND.CLIENT) = false) : s.writeQpBind v = (s, stDenied) := by
  by_cases hs : 1 < s.rd R.XPT.QP_STATE.STATE (part v R.BLT.QP_BIND.QP)
  · exact State.writeQpBind_late hs
  · simp [State.writeQpBind, State.checked, hs, hu, hc]

variable (hs : s.rd R.XPT.QP_STATE.STATE (part v R.BLT.QP_BIND.QP) ≤ 1)
include hs

theorem State.writeQpBind_binds (hu : part v R.BLT.QP_BIND.UNBIND = 0)
    (hc : s.on R.BLT.CLIENT.VALID (part v R.BLT.QP_BIND.CLIENT) = true) :
    s.writeQpBind v = (s.withBinding (part v R.BLT.QP_BIND.QP) 1 (part v R.BLT.QP_BIND.CLIENT), 0) := by
  simp [State.writeQpBind, State.checked, Nat.not_lt.mpr hs, hu, hc, State.withBinding, stOk]

theorem State.writeQpBind_unbinds (hu : part v R.BLT.QP_BIND.UNBIND = 1) :
    s.writeQpBind v = (s.withBinding (part v R.BLT.QP_BIND.QP) 0 0, 0) := by
  simp [State.writeQpBind, State.checked, Nat.not_lt.mpr hs, hu, State.withBinding, stOk]

end

theorem State.qpGo_state (s : State) (q : Nat) :
    (s.qpGo q 1).rd R.XPT.QP_STATE.STATE q = 1 ∧ (s.qpGo q 2).rd R.XPT.QP_STATE.STATE q = 2 ∧
      (s.qpGo q 3).rd R.XPT.QP_STATE.STATE q = 3 :=
  ⟨State.rd_wr_same _ _ _ _, State.rd_wr_same _ _ _ _,
    (State.rd_wr_field _ _ _ _ _ _ (by decide)).trans (State.rd_wr_same _ _ _ _)⟩

/-- A write that would take a QP from RESET straight to RTS is refused (R114). -/
theorem State.writeQpState_resetToRts (s : State) (q v : Nat) (hs : s.rd R.XPT.QP_STATE.STATE q = 0)
    (hv : part v R.XPT.QP_STATE.STATE = 3) (hreq : s.chgAny v q qpReqFields = false)
    (hmtu : s.chg R.XPT.QP_STATE.MTU v q = false) : s.writeQpState q v = (s, stDenied) := by
  simp [State.writeQpState, State.checked, hs, hv, hreq, hmtu, qpWritable, qpStep]

/-- Settles O27: each command is the answer of the write of its register, which is accepted or refused as the QP's state and the
client say. -/
theorem qpTableCommands : Obligations.QpTableCommands := by
  intro s v path ha hp
  have hbind := effect_setup (c := .qpBind v path) ha hp rfl
  have hunbind := effect_setup (c := .qpUnbind v path) ha hp rfl
  refine ⟨fun hu hs hc => ⟨s.withBinding (part v.toNat R.BLT.QP_BIND.QP) 1 (part v.toNat R.BLT.QP_BIND.CLIENT), ?bind, ?bound,
      ?client, rfl, rfl⟩,
    fun hu hc => ?noClient,
    fun hu hs => ⟨s.withBinding (part v.toNat R.BLT.QP_BIND.QP) 0 0, ?unbind, (s.rd_withBinding _ _ _).1, rfl⟩,
    fun hs => ⟨?lateBind, ?lateUnbind⟩,
    s.qpGo_state,
    fun q hq hs hv hreq hmtu => ?resetToRts⟩
  case bind => rwa [State.writeQpBind_binds hs hu hc] at hbind
  case bound => exact (s.rd_withBinding _ _ _).1
  case client => exact (s.rd_withBinding _ _ _).2.trans (Nat.mod_eq_of_lt (part_lt _ _))
  case noClient => rwa [State.writeQpBind_noClient hu hc] at hbind
  case unbind => rwa [State.writeQpBind_unbinds hs hu] at hunbind
  case lateBind => rwa [State.writeQpBind_late hs] at hbind
  case lateUnbind => rwa [State.writeQpBind_late hs] at hunbind
  case resetToRts =>
    have he := effect_setup (c := .qpStateWrite v path) ha hp rfl
    rwa [← hq, s.writeQpState_resetToRts q v.toNat hs hv hreq hmtu] at he

end Sys2Proof.Machine
end

section
/-! The response registers, and set-up writes whose path is closed (06 R147, R152, R157). -/

namespace Sys2Proof.Machine

/-- Fields of registers at different offsets are different fields. -/
theorem Fld.id_ne_of_addr {f g : Fld} (h : g.addr % 2 ^ 20 ≠ f.addr % 2 ^ 20) : g.id ≠ f.id := by
  have hdiv (x : Fld) : x.id / 64 = x.addr % 2 ^ 20 := by unfold Fld.id; omega
  exact fun he => h (by rw [← hdiv g, ← hdiv f, he])

/-- Writing a field leaves the registers at other offsets as they are. -/
theorem State.rd_wr_addr (s : State) {f g : Fld} (v e j : Nat) (h : g.addr ≠ f.addr) (hg : g.addr < 2 ^ 20)
    (hf : f.addr < 2 ^ 20) : (s.wr f v e).rd g j = s.rd g j :=
  s.rd_wr_field f g v e j (Fld.id_ne_of_addr (by rwa [Nat.mod_eq_of_lt hg, Nat.mod_eq_of_lt hf]))

/-- The counters of an answered write: answers, and refusals among them (module events 8 and 9). -/
def State.countAnswer (s : State) (st : Nat) : State := if st = 0 then s.count 8 else (s.count 8).count 9

@[simp] theorem State.countAnswer_rd (s : State) (st : Nat) (g : Fld) (e : Nat) : (s.countAnswer st).rd g e = s.rd g e := by
  unfold State.countAnswer
  split <;> simp

theorem State.countAnswer_does (s : State) (st : Nat) : ∃ m, s.countAnswer st = { s with pmc := m } := by
  obtain ⟨m, hm⟩ := s.count_does 8 1
  unfold State.countAnswer
  split
  · exact ⟨m, hm⟩
  · obtain ⟨m', hm'⟩ := State.count_does { s with pmc := m } 9 1
    exact ⟨m', by rw [hm, hm']⟩

section
variable (s : State) (off : Nat) (c : Fin 64)

theorem State.respond_smb_ok : s.respond .smb off 0 = (s.countAnswer 0).wr R.GLB.SETUP_RESP_SMB.STATUS 0 := rfl

theorem State.respond_rdma_ok : s.respond (.rdma c) off 0 = (s.countAnswer 0).wr R.GLB.SETUP_RESP_RDMA.STATUS 0 := rfl

variable {st : Nat} (h : st ≠ 0)
include h

theorem State.respond_smb_refused : s.respond .smb off st =
    (((s.countAnswer st).wr R.GLB.SETUP_RESP_SMB.STATUS st).wr R.GLB.SETUP_RESP_SMB.OFFSET off).bump
      R.GLB.SETUP_RESP_SMB.REFUSED := by
  simp [State.respond, State.countAnswer, h]

theorem State.respond_rdma_refused : s.respond (.rdma c) off st =
    ((((s.countAnswer st).wr R.GLB.SETUP_RESP_RDMA.STATUS st).wr R.GLB.SETUP_RESP_RDMA.OFFSET off).wr
      R.GLB.SETUP_RESP_RDMA.CLIENT c.val).bump R.GLB.SETUP_RESP_RDMA.REFUSED := by
  simp [State.respond, State.countAnswer, h]

end

/-- A response changes registers and counters only. -/
theorem State.respond_does (s : State) (path : Path) (off st : Nat) :
    ∃ r m, s.respond path off st = { s with regs := r, pmc := m } := by
  obtain ⟨m, hm⟩ := s.countAnswer_does st
  by_cases h : st = 0
  · subst h
    cases path with
    | smb => exact ⟨_, m, by rw [s.respond_smb_ok, hm]; rfl⟩
    | rdma c => exact ⟨_, m, by rw [s.respond_rdma_ok, hm]; rfl⟩
  · cases path with
    | smb => exact ⟨_, m, by rw [s.respond_smb_refused off h, hm]; rfl⟩
    | rdma c => exact ⟨_, m, by rw [s.respond_rdma_refused off c h, hm]; rfl⟩

/-- The status of the last write, on either path. -/
theorem State.rd_respond_status (s : State) (off : Nat) (c : Fin 64) {st : Nat} (hst : st < 256) :
    (s.respond .smb off st).rd R.GLB.SETUP_RESP_SMB.STATUS = st ∧
    (s.respond (.rdma c) off st).rd R.GLB.SETUP_RESP_RDMA.STATUS = st := by
  by_cases h : st = 0
  · subst h
    exact ⟨State.rd_wr_same _ _ _ _, State.rd_wr_same _ _ _ _⟩
  · rw [s.respond_smb_refused off h, s.respond_rdma_refused off c h, State.rd_bump_field _ _ _ _ _ _ (by decide),
      State.rd_wr_field _ _ _ _ _ _ (by decide), State.rd_wr_same, State.rd_bump_field _ _ _ _ _ _ (by decide),
      State.rd_wr_field _ _ _ _ _ _ (by decide), State.rd_wr_field _ _ _ _ _ _ (by decide), State.rd_wr_same]
    exact ⟨Nat.mod_eq_of_lt hst, Nat.mod_eq_of_lt hst⟩

theorem State.rd_respond_smb_refused (s : State) {off st : Nat} (h : st ≠ 0) (ho : off < 2 ^ 20) :
    (s.respond .smb off st).rd R.GLB.SETUP_RESP_SMB.OFFSET = off ∧
    (s.respond .smb off st).rd R.GLB.SETUP_RESP_SMB.REFUSED =
      min (s.rd R.GLB.SETUP_RESP_SMB.REFUSED + 1) R.GLB.SETUP_RESP_SMB.REFUSED.max := by
  rw [s.respond_smb_refused off h]
  refine ⟨?_, ?_⟩
  · rw [State.rd_bump_field _ _ _ _ _ _ (by decide), State.rd_wr_same]
    exact Nat.mod_eq_of_lt ho
  · rw [State.rd_bump_same, State.rd_wr_field _ _ _ _ _ _ (by decide), State.rd_wr_field _ _ _ _ _ _ (by decide),
      State.countAnswer_rd]

theorem State.rd_respond_rdma_refused (s : State) (c : Fin 64) {off st : Nat} (h : st ≠ 0) (ho : off < 2 ^ 20) :
    (s.respond (.rdma c) off st).rd R.GLB.SETUP_RESP_RDMA.OFFSET = off ∧
    (s.respond (.rdma c) off st).rd R.GLB.SETUP_RESP_RDMA.CLIENT = c.val := by
  rw [s.respond_rdma_refused off c h]
  refine ⟨?_, ?_⟩
  · rw [State.rd_bump_field _ _ _ _ _ _ (by decide), State.rd_wr_field _ _ _ _ _ _ (by decide), State.rd_wr_same]
    exact Nat.mod_eq_of_lt ho
  · rw [State.rd_bump_field _ _ _ _ _ _ (by decide), State.rd_wr_same]
    exact Nat.mod_eq_of_lt c.isLt

/-- A response writes the two response registers and no other. -/
theorem State.rd_respond_other (s : State) (path : Path) (off st : Nat) {g : Fld} (e : Nat) (hs : g.addr ≠ 0x100)
    (hr : g.addr ≠ 0x108) (hg : g.addr < 2 ^ 20) : (s.respond path off st).rd g e = s.rd g e := by
  have hsmb (t : State) (f : Fld) (v : Nat) (hf : f.addr = 0x100) : (t.wr f v).rd g e = t.rd g e :=
    t.rd_wr_addr v 0 e (hf ▸ hs) hg (by rw [hf]; decide)
  have hrdma (t : State) (f : Fld) (v : Nat) (hf : f.addr = 0x108) : (t.wr f v).rd g e = t.rd g e :=
    t.rd_wr_addr v 0 e (hf ▸ hr) hg (by rw [hf]; decide)
  by_cases h : st = 0
  · subst h
    cases path with
    | smb => rw [s.respond_smb_ok, hsmb _ _ _ rfl, State.countAnswer_rd]
    | rdma c => rw [s.respond_rdma_ok, hrdma _ _ _ rfl, State.countAnswer_rd]
  · cases path with
    | smb =>
      rw [s.respond_smb_refused off h, State.bump, hsmb _ _ _ rfl, hsmb _ _ _ rfl, hsmb _ _ _ rfl, State.countAnswer_rd]
    | rdma c =>
      rw [s.respond_rdma_refused off c h, State.bump, hrdma _ _ _ rfl, hrdma _ _ _ rfl, hrdma _ _ _ rfl, hrdma _ _ _ rfl,
        State.countAnswer_rd]

/-- Settles O24: the equations of an accepted and of a refused answer, read field by field. -/
theorem setupResponse : Obligations.SetupResponse := by
  intro s off st c hst ho
  obtain ⟨hsmb, hrdma⟩ := s.rd_respond_status off c hst
  refine ⟨hsmb, hrdma, fun h => ?refused, fun h => ?kept, fun path g e hs hr hg _ => s.rd_respond_other path off st e hs hr hg,
    fun path => ?frame⟩
  case refused =>
    obtain ⟨hoff, hcount⟩ := s.rd_respond_smb_refused h ho
    obtain ⟨hoff', hclient⟩ := s.rd_respond_rdma_refused c h ho
    exact ⟨hoff, hcount, hoff', hclient⟩
  case kept =>
    subst h
    rw [s.respond_smb_ok, State.rd_wr_field _ _ _ _ _ _ (by decide), State.countAnswer_rd]
  case frame =>
    obtain ⟨r, m, h⟩ := s.respond_does path off st
    rw [h]
    exact ⟨rfl, rfl, rfl⟩

/-- A set-up write that its path does not let through is turned away (R147, R152). -/
theorem effect_setup_closed {c : Instr} {s : State} {path : Path} {off : Nat} {r : SetupResult} (ha : s.awake = true)
    (hp : s.pathOk path = false) (hc : exec c s = live s (s.setup path off r)) : effect c s (s.turnAway path) :=
  effect_of_live ha (by rw [hc, State.setup, if_neg (by simp [hp])])

theorem State.mirrored_closed (s : State) {path : Path} (off entry v : Nat) (r : SetupResult) (record : Option (List Byte))
    (data : List Byte) (hp : s.pathOk path = false) : s.mirrored path off entry v r record data = s.turnAway path :=
  if_pos (by simp [hp])

/-- A mirrored write that its path does not let through is turned away like any other (R147, R431). -/
theorem effect_mirrored_closed {c : Instr} {s : State} {path : Path} {off entry v : Nat} {r : SetupResult}
    (ha : s.awake = true) (hp : s.pathOk path = false) (hc : exec c s = live s (s.mirrored path off entry v r)) :
    effect c s (s.turnAway path) :=
  effect_of_live ha (by rw [hc, s.mirrored_closed off entry v r none [] hp])

/-- The state in which a denial of a client is counted (R147). -/
theorem State.countDenied_denied (s : State) (c : Nat) : s.countDenied c stDenied =
    ((s.count 192).bump R.BLT.CLIENT_STAT.DENIED c).bump R.BLT.ACC_FAULT.DENIED := rfl

theorem State.turnAway_running (s : State) (c : Fin 64) (h : s.running = true) : s.turnAway (.rdma c) =
    ((s.count 192).bump R.BLT.CLIENT_STAT.DENIED c).bump R.BLT.ACC_FAULT.DENIED :=
  (if_pos h).trans (s.countDenied_denied c)

theorem State.turnAway_idle (s : State) (c : Fin 64) (h : s.running = false) : s.turnAway (.rdma c) = s :=
  if_neg (by simp [h])

theorem State.rd_turnAway_denied (s : State) (c : Fin 64) (h : s.running = true) :
    (s.turnAway (.rdma c)).rd R.BLT.CLIENT_STAT.DENIED c =
      min (s.rd R.BLT.CLIENT_STAT.DENIED c + 1) R.BLT.CLIENT_STAT.DENIED.max := by
  rw [s.turnAway_running c h, State.rd_bump_field _ _ _ _ _ _ (by decide), State.rd_bump_same, State.count_rd]

/-- What is turned away changes nothing, or one denial is counted. -/
theorem State.turnAway_cases (s : State) (path : Path) : s.turnAway path = s ∨ ∃ c : Nat, s.turnAway path =
    ((s.count 192).bump R.BLT.CLIENT_STAT.DENIED c).bump R.BLT.ACC_FAULT.DENIED := by
  cases path with
  | smb => exact .inl rfl
  | rdma c =>
    cases h : s.running with
    | true => exact .inr ⟨c, s.turnAway_running c h⟩
    | false => exact .inl (s.turnAway_idle c h)

theorem State.rd_turnAway_other (s : State) (path : Path) {g : Fld} (e : Nat) (hc : g.addr ≠ R.BLT.CLIENT_STAT.DENIED.addr)
    (hf : g.addr ≠ R.BLT.ACC_FAULT.DENIED.addr) (hg : g.addr < 2 ^ 20) : (s.turnAway path).rd g e = s.rd g e := by
  rcases s.turnAway_cases path with h | ⟨c, h⟩
  · rw [h]
  · rw [h, State.bump, State.rd_wr_addr _ _ _ _ hf hg (by decide), State.bump, State.rd_wr_addr _ _ _ _ hc hg (by decide),
      State.count_rd]

theorem State.turnAway_mem_out (s : State) (path : Path) :
    (s.turnAway path).mem = s.mem ∧ (s.turnAway path).out = s.out := by
  rcases s.turnAway_cases path with h | ⟨c, h⟩
  · rw [h]
    exact ⟨rfl, rfl⟩
  · rw [h]
    simp

/-- A note is held as written (20 R473). -/
theorem State.writeNote_eq (s : State) (v : BitVec 64) :
    s.writeNote v.toNat = ((s.wr R.TIM.NOTE.NOTE v.toNat).wr R.TIM.NOTE_TICK.TICK s.tick, 0) := by
  have hv : part v.toNat R.TIM.NOTE.NOTE = v.toNat := by
    rw [part, bits, show R.TIM.NOTE.NOTE.lo = 0 from rfl, Nat.pow_zero, Nat.div_one]
    exact Nat.mod_eq_of_lt v.isLt
  rw [State.writeNote, State.take, hv]
  rfl

/-- Settles O25: each command is a set-up write, which its path lets through or turns away. -/
theorem plainSetupCommands : Obligations.PlainSetupCommands := by
  intro s v path ha
  obtain ⟨hmem, hout⟩ := s.turnAway_mem_out path
  refine ⟨fun hp => ⟨?note, effect_setup ha hp rfl, effect_setup ha hp rfl, effect_setup ha hp rfl, effect_setup ha hp rfl,
      effect_setup ha hp rfl⟩,
    fun hp => ⟨effect_setup_closed ha hp rfl, effect_setup_closed ha hp rfl, effect_setup_closed ha hp rfl,
      effect_mirrored_closed ha hp rfl, effect_mirrored_closed ha hp rfl, effect_setup_closed ha hp rfl⟩,
    s.rd_turnAway_denied, s.turnAway_idle, fun g e hc hf hg _ => s.rd_turnAway_other path e hc hf hg, hmem, hout, rfl⟩
  case note =>
    have he := effect_setup (c := .noteWrite v path) ha hp rfl
    rwa [s.writeNote_eq v] at he

end Sys2Proof.Machine
end

section
/-! Bolts and grants of an unpaired module (06 R141, R142, R144, R145). -/

namespace Sys2Proof.Machine

/-- A mirrored write of a module without a partner is answered as a plain one is (18 R431). -/
theorem State.mirrored_unpaired (s : State) {path : Path} (off entry v : Nat) (r : SetupResult) (hp : s.pathOk path = true)
    (hu : s.rd R.TCK.STATUS.PAIR = 0) : s.mirrored path off entry v r = r.1.respond path off r.2 := by
  have hpair : s.on R.TCK.STATUS.PAIR = false := by simp [State.on, hu]
  have hmir : s.mirroring = false := by simp [State.mirroring, hu]
  have hrec : s.recording = false := by simp [State.recording, hu]
  by_cases hr : r.2 = 0 <;> simp [State.mirrored, hp, hpair, hmir, hrec, hr]

theorem effect_mirrored_unpaired {c : Instr} {s : State} {path : Path} {off entry v : Nat} {r : SetupResult}
    (ha : s.awake = true) (hp : s.pathOk path = true) (hu : s.rd R.TCK.STATUS.PAIR = 0)
    (hc : exec c s = live s (s.mirrored path off entry v r)) : effect c s (r.1.respond path off r.2) :=
  effect_of_live ha (by rw [hc, s.mirrored_unpaired off entry v r hp hu])

/-- A command that acts only under a guard does nothing where it fails. -/
theorem effect_of_no_guard {c : Instr} {s u : State} {g : Prop} [Decidable g] (ha : s.awake = true)
    (h : exec c s = live s (if g then u else s)) (hg : ¬ g) : effect c s s := effect_of_live ha (by rw [h, if_neg hg])

theorem findKey_filter_none {α : Type} (p : Nat × α → Bool) (k : Nat) (m : List (Nat × α)) (h : ∀ v, p (k, v) = false) :
    findKey k (m.filter p) = none := by
  induction m with
  | nil => rfl
  | cons e m ih =>
    obtain ⟨j, v⟩ := e
    cases hp : p (j, v) with
    | false => rwa [List.filter_cons_of_neg (by simp [hp])]
    | true =>
      have hj : j ≠ k := fun he => by simp [he, h] at hp
      rwa [List.filter_cons_of_pos hp, findKey, if_neg hj]

/-- A key whose entry is taken out of a map has none. -/
theorem SMap.find_keepKeys_none {α : Type} (m : SMap α) {p : Nat → Bool} {k : Nat} (h : p k = false) :
    (m.keepKeys p).find k = none := findKey_filter_none (fun e => p e.1) k m.entries fun _ => h

/-- The tag of the node with a key is written anew. -/
def State.retagAt (s : State) (key : Nat) : State := s.putNodeTag (key / 2 ^ 25) (key % 2 ^ 25)

/-- Writing tags of nodes anew leaves registers and memory. -/
theorem State.retagNodes_frame (s : State) (p : Nat → Nat → Bool) :
    (s.retagNodes p).regs = s.regs ∧ (s.retagNodes p).mem = s.mem :=
  ⟨foldl_keeps State.retagAt State.regs _ (fun _ _ _ => rfl) s, foldl_keeps State.retagAt State.mem _ (fun _ _ _ => rfl) s⟩

theorem State.createBolt_state (s : State) (b : Nat) : (s.createBolt b).rd R.BLT.BOLT_ATTR.STATE b = 1 := by
  unfold State.createBolt
  rw [State.rd_congr _ _ (State.retagNodes_frame _ _).1]
  exact State.rd_wr_same _ _ _ _

/-- CREATE takes the map entries of the bolt's range out of the map: its swatches are in the zero state (R141). -/
theorem State.createBolt_map (s : State) (b : Nat) {k : Nat} (hlo : s.rd R.BLT.BOLT_BASE.BASE_SW b ≤ k)
    (hhi : k < s.rd R.BLT.BOLT_BASE.BASE_SW b + s.rd R.BLT.BOLT_BASE.LEN_SW b) :
    (s.createBolt b).mem.map.find k = none := by
  unfold State.createBolt
  rw [(State.retagNodes_frame _ _).2]
  exact SMap.find_keepKeys_none _ (by simp [Nat.not_lt.mpr hlo, Nat.not_le.mpr hhi])

theorem State.create_notFree (s : State) {b : Nat} (h : b = 0 ∨ s.on R.BLT.BOLT_ATTR.STATE b = true) :
    s.create b = (s, stDenied) := by
  simp [State.create, h]

theorem State.delete_notServing (s : State) {b : Nat}
    (h : s.rd R.BLT.BOLT_ATTR.STATE b < 2 ∨ 4 < s.rd R.BLT.BOLT_ATTR.STATE b) : s.delete b = (s, stDenied) := by
  have hst : (decide (2 ≤ s.rd R.BLT.BOLT_ATTR.STATE b) && decide (s.rd R.BLT.BOLT_ATTR.STATE b ≤ 4)) = false := by
    simp only [Bool.and_eq_false_iff, decide_eq_false_iff_not]
    omega
  simp [State.delete, State.checked, hst]

theorem effect_boltCreateDone {s : State} (ha : s.awake = true) (b : Fin 1024) (h : s.rd R.BLT.BOLT_ATTR.STATE b = 1) :
    effect (.boltCreateDone b) s (s.wr R.BLT.BOLT_ATTR.STATE 2 b) := effect_of_guard ha rfl h

/-- The fields of a grant that a write gives (R144). -/
def grantFields : List Fld := [R.BLT.GRANT.CLIENT, R.BLT.GRANT.BOLT, R.BLT.GRANT.RIGHTS]

/-- The state whose grant g is issued as a written value says, with its next generation (R144, R145). -/
def State.withGrant (s : State) (g v : Nat) : State :=
  ((s.takes v g grantFields).wr R.BLT.GRANT.ISSUED 1 g).wr R.BLT.GRANT.GEN (nextGen (s.rd R.BLT.GRANT.GEN g)) g

theorem State.rd_withGrant (s : State) (g v : Nat) :
    (s.withGrant g v).rd R.BLT.GRANT.ISSUED g = 1 ∧
    (s.withGrant g v).rd R.BLT.GRANT.GEN g = nextGen (s.rd R.BLT.GRANT.GEN g) % 2 ^ 20 ∧
    (s.withGrant g v).rd R.BLT.GRANT.CLIENT g = part v R.BLT.GRANT.CLIENT := by
  unfold State.withGrant
  refine ⟨?_, State.rd_wr_same _ _ _ _, ?_⟩
  · rw [State.rd_wr_field _ _ _ _ _ _ (by decide), State.rd_wr_same]
    rfl
  · rw [State.rd_wr_field _ _ _ _ _ _ (by decide), State.rd_wr_field _ _ _ _ _ _ (by decide),
      s.rd_takes_mem v g (by simp [grantFields]) (by decide)]

theorem State.withGrant_mem (s : State) (g v : Nat) : (s.withGrant g v).mem = s.mem := by
  obtain ⟨r, hr⟩ := s.takes_regsOnly v g grantFields
  rw [State.withGrant, hr]
  rfl

/-- The state whose grant g is revoked by a written value. -/
def State.withoutGrant (s : State) (g v : Nat) : State := (s.takes v g grantFields).wr R.BLT.GRANT.ISSUED 0 g

theorem State.rd_withoutGrant (s : State) (g v : Nat) : (s.withoutGrant g v).rd R.BLT.GRANT.ISSUED g = 0 :=
  State.rd_wr_same _ _ _ _

theorem State.withoutGrant_mem (s : State) (g v : Nat) : (s.withoutGrant g v).mem = s.mem := by
  obtain ⟨r, hr⟩ := s.takes_regsOnly v g grantFields
  rw [State.withoutGrant, hr]
  rfl

section
variable (s : State) {g v : Nat}

theorem State.writeGrant_issues (hc : part v R.BLT.GRANT.CMD = 1) (hi : s.on R.BLT.GRANT.ISSUED g = false)
    (hm : (s.takes v g grantFields).mayGrant g = true) : s.writeGrant g v = (s.withGrant g v, 0) := by
  have hgen : (s.takes v g grantFields).rd R.BLT.GRANT.GEN g = s.rd R.BLT.GRANT.GEN g :=
    s.rd_takes_field v g _ _ _ (by decide)
  unfold grantFields at hm
  simp [State.writeGrant, State.checked, hc, hi, hm, State.withGrant, ← hgen, grantFields, stOk]

/-- A grant that is not issued cannot be revoked (R145). -/
theorem State.writeGrant_revokeFree (hc : part v R.BLT.GRANT.CMD = 2) (hi : s.on R.BLT.GRANT.ISSUED g = false) :
    s.writeGrant g v = (s, stDenied) := by
  simp [State.writeGrant, State.checked, hc, hi]

/-- A REVOKE names the grant's fields as they stand (R145). -/
theorem State.writeGrant_revokes (hc : part v R.BLT.GRANT.CMD = 2) (hi : s.on R.BLT.GRANT.ISSUED g = true)
    (hsame : s.chgAny v g grantFields = false) : s.writeGrant g v = (s.withoutGrant g v, 0) := by
  unfold grantFields at hsame
  simp [State.writeGrant, State.checked, hc, hi, hsame, State.withoutGrant, grantFields, stOk]

end

/-- Settles O28: the commands of an unpaired module are the answers of the writes of their registers, and the DONE rows act in one
state of the bolt. -/
theorem boltAndGrantCommands : Obligations.BoltAndGrantCommands := by
  intro s v path ha hp hu
  have hissue := effect_mirrored_unpaired (c := .grantIssue v path) ha hp hu rfl
  have hrevoke := effect_mirrored_unpaired (c := .grantRevoke v path) ha hp hu rfl
  refine ⟨effect_mirrored_unpaired ha hp hu rfl, effect_mirrored_unpaired ha hp hu rfl,
    fun b => ⟨s.createBolt_state b, fun _ hlo hhi => s.createBolt_map b hlo hhi⟩,
    fun _ => s.create_notFree, fun _ => s.delete_notServing,
    fun b h => ⟨_, effect_boltCreateDone ha b h, State.rd_wr_same _ _ _ _, rfl, rfl⟩,
    fun _ h => effect_of_guard ha rfl h, fun _ h => effect_of_no_guard ha rfl h,
    fun hc hi hm => ?issue, fun hc hi => ?revokeFree, fun hc hi hsame => ?revoke⟩
  case issue =>
    rw [s.writeGrant_issues hc hi hm] at hissue
    obtain ⟨hon, hgen, hclient⟩ := s.rd_withGrant s.selGrant v.toNat
    exact ⟨_, hissue, hon, hgen, hclient, s.withGrant_mem _ _⟩
  case revokeFree => rwa [s.writeGrant_revokeFree hc hi] at hrevoke
  case revoke =>
    rw [s.writeGrant_revokes hc hi hsame] at hrevoke
    exact ⟨_, hrevoke, s.rd_withoutGrant _ _, s.withoutGrant_mem _ _⟩

end Sys2Proof.Machine
end

section
/-! What the posting of an event and the loss of a QP leave alone (05 R114, R116, 07 R185, R193). -/

namespace Sys2Proof.Machine

/-- The parts of the state that traffic on QPs does not reach: the persistent words, the stack, the Lining and the rings' hidden
state. -/
def State.still (s : State) : Persist × Mem × Lining × SMap Ring := (s.per, s.mem, s.lng, s.rings)

@[simp] theorem State.wr_still (s : State) (f : Fld) (v e : Nat) : (s.wr f v e).still = s.still := rfl
@[simp] theorem State.bump_still (s : State) (f : Fld) (e n : Nat) : (s.bump f e n).still = s.still := rfl
@[simp] theorem State.emit_still (s : State) (o : Out) : (s.emit o).still = s.still := rfl
@[simp] theorem State.setQp_still (s : State) (q : Nat) (x : Qp) : (s.setQp q x).still = s.still := rfl
@[simp] theorem State.setEq_still (s : State) (c : Nat) (x : EvQueue) : (s.setEq c x).still = s.still := rfl

@[simp] theorem State.count_still (s : State) (n k : Nat) : (s.count n k).still = s.still := by
  obtain ⟨m, h⟩ := s.count_does n k
  rw [h]
  rfl

@[simp] theorem State.sendPacket_still (s : State) (q : Nat) (p : TxPacket) : (s.sendPacket q p).still = s.still := by
  unfold State.sendPacket State.putPacket
  dsimp only
  split
  · rfl
  · split
    · simp [State.frameSent, State.countPort]
    · rfl

@[simp] theorem State.drainReqs_still (k : Nat) (s : State) (q : Nat) : (State.drainReqs k s q).still = s.still := by
  have htransmit (t : State) (r : Req) : (t.transmit q r).still = t.still :=
    foldl_keeps _ State.still _ (fun t p _ => t.sendPacket_still q p) t
  induction k generalizing s with
  | zero => rfl
  | succ k ih =>
    unfold State.drainReqs
    split
    · rfl
    · split
      · rw [ih, State.issueReq, htransmit, State.setQp_still, State.wr_still, State.setQp_still]
      · rfl

@[simp] theorem State.eqWrite_still (s : State) (c typ a b : Nat) : (s.eqWrite c typ a b).still = s.still := by
  have hpost (t : State) (q va rkey : Nat) (data : List Byte) (use : ReqUse) :
      (t.postWrite q va rkey data use).still = t.still := by
    unfold State.postWrite State.request State.drainQp
    split <;> simp
  unfold State.eqWrite State.eqMark State.put
  dsimp only
  rw [State.wr_still, State.count_still]
  split
  · rw [State.wr_still, State.wr_still, hpost]
  · rw [State.wr_still, hpost]

@[simp] theorem State.eqLose_still (s : State) (c : Nat) : (s.eqLose c).still = s.still := by simp [State.eqLose]

@[simp] theorem State.eqRecover_still (s : State) (c : Nat) : (s.eqRecover c).still = s.still := by
  unfold State.eqRecover
  split <;> simp

@[simp] theorem State.postEvent_still (s : State) (c cls typ a b : Nat) : (s.postEvent c cls typ a b).still = s.still := by
  unfold State.postEvent
  dsimp only
  split
  · rfl
  · split
    · split <;> simp
    · split <;> simp

/-- From s to t nothing is lost but what hangs on QPs: the persistent words, the stack and the Lining are as they were, and a ring
without descriptors has none. -/
def State.losesQpsOnly (s t : State) : Prop :=
  (t.per = s.per ∧ t.mem = s.mem ∧ t.lng = s.lng) ∧ ∀ r, (s.ring r).descs = [] → (t.ring r).descs = []

theorem State.losesQpsOnly_of_still {s t : State} (h : t.still = s.still) : s.losesQpsOnly t := by
  simp only [State.still, Prod.mk.injEq] at h
  obtain ⟨hper, hmem, hlng, hrings⟩ := h
  exact ⟨⟨hper, hmem, hlng⟩, fun r hr => by rwa [State.ring, hrings]⟩

theorem State.losesQpsOnly.trans {s t u : State} (h : s.losesQpsOnly t) (g : t.losesQpsOnly u) : s.losesQpsOnly u := by
  obtain ⟨⟨hper, hmem, hlng⟩, hring⟩ := h
  obtain ⟨⟨gper, gmem, glng⟩, gring⟩ := g
  exact ⟨⟨gper.trans hper, gmem.trans hmem, glng.trans hlng⟩, fun r hr => gring r (hring r hr)⟩

theorem losesQpsOnly_foldl {α : Type} (f : State → α → State) (h : ∀ (s : State) (x : α), s.losesQpsOnly (f s x))
    (l : List α) (s : State) : s.losesQpsOnly (l.foldl f s) := by
  induction l generalizing s with
  | nil => exact State.losesQpsOnly_of_still rfl
  | cons x l ih => exact (h s x).trans (ih (f s x))

theorem State.losesQpsOnly_setRing (s : State) (r : Nat) (x : Ring) (h : (s.ring r).descs = [] → x.descs = []) :
    s.losesQpsOnly (s.setRing r x) := by
  refine ⟨⟨rfl, rfl, rfl⟩, fun j hj => ?_⟩
  by_cases hr : j = r
  · subst hr
    rw [State.setRing_same]
    exact h hj
  · rwa [State.setRing_other _ _ _ _ hr]

theorem State.grantOuts_still (s : State) (gs : List Nat) : (gs.foldl State.grantOut s).still = s.still :=
  foldl_keeps State.grantOut State.still gs (fun _ _ _ => rfl) s

theorem State.dropDescs_losesQpsOnly (s : State) (r : Nat) (p : Desc → Bool) : s.losesQpsOnly (s.dropDescs r p) := by
  have hgrants (gs : List Nat) (n : Nat) :
      (gs.foldl State.grantOut ((s.count 84 n).bump R.NDL.OPS.FAILED 0 n)).still = s.still := by
    rw [State.grantOuts_still, State.bump_still, State.count_still]
  refine (State.losesQpsOnly_of_still (hgrants _ _)).trans (State.losesQpsOnly_setRing _ _ _ fun h => ?_)
  have hring (t : State) (ht : t.still = s.still) : t.ring r = s.ring r := by
    simp only [State.still, Prod.mk.injEq] at ht
    rw [State.ring, ht.2.2.2, State.ring]
  rw [hring _ (hgrants _ _)] at h
  rw [h]
  rfl

theorem State.detachRing_losesQpsOnly (s : State) (r : Nat) : s.losesQpsOnly (s.detachRing r) := by
  have hevent (t : State) (p : Prop) [Decidable p] :
      t.losesQpsOnly (if p then t else t.postEvent (r / 4) 1 0x0002 (r % 4) 0x40) := by
    split
    · exact State.losesQpsOnly_of_still rfl
    · exact State.losesQpsOnly_of_still (State.postEvent_still _ _ _ _ _ _)
  unfold State.detachRing
  dsimp only
  refine State.losesQpsOnly.trans ?_ (hevent _ _)
  refine State.losesQpsOnly.trans ?_ (State.losesQpsOnly_of_still (State.count_still _ _ _))
  refine State.losesQpsOnly.trans ?_ (State.losesQpsOnly_setRing _ _ _ id)
  refine State.losesQpsOnly.trans ?_ (State.dropDescs_losesQpsOnly _ _ _)
  exact State.losesQpsOnly_of_still rfl

theorem State.failTransfers_losesQpsOnly (s : State) (r : Nat) : s.losesQpsOnly (s.failTransfers r) := by
  refine (State.losesQpsOnly_of_still (State.wr_still s R.SHU.RING_STATUS.CQ_FULL 0 r)).trans
    (State.losesQpsOnly_setRing _ _ _ fun h => ?_)
  rw [State.wr_ring] at h
  rw [h]
  rfl

theorem State.ringLosesQp_losesQpsOnly (s : State) (r : Nat) : s.losesQpsOnly (s.ringLosesQp r) := by
  unfold State.ringLosesQp
  dsimp only
  split
  · exact s.detachRing_losesQpsOnly r
  · split
    · exact s.failTransfers_losesQpsOnly r
    · exact State.losesQpsOnly_of_still rfl

theorem State.leaveRts_losesQpsOnly (s : State) (q : Nat) : s.losesQpsOnly (s.leaveRts q) := by
  unfold State.leaveRts
  dsimp only
  refine State.losesQpsOnly.trans ?_ (losesQpsOnly_foldl _ State.ringLosesQp_losesQpsOnly _ _)
  exact State.losesQpsOnly_of_still (foldl_keeps State.cutEq State.still _ (fun _ _ _ => rfl) _)

/-- A QP's return to RESET loses what hangs on the QP only (R114). -/
theorem State.qpReset_losesQpsOnly (s : State) (q : Nat) : s.losesQpsOnly (s.qpReset q) := by
  have hdrop (t : State) : (t.dropHeld q).still = t.still :=
    (State.setQp_still _ _ _).trans (t.grantOuts_still _)
  have hclear (t : State) (fs : List Fld) : (fs.foldl (fun (s : State) f => s.clr f q) t).still = t.still :=
    foldl_keeps (fun (s : State) f => s.clr f q) State.still fs (fun _ _ _ => rfl) t
  refine State.losesQpsOnly.trans ?_ (State.losesQpsOnly_of_still ((State.setQp_still _ _ _).trans (hclear _ _)))
  refine State.losesQpsOnly.trans ?_ (State.losesQpsOnly_of_still (State.wr_still _ _ _ _))
  refine State.losesQpsOnly.trans ?_ (State.leaveRts_losesQpsOnly _ q)
  exact State.losesQpsOnly_of_still (hdrop (s.purge q fun _ => false))

end Sys2Proof.Machine
end

section
/-! Entry to scan (13 R341). -/

namespace Sys2Proof.Machine

/-- Clearing the key store writes key slots and their registers only (R316, R317). -/
theorem State.clearKeys_still (s : State) : s.clearKeys.still = s.still := by
  have hput (t : State) (k : Nat) : (t.putKey k none).still = t.still := rfl
  have hslot (t : State) (k : Nat) : (t.emptySlot k).still = t.still :=
    (hput _ k).trans <| foldl_keeps (fun (s : State) f => s.clr f k) State.still keyFields (fun _ _ _ => rfl) t
  exact foldl_keeps State.emptySlot State.still _ (fun t k _ => hslot t k) s

/-- A ring as entry to scan leaves it: nothing of its descriptors is left (R341). -/
def Ring.wiped (x : Ring) : Ring :=
  { x with descs := [], ended := [], fetching := [], returned := [], unreleased := [], fence := none, fenceOthers := [] }

theorem findKey_mapVals {α : Type} (f : Nat → α → α) (k : Nat) (m : List (Nat × α)) :
    findKey k (m.map fun e => (e.1, f e.1 e.2)) = (findKey k m).map (f k) := by
  induction m with
  | nil => rfl
  | cons e m ih =>
    obtain ⟨j, v⟩ := e
    by_cases h : j = k
    · simp [findKey, h]
    · simpa [findKey, h] using ih

theorem SMap.find_mapVals {α : Type} (m : SMap α) (f : Nat → α → α) (k : Nat) :
    (m.mapVals f).find k = (m.find k).map (f k) :=
  findKey_mapVals f k m.entries

theorem SMap.wiped_descs (m : SMap Ring) (r : Nat) : ((m.mapVals fun _ x => x.wiped).get {} r).descs = [] := by
  rw [SMap.get, SMap.find_mapVals]
  cases m.find r <;> rfl

/-- What entry to scan clears between the key store and the QPs: secrets, Lining, rings and received frames (R341). -/
def State.scanWipe (s : State) : State :=
  let s := ({ s with per := { s.per with secret := none, kek := none } } : State).wr R.PRT.LIFE.KEK_OK 0
  let s := { s with lng := {} }
  let s : State := { s with
    rings := s.rings.mapVals (fun _ x => x.wiped), ports := s.ports.mapVals (fun _ x => { x with held := {}, rx := [] }) }
  [0, 1].foldl (fun (s : State) p => s.wr R.ETH.STATUS.RX_BUFFERS 0 p) s

/-- A QP's own fields, which entry to scan clears with its context. -/
def scanQpFields : List Fld :=
  [R.XPT.QP_STATE.PORT, R.XPT.QP_STATE.ROLE, R.XPT.QP_STATE.CLIENT, R.XPT.QP_STATE.BOUND]

/-- Entry to scan clears one QP. -/
def State.scanQp (s : State) (q : Nat) : State := scanQpFields.foldl (fun (s : State) f => s.clr f q) (s.qpReset q)

/-- The QPs that hold anything. -/
def State.scanQps (s : State) : List Nat :=
  ((R.XPT.QP_STATE.STATE :: scanQpFields ++ qpContext).flatMap s.stored ++ s.qps.keys).eraseDups

/-- The state after the QPs are cleared. -/
def State.scanLoop (s : State) : State := s.clearKeys.scanWipe.scanQps.foldl State.scanQp s.clearKeys.scanWipe

/-- Entry to scan is those steps, the QPs' hidden state, the SRAM and the counter cache (R341). -/
theorem State.scanClear_eq (s : State) : s.scanClear =
    { s.scanLoop with
      qps := {}, thimble := { s.scanLoop.thimble with sram := .cleared },
      guard := { s.scanLoop.guard with
        cache := [], dirtyNodes := {}, nodes := s.scanLoop.guard.nodes.keepKeys (fun k => k < 3 * 2 ^ 25) } } := rfl

theorem State.scanWipe_parts (s : State) :
    s.scanWipe.per = { s.per with secret := none, kek := none } ∧ s.scanWipe.mem = s.mem ∧ s.scanWipe.lng = {} ∧
      ∀ r, (s.scanWipe.ring r).descs = [] := ⟨rfl, rfl, rfl, s.rings.wiped_descs⟩

theorem State.scanQp_losesQpsOnly (s : State) (q : Nat) : s.losesQpsOnly (s.scanQp q) :=
  (s.qpReset_losesQpsOnly q).trans
    (State.losesQpsOnly_of_still (foldl_keeps (fun (s : State) f => s.clr f q) State.still _ (fun _ _ _ => rfl) _))

/-- What is gone after entry to scan, and what is as it was (R341). -/
theorem State.scanClear_parts (s : State) :
    s.scanClear.per = { s.per with secret := none, kek := none } ∧ s.scanClear.mem = s.mem ∧ s.scanClear.lng = {} ∧
      ∀ r, (s.scanClear.ring r).descs = [] := by
  have hkeys := s.clearKeys_still
  simp only [State.still, Prod.mk.injEq] at hkeys
  obtain ⟨kper, kmem, -, -⟩ := hkeys
  obtain ⟨hper, hmem, hlng, hrings⟩ := s.clearKeys.scanWipe_parts
  obtain ⟨⟨lper, lmem, llng⟩, lrings⟩ : s.clearKeys.scanWipe.losesQpsOnly s.scanLoop :=
    losesQpsOnly_foldl _ State.scanQp_losesQpsOnly _ _
  rw [s.scanClear_eq, ← kper]
  exact ⟨lper.trans hper, lmem.trans (hmem.trans kmem), llng.trans hlng, fun r => lrings r (hrings r)⟩

theorem effect_scanEnter {s : State} (ha : s.awake = true) (rs : List Bool) : effect (.scanEnter rs) s
    (if s.mode = modeMaint ∧ s.pins.trstN.seen then
      if rs.all id then s.scanClear.wr R.MOD.STATUS.SCAN 1 else s.scanClear.raise Src.scanClearFail
     else s) := effect_of_live ha rfl

end Sys2Proof.Machine
end

section
/-! JTAG's debug accesses (06 R134, R135, R146, 13 R338, R339). -/

namespace Sys2Proof.Machine

/-- The bytes that a debug access reads or writes. -/
def debugLen (a : DebugAccess) : Nat := if a.write then a.data.length else a.len

/-- The right that a debug access needs: READ or WRITE. -/
def debugRight (a : DebugAccess) : Nat := if a.write then 1 else 0

/-- The rest of the check once the access is known to reach bolt b: bounds and rights, then the key ID, then the bolt's state
(06 R146). -/
def State.debugCheckIn (s : State) (a : DebugAccess) (b : Nat) : Nat × Nat :=
  if (s.rd R.BLT.BOLT_BASE.BASE_SW b + s.rd R.BLT.BOLT_BASE.LEN_SW b) * 65536 < faOffset a.va.toNat + debugLen a ∨
      ¬ s.masterMay 68 (debugRight a) b ∨ (b = 0 ∧ a.write) then (stDenied, b)
  else if faKey a.va.toNat ≠ s.rd R.BLT.BOLT_ATTR.KEY_ID b then (stKeyMismatch, b)
  else (s.stateServes b a.write, b)

section
variable (s : State) (a : DebugAccess)

/-- Step 1: an access outside the logical space is BAD_ADDRESS (R135). -/
theorem State.debugCheck_outside (h : faInside a.va.toNat (debugLen a) = false) : s.debugCheck a = (stBadAddress, 0) :=
  if_pos (by simpa [debugLen] using h)

/-- Inside it, the access is checked against the bolt it reaches, and one that reaches none is denied. -/
theorem State.debugCheck_inside (h : faInside a.va.toNat (debugLen a) = true) : s.debugCheck a =
    match if 0xFFE ≤ faKey a.va.toNat then none else s.boltAt (faOffset a.va.toNat / 65536) with
    | none => (stDenied, 0)
    | some b => s.debugCheckIn a b := by
  unfold State.debugCheck
  dsimp only
  rw [if_neg (by simpa [debugLen] using h)]
  generalize (if 0xFFE ≤ faKey a.va.toNat then none else s.boltAt (faOffset a.va.toNat / 65536)) = reached
  cases reached <;> rfl

/-- A check that passes has passed against a bolt. -/
theorem State.debugCheck_passes {b : Nat} (h : s.debugCheck a = (0, b)) : s.debugCheckIn a b = (0, b) := by
  cases hin : faInside a.va.toNat (debugLen a) with
  | false =>
    rw [s.debugCheck_outside a hin] at h
    simp [stBadAddress] at h
  | true =>
    rw [s.debugCheck_inside a hin] at h
    split at h
    · simp [stDenied] at h
    · next b' _ =>
      have hb : (s.debugCheckIn a b').2 = b' := by
        unfold State.debugCheckIn
        split
        · rfl
        · split <;> rfl
      obtain rfl : b = b' := by rwa [h] at hb
      exact h

theorem State.debugCheckIn_passes {b : Nat} (h : s.debugCheckIn a b = (0, b)) :
    s.masterMay 68 (debugRight a) b = true ∧ faKey a.va.toNat = s.rd R.BLT.BOLT_ATTR.KEY_ID b ∧ s.stateServes b a.write = 0 ∧
      (b = 0 → a.write = false) := by
  unfold State.debugCheckIn at h
  split at h
  · simp [stDenied] at h
  · next hmay =>
    split at h
    · simp [stKeyMismatch] at h
    · next hkey =>
      rw [not_or, not_or] at hmay
      obtain ⟨-, hmay, hzero⟩ := hmay
      exact ⟨Decidable.not_not.mp hmay, Decidable.not_not.mp hkey, (Prod.mk.inj h).1, fun hb => by simpa [hb] using hzero⟩

/-- A bolt that is not the system bolt, whose bounds hold and whose rights pass: the key ID and the bolt's state decide. -/
theorem State.debugCheck_key {b : Nat} (hin : faInside a.va.toNat (debugLen a) = true) (hkey : faKey a.va.toNat < 0xFFE)
    (hb : s.boltAt (faOffset a.va.toNat / 65536) = some b) (hz : b ≠ 0) (hmay : s.masterMay 68 (debugRight a) b = true)
    (hend : faOffset a.va.toNat + debugLen a ≤
      (s.rd R.BLT.BOLT_BASE.BASE_SW b + s.rd R.BLT.BOLT_BASE.LEN_SW b) * 65536) :
    s.debugCheck a = if faKey a.va.toNat ≠ s.rd R.BLT.BOLT_ATTR.KEY_ID b then (stKeyMismatch, b)
      else (s.stateServes b a.write, b) := by
  rw [s.debugCheck_inside a hin, if_neg (Nat.not_le.mpr hkey), hb]
  exact if_neg (by simp [hz, hmay, hend])

theorem State.stateServes_exhausted {b : Nat} (h : s.rd R.BLT.BOLT_ATTR.STATE b = 3) : s.stateServes b true = stKeyExhausted := by
  simp [State.stateServes, h]

section
variable {s a} {st b : Nat}

/-- An access that its check refuses answers the status and is counted (R338). -/
theorem State.debugAccess_refused (h : s.debugCheck a = (st, b)) (hst : st ≠ 0) :
    s.debugAccess a = s.countMaster.emit (.debug st []) := by
  unfold State.debugAccess
  rw [h]
  split
  · next heq => exact absurd (Prod.mk.inj heq).1 hst
  · next heq => rw [(Prod.mk.inj heq).1]

variable (h : s.debugCheck a = (0, b))
include h

theorem State.debugAccess_waits (hw : s.debugWaits a = true) :
    s.debugAccess a = { s with lng := { s.lng with debugs := s.lng.debugs ++ [a] } } := by
  simp [State.debugAccess, h, hw]

theorem State.debugAccess_writes (hw : s.debugWaits a = false) (ht : a.write = true) : s.debugAccess a =
    (s.writeRange 68 b (faOffset a.va.toNat) a.data).1.emit
      (.debug (s.writeRange 68 b (faOffset a.va.toNat) a.data).2.1 []) := by
  simp [State.debugAccess, h, hw, ht]

theorem State.debugAccess_reads (hw : s.debugWaits a = false) (ht : a.write = false) : s.debugAccess a =
    (s.readRange 68 b (faOffset a.va.toNat) a.len).1.emit (.debug (s.readRange 68 b (faOffset a.va.toNat) a.len).2.1
      (if (s.readRange 68 b (faOffset a.va.toNat) a.len).2.1 = 0
        then (s.readRange 68 b (faOffset a.va.toNat) a.len).2.2 else [])) := by
  simp [State.debugAccess, h, hw, ht]

end

end

/-- Settles O45: entry to scan acts under its guard and leaves what its steps leave; a debug access acts under its own guard,
and answers as its check says. -/
theorem scanAndDebugCommands : Obligations.ScanAndDebugCommands := by
  intro s ha
  obtain ⟨hper, hmem, hlng, hrings⟩ := s.scanClear_parts
  refine ⟨fun rs h => effect_of_no_guard ha rfl fun ⟨hm, ht⟩ => ?closed, fun rs hm ht => ⟨fun hr => ?cleared, fun hr => ?kept⟩,
    ⟨by rw [hper], by rw [hper], hlng, rfl, rfl, rfl, hrings, by rw [hper], by rw [hper], hmem⟩,
    fun a => ⟨fun hr hm => ?idle, fun h => ?locked, fun hr ht hs => ?serves,
      fun _ h => s.debugCheckIn_passes a (s.debugCheck_passes a h), fun h => by rw [s.debugCheck_outside a h],
      fun b hin hkey hb hz hmay hend => ?checked⟩⟩
  case closed =>
    rcases h with hmode | htrst
    · exact hmode hm
    · simp [htrst] at ht
  case cleared => simpa [hm, ht, hr] using effect_scanEnter ha rs
  case kept => simpa [hm, ht, hr] using effect_scanEnter ha rs
  case idle => exact effect_of_no_guard ha rfl (by simp [hr, hm])
  case locked => exact effect_of_no_guard ha rfl (by rcases h with h | h <;> simp [h])
  case serves =>
    have he : effect (.jtagDebugAccess a) s (s.debugAccess a) := effect_of_guard ha rfl (by simp [hr, ht, hs])
    refine ⟨fun st b h hst => ?_, fun b h hw => ?_, fun b h hw hwr => ?_, fun b h hw hwr => ?_⟩
    · rwa [State.debugAccess_refused h hst] at he
    · rwa [State.debugAccess_waits h hw] at he
    · rwa [State.debugAccess_writes h hw hwr] at he
    · rwa [State.debugAccess_reads h hw hwr] at he
  case checked =>
    have hc := s.debugCheck_key a hin hkey hb hz hmay hend
    refine ⟨fun hne => by rw [hc, if_pos hne], fun heq => ?_⟩
    rw [if_neg (not_not_intro heq)] at hc
    exact ⟨hc, fun hw hst => by rw [hc, hw, s.stateServes_exhausted hst]⟩

end Sys2Proof.Machine
end

section
/-! Doorbells, the control of rings and the control of event queues (07 R162-R166, R182-R187, R192, R193). -/

namespace Sys2Proof.Machine

section
variable (s : State) (c : Nat) (form : DoorbellForm) (v : Nat)

theorem State.doorbell_notServing (hs : s.serving = false) : s.doorbell c form v = s := by
  simp [State.doorbell, hs]

variable (hs : s.serving = true) (he : s.ending = false)
include hs he

theorem State.doorbell_bad (hb : s.badDoorbell c (doorbellRing c form v) v = true) :
    s.doorbell c form v = (s.count 65).bump R.SHU.RING_STAT.BAD_DB (doorbellRing c form v) := by
  simp [State.doorbell, hs, he, hb]

/-- A doorbell that comes by a SEND names its ring by its value, so its two names of the ring agree (R159, R165). -/
theorem State.doorbell_send (hb : s.badDoorbell c (doorbellRing c .send v) v = false) :
    s.doorbell c .send v = s.processDoorbell c (doorbellRing c .send v) v := by
  have hring : (doorbellRing c .send v != 4 * c + bits v 18 2) = false := by simp [doorbellRing]
  simp [State.doorbell, hs, he, hb, hring]

end

theorem effect_doorbell {s : State} (ha : s.awake = true) (c : Fin 64) (form : DoorbellForm) (v : BitVec 64) :
    effect (.doorbell c form v) s (s.doorbell c form v.toNat) := effect_of_live ha rfl

/-- The fields of RING_CTRL that a ring keeps while it is not DISABLED (R162). -/
abbrev ringFields : List Fld := [R.SHU.RING_CTRL.QP, R.SHU.RING_CTRL.RING_LOG2, R.SHU.RING_CTRL.CQ_LOG2]

section
variable (s : State) (v r : Nat)

/-- Taking the fields of RING_CTRL leaves the ring's state. -/
theorem State.takesRing_state : (s.takes v r ringFields).ringState r = s.ringState r :=
  s.rd_takes_field v r _ _ _ (by decide)

theorem State.takesRing_limited : (s.takes v r ringFields).limited = s.limited := by
  simp only [State.limited, State.mode, State.on, s.rd_takes_field v r ringFields R.MOD.STATUS.MODE 0 (by decide),
    s.rd_takes_field v r ringFields R.TCK.STATUS.FENCED 0 (by decide)]

theorem State.takes_cmdQpOf (fs : List Fld) (q c : Nat) (hrole : R.XPT.QP_STATE.ROLE.id ∉ fs.map Fld.id)
    (hbound : R.XPT.QP_STATE.BOUND.id ∉ fs.map Fld.id) (hclient : R.XPT.QP_STATE.CLIENT.id ∉ fs.map Fld.id) :
    (s.takes v r fs).cmdQpOf q c = s.cmdQpOf q c := by
  simp only [State.cmdQpOf, State.on, s.rd_takes_field v r fs _ _ hrole, s.rd_takes_field v r fs _ _ hbound,
    s.rd_takes_field v r fs _ _ hclient]

theorem State.takes_mem (fs : List Fld) : (s.takes v r fs).mem = s.mem := by
  obtain ⟨x, hx⟩ := s.takes_regsOnly v r fs
  rw [hx]

/-- A DISABLED ring whose set-up passes the checks is enabled (R162). -/
theorem State.enableRing_ok (hst : s.ringState r = ringDisabled) (hl : s.limited = false)
    (hring : 6 ≤ s.rd R.SHU.RING_CTRL.RING_LOG2 r ∧ s.rd R.SHU.RING_CTRL.RING_LOG2 r ≤ 16)
    (hcq : 6 ≤ s.rd R.SHU.RING_CTRL.CQ_LOG2 r ∧ s.rd R.SHU.RING_CTRL.CQ_LOG2 r ≤ 16)
    (hbase : s.rd R.SHU.RING_BASE.VA r % 64 = 0) (hcva : s.rd R.SHU.RING_CQ.VA r % 32 = 0)
    (hqp : s.cmdQpOf (s.ringQp r) (r / 4) = true) : s.enableRing r = (s.freshRing r, 0) := by
  simp [State.enableRing, hst, hl, hring, hcq, hbase, hcva, hqp, State.accept, stOk]

theorem State.enableRing_notDisabled (hst : s.ringState r ≠ ringDisabled) : s.enableRing r = (s, stDenied) := by
  simp [State.enableRing, hst, State.refuse]

/-- RESET does nothing to a DISABLED ring (R186). -/
theorem State.resetRing_disabled (hst : s.ringState r = ringDisabled) : s.resetRing r = s := by
  simp [State.resetRing, hst]

/-- An enabled ring is ACTIVE, its head and tail at zero, its phase 1, and it holds nothing (R162). -/
theorem State.freshRing_parts : (s.freshRing r).ringState r = ringActive ∧ (s.freshRing r).rd R.SHU.RING_STATUS.HEAD r = 0 ∧
    (s.freshRing r).rd R.SHU.RING_STATUS.TAIL r = 0 ∧ (s.freshRing r).rd R.SHU.RING_STATUS.CQ_PHASE r = 1 ∧
    ((s.freshRing r).ring r).descs = [] ∧ (s.freshRing r).mem = s.mem := by
  unfold State.freshRing State.ringState
  refine ⟨?state, ?head, ?tail, ?phase, by rw [State.setRing_same], by simp⟩
  case state =>
    rw [State.setRing_rd, State.rd_wr_same]
    rfl
  case head =>
    rw [State.setRing_rd]
    iterate 5 rw [State.rd_wr_field _ _ _ _ _ _ (by decide)]
    rw [State.rd_wr_same, Nat.zero_mod]
  case tail =>
    rw [State.setRing_rd]
    iterate 4 rw [State.rd_wr_field _ _ _ _ _ _ (by decide)]
    rw [State.rd_wr_same, Nat.zero_mod]
  case phase =>
    rw [State.setRing_rd]
    iterate 2 rw [State.rd_wr_field _ _ _ _ _ _ (by decide)]
    rw [State.rd_wr_same]
    rfl

end

section
variable {s : State} {v r : Nat} (hr : r = s.rd R.SHU.RING_SEL.INDEX)
include hr

section
/- The selected ring is DISABLED, or the write changes none of the fields that a ring keeps (R162). -/
variable (hok : ¬ (s.ringState r ≠ ringDisabled ∧ ringFields.any (fun f => s.chg f v r) = true))
include hok

theorem State.writeRingCtrl_enable {u : State} (hc : part v R.SHU.RING_CTRL.CMD = 1)
    (he : (s.takes v r ringFields).enableRing r = (u, 0)) : s.writeRingCtrl v = (u, 0) := by
  subst hr
  rw [State.writeRingCtrl, if_neg hok, hc]
  simp only [he, if_true]

theorem State.writeRingCtrl_enableRefused {u : State} {st : Nat} (hc : part v R.SHU.RING_CTRL.CMD = 1)
    (he : (s.takes v r ringFields).enableRing r = (u, st)) (hst : st ≠ 0) : s.writeRingCtrl v = (s, st) := by
  subst hr
  rw [State.writeRingCtrl, if_neg hok, hc]
  simp only [he, if_neg hst, State.refuse]

theorem State.writeRingCtrl_reset (hc : part v R.SHU.RING_CTRL.CMD = 2) :
    s.writeRingCtrl v = ((s.takes v r ringFields).resetRing r, 0) := by
  subst hr
  rw [State.writeRingCtrl, if_neg hok, hc]
  rfl

theorem State.writeRingCtrl_halt (hc : part v R.SHU.RING_CTRL.CMD = 3) (hs : s.ringState r = ringActive) :
    s.writeRingCtrl v = (((s.takes v r ringFields).haltRing r 0x41).post r, 0) := by
  have ht := (s.takesRing_state v r).trans hs
  subst hr
  rw [State.writeRingCtrl, if_neg hok, hc]
  exact if_pos ht

theorem State.writeRingCtrl_haltRefused (hc : part v R.SHU.RING_CTRL.CMD = 3) (hs : s.ringState r ≠ ringActive) :
    s.writeRingCtrl v = (s, stDenied) := by
  have ht : (s.takes v r ringFields).ringState r ≠ ringActive := (s.takesRing_state v r).symm ▸ hs
  subst hr
  rw [State.writeRingCtrl, if_neg hok, hc]
  exact if_neg ht

end

/-- ENABLE of a ring that is not DISABLED is refused, whatever fields it gives (R162). -/
theorem State.writeRingCtrl_enableLive (hc : part v R.SHU.RING_CTRL.CMD = 1) (hs : s.ringState r ≠ ringDisabled) :
    s.writeRingCtrl v = (s, stDenied) := by
  by_cases hok : s.ringState r ≠ ringDisabled ∧ ringFields.any (fun f => s.chg f v r) = true
  · subst hr
    rw [State.writeRingCtrl, if_pos hok]
    rfl
  · refine State.writeRingCtrl_enableRefused hr hok hc (State.enableRing_notDisabled _ r ?_) (by decide)
    rwa [s.takesRing_state v r]

end

/-- ENABLE of a DISABLED ring whose set-up, as the write gives it, passes the checks (R162). -/
theorem State.takesRing_enabled (s : State) {v r : Nat} (hst : s.ringState r = ringDisabled) (hl : s.limited = false)
    (hring : 6 ≤ part v R.SHU.RING_CTRL.RING_LOG2 ∧ part v R.SHU.RING_CTRL.RING_LOG2 ≤ 16)
    (hcq : 6 ≤ part v R.SHU.RING_CTRL.CQ_LOG2 ∧ part v R.SHU.RING_CTRL.CQ_LOG2 ≤ 16)
    (hbase : s.rd R.SHU.RING_BASE.VA r % 64 = 0) (hcva : s.rd R.SHU.RING_CQ.VA r % 32 = 0)
    (hqp : s.cmdQpOf (part v R.SHU.RING_CTRL.QP) (r / 4) = true) :
    (s.takes v r ringFields).enableRing r = ((s.takes v r ringFields).freshRing r, 0) := by
  have htaken {f : Fld} (hf : f ∈ ringFields) : (s.takes v r ringFields).rd f r = part v f :=
    s.rd_takes_mem v r hf (by decide)
  have hcmd : (s.takes v r ringFields).cmdQpOf ((s.takes v r ringFields).ringQp r) (r / 4) = true := by
    rw [State.ringQp, htaken (by simp), s.takes_cmdQpOf v r _ _ _ (by decide) (by decide) (by decide), hqp]
  apply State.enableRing_ok _ _ ((s.takesRing_state v r).trans hst) ((s.takesRing_limited v r).trans hl) _ _ _ _ hcmd
  · rwa [htaken (by simp)]
  · rwa [htaken (by simp)]
  · rw [s.rd_takes_field v r _ _ _ (by decide), hbase]
  · rw [s.rd_takes_field v r _ _ _ (by decide), hcva]

/-- The fields of EQ_CTRL, in the order in which a write takes them (R192). -/
abbrev eqFields : List Fld :=
  [R.SHU.EQ_CTRL.QP, R.SHU.EQ_CTRL.LOG2, R.SHU.EQ_CTRL.RKEY, R.SHU.EQ_CTRL.EN, R.SHU.EQ_CTRL.MASK]

section
variable {s : State} {v c : Nat} (hc : c = s.rd R.SHU.EQ_SEL.CLIENT) (hoff : s.on R.SHU.EQ_CTRL.EN c = false)
  (hen : part v R.SHU.EQ_CTRL.EN = 1)
include hc hoff hen

theorem State.writeEqCtrl_enables (hbase : s.rd R.SHU.EQ_BASE.VA c % 32 = 0)
    (hlog : 6 ≤ part v R.SHU.EQ_CTRL.LOG2 ∧ part v R.SHU.EQ_CTRL.LOG2 ≤ 12)
    (hqp : s.cmdQpOf (part v R.SHU.EQ_CTRL.QP) c = true) :
    s.writeEqCtrl v = ((s.openEq c).takes v c eqFields, 0) := by
  subst hc
  simp [State.writeEqCtrl, hoff, hen, hbase, hlog, hqp, State.accept, stOk]

theorem State.writeEqCtrl_misaligned (hbase : s.rd R.SHU.EQ_BASE.VA c % 32 ≠ 0) : s.writeEqCtrl v = (s, stMalformed) := by
  subst hc
  simp [State.writeEqCtrl, hoff, hen, hbase, State.refuse]

end

theorem effect_ringDrained {s : State} (ha : s.awake = true) (r : Fin 256) :
    effect (.ringDrained r) s (if s.drained r then s.disableRing r else s) := effect_of_live ha rfl

/-- Settles O32: a doorbell and a write of RING_CTRL or EQ_CTRL each have the effect that the equation of its case gives. -/
theorem ringCommands : Obligations.RingCommands := by
  intro s v path ha
  refine ⟨fun c form hs => ?ignored, fun c form hs he hb => ?bad, fun c hs he hb => ?processed, fun r hr hp => ?rings,
    fun r hd => ?drained, fun r hd => ?notDrained,
    fun c hc hp hoff hen => ?queues⟩
  case ignored =>
    have hbell := effect_doorbell ha c form v
    rwa [s.doorbell_notServing c form _ hs] at hbell
  case bad =>
    have hbell := effect_doorbell ha c form v
    rwa [s.doorbell_bad c form _ hs he hb] at hbell
  case processed =>
    have hbell := effect_doorbell ha c .send v
    rwa [s.doorbell_send c _ hs he hb] at hbell
  case rings =>
    have henable := effect_setup (c := .ringEnable v path) ha hp rfl
    have hreset := effect_setup (c := .ringReset v path) ha hp rfl
    have hhalt := effect_setup (c := .ringHalt v path) ha hp rfl
    have hfree (hst : s.ringState r = ringDisabled) :
        ¬ (s.ringState r ≠ ringDisabled ∧ ringFields.any (fun f => s.chg f v.toNat r) = true) := fun h => h.1 hst
    refine ⟨fun hst hl hcmd hn hn' hm hm' hbase hcva hqp => ?enable, fun hst hcmd => ?enableActive,
      fun hst hcmd => ?resetDisabled, fun hst hcmd => ?haltDisabled, fun hst hq hn hm => ?active⟩
    case enable =>
      have hok := s.takesRing_enabled hst hl ⟨hn, hn'⟩ ⟨hm, hm'⟩ hbase hcva hqp
      rw [State.writeRingCtrl_enable hr (hfree hst) hcmd hok] at henable
      obtain ⟨hstate, hhead, htail, hphase, hdescs, hmem⟩ := (s.takes v.toNat r ringFields).freshRing_parts r
      exact ⟨_, henable, hstate, hhead, htail, hphase, hdescs, hmem.trans (s.takes_mem _ _ _)⟩
    case enableActive => rwa [State.writeRingCtrl_enableLive hr hcmd (by simp [hst, ringActive, ringDisabled])] at henable
    case resetDisabled =>
      rwa [State.writeRingCtrl_reset hr (hfree hst) hcmd,
        State.resetRing_disabled _ r ((s.takesRing_state _ r).trans hst)] at hreset
    case haltDisabled =>
      rwa [State.writeRingCtrl_haltRefused hr (hfree hst) hcmd (by simp [hst, ringActive, ringDisabled])] at hhalt
    case active =>
      have hsame : ¬ (s.ringState r ≠ ringDisabled ∧ ringFields.any (fun f => s.chg f v.toNat r) = true) := by
        simp [State.chg, hq, hn, hm]
      refine ⟨fun hcmd => ?halt, fun hcmd => ?reset⟩
      case halt => rwa [State.writeRingCtrl_halt hr hsame hcmd hst] at hhalt
      case reset => rwa [State.writeRingCtrl_reset hr hsame hcmd] at hreset
  case drained => simpa [hd] using effect_ringDrained ha r
  case notDrained => simpa [hd] using effect_ringDrained ha r
  case queues =>
    have heq := effect_setup (c := .eqEnable v path) ha hp rfl
    refine ⟨fun hbase hlog hlog' hqp => ?enabled, fun hbase => ?misaligned⟩
    case enabled =>
      rw [State.writeEqCtrl_enables hc hoff hen hbase ⟨hlog, hlog'⟩ hqp] at heq
      have hon : ((s.openEq c).takes v.toNat c eqFields).rd R.SHU.EQ_CTRL.EN c = 1 := by
        rw [State.rd_takes_mem _ _ _ (by simp) (by decide), hen]
      exact ⟨_, heq, hon, State.takes_mem _ _ _ _⟩
    case misaligned => rwa [State.writeEqCtrl_misaligned hc hoff hen hbase] at heq

end Sys2Proof.Machine
end

section
/-! Fetch, start, end and completion of descriptors (07 R168-R174, R178, R180). -/

namespace Sys2Proof.Machine

section
variable (s : State) (r : Nat)

theorem State.fetch_nothing (h : s.fetchSize r = 0) : s.fetch r = s := by simp [State.fetch, h]

theorem State.fetchSize_notActive (h : s.ringState r ≠ ringActive) : s.fetchSize r = 0 := if_pos (.inl h)

theorem State.fetched_nothing (h : (s.ring r).returned = []) : s.fetched r = s := by simp [State.fetched, h]

section
variable {d : Desc} (hd : (s.ring r).descs.find? (fun d => d.stage == .consumed) = some d)
include hd

theorem State.startNext_waits (hm : s.mayStart r d = false) : s.startNext r = s := by simp [State.startNext, hd, hm]

theorem State.startNext_starts {gs : List Nat} (hm : s.mayStart r d = true) (hc : s.checkDesc (r / 4) d = (0, gs)) :
    s.startNext r = s.startDesc r d gs := by
  simp [State.startNext, hd, hm, hc]

/-- A descriptor that fails a check other than that of its rights ends with the status of that check (R172, R173). -/
theorem State.startNext_fails {st : Nat} {gs : List Nat} (hm : s.mayStart r d = true) (hc : s.checkDesc (r / 4) d = (st, gs))
    (hst : st ≠ 0) (hden : st < 0x10 ∨ 0x13 < st) : s.startNext r = s.finish r d st 0 0 := by
  have hno : ¬ (0x10 ≤ st ∧ st ≤ 0x13) := by omega
  simp [State.startNext, hd, hm, hc, hst, hno]

end

theorem State.setDesc_descs (d : Desc) :
    ((s.setDesc r d).ring r).descs = (s.ring r).descs.map (fun e => if e.serial = d.serial then d else e) := by
  rw [State.setDesc, State.setRing_same]

/-- A descriptor that replaces the one of its number stands in its ring. -/
theorem State.mem_setDesc {d : Desc} (h : ∃ e ∈ (s.ring r).descs, e.serial = d.serial) :
    d ∈ ((s.setDesc r d).ring r).descs := by
  obtain ⟨e, he, hs⟩ := h
  rw [s.setDesc_descs]
  exact List.mem_map.mpr ⟨e, he, if_pos hs⟩

/-- What a descriptor is when its work has ended (R180). -/
def Desc.ended (d : Desc) (st b x : Nat) : Desc := { d with stage := .done, status := st, bytesDone := b, result := x }

theorem State.finish_eq (d : Desc) (st b x : Nat) : s.finish r d st b x = s.setDesc r (d.ended st b x) := rfl

theorem State.mem_finish {d : Desc} (st b x : Nat) (h : ∃ e ∈ (s.ring r).descs, e.serial = d.serial) :
    d.ended st b x ∈ ((s.finish r d st b x).ring r).descs := by
  rw [s.finish_eq]
  exact s.mem_setDesc r h

theorem State.finish_mem (d : Desc) (st b x : Nat) : (s.finish r d st b x).mem = s.mem := rfl

theorem State.finish_regs (d : Desc) (st b x : Nat) : (s.finish r d st b x).regs = s.regs := rfl

end

section
variable {s : State} (ha : s.awake = true) (r : Fin 256)
include ha

theorem effect_descriptorFetch : effect (.descriptorFetch r) s (s.fetch r) := effect_of_live ha rfl

theorem effect_descriptorsFetched : effect (.descriptorsFetched r) s (s.fetched r) := effect_of_live ha rfl

theorem effect_descriptorStart : effect (.descriptorStart r) s (s.startNext r) := effect_of_live ha rfl

theorem effect_descriptorComplete_ready {d : Desc} (h : s.readyDesc r = some d) :
    effect (.descriptorComplete r) s (s.completeDesc r d) :=
  effect_of_live ha (by simp only [exec, execDescriptorComplete, h])

theorem effect_descriptorComplete_none (h : s.readyDesc r = none) : effect (.descriptorComplete r) s (s.post r) :=
  effect_of_live ha (by simp only [exec, execDescriptorComplete, h])

end

/-- Settles O33: each command is its ring's operation, whose equation says what it is in each case. -/
theorem descriptorCommands : Obligations.DescriptorCommands := by
  intro s r ha
  refine ⟨fun h => ?nothing, fun _ => effect_descriptorFetch ha r, s.fetchSize_notActive r, fun h => ?noReturn,
    fun _ _ _ _ => effect_descriptorsFetched ha r, fun d hd => ?start, fun d => effect_descriptorComplete_ready ha r,
    effect_descriptorComplete_none ha r, fun d st b x he => ⟨_, s.mem_finish r st b x he, rfl, rfl, rfl, rfl, rfl⟩,
    fun d st b x => ⟨s.finish_mem r d st b x, s.finish_regs r d st b x⟩⟩
  case nothing =>
    have hfetch := effect_descriptorFetch ha r
    rwa [s.fetch_nothing r h] at hfetch
  case noReturn =>
    have hfetched := effect_descriptorsFetched ha r
    rwa [s.fetched_nothing r h] at hfetched
  case start =>
    have hstart := effect_descriptorStart ha r
    refine ⟨fun hm => ?waits, fun gs hm hc => ?starts, fun st gs hm hc hst hden => ?fails⟩
    case waits => rwa [s.startNext_waits r hd hm] at hstart
    case starts => rwa [s.startNext_starts r hd hm hc] at hstart
    case fails => rwa [s.startNext_fails r hd hm hc hst hden] at hstart

end Sys2Proof.Machine
end

section
/-! The descriptors that move data, order work, hint and flush (07 R174, R189-R191, 09 R247, 10 R263, R275). -/

namespace Sys2Proof.Machine

section
variable (s : State) (r op : Nat) (f : State → Desc → State)

theorem State.work_none (h : (s.ring r).descs.find? (fun d => d.stage == .started && d.op == op) = none) :
    s.work r op f = s := by
  simp [State.work, h]

variable {d : Desc} (hd : (s.ring r).descs.find? (fun d => d.stage == .started && d.op == op) = some d)
include hd

theorem State.work_runs (hw : s.descWaits r d = false) : s.work r op f = s.runWork r d (fun t => f t d) := by
  simp [State.work, hd, hw]

theorem State.work_waits (hw : s.descWaits r d = true) : s.work r op f = s := by
  simp [State.work, hd, hw]

end

/-- The state in which the work of a descriptor runs: it has asked for nothing yet (R222). -/
abbrev State.jobOpen (s : State) : State := { s with lng := { s.lng with job := some {} } }

/-- The state in which that work is over. -/
abbrev State.jobClosed (s : State) : State := { s with lng := { s.lng with job := none } }

/-- A descriptor that replaces the one of its number is what a search by the number finds. -/
theorem State.find_setDesc (s : State) (r : Nat) {d : Desc} (h : ∃ e ∈ (s.ring r).descs, e.serial = d.serial) :
    ((s.setDesc r d).ring r).descs.find? (fun e => e.serial == d.serial) = some d := by
  have hsome : (((s.setDesc r d).ring r).descs.find? (fun e => e.serial == d.serial)).isSome :=
    List.find?_isSome.mpr ⟨d, s.mem_setDesc r h, beq_self_eq_true d.serial⟩
  obtain ⟨e, he⟩ := Option.isSome_iff_exists.mp hsome
  have hs : e.serial = d.serial := by simpa using List.find?_some he
  have hm := List.mem_of_find?_eq_some he
  rw [s.setDesc_descs] at hm
  obtain ⟨a, -, ha⟩ := List.mem_map.mp hm
  by_cases heq : a.serial = d.serial
  · rw [if_pos heq] at ha
    rw [he, ha]
  · rw [if_neg heq] at ha
    exact absurd (ha ▸ hs) heq

theorem State.find_finish (s : State) (r : Nat) {d : Desc} (st b x : Nat) (h : ∃ e ∈ (s.ring r).descs, e.serial = d.serial) :
    ((s.finish r d st b x).ring r).descs.find? (fun e => e.serial == d.serial) = some (d.ended st b x) := by
  rw [s.finish_eq]
  exact s.find_setDesc r (d := d.ended st b x) h

/-- The work of a descriptor of the Shuttle that has asked for no slot leaves the state it came to, and its descriptor is in no
Needle slot once its work has ended (R222). -/
theorem State.runWork_noSlots {s u : State} {r : Nat} {d e : Desc} {f : State → State} (hn : d.needle = false)
    (hf : f s.jobOpen = u) (hjob : u.lng.job = some {})
    (hfind : (u.ring r).descs.find? (fun e => e.serial == d.serial) = some e) :
    s.runWork r d f = u.jobClosed.setDesc r { e with active := e.active && e.stage == .started } := by
  have hfind' : (u.jobClosed.ring r).descs.find? (fun e => e.serial == d.serial) = some e := hfind
  unfold State.runWork
  simp only [hf, hjob, hfind', hn]
  rfl

/-- Work that ends its descriptor without a slot: the descriptor is done, and nothing changes but what the work itself changed
(R180, R222). -/
theorem State.runWork_finish {s t : State} {r : Nat} {d : Desc} {f : State → State} {st b x : Nat} (hn : d.needle = false)
    (hm : d ∈ (s.ring r).descs) (hf : f s.jobOpen = t.finish r d st b x) (hjob : t.lng.job = some {})
    (hring : t.ring r = s.ring r) :
    (s.runWork r d f).mem = t.mem ∧ (s.runWork r d f).regs = t.regs ∧ (s.runWork r d f).out = t.out ∧
      ∃ e ∈ ((s.runWork r d f).ring r).descs,
        e.serial = d.serial ∧ e.stage = .done ∧ e.status = st ∧ e.bytesDone = b := by
  have hin : ∃ e ∈ (t.ring r).descs, e.serial = d.serial := ⟨d, hring ▸ hm, rfl⟩
  have hdone : d.ended st b x ∈ ((t.finish r d st b x).jobClosed.ring r).descs := t.mem_finish r st b x hin
  rw [State.runWork_noSlots hn hf hjob (t.find_finish r st b x hin)]
  exact ⟨rfl, rfl, rfl, _, State.mem_setDesc _ _ ⟨_, hdone, rfl⟩, rfl, rfl, rfl, rfl⟩

section
variable (s : State) (r : Nat) (d : Desc)

/-- HINT writes dwell records only (R247). -/
theorem State.hintSwatch_frame (b v sw : Nat) :
    (s.hintSwatch b v sw).mem.cells = s.mem.cells ∧ (s.hintSwatch b v sw).mem.map = s.mem.map ∧
      (s.hintSwatch b v sw).lng = s.lng ∧ (s.hintSwatch b v sw).rings = s.rings := by
  unfold State.hintSwatch
  split <;> exact ⟨rfl, rfl, rfl, rfl⟩

/-- The swatches of a range hinted. -/
def State.hintAll (b v : Nat) (sws : List Nat) : State := sws.foldl (fun s sw => s.hintSwatch b v sw) s

theorem State.hintAll_frame (b v : Nat) (sws : List Nat) :
    (s.hintAll b v sws).mem.cells = s.mem.cells ∧ (s.hintAll b v sws).mem.map = s.mem.map ∧
      (s.hintAll b v sws).lng = s.lng ∧ (s.hintAll b v sws).rings = s.rings := by
  have hview := foldl_keeps (fun (s : State) sw => s.hintSwatch b v sw)
    (fun s => (s.mem.cells, s.mem.map, s.lng, s.rings)) sws (fun t sw _ => by
      obtain ⟨hcells, hmap, hlng, hrings⟩ := t.hintSwatch_frame b v sw
      simp only [hcells, hmap, hlng, hrings]) s
  simpa only [State.hintAll, Prod.mk.injEq] using hview

theorem State.hint_eq : s.hint r d =
    (s.hintAll (s.boltOf d.srcA) d.subop (swatchRun (faOffset d.srcA) d.length)).finish r d 0 d.length
      (swatchRun (faOffset d.srcA) d.length).length := rfl

/-- A range of an operand in a line that is busy makes its descriptor wait (10 R263). -/
theorem State.descWaits_busy {o : Nat × Nat × List Nat} (ho : o ∈ d.operands) (hb : s.rangeBusy o.1 o.2.1 = true) :
    s.descWaits r d = true := List.any_eq_true.mpr ⟨o, ho, by simp [hb]⟩

/-- A FENCE holds while a descriptor before it is open (R174). -/
theorem State.endFence_holds (h : s.allBefore r d.serial = false) : s.endFence r d = s := by
  simp [State.endFence, h]

/-- A FENCE that waits for nothing in other rings lets later descriptors go when those before it have ended (R174). -/
theorem State.endFence_ends (h : s.allBefore r d.serial = true) (ho : (s.ring r).fenceOthers = []) :
    ((s.endFence r d).ring r).fence = none := by
  simp [State.endFence, h, ho]

end

theorem Desc.needle_of_lt_op {d : Desc} (h : 0x16 < d.op) : d.needle = false := by
  simp [Desc.needle, Nat.not_le.mpr h]

section
variable {s : State} (ha : s.awake = true) {c : Instr} {r op : Nat} {f : State → Desc → State}
  (hc : exec c s = live s (s.work r op f))
include ha hc

theorem effect_work_none (h : (s.ring r).descs.find? (fun d => d.stage == .started && d.op == op) = none) : effect c s s := by
  have he := effect_of_live ha hc
  rwa [s.work_none r op f h] at he

variable {d : Desc} (hd : (s.ring r).descs.find? (fun d => d.stage == .started && d.op == op) = some d)
include hd

theorem effect_work_runs (hw : s.descWaits r d = false) : effect c s (s.runWork r d (fun t => f t d)) := by
  have he := effect_of_live ha hc
  rwa [s.work_runs r op f hd hw] at he

theorem effect_work_waits (hw : s.descWaits r d = true) : effect c s s := by
  have he := effect_of_live ha hc
  rwa [s.work_waits r op f hd hw] at he

end

section
variable (s : State) (r : Fin 256) (ns : List LineNoise)

theorem exec_copy : exec (.copy r ns) s = live s (s.work r 0x01 fun t d => t.noisy ns fun u => u.copy r d) := rfl
theorem exec_fill : exec (.fill r ns) s = live s (s.work r 0x02 fun t d => t.noisy ns fun u => u.fill r d) := rfl
theorem exec_readOut : exec (.readOut r ns) s = live s (s.work r 0x03 fun t d => t.noisy ns fun u => u.readOut r d) := rfl
theorem exec_writeIn : exec (.writeIn r ns) s = live s (s.work r 0x04 fun t d => t.noisy ns fun u => u.writeIn r d) := rfl
theorem exec_hint : exec (.hint r) s = live s (s.work r 0x20 fun t d => t.hint r d) := rfl
theorem exec_flush : exec (.flush r) s = live s (s.work r 0x21 fun t d => t.flush r d) := rfl
theorem exec_fence : exec (.fence r) s = live s (s.work r 0x22 fun t d => t.endFence r d) := rfl
theorem exec_nop : exec (.nop r) s = live s (s.work r 0x23 fun t d => t.finish r d 0 0 0) := rfl

end

/-- The work of a HINT ends it OK with all its bytes done, and touches no stored byte and no map entry (R247). -/
theorem State.runWork_hint {s : State} {r : Nat} {d : Desc} (hn : d.needle = false) (hm : d ∈ (s.ring r).descs) :
    ((s.runWork r d fun t => t.hint r d).mem.cells = s.mem.cells ∧ (s.runWork r d fun t => t.hint r d).mem.map = s.mem.map) ∧
      ∃ e ∈ ((s.runWork r d fun t => t.hint r d).ring r).descs,
        e.serial = d.serial ∧ e.stage = .done ∧ e.status = 0 ∧ e.bytesDone = d.length := by
  have heq := s.jobOpen.hint_eq r d
  obtain ⟨hcells, hmap, hlng, hrings⟩ :=
    s.jobOpen.hintAll_frame (s.jobOpen.boltOf d.srcA) d.subop (swatchRun (faOffset d.srcA) d.length)
  have hring : (s.jobOpen.hintAll (s.jobOpen.boltOf d.srcA) d.subop (swatchRun (faOffset d.srcA) d.length)).ring r = s.ring r := by
    rw [State.ring, hrings, State.ring]
  obtain ⟨hmem, -, -, hdone⟩ := State.runWork_finish (f := fun t => t.hint r d) hn hm heq (by rw [hlng]) hring
  rw [hmem]
  exact ⟨⟨hcells, hmap⟩, hdone⟩

/-- The work of a NOP ends it OK and changes no memory, no register and no output (R191). -/
theorem State.runWork_nop {s : State} {r : Nat} {d : Desc} (hn : d.needle = false) (hm : d ∈ (s.ring r).descs) :
    (s.runWork r d fun t => t.finish r d 0 0 0).mem = s.mem ∧ (s.runWork r d fun t => t.finish r d 0 0 0).regs = s.regs ∧
      (s.runWork r d fun t => t.finish r d 0 0 0).out = s.out ∧
      ∃ e ∈ ((s.runWork r d fun t => t.finish r d 0 0 0).ring r).descs,
        e.serial = d.serial ∧ e.stage = .done ∧ e.status = 0 := by
  obtain ⟨hmem, hregs, hout, e, he, hserial, hstage, hstatus, -⟩ :=
    State.runWork_finish (f := fun t => t.finish r d 0 0 0) (t := s.jobOpen) hn hm rfl rfl rfl
  exact ⟨hmem, hregs, hout, e, he, hserial, hstage, hstatus⟩

/-- Settles O34: every command is the work of its opcode, which runs unless it waits; that of a HINT and that of a NOP end their
descriptor without a slot. -/
theorem moveCommands : Obligations.MoveCommands := by
  intro s r d ns ha
  refine ⟨fun op _ hd => ⟨fun hw => ?runs, fun hw => ?waits⟩, fun o ho hb => s.descWaits_busy r d ho hb,
    effect_work_none ha (exec_nop s r), s.endFence_holds r d, s.endFence_ends r d⟩
  case runs =>
    have hm : d ∈ (s.ring r).descs := List.mem_of_find?_eq_some hd
    have hop : d.op = op := by
      have hp := List.find?_some hd
      simp only [Bool.and_eq_true, beq_iff_eq] at hp
      exact hp.2
    refine ⟨?copy, ?fill, ?readOut, ?writeIn, ?hint, ?flush, ?fence, ?nop⟩ <;> rintro rfl
    case copy => exact effect_work_runs ha (exec_copy s r ns) hd hw
    case fill => exact effect_work_runs ha (exec_fill s r ns) hd hw
    case readOut => exact effect_work_runs ha (exec_readOut s r ns) hd hw
    case writeIn => exact effect_work_runs ha (exec_writeIn s r ns) hd hw
    case flush => exact effect_work_runs ha (exec_flush s r) hd hw
    case fence => exact effect_work_runs ha (exec_fence s r) hd hw
    case hint =>
      exact ⟨_, effect_work_runs ha (exec_hint s r) hd hw, State.runWork_hint (Desc.needle_of_lt_op (by simp [hop])) hm⟩
    case nop =>
      exact ⟨_, effect_work_runs ha (exec_nop s r) hd hw, State.runWork_nop (Desc.needle_of_lt_op (by simp [hop])) hm⟩
  case waits =>
    refine ⟨?copy, ?fill, ?flush⟩ <;> rintro rfl
    case copy => exact effect_work_waits ha (exec_copy s r ns) hd hw
    case fill => exact effect_work_waits ha (exec_fill s r ns) hd hw
    case flush => exact effect_work_waits ha (exec_flush s r) hd hw

end Sys2Proof.Machine
end

section
/-! What the end of a command does to the rings: it leaves them as they are, unless it is a reset, which clears them (19 R443,
R445-R447). -/

namespace Sys2Proof.Machine

theorem State.rings_of_still {s t : State} (h : t.still = s.still) : t.rings = s.rings :=
  congrArg (fun p => p.2.2.2) h

theorem State.rings_of_upkept {s t : State} (h : t.upkept = s.upkept) : t.rings = s.rings :=
  congrArg (fun p => p.1.rings) h

@[simp] theorem State.postAll_still (s : State) (cls typ a b : Nat) : (s.postAll cls typ a b).still = s.still :=
  foldl_keeps _ State.still _ (fun s c _ => s.postEvent_still c cls typ a b) s

theorem State.settleEvents_rings (s : State) : s.settleEvents.rings = s.rings :=
  State.rings_of_still (foldl_keeps _ State.still _ (fun s i _ => s.postAll_still 4 0x0030 i 0) _)

theorem State.portDrop_rings (s : State) (p : Nat) : (s.portDrop p).rings = s.rings := by
  have hqps (t : State) (l : List Nat) :
      (l.foldl (fun (s : State) q => s.setQp q { s.qp q with unacked := [] }) t).rings = t.rings :=
    foldl_keeps _ State.rings l (fun s q _ => s.setQp_rings q _) t
  have hrate (t : State) : (t.portRate p 0).rings = t.rings := by
    unfold State.portRate
    split <;> rfl
  unfold State.portDrop
  dsimp only
  rw [State.rings_of_still (State.postAll_still _ 2 0x0010 p 0), hrate]
  simp [hqps, State.countPort, State.portIdle]

theorem State.portLinkDown_rings (s : State) (p : Nat) : (s.portLinkDown p).rings = s.rings := by
  unfold State.portLinkDown
  split
  · rw [State.raise_rings, s.portDrop_rings p]
  · rfl

theorem State.tackLinkDown_rings (s : State) : s.tackLinkDown.rings = s.rings := by
  have hdrop : s.tackDrop.rings = s.rings := by
    unfold State.tackDrop State.dropHandover
    dsimp only
    split <;> rfl
  unfold State.tackLinkDown
  split
  · rw [State.raise_rings, hdrop]
  · rfl

theorem State.lanesReset_rings (s : State) (lo n : Nat) : (s.lanesReset lo n).rings = s.rings :=
  foldl_keeps _ State.rings _ (fun s i _ => by simp) s

theorem State.abandonSweeps_rings (s : State) : s.abandonSweeps.rings = s.rings :=
  foldl_keeps _ State.rings _ (fun s c _ => State.rings_of_upkept (s.abandonSweep_upkept c)) s

theorem State.blockReset_rings (s : State) (b : Block) : (s.blockReset b).rings = s.rings := by
  cases b with
  | port p => exact (State.lanesReset_rings _ _ _).trans (s.portLinkDown_rings p)
  | tack => exact (State.lanesReset_rings _ _ _).trans s.tackLinkDown_rings
  | thimble =>
    unfold State.blockReset State.thimbleReset
    dsimp only
    rw [State.abandonSweeps_rings, State.wr_rings]
  | other => rfl

theorem State.settleBlocks_rings (s : State) : s.settleBlocks.rings = s.rings :=
  foldl_keeps State.blockReset State.rings _ (fun s b _ => s.blockReset_rings b) _

theorem State.otpBoot_rings (s : State) : s.otpBoot.rings = s.rings := by
  unfold State.otpBoot
  dsimp only
  split <;> split <;> simp

/-- A reset that a fault causes leaves no ring anything (R447). -/
theorem State.settleReset_rings (s : State) (n i : Nat) : (s.settleReset n i).rings = {} := by
  rw [State.settleReset, State.settleEvents_rings]
  exact State.otpBoot_rings _

/-- The end of a command clears the rings, or leaves them as they are. -/
theorem State.ends_clears_or_keeps_rings (t s : State) : (t.ends s).rings = {} ∨ (t.ends s).rings = t.rings := by
  show (t.settleAll s.out.length).rings = {} ∨ (t.settleAll s.out.length).rings = t.rings
  have hblocks := t.settleBlocks_rings
  unfold State.settleAll
  split
  · exact .inl (t.settleReset_rings _ _)
  · generalize t.settleBlocks = b at hblocks
    dsimp only
    split
    · exact .inl (b.settleReset_rings _ _)
    · exact .inr (b.settleEvents_rings.trans hblocks)

end Sys2Proof.Machine
end

section
/-! The Needle's descriptors and its steps (08 R207, R222). -/

namespace Sys2Proof.Machine

/-- Settles O36: the steps are counted on the register, on the events 80 and 81 and on the total. -/
theorem needleStepsCounted : Obligations.NeedleStepsCounted := by
  intro s n p
  have hcount : ((s.count 80 n).count 81 p.toNat).rd R.NDL.STEPS.STEPS = s.rd R.NDL.STEPS.STEPS := by
    simp only [State.count_rd]
  have hsteps := State.rd_bump_same ((s.count 80 n).count 81 p.toNat) R.NDL.STEPS.STEPS 0 n
  rw [hcount] at hsteps
  unfold State.takeSteps
  refine ⟨?_, hsteps, ?_, ?_, ?_, ?_, ?_⟩ <;> simp

/-- A REDUCE over no elements that has started and holds a slot of the Needle. -/
def reducing : Desc := { serial := 0, index := 0, image := [0x10], stage := .started, active := true, startNo := 1 }

/-- Ring 4 stands under two entries of the map: reads of the ring find the first alone, which holds `reducing`; the search for
descriptors that wait for a slot (R222) finds the second as well, which holds one of the same number that waits. -/
def shadowed : State :=
  { rings := ⟨[(4, { descs := [reducing] }), (4, { descs := [{ reducing with active := false }] })]⟩ }

/-- The REDUCE row ends `reducing`, whose slot goes on to the waiting descriptor; that one, written back under its number, takes the
place of the one that has ended. -/
theorem after_reduce_shadowed : (shadowed.after (.reduce 4 [])).rings = shadowed.rings := by decide +kernel

/-- Whatever effect the REDUCE row is given there, ring 4 holds one descriptor in it, which has not ended. -/
theorem ring_of_reduce_shadowed {t : State} (h : exec (.reduce 4 []) shadowed = .next (t.ends shadowed)) :
    (t.ring 4).descs = [reducing] := by
  have hafter : (t.ends shadowed).rings = shadowed.rings := by
    rw [← after_reduce_shadowed, State.after, h]
  have hsome : shadowed.rings ≠ {} := by decide
  obtain hempty | hsame := t.ends_clears_or_keeps_rings shadowed
  · exact absurd (hafter.symm.trans hempty) hsome
  · rw [State.ring, ← hsame, hafter]
    rfl

/-- Refutes O35 by `shadowed`: the slot that the ended REDUCE frees goes to the descriptor under the second entry of ring 4, which is
written back over the ended one (`after_reduce_shadowed`), so no descriptor of the ring is done, whatever effect the row is given. The
statement ranges over every state and has no premise that the map of rings is in its canonical form (`SMap.wf`), in which a ring has
one entry. -/
theorem not_needleCommands : ¬ Obligations.NeedleCommands := by
  intro h
  obtain ⟨hrows, -⟩ := h shadowed 4 reducing [] (by decide) (by decide +kernel)
  obtain ⟨-, hruns⟩ := hrows (.reduce 4 []) _ (.inl ⟨by decide, rfl, rfl⟩)
  obtain ⟨-, hends⟩ := hruns (by decide +kernel)
  obtain ⟨t, hexec, e, he, -, hdone⟩ := hends (by decide +kernel)
  have hring : (t.ring 4).descs = [reducing] := ring_of_reduce_shadowed hexec
  obtain rfl : e = reducing := List.mem_singleton.mp (hring ▸ he)
  exact absurd hdone (by decide)

end Sys2Proof.Machine
end

section
/-! Frame numbers and map entries (09 R229, R230). -/

namespace Sys2Proof.Machine

/-- S1: a frame is its set's, and has no member. -/
theorem frameParts_frameNum_s1 {set row : Nat} (member : Nat) (hset : set < 64) (hrow : row < 2 ^ 15) :
    frameParts 0 (frameNum 0 set member row) = (set, 0, row) ∧ frameNum 0 set member row < 2 ^ 26 := by
  simp only [frameParts, frameNum, bits, Prod.mk.injEq, true_and]
  omega

/-- S2: two members, whose number stands above the row. -/
theorem frameParts_frameNum_s2 {set member row : Nat} (hset : set < 32) (hmember : member < 2) (hrow : row < 2 ^ 15) :
    frameParts 1 (frameNum 1 set member row) = (set, member, row) ∧ frameNum 1 set member row < 2 ^ 26 := by
  simp only [frameParts, frameNum, bits, Prod.mk.injEq]
  omega

/-- S8, S32 and PIN: up to 64 members. -/
theorem frameParts_frameNum_wide {cls set member row : Nat} (hcls : 2 ≤ cls) (hset : set < 16) (hmember : member < 64)
    (hrow : row < 2 ^ 15) :
    frameParts cls (frameNum cls set member row) = (set, member, row) ∧ frameNum cls set member row < 2 ^ 26 := by
  obtain ⟨k, rfl⟩ := Nat.exists_eq_add_of_le' hcls
  simp only [frameParts, frameNum, bits, Prod.mk.injEq]
  omega

theorem mapEntry_fields {cls state frame : Nat} (hcls : cls < 8) (hstate : state < 4) (hframe : frame < 2 ^ 26) :
    entryClass (mapEntry cls state frame) = cls ∧ entryState (mapEntry cls state frame) = state ∧
      entryFrame (mapEntry cls state frame) = frame ∧ mapEntry cls state frame < 2 ^ 32 := by
  simp only [entryClass, entryState, entryFrame, mapEntry, bits]
  omega

/-- Settles O59: the fields of a frame number and of a map entry stand side by side, each within its width. -/
theorem frameAndMapEncoding : Obligations.FrameAndMapEncoding := by
  refine ⟨fun cls set member row hrow => ?_, fun cls state frame => mapEntry_fields⟩
  have hrow : row < 2 ^ 15 := by omega
  exact ⟨fun _ hset => frameParts_frameNum_s1 member hset hrow,
    fun _ hset hmember => frameParts_frameNum_s2 hset hmember hrow,
    fun hcls hset hmember => frameParts_frameNum_wide hcls hset hmember hrow⟩

end Sys2Proof.Machine
end

section
/-! The reactions that the raises of a command owe leave the registers of other blocks, unless one is a reset (19 R443, R445-R447). -/

namespace Sys2Proof.Machine

/-- The numbers of the fields that the reactions of a command may write where none is a reset and the fault collector is left out: those
of a port's and the Tack's link that drops, of lanes that are reset, of sweeps that are abandoned, and of events (19 R446). -/
def reactionIds : List Nat :=
  postIds ++ downIds ++ upkeepIds ++
    [R.ETH.STATUS.BRINGUP, R.ETH.STATUS.PFC_RX_PAUSED, R.SDS.STATUS.LOS, R.SDS.STATUS.LOL, R.SDS.STATUS.TRAINED, R.SDS.STATUS.SLIP_POS,
      R.TCK.STATUS.LINK, R.TCK.STATUS.WIDTH, R.MOD.STATUS.BUSY, R.FLT.WDT.ARMED].map Fld.id

section
variable {g : Fld} (hg : g.id ∉ reactionIds)
include hg

theorem State.rd_wr_reaction (s : State) (f : Fld) (v e j : Nat) (hf : f.id ∈ reactionIds) : (s.wr f v e).rd g j = s.rd g j :=
  s.rd_wr_field f g v e j fun h => hg (h ▸ hf)

theorem State.rd_lanesReset (s : State) (lo n j : Nat) : (s.lanesReset lo n).rd g j = s.rd g j :=
  foldl_keeps _ (State.rd · g j) _ (fun s k _ => by simp (disch := decide) only [State.rd_wr_reaction hg]) s

theorem State.rd_tackDrop (s : State) (j : Nat) : s.tackDrop.rd g j = s.rd g j := by
  have hlink : ((s.wr R.TCK.STATUS.LINK 0).wr R.TCK.STATUS.WIDTH 0).rd g j = s.rd g j := by
    simp (disch := decide) only [State.rd_wr_reaction hg]
  unfold State.tackDrop State.dropHandover
  dsimp only
  split
  · exact (State.rd_wr_reaction hg _ _ _ _ _ (by decide)).trans hlink
  · exact hlink

theorem State.rd_thimbleReset (s : State) (j : Nat) : s.thimbleReset.rd g j = s.rd g j := by
  have hupkept (t : State) : t.abandonSweeps.upkept = t.upkept :=
    foldl_keeps _ State.upkept _ (fun s c _ => s.abandonSweep_upkept c) t
  have hup : g.id ∉ upkeepIds := fun h => hg (by simp [reactionIds, h])
  have hsweeps : (s.wr R.FLT.WDT.ARMED 0).abandonSweeps.rd g j = s.rd g j := by
    rw [State.rd_of_upkept (hupkept _) g j hup, State.rd_wr_reaction hg _ _ _ _ _ (by decide)]
  unfold State.thimbleReset
  dsimp only
  generalize (s.wr R.FLT.WDT.ARMED 0).abandonSweeps = t at hsweeps
  exact (State.rd_congr _ t rfl g j).trans hsweeps

variable (hf : g.notFault = true)
include hf

theorem State.rd_portReset (s : State) (p j : Nat) : (s.portReset p).rd g j = s.rd g j := by
  have hpost : g.id ∉ postIds := fun h => hg (by simp [reactionIds, h])
  have hdown : g.id ∉ downIds := fun h => hg (by simp [reactionIds, h])
  have hbring : g.id ≠ R.ETH.STATUS.BRINGUP.id := fun h => hg (by simp [reactionIds, h])
  unfold State.portReset
  dsimp only
  rw [State.rd_lanesReset hg, State.rd_wr_reaction hg _ _ _ _ _ (by decide), State.setPort_rd,
    s.rd_portLinkDown p g j hpost hdown hbring hf]

theorem State.rd_tackLinkDown (s : State) (j : Nat) : s.tackLinkDown.rd g j = s.rd g j := by
  unfold State.tackLinkDown
  split
  · rw [State.rd_raise _ _ _ _ _ _ hf, s.rd_tackDrop hg j]
  · rfl

theorem State.rd_blockReset (s : State) (b : Block) (j : Nat) : (s.blockReset b).rd g j = s.rd g j := by
  cases b with
  | port p => exact s.rd_portReset hg hf p j
  | tack => exact (State.rd_lanesReset hg _ _ _ j).trans (s.rd_tackLinkDown hg hf j)
  | thimble => exact s.rd_thimbleReset hg j
  | other => rfl

theorem State.rd_settleBlocks (s : State) (j : Nat) : s.settleBlocks.rd g j = s.rd g j :=
  foldl_keeps State.blockReset (State.rd · g j) _ (fun s b _ => s.rd_blockReset hg hf b j) _

/-- The end of a command leads to Boot, or leaves the registers that no reaction writes. -/
theorem State.ends_boots_or_rd (t s : State) (j : Nat) : (t.ends s).mode = modeBoot ∨ (t.ends s).rd g j = t.rd g j := by
  have hpost : g.id ∉ postIds := fun h => hg (by simp [reactionIds, h])
  show (t.settleAll s.out.length).mode = modeBoot ∨ (t.settleAll s.out.length).rd g j = t.rd g j
  have hblocks := t.rd_settleBlocks hg hf j
  unfold State.settleAll
  split
  · exact .inl (t.settleReset_mode _ _)
  · generalize t.settleBlocks = b at hblocks
    dsimp only
    split
    · exact .inl (b.settleReset_mode _ _)
    · exact .inr ((b.rd_settleEvents hpost j).trans hblocks)
end

end Sys2Proof.Machine
end

section
/-! The end of a ZERO restitch (09 R256, R257, 06 R138). -/

namespace Sys2Proof.Machine

/-- Bolt 1, Native, holds swatch 16 alone, which is torn; a ZERO restitch of that swatch runs in Serve, and PRT.MRIGHTS gives master 69
SCOPE 0, no key ID. -/
def zeroingDenied : State :=
  { ((((((((State.reset.wr R.MOD.STATUS.MODE modeServe).wr R.BLT.BOLT_ATTR.STATE 2 1).wr R.BLT.BOLT_ATTR.MODE 2 1).wr
        R.BLT.BOLT_ATTR.KEY_ID 7 1).wr R.BLT.BOLT_BASE.BASE_SW 16 1).wr R.BLT.BOLT_BASE.LEN_SW 1 1).wr
        R.PRT.MRIGHTS.SCOPE 0 69).wr R.PLC.RESTITCH_STATUS.STATE 1)
    with mem := { map := ({} : SMap Nat).put 16 (mapEntry 1 2 0), zeroMode := true, restitchAt := 16, restitchTo := 17 } }

/-- The restitch runs and has the torn swatch to process, whose Native bolt master 69 may not write (06 R138). -/
theorem zeroingDenied_runs :
    (zeroingDenied.awake = true ∧ zeroingDenied.rd R.PLC.RESTITCH_STATUS.STATE = 1 ∧ zeroingDenied.mem.zeroMode = true) ∧
    zeroingDenied.restitchTorn = [16] ∧ zeroingDenied.native 1 = true ∧ zeroingDenied.masterOwns 69 1 = false := by
  decide +kernel

/-- RESTITCH_END stops it with STATE 3 and ACCESS_DENIED, and leaves the module in Serve. -/
theorem after_restitchEnd_zeroingDenied :
    (zeroingDenied.after .restitchEnd).mode = modeServe ∧
    (zeroingDenied.after .restitchEnd).rd R.PLC.RESTITCH_STATUS.STATE = 3 ∧
    (zeroingDenied.after .restitchEnd).rd R.PLC.RESTITCH_STATUS.STATUS = stDenied := by
  decide +kernel

theorem after_of_effect {c : Instr} {s u : State} (h : effect c s u) : s.after c = u.ends s := by
  rw [State.after, show exec c s = _ from h]

/-- Whatever effect RESTITCH_END is given there, its STATUS is ACCESS_DENIED: the end of the command, which is not in Boot, leaves that
register as the effect does. -/
theorem status_of_restitchEnd_zeroingDenied {u : State} (h : effect .restitchEnd zeroingDenied u) :
    u.rd R.PLC.RESTITCH_STATUS.STATUS = stDenied := by
  obtain ⟨hmode, -, hdenied⟩ := after_restitchEnd_zeroingDenied
  rw [after_of_effect h] at hmode hdenied
  rcases u.ends_boots_or_rd (g := R.PLC.RESTITCH_STATUS.STATUS) (by decide) rfl zeroingDenied 0 with hboot | hkept
  · exact absurd (hmode.symm.trans hboot) (by decide)
  · exact hkept.symm.trans hdenied

/-- Refutes O40 by `zeroingDenied`: a ZERO restitch that meets a torn swatch of a Native bolt that master 69 may not write ends with
STATE 3 and ACCESS_DENIED (06 R138), a third end beside the two that the statement allows, OK and ADMISSION_REFUSED. -/
theorem not_placementCommands : ¬ Obligations.PlacementCommands := by
  unfold Obligations.PlacementCommands
  intro h
  obtain ⟨⟨hawake, hstate, hzero⟩, -⟩ := zeroingDenied_runs
  obtain ⟨-, -, -, -, -, -, -, hends, -⟩ := h zeroingDenied hawake
  obtain ⟨u, hu, hend⟩ := hends hstate hzero
  have hstatus := status_of_restitchEnd_zeroingDenied hu
  rcases hend with ⟨-, hok⟩ | ⟨-, hadmission⟩
  · exact absurd (hstatus.symm.trans hok) (by decide)
  · exact absurd (hstatus.symm.trans hadmission) (by decide)

end Sys2Proof.Machine
end

section
/-! The end of a command leaves the persistent words, the stack, the Lining and the rings alone, unless it is a reset (19 R443,
R445-R447). -/

namespace Sys2Proof.Machine

theorem State.still_of_upkept {s t : State} (h : t.upkept = s.upkept) : t.still = s.still :=
  congrArg (fun p => p.1.still) h

@[simp] theorem State.raise_still (s : State) (i : Nat) (u : Block) (b : Bool) : (s.raise i u b).still = s.still := by
  obtain ⟨r, m, p, d, h⟩ := s.raise_does i u b
  rw [h]
  rfl

theorem State.portDrop_still (s : State) (p : Nat) : (s.portDrop p).still = s.still := by
  have hquiet : (s.quietPort p).still = s.still := s.quietPort_keeps State.still (fun _ _ => rfl) p
  have hrate (t : State) : (t.portRate p 0).still = t.still := by
    unfold State.portRate
    split <;> rfl
  rw [State.portDrop_eq, State.postAll_still, ← hquiet]
  simp [State.showDown, hrate, State.countPort]

theorem State.portLinkDown_still (s : State) (p : Nat) : (s.portLinkDown p).still = s.still := by
  unfold State.portLinkDown
  split
  · rw [State.raise_still, s.portDrop_still p]
  · rfl

theorem State.tackLinkDown_still (s : State) : s.tackLinkDown.still = s.still := by
  have hdrop : s.tackDrop.still = s.still := by
    unfold State.tackDrop State.dropHandover
    dsimp only
    split <;> rfl
  unfold State.tackLinkDown
  split
  · rw [State.raise_still, hdrop]
  · rfl

theorem State.lanesReset_still (s : State) (lo n : Nat) : (s.lanesReset lo n).still = s.still :=
  foldl_keeps _ State.still _ (fun s i _ => by simp) s

theorem State.abandonSweeps_still (s : State) : s.abandonSweeps.still = s.still :=
  foldl_keeps _ State.still _ (fun s c _ => State.still_of_upkept (s.abandonSweep_upkept c)) s

theorem State.blockReset_still (s : State) (b : Block) : (s.blockReset b).still = s.still := by
  cases b with
  | port p => exact (State.lanesReset_still _ _ _).trans (s.portLinkDown_still p)
  | tack => exact (State.lanesReset_still _ _ _).trans s.tackLinkDown_still
  | thimble =>
    have hsweeps : (s.wr R.FLT.WDT.ARMED 0).abandonSweeps.still = s.still := State.abandonSweeps_still _
    unfold State.blockReset State.thimbleReset
    dsimp only
    generalize (s.wr R.FLT.WDT.ARMED 0).abandonSweeps = t at hsweeps
    exact hsweeps
  | other => rfl

theorem State.settleBlocks_still (s : State) : s.settleBlocks.still = s.still :=
  foldl_keeps State.blockReset State.still _ (fun s b _ => s.blockReset_still b) _

theorem State.settleEvents_still (s : State) : s.settleEvents.still = s.still :=
  foldl_keeps _ State.still _ (fun s i _ => s.postAll_still 4 0x0030 i 0) _

/-- The end of a command leads to Boot, or leaves those parts as the effect left them. -/
theorem State.ends_boots_or_still (t s : State) : (t.ends s).mode = modeBoot ∨ (t.ends s).still = t.still := by
  show (t.settleAll s.out.length).mode = modeBoot ∨ (t.settleAll s.out.length).still = t.still
  have hblocks := t.settleBlocks_still
  unfold State.settleAll
  split
  · exact .inl (t.settleReset_mode _ _)
  · generalize t.settleBlocks = b at hblocks
    dsimp only
    split
    · exact .inl (b.settleReset_mode _ _)
    · exact .inr (b.settleEvents_still.trans hblocks)

end Sys2Proof.Machine
end

section
/-! The rule of LNG.CFG (10 R273, R282). -/

namespace Sys2Proof.Machine

/-- A module in Serve that holds one line with a sticky mark; STICKY_MIB is as reset leaves it. -/
def oneSticky : State :=
  { State.reset.wr R.MOD.STATUS.MODE modeServe with
    lng := { lines := ({} : SMap Line).put 0 ⟨0, 1, true, [⟨true, false, zeroSector⟩]⟩ } }

/-- A value of LNG.CFG that keeps the rule, with STICKY_MIB 0, DIRTY_HIGH 1 and DIRTY_LOW 0. -/
def noSticky : BitVec 64 := 0x100

/-- The write of `noSticky` keeps the rule, on a path that is open. -/
theorem oneSticky_premises :
    (oneSticky.awake = true ∧ oneSticky.pathOk .smb = true ∧ liningRule oneSticky) ∧
    part noSticky.toNat R.LNG.CFG.STICKY_MIB ≤ 16 ∧
    part noSticky.toNat R.LNG.CFG.DIRTY_LOW < part noSticky.toNat R.LNG.CFG.DIRTY_HIGH ∧ oneSticky.lng.lowered = false := by
  unfold liningRule
  decide +kernel

/-- The cap has been lowered below the count of sticky lines, and the Lining notes it (R273). -/
theorem after_setupWrite_oneSticky :
    (oneSticky.after (.setupWrite 0x9000 noSticky .smb)).mode = modeServe ∧
    (oneSticky.after (.setupWrite 0x9000 noSticky .smb)).lng.lowered = true := by
  decide +kernel

theorem State.respond_lng (s : State) (path : Path) (off st : Nat) : (s.respond path off st).lng = s.lng := by
  obtain ⟨r, m, h⟩ := s.respond_does path off st
  rw [h]

/-- Refutes O57 by `oneSticky`: an accepted write that lowers STICKY_MIB below the count of sticky lines changes the Lining, which notes
that sticky allocations go without a mark (R273); the statement leaves the whole Lining as it was. -/
theorem not_liningConfigRule : ¬ Obligations.LiningConfigRule := by
  unfold Obligations.LiningConfigRule
  intro ⟨_, hwrite⟩
  obtain ⟨⟨hawake, hpath, hrule⟩, hcap, hdirty, hbefore⟩ := oneSticky_premises
  obtain ⟨hmode, hafter⟩ := after_setupWrite_oneSticky
  obtain ⟨u, hu, -, -, -, -, -, hlng⟩ := (hwrite oneSticky noSticky .smb hawake hpath hrule).2 hcap hdirty
  rw [after_of_effect hu] at hmode hafter
  rcases (u.respond .smb 0x9000 0).ends_boots_or_still oneSticky with hboot | hstill
  · exact absurd (hmode.symm.trans hboot) (by decide)
  · have hkept : ((u.respond .smb 0x9000 0).ends oneSticky).lng = oneSticky.lng :=
      (congrArg (fun p => p.2.2.1) hstill).trans ((u.respond_lng .smb _ _).trans hlng)
    rw [hkept, hbefore] at hafter
    exact absurd hafter (by decide)

end Sys2Proof.Machine
end

section
/-! The end of a fill, write-backs that are accepted, fail and are tried again, the cleaner, and pool buffers that come free (10 R263,
R264, R267-R270, 11 R297). -/

namespace Sys2Proof.Machine

section
variable {s : State} {l k : Nat}

theorem State.fillReturns_waits (noise : ReadNoise) (h : s.lng.fills.contains l = false ∨ s.wbOpen l = true) :
    s.fillReturns l noise = s := if_pos (by simpa using h)

section
variable (noise : ReadNoise) (hfill : s.lng.fills.contains l = true) (hopen : s.wbOpen l = false)
include hfill hopen

theorem State.fillReturns_notIssued (h : (s.runTo (.fill l)).issuedSlot (.fill l) = none) : s.fillReturns l noise = s := by
  have hgo : ¬ (¬ s.lng.fills.contains l ∨ s.wbOpen l) := by rw [hfill, hopen]; decide
  simp only [State.fillReturns, if_neg hgo, h]

theorem State.fillReturns_issued {c : Nat} {x : Slot} (h : (s.runTo (.fill l)).issuedSlot (.fill l) = some (c, x)) :
    s.fillReturns l noise = (s.runTo (.fill l)).fillDone l c x noise := by
  have hgo : ¬ (¬ s.lng.fills.contains l ∨ s.wbOpen l) := by rw [hfill, hopen]; decide
  simp only [State.fillReturns, if_neg hgo, h]
end

theorem State.retryWb_none (bad : Option (BitVec 5)) (h : s.wbOf l k = none) : s.retryWb l k bad = s := by
  unfold State.retryWb
  rw [h]

section
variable {w : WriteBack} (hw : s.wbOf l k = some w)
include hw

theorem State.acceptWb_notFlying (h : w.flying = false) : s.acceptWb l k = s := by
  unfold State.acceptWb
  simp [hw, h]

theorem State.retryWb_notDue (bad : Option (BitVec 5)) (h : w.flying = true ∨ 4 ≤ w.fails) : s.retryWb l k bad = s := by
  simp only [State.retryWb, hw]
  exact if_pos h

theorem State.retryWb_succeeds (hf : w.flying = false) (hn : w.fails < 4) : s.retryWb l k none =
    ((((s.bump R.LNG.EVICT.WB_RETRIES).count 103).flyAgain l k w.master).acceptWb l k).cleanNext := by
  simp only [State.retryWb, hw]
  exact if_neg (by simp [hf, hn])
end

/-- The write-back of a sector on its way has failed for the n-th time and waits; what went on behind it has gone on (R268). -/
def State.wbFailed (s : State) (l k n : Nat) : State :=
  (s.setWb l k (fun b => { b with fails := n, flying := false })).wbEnds l

section
variable {w : WriteBack} (hw : s.wbOf l k = some w) (hf : w.flying = true)
include hw hf

theorem State.failWb_flying : s.failWb l k = if min 4 (w.fails + 1) = 4 then
    (s.wbFailed l k (min 4 (w.fails + 1))).raise Src.liningWbFail else s.wbFailed l k (min 4 (w.fails + 1)) := by
  simp only [State.failWb, hw, hf]
  rfl

theorem State.failWb_earlier (hn : w.fails < 3) : s.failWb l k = s.wbFailed l k (w.fails + 1) := by
  rw [State.failWb_flying hw hf, Nat.min_eq_right (by omega), if_neg (by omega)]

theorem State.failWb_fourth (hn : 3 ≤ w.fails) : s.failWb l k = (s.wbFailed l k 4).raise Src.liningWbFail := by
  rw [State.failWb_flying hw hf, Nat.min_eq_left (by omega), if_pos rfl]
end

/-- What a failed write-back leaves alone where no line waits for a way and no move is under way: the resident lines, those that wait
(none), the stack and what is owed. -/
def State.wbParts (s : State) : SMap Line × List Entering × Mem × Due := (s.lng.lines, s.lng.entering, s.mem, s.due)

theorem State.slotDone_wbParts (s : State) (c : Nat) (x : Slot) : (s.slotDone c x).wbParts = s.wbParts := by
  unfold State.slotDone
  dsimp only
  split
  · rfl
  · unfold State.slotServed
    dsimp only
    split <;> simp [State.wbParts]

theorem State.backDone_wbParts (s : State) (l : Nat) : (s.backDone l).wbParts = s.wbParts := by
  unfold State.backDone
  split
  · rfl
  · split
    · exact s.slotDone_wbParts _ _
    · rfl

/-- Where no line waits for a way, none takes one (R266). -/
theorem State.renewEntering_wbParts (h : s.lng.entering = []) : s.renewEntering.wbParts = s.wbParts := by
  simp [State.renewEntering, State.settleWays, Lining.settle, State.wbParts, h]

/-- Where no move is under way, none goes on (09 R250). -/
theorem State.moveStep_noMove (sw : Nat) (h : s.mem.moves = []) : s.moveStep sw = s := by
  have hnone : s.moveOf sw = none := by simp [State.moveOf, h]
  unfold State.moveStep State.moveSteps
  rw [hnone]

theorem State.wbEnds_wbParts (l : Nat) (he : s.lng.entering = []) (hm : s.mem.moves = []) :
    (s.wbEnds l).wbParts = s.wbParts := by
  have hback : (s.backDone l).wbParts = s.wbParts := s.backDone_wbParts l
  have hrenew : (s.backDone l).renewEntering.wbParts = s.wbParts :=
    (State.renewEntering_wbParts ((congrArg (fun p => p.2.1) hback).trans he)).trans hback
  have hmem : (s.backDone l).renewEntering.mem = s.mem := congrArg (fun p => p.2.2.1) hrenew
  rw [State.wbEnds, State.moveStep_noMove _ (hmem ▸ hm), hrenew]

/-- A failure leaves the lines and the stack, and one before the fourth raises nothing (R268). -/
theorem State.failWb_keeps {w : WriteBack} (hw : s.wbOf l k = some w) (hf : w.flying = true) (he : s.lng.entering = [])
    (hm : s.mem.moves = []) : (s.failWb l k).lng.lines = s.lng.lines ∧ (s.failWb l k).mem = s.mem ∧
      (w.fails < 3 → (s.failWb l k).due = s.due) := by
  have hparts (n : Nat) : (s.wbFailed l k n).wbParts = s.wbParts :=
    State.wbEnds_wbParts (s := s.setWb l k _) l he hm
  simp only [State.wbParts, Prod.mk.injEq] at hparts
  rcases Nat.lt_or_ge w.fails 3 with hn | hn
  · obtain ⟨hlines, -, hmem, hdue⟩ := hparts (w.fails + 1)
    rw [State.failWb_earlier hw hf hn]
    exact ⟨hlines, hmem, fun _ => hdue⟩
  · obtain ⟨hlines, -, hmem, -⟩ := hparts 4
    rw [State.failWb_fourth hw hf hn, State.raise_lng, State.raise_mem]
    exact ⟨hlines, hmem, fun h => absurd h (by omega)⟩

/-- The request that `nextWaiting` picks finds its buffer free and has no other request before it (R297). -/
theorem State.nextWaiting_turn {n c : Nat} {x : Slot} (hn : s.nextWaiting = some n) (hx : s.lng.bufWait[n]? = some (c, x)) :
    s.mustWait x.master = false ∧ s.noTurn x.master x.since = false := by
  obtain ⟨hlt, hturn, -⟩ := List.findIdx?_eq_some_iff_getElem.mp hn
  obtain ⟨_, hget⟩ := List.getElem?_eq_some_iff.mp hx
  rw [hget] at hturn
  have hturn : s.noTurn x.master x.since = false := by simpa using hturn
  refine ⟨?_, hturn⟩
  unfold State.noTurn at hturn
  exact (Bool.or_eq_false_iff.mp hturn).1

theorem State.bufferFreed_none (h : s.lng.bufWait = []) : s.bufferFreed = s := by
  have hnone : s.nextWaiting = none := by simp [State.nextWaiting, h]
  unfold State.bufferFreed
  rw [hnone]

theorem State.bufferFreed_some {n c : Nat} {x : Slot} (hn : s.nextWaiting = some n) (hx : s.lng.bufWait[n]? = some (c, x)) :
    s.bufferFreed = (s.dropWait n).joinSlot c x := by
  simp only [State.bufferFreed, hn, hx]

theorem State.writeLngCmd_busy {v : Nat} (hv : part v R.LNG.CMD.CLEAN_ALL = 1) (h : s.on R.LNG.STATUS.CLEANING = true) :
    s.writeLngCmd v = (s, stDenied) := by
  simp [State.writeLngCmd, hv, h, State.refuse]

theorem State.writeLngCmd_starts {v : Nat} (hv : part v R.LNG.CMD.CLEAN_ALL = 1) (h : s.on R.LNG.STATUS.CLEANING = false) :
    s.writeLngCmd v = (s.cleanEvery, 0) := by
  simp [State.writeLngCmd, hv, h, State.accept, stOk]

end

theorem effect_of_live_eq {c : Instr} {s t u : State} (ha : s.awake = true) (hc : exec c s = live s t) (h : t = u) :
    effect c s u := effect_of_live ha (h ▸ hc)

/-- The cleaner stays as it is at DIRTY_HIGH or below it, while it runs, and in Hold (R270). -/
theorem State.cleaner_rests {s : State} (h : s.dirtyLines ≤ s.rd R.LNG.CFG.DIRTY_HIGH * 1024 ∨
      s.on R.LNG.STATUS.CLEANING = true ∨ s.mode = modeHold) :
    ¬ (s.rd R.LNG.CFG.DIRTY_HIGH * 1024 < s.dirtyLines ∧ ¬ s.on R.LNG.STATUS.CLEANING ∧ s.mode ≠ modeHold) := by
  rintro ⟨hmany, hidle, hmode⟩
  rcases h with hfew | hruns | hhold
  · exact absurd hmany (Nat.not_lt.mpr hfew)
  · exact hidle hruns
  · exact hmode hhold

theorem effect_cleanAll {s t : State} {v : BitVec 64} {path : Path} {st : Nat} (ha : s.awake = true) (hp : s.pathOk path = true)
    (h : s.writeLngCmd v.toNat = (t, st)) : effect (.cleanAll v path) s (t.respond path 0x9028 st) := by
  have he := effect_setup (c := .cleanAll v path) ha hp rfl
  rwa [h] at he

/-- Settles O37: each command is its unit's operation, whose own lemma says what that is in each case. -/
theorem liningCommands : Obligations.LiningCommands := by
  intro s line k ha
  refine ⟨fun noise h => ?fillWaits, fun noise hfill hopen => ⟨fun h => ?fillNotIssued, fun c x h => ?fillIssued⟩,
    fun hm => ?acceptedInHold, fun hm => ?accepted, fun w hw => State.acceptWb_notFlying hw, fun bad hm hw => ?retryNone,
    fun w bad hm hw h => ?retryNotDue, fun w hm hw hf hn => ?retry, fun w hw hf hn => ?fourth, fun w => State.failWb_keeps,
    fun h => ?cleanerRests, fun hd hc hm => ?cleanerStarts, fun v path hp hv => ⟨fun hc => ?cleanAllDenied, fun hc => ?cleanAll⟩,
    fun h => ?noneWaits, fun n c x hn hx => ?freed⟩
  case fillWaits => exact effect_of_live_eq ha rfl (State.fillReturns_waits noise h)
  case fillNotIssued => exact effect_of_live_eq ha rfl (State.fillReturns_notIssued noise hfill hopen h)
  case fillIssued => exact effect_of_live_eq ha rfl (State.fillReturns_issued noise hfill hopen h)
  case acceptedInHold => exact effect_of_live_eq ha rfl (if_pos hm)
  case accepted => exact effect_of_live_eq ha rfl (if_neg hm)
  case retryNone => exact effect_of_live_eq ha rfl ((if_neg hm).trans (State.retryWb_none bad hw))
  case retryNotDue => exact effect_of_live_eq ha rfl ((if_neg hm).trans (State.retryWb_notDue hw bad h))
  case retry => exact effect_of_live_eq ha rfl ((if_neg hm).trans (State.retryWb_succeeds hw hf hn))
  case fourth =>
    rw [State.failWb_fourth hw hf (Nat.le_of_eq hn.symm)]
    exact State.raise_sticky _ _ _ _
  case cleanerRests => exact effect_of_live_eq ha rfl (if_neg (State.cleaner_rests h))
  case cleanerStarts => exact effect_of_live_eq ha rfl (if_pos ⟨hd, by simp [hc], hm⟩)
  case cleanAllDenied => exact effect_cleanAll ha hp (State.writeLngCmd_busy hv hc)
  case cleanAll => exact effect_cleanAll ha hp (State.writeLngCmd_starts hv hc)
  case noneWaits => exact effect_of_live_eq ha rfl (congrArg State.pumpAll (State.bufferFreed_none h))
  case freed =>
    obtain ⟨hmust, hturn⟩ := State.nextWaiting_turn hn hx
    exact ⟨hmust, hturn, effect_of_live_eq ha rfl (congrArg State.pumpAll (State.bufferFreed_some hn hx))⟩

end Sys2Proof.Machine
end

section
/-! The invariant of every step: what power-good, power loss and every other command leave (17 R408, 19 R443, R445, 20 R457). -/

namespace Sys2Proof.Machine

/-- Every command but the two of the supply answers, on a module that does not act, the state as it is. -/
theorem exec_asleep (c : Instr) (s : State) (ha : s.awake = false) (hg : ∀ x r, c ≠ .powerGood x r) (hl : c ≠ .powerLoss) :
    exec c s = .next s := by
  rcases exec_live c s with ⟨t, ht⟩ | ⟨x, r, rfl⟩ | rfl
  · rw [ht, live_asleep s t ha]
  · exact absurd rfl (hg x r)
  · exact absurd rfl hl

theorem exec_powerGood_powered (s : State) (x : Straps) (r : Bool) (h : s.powered = true) :
    exec (.powerGood x r) s = .next s := by
  simp [exec, execPowerGood, h]

theorem exec_powerGood_unpowered (s : State) (x : Straps) (r : Bool) (h : s.powered = false) :
    exec (.powerGood x r) s = .next ((s.powerUp x r).ends s) := by
  simp [exec, execPowerGood, h]

theorem exec_powerLoss_powered (s : State) (h : s.powered = true) : exec .powerLoss s = .next s.powerDown := by
  simp [exec, execPowerLoss, h]

theorem exec_powerLoss_unpowered (s : State) (h : s.powered = false) : exec .powerLoss s = .next s := by
  simp [exec, execPowerLoss, h]

theorem State.powered_of_awake {s : State} (h : s.awake = true) : s.powered = true := by
  rw [State.awake, Bool.and_eq_true] at h
  exact h.1

theorem State.awake_of_unpowered {s : State} (h : s.powered = false) : s.awake = false := by simp [State.awake, h]

theorem State.awake_of_stopped {s : State} (h : s.clocks.stopped = true) : s.awake = false := by simp [State.awake, h]

/-- Settles O5: on a module that does not act every command of `live` answers the state as it is, and each command of the supply
asks for power or for none. -/
theorem unpoweredModuleIsInert : Obligations.UnpoweredModuleIsInert := by
  intro c s
  refine ⟨fun hp hg => ?dark, fun hp hs hl => ?stopped⟩
  case dark =>
    by_cases hl : c = .powerLoss
    · rw [hl, exec_powerLoss_unpowered s hp]
    · exact exec_asleep c s (State.awake_of_unpowered hp) hg hl
  case stopped =>
    by_cases hg : ∃ x r, c = .powerGood x r
    · obtain ⟨x, r, rfl⟩ := hg
      exact exec_powerGood_powered s x r hp
    · exact exec_asleep c s (State.awake_of_stopped hs) (fun x r h => hg ⟨x, r, h⟩) hl

/-- A state with power is not dark, so its invariant is that nothing is owed. -/
theorem State.inv_of_powered {s : State} (hp : s.powered = true) (hd : s.due = {}) : s.Inv :=
  ⟨hd, fun h => absurd (hp.symm.trans h) (by decide)⟩

theorem State.ends_inv (t s : State) : (t.ends s).Inv := State.inv_of_powered rfl rfl

theorem State.powerDown_inv (s : State) : s.powerDown.Inv := ⟨rfl, fun _ => rfl⟩

/-- The queue is no part of the invariant. -/
theorem State.inv_setPending {s : State} (h : s.Inv) (q : List Instr) : ({ s with pending := q } : State).Inv := by
  obtain ⟨hd, hdark⟩ := h
  exact ⟨hd, fun hp => congrArg (fun t : State => { t with pending := q }) (hdark hp)⟩

theorem live_inv {s t u : State} (h : s.Inv) (hu : live s u = .next t) : t.Inv := by
  cases ha : s.awake with
  | true =>
    rw [live_awake s u ha, Host.Outcome.next.injEq] at hu
    exact hu ▸ u.ends_inv s
  | false =>
    rw [live_asleep s u ha, Host.Outcome.next.injEq] at hu
    exact hu ▸ h

theorem exec_inv {c : Instr} {s t : State} (h : s.Inv) (ht : exec c s = .next t) : t.Inv := by
  rcases exec_live c s with ⟨u, hu⟩ | ⟨x, r, rfl⟩ | rfl
  · exact live_inv h (hu.symm.trans ht)
  · cases hp : s.powered with
    | true =>
      rw [exec_powerGood_powered s x r hp, Host.Outcome.next.injEq] at ht
      exact ht ▸ h
    | false =>
      rw [exec_powerGood_unpowered s x r hp, Host.Outcome.next.injEq] at ht
      exact ht ▸ State.ends_inv _ s
  · cases hp : s.powered with
    | true =>
      rw [exec_powerLoss_powered s hp, Host.Outcome.next.injEq] at ht
      exact ht ▸ s.powerDown_inv
    | false =>
      rw [exec_powerLoss_unpowered s hp, Host.Outcome.next.injEq] at ht
      exact ht ▸ h

/-- Settles O7: the module has power after reset, and nothing is owed. -/
theorem invariantAtReset : Obligations.InvariantAtReset := State.inv_of_powered rfl rfl

/-- Settles O6: the end of a command owes nothing and has power, a loss of power leaves the persistent words only, and every other
answer is the state as it was. -/
theorem everyStepKeepsInvariant : Obligations.EveryStepKeepsInvariant := by
  intro s t h ht
  unfold step at ht
  split at ht
  · exact exec_inv (State.inv_setPending h _) ht
  · exact live_inv h ht

/-- A reset that is owed settles as that reset alone (R445, R447). -/
theorem State.settleAll_reset (u : State) (n : Nat) {i : Nat} (h : u.due.reset = some i) : u.settleAll n = u.settleReset n i := by
  unfold State.settleAll
  rw [h]

/-- Settles O8: with nothing owed settling is the identity, with a reset owed it is that reset, and the end takes over the queue. -/
theorem endOfACommand : Obligations.EndOfACommand := by
  intro s u
  refine ⟨u.ends_quiet s, fun i h => ?_, rfl, rfl, rfl⟩
  rw [State.ends, State.settle, u.settleAll_reset _ h]

end Sys2Proof.Machine
end

section
/-! What a raise records and what its reaction asks for (19 R443-R446, R455). -/

namespace Sys2Proof.Machine

/-- The numbers of the fields of FLT.ALIVE. -/
def aliveIds : List Nat := [R.FLT.ALIVE.PIN_HELD, R.FLT.ALIVE.LEVEL, R.FLT.ALIVE.TOGGLING].map Fld.id

theorem State.rd_aliveFollow_other (s : State) (g : Fld) (j : Nat) (h : g.id ∉ aliveIds) :
    s.aliveFollow.rd g j = s.rd g j := by
  have hwr (t : State) (f : Fld) (v e : Nat) (hf : f.id ∈ aliveIds) : (t.wr f v e).rd g j = t.rd g j :=
    t.rd_wr_field f g v e j fun he => h (he ▸ hf)
  unfold State.aliveFollow State.put
  dsimp only
  split
  · simp (disch := decide) only [hwr]
  · split
    · simp (disch := decide) only [hwr]
    · refine (State.rd_congr _ (State.wr (State.wr _ R.FLT.ALIVE.LEVEL 1) R.FLT.ALIVE.TOGGLING 1) rfl g j).trans ?_
      simp (disch := decide) only [hwr]

/-- The numbers of the fields that FLT.LAST and FLT.LAST_TICK hold. -/
def lastIds : List Nat :=
  [R.FLT.LAST.RAISES, R.FLT.LAST.SOURCE, R.FLT.LAST.VALID, R.FLT.LAST.INJECTED, R.FLT.LAST_TICK.TICK].map Fld.id

theorem State.rd_recordLast_other (s : State) (i : Nat) (b : Bool) (g : Fld) (j : Nat) (h : g.id ∉ lastIds) :
    (s.recordLast i b).rd g j = s.rd g j := by
  have hwr (t : State) (f : Fld) (v e : Nat) (hf : f.id ∈ lastIds) : (t.wr f v e).rd g j = t.rd g j :=
    t.rd_wr_field f g v e j fun he => h (he ▸ hf)
  unfold State.recordLast State.bump State.put
  dsimp only
  split <;> simp (disch := decide) only [hwr]

/-- FLT.LAST is valid after a raise and has the tick of the raise, whichever source of the tick it shows (R445). -/
theorem State.recordLast_last (s : State) (i : Nat) (b : Bool) :
    (s.recordLast i b).on R.FLT.LAST.VALID = true ∧ (s.recordLast i b).rd R.FLT.LAST_TICK.TICK = s.tick % 2 ^ 64 := by
  unfold State.recordLast State.bump State.put
  dsimp only
  split
  · next h =>
    simp only [Bool.and_eq_true, beq_iff_eq] at h
    obtain ⟨⟨hvalid, htick⟩, -⟩ := h
    have hlt : s.rd R.FLT.LAST_TICK.TICK < 2 ^ 64 := s.rd_lt R.FLT.LAST_TICK.TICK 0
    rw [State.on, State.rd_wr_field _ _ _ _ _ _ (by decide), State.rd_wr_field _ _ _ _ _ _ (by decide), htick]
    exact ⟨hvalid, (Nat.mod_eq_of_lt (htick ▸ hlt)).symm⟩
  · rw [State.on, State.rd_wr_field _ _ _ _ _ _ (by decide), State.rd_wr_field _ _ _ _ _ _ (by decide), State.rd_wr_same,
      State.rd_wr_same]
    exact ⟨rfl, rfl⟩

/-- A raise up to FLT.LAST: the sticky bit and the counts. -/
def State.counted (s : State) (i : Nat) : State :=
  let t := (s.wrBit (stickyField i) (i % 64) true).bump R.FLT.SRC.COUNT i
  if !s.sticky i then t.count 7 else t

theorem State.markFault_form (s : State) (i : Nat) (b : Bool) : s.markFault i b =
    if ((s.counted i).recordLast i b).on R.FLT.SRC.PIN i then
      (((s.counted i).recordLast i b).wrBit (holdField i) (i % 64) true).aliveFollow
    else (s.counted i).recordLast i b := rfl

theorem State.rd_counted (s : State) (i : Nat) (g : Fld) (j : Nat) :
    (s.counted i).rd g j = ((s.wrBit (stickyField i) (i % 64) true).bump R.FLT.SRC.COUNT i).rd g j := by
  unfold State.counted
  dsimp only
  split
  · exact State.count_rd _ _ _ _ _
  · rfl

theorem State.counted_tick (s : State) (i : Nat) : (s.counted i).tick = s.tick := by
  unfold State.counted
  dsimp only
  split <;> simp

/-- What is recorded before the pin hold reads the same after it, ALIVE and the hold words aside. -/
theorem State.rd_markFault_recorded (s : State) (i : Nat) (b : Bool) (g : Fld) (j : Nat) (ha : g.id ∉ aliveIds)
    (h0 : g.id ≠ R.FLT.PIN_HOLD0.HOLD.id) (h1 : g.id ≠ R.FLT.PIN_HOLD1.HOLD.id) :
    (s.markFault i b).rd g j = ((s.counted i).recordLast i b).rd g j := by
  have hhold : g.id ≠ (holdField i).id := by unfold holdField; split <;> assumption
  rw [s.markFault_form]
  split
  · rw [State.rd_aliveFollow_other _ g j ha, State.wrBit, State.rd_wr_field _ _ _ _ _ _ hhold]
  · rfl

theorem stickyField_ne_src (i : Nat) :
    R.FLT.SRC.COUNT.id ≠ (stickyField i).id ∧ R.FLT.SRC.PIN.id ≠ (stickyField i).id := by
  unfold stickyField
  split <;> exact ⟨by decide, by decide⟩

/-- A raise counts once more for its source, up to saturation. -/
theorem State.rd_markFault_count (s : State) (i : Nat) (b : Bool) : (s.markFault i b).rd R.FLT.SRC.COUNT i =
    min (s.rd R.FLT.SRC.COUNT i + 1) R.FLT.SRC.COUNT.max := by
  rw [s.rd_markFault_recorded i b _ i (by decide) (by decide) (by decide), State.rd_recordLast_other _ _ _ _ _ (by decide),
    s.rd_counted, State.rd_bump_same, State.wrBit, State.rd_wr_field _ _ _ _ _ _ (stickyField_ne_src i).1]

theorem State.markFault_last (s : State) (i : Nat) (b : Bool) :
    (s.markFault i b).on R.FLT.LAST.VALID = true ∧ (s.markFault i b).rd R.FLT.LAST_TICK.TICK = s.tick % 2 ^ 64 := by
  have hlast := (s.counted i).recordLast_last i b
  rw [s.counted_tick] at hlast
  rwa [State.on, s.rd_markFault_recorded i b _ 0 (by decide) (by decide) (by decide),
    s.rd_markFault_recorded i b _ 0 (by decide) (by decide) (by decide)]

theorem holdField_width (i : Nat) : (holdField i).width = 64 := by unfold holdField; split <;> rfl

theorem State.pinHold_aliveFollow (s : State) (i : Nat) : s.aliveFollow.pinHold i = s.pinHold i := by
  have hid : (holdField i).id ∉ aliveIds := by unfold holdField; split <;> decide
  rw [State.pinHold, State.rdBit, s.rd_aliveFollow_other _ _ hid, State.pinHold, State.rdBit]

/-- A source with PIN set holds ALIVE from its raise on. -/
theorem State.markFault_pinHold (s : State) (i : Nat) (b : Bool) (h : s.on R.FLT.SRC.PIN i = true) :
    (s.markFault i b).pinHold i = true := by
  have hpin : ((s.counted i).recordLast i b).on R.FLT.SRC.PIN i = true := by
    rw [State.on, State.rd_recordLast_other _ _ _ _ _ (by decide), s.rd_counted, State.rd_bump_field _ _ _ _ _ _ (by decide),
      State.wrBit, State.rd_wr_field _ _ _ _ _ _ (stickyField_ne_src i).2]
    exact h
  rw [s.markFault_form, if_pos hpin, State.pinHold_aliveFollow, State.pinHold,
    State.rdBit_wrBit_true _ _ _ _ _ (by rw [holdField_width]; omega)]
  simp

/-- Beside what it asks for a raise is the record of the fault. -/
theorem State.raise_regs (s : State) (i : Nat) (u : Block) (b : Bool) : (s.raise i u b).regs = (s.markFault i b).regs := by
  rw [State.raise]

/-- Settles O9: what a raise records is `markFault`, and the reaction it asks for is no register. -/
theorem raiseRecordsTheFault : Obligations.RaiseRecordsTheFault := by
  intro s i u inj _
  obtain ⟨hvalid, htick⟩ := s.markFault_last i inj
  have hmark (g : Fld) (e : Nat) : (s.raise i u inj).rd g e = (s.markFault i inj).rd g e :=
    State.rd_congr _ _ (s.raise_regs i u inj) g e
  refine ⟨s.raise_sticky i u inj, (hmark _ i).trans (s.rd_markFault_count i inj), ?_, (hmark _ 0).trans htick, fun hpin => ?_,
    fun g e => s.rd_raise i u inj g e, s.raise_mem i u inj, s.raise_out i u inj, s.raise_tick i u inj⟩
  · rw [State.on, hmark]
    exact hvalid
  · rw [State.pinHold, State.rdBit, hmark]
    exact s.markFault_pinHold i inj hpin

section
variable (s : State) (i : Nat) (u : Block) (fresh : Bool)

theorem State.react_none (h : s.rd R.FLT.SRC.REACTION i = 0) : s.react i fresh u = s.due := by
  simp [State.react, h]

theorem State.react_interrupt (h : s.rd R.FLT.SRC.REACTION i = 1) :
    s.react i fresh u = if fresh then { s.oweEvent i with ints := s.due.ints + 1 } else s.due := by
  simp [State.react, h]

theorem State.react_trap (h : s.rd R.FLT.SRC.REACTION i = 2 ∨
    s.rd R.FLT.SRC.REACTION i = 4 ∧ (s.mode = modeBoot ∨ s.mode = modeMaint)) :
    s.react i fresh u = if fresh then { s.oweEvent i with traps := s.due.traps + 1 } else s.due := by
  rcases h with h | ⟨h, hm⟩
  · simp [State.react, h]
  · simp [State.react, h, hm]

theorem State.react_blockReset (h : s.rd R.FLT.SRC.REACTION i = 3) : s.react i fresh u =
    { s.oweEvent i with ints := s.due.ints + 1, blocks := s.due.blocks ++ [faultBlock i u] } := by
  simp [State.react, h]

theorem State.react_reset (h : s.rd R.FLT.SRC.REACTION i = 4) (hb : s.mode ≠ modeBoot) (hm : s.mode ≠ modeMaint)
    (hn : s.due.reset = none) : s.react i fresh u = { s.due with reset := some i } := by
  simp only [State.react, h, hb, hm, or_self, and_false, if_false, hn]

theorem State.oweEvent_reset : (s.oweEvent i).reset = s.due.reset := by
  unfold State.oweEvent
  split <;> rfl

theorem State.oweEvent_client (h : s.rd R.FLT.SRC.CLIENT i = 1) : (s.oweEvent i).events = s.due.events ++ [i] := by
  simp [State.oweEvent, State.on, h]

end

/-- Settles O10, reaction by reaction. -/
theorem reactionsOfARaise : Obligations.ReactionsOfARaise := by
  intro s i u fresh
  refine ⟨s.react_none i u fresh, fun h => ?interrupt, fun h => ?trap, fun h => ?block, fun h hb hm hn => ?reset,
    fun h hm => ?resetTrap, fun hc h => ?client⟩
  case interrupt => simp [s.react_interrupt i u _ h]
  case trap => simp [s.react_trap i u _ (.inl h)]
  case block => simp [s.react_blockReset i u fresh h]
  case reset => rw [s.react_reset i u fresh h hb hm hn]
  case resetTrap => simp [s.react_trap i u _ (.inr ⟨h, hm⟩), s.oweEvent_reset]
  case client => rw [s.react_blockReset i u fresh h, s.oweEvent_client i hc]

theorem State.alertN_low (s : State) :
    s.alertN = false ↔ ∃ i, i < 128 ∧ s.on R.FLT.SRC.ALERT i = true ∧ s.sticky i = true := by
  simp [State.alertN, and_comm]

theorem State.alertN_congr {s t : State} (h : t.regs = s.regs) : t.alertN = s.alertN := by
  unfold State.alertN
  simp only [State.sticky_congr h, State.on, State.rd_congr t s h]

theorem exec_smbAlertResponse (s : State) (ha : s.awake = true) (hs : s.settled) :
    exec .smbAlertResponse s = .next (if s.alertN then s else s.emit (.smbAddress s.smbAddr)) := by
  have hp := State.powered_of_awake ha
  cases hn : s.alertN with
  | true => exact (live_quiet s s ha hs rfl hp ▸ by rw [exec, execSmbAlertResponse, hn]; rfl)
  | false => exact (live_quiet s (s.emit (.smbAddress s.smbAddr)) ha hs rfl hp ▸ by rw [exec, execSmbAlertResponse, hn]; rfl)

/-- Settles O30: an alerting source that is sticky keeps ALERT_N low, and the answer to the alert response is an output alone. -/
theorem alertOutput : Obligations.AlertOutput := by
  intro s
  refine ⟨s.alertN_low, fun ha hs hn => ⟨s.emit (.smbAddress s.smbAddr), ?answer, rfl, ?low, rfl⟩, fun ha hs hn => ?silent,
    fun h => ?clear⟩
  case answer => rw [exec_smbAlertResponse s ha hs, hn]; rfl
  case low => exact (State.alertN_congr (State.emit_regs _ _)).trans hn
  case silent => rw [exec_smbAlertResponse s ha hs, hn]; rfl
  case clear =>
    rw [← Bool.not_eq_false, s.alertN_low]
    rintro ⟨i, hi, -, hsticky⟩
    exact absurd (h i hi) (by simp [hsticky])

end Sys2Proof.Machine
end

section
/-! Power lost and power good, and the epoch note (17 R408, 20 R457, R465, R471, R473). -/

namespace Sys2Proof.Machine

/-- What the OTP gives at Boot step 1 leaves the time base, the stack, the pins' samples, RST_N's hold and the Pattern store as they are
(R457). -/
theorem State.otpBoot_parts (s : State) : s.otpBoot.tick = s.tick ∧ s.otpBoot.mem = s.mem ∧ s.otpBoot.boot = s.boot ∧
    s.otpBoot.pins.samples = s.pins.samples ∧ s.otpBoot.per.pat = s.per.pat := by
  unfold State.otpBoot
  dsimp only
  split <;> split <;> simp

theorem State.otpBoot_bootStep (s : State) : s.otpBoot.rd R.MOD.STATUS.BOOT_STEP = s.rd R.MOD.STATUS.BOOT_STEP := by
  unfold State.otpBoot State.put
  dsimp only
  split <;> split <;> simp (disch := decide) only [State.rd_raise, State.rd_wr_field] <;> rfl

/-- The words that Boot loads from the Pattern store are one register (R472). -/
theorem State.patBoot_form (s : State) : s.patBoot = s.wr R.MOD.BOOT_CFG.BIST_SKIP (s.pat 129) := rfl

/-- What power-good finds (R457, R472, R485). -/
def State.cold (s : State) (x : Straps) (r : Bool) : State :=
  { State.reset with
    pending := s.pending, freeCtr := s.freeCtr, out := s.out,
    per := { otp := s.per.otp, pat := s.per.pat, patCount := s.per.patCount, gone := s.per.gone },
    pins := { rstN := { seen := r, level := r }, samples := [x] },
    boot := { resetHeld := !r } }

theorem State.powerUp_form (s : State) (x : Straps) (r : Bool) : s.powerUp x r = (s.cold x r).otpBoot.patBoot := rfl

/-- A state without register writes is in Boot step 1. -/
theorem State.cold_rd (s : State) (x : Straps) (r : Bool) :
    (s.cold x r).mode = modeBoot ∧ (s.cold x r).rd R.MOD.STATUS.BOOT_STEP = 1 :=
  ⟨(State.rd_congr (s.cold x r) State.reset rfl _ _).trans rfl, (State.rd_congr (s.cold x r) State.reset rfl _ _).trans rfl⟩

theorem State.powerUp_boots (s : State) (x : Straps) (r : Bool) :
    (s.powerUp x r).mode = modeBoot ∧ (s.powerUp x r).rd R.MOD.STATUS.BOOT_STEP = 1 := by
  obtain ⟨hmode, hstep⟩ := s.cold_rd x r
  rw [s.powerUp_form, State.patBoot_form, State.mode, State.rd_wr_field _ _ _ _ _ _ (by decide),
    State.rd_wr_field _ _ _ _ _ _ (by decide), State.otpBoot_bootStep, hstep]
  exact ⟨(State.otpBoot_frame _).1.trans hmode, rfl⟩

theorem State.interruptWord_idle (s : State) (h : s.per.job = none) : s.interruptWord = s := by
  unfold State.interruptWord
  rw [h]

/-- An interrupted word is one of the OTP's (R467). -/
theorem State.interruptWord_pat (s : State) :
    s.interruptWord.per.pat = s.per.pat ∧ s.interruptWord.per.patCount = s.per.patCount := by
  unfold State.interruptWord
  split
  · dsimp only
    split <;> exact ⟨rfl, rfl⟩
  · exact ⟨rfl, rfl⟩

theorem State.powerDown_parts (s : State) : s.powerDown.per.pat = s.per.pat ∧ s.powerDown.per.patCount = s.per.patCount ∧
    (s.per.job = none → s.powerDown.per.otp = s.per.otp) := by
  obtain ⟨hpat, hcount⟩ := s.interruptWord_pat
  refine ⟨hpat, hcount, fun hj => ?_⟩
  show s.interruptWord.per.otp = s.per.otp
  rw [s.interruptWord_idle hj]

/-- Settles O11: POWER_LOSS is `powerDown`, whose one change to a persistent word is that of an interrupted OTP word; POWER_GOOD is
Boot step 1 on the reset values. -/
theorem powerLossAndPowerGood : Obligations.PowerLossAndPowerGood := by
  intro s x r
  refine ⟨fun hp => ?loss, fun hp => ⟨exec_powerGood_unpowered s x r hp, ?good⟩⟩
  case loss =>
    obtain ⟨hpat, hcount, hotp⟩ := s.powerDown_parts
    exact ⟨s.powerDown, exec_powerLoss_powered s hp, rfl, rfl, hpat, hcount, s.powerDown_pending, hotp⟩
  case good =>
    obtain ⟨htick, hmem, hboot, hsamples, hpat⟩ := (s.cold x r).otpBoot_parts
    obtain ⟨hmode, hstep⟩ := s.powerUp_boots x r
    refine ⟨htick, hmode, hstep, hsamples, (State.otpBoot_frame (s.cold x r)).2, hpat, ?_, hmem⟩
    show (s.cold x r).otpBoot.boot.resetHeld = !r
    rw [hboot]
    rfl

/-- A note over the SMBus, as registers (R157, R473). -/
theorem exec_noteWrite_smb (s : State) (v : BitVec 64) (ha : s.awake = true) (hs : s.settled) :
    exec (.noteWrite v .smb) s =
      .next (((s.wr R.TIM.NOTE.NOTE v.toNat).wr R.TIM.NOTE_TICK.TICK s.tick).respond .smb 0x39008 0) := by
  have he : exec (.noteWrite v .smb) s =
      live s (((s.wr R.TIM.NOTE.NOTE v.toNat).wr R.TIM.NOTE_TICK.TICK s.tick).respond .smb 0x39008 0) := by
    rw [exec, execNoteWrite, State.setup_ok _ _ _ _ rfl, s.writeNote_eq v]
  obtain ⟨rs, m, hr⟩ := ((s.wr R.TIM.NOTE.NOTE v.toNat).wr R.TIM.NOTE_TICK.TICK s.tick).respond_does .smb 0x39008 0
  rw [he, live_quiet s _ ha (by rw [hr]; exact hs) (by rw [hr]; rfl) (by rw [hr]; exact State.powered_of_awake ha)]

/-- Settles O26: the note is two registers and an answer of OK. -/
theorem epochNote : Obligations.EpochNote := by
  intro s v ha hs ht
  obtain ⟨rs, m, hr⟩ := ((s.wr R.TIM.NOTE.NOTE v.toNat).wr R.TIM.NOTE_TICK.TICK s.tick).respond_does .smb 0x39008 0
  refine ⟨_, exec_noteWrite_smb s v ha hs, ?note, ?tick, (State.rd_respond_status _ _ 0 (by decide)).1, ?_, ?_, ?_,
    fun g e hn hnt hsmb hg _ => ?other⟩
  case note =>
    rw [State.rd_respond_ok _ _ _ _ _ (by decide) (by decide), State.rd_wr_field _ _ _ _ _ _ (by decide), State.rd_wr_same]
    exact Nat.mod_eq_of_lt v.isLt
  case tick =>
    rw [State.rd_respond_ok _ _ _ _ _ (by decide) (by decide), State.rd_wr_same]
    exact Nat.mod_eq_of_lt ht
  case other =>
    rw [State.respond_smb_ok, State.rd_wr_addr _ _ _ _ hsmb hg (by decide), State.countAnswer_rd,
      State.rd_wr_addr _ _ _ _ hnt hg (by decide), State.rd_wr_addr _ _ _ _ hn hg (by decide)]
  all_goals rw [hr]; rfl

end Sys2Proof.Machine
end

section
/-! Slots admitted, rows closed, and the REF commands of a ply (11 R288, 14 R344, R345, R348-R353). -/

namespace Sys2Proof.Machine

theorem State.chan_congr {s t : State} (h : t.chans = s.chans) (c : Nat) : t.chan c = s.chan c := by rw [State.chan, h, State.chan]

theorem State.slotIssue_closed (s : State) (c : Nat) (h : s.mayAdmit c = false) : s.slotIssue c = s := by
  simp [State.slotIssue, h]

theorem State.slotIssue_none (s : State) (c : Nat) (h : s.nextSlot c = none) : s.slotIssue c = s := by
  unfold State.slotIssue
  rw [h]
  split <;> rfl

theorem State.slotIssue_some (s : State) (c : Nat) {x : Slot} (hm : s.mayAdmit c = true) (h : s.nextSlot c = some x) :
    s.slotIssue c = (s.admitSlot c x).runBus c x.pc := by
  simp [State.slotIssue, hm, h]

theorem State.admitSlot_chan (s : State) (c : Nat) (x : Slot) : (s.admitSlot c x).chan c =
    { s.chan c with waiting := (s.chan c).waiting.erase x, admitted := (s.chan c).admitted ++ [{ x with since := s.tick }],
                    rr := (s.chan c).rr.set 0 x.cls x.master, credit := (s.chan c).credit - 1 } := by
  rw [State.admitSlot, State.useCredit, State.setChan_same, State.setChan_same]

/-- The channel state that a row-disturbance window leaves (R352, R353). -/
def State.newWindow (s : State) (c : Nat) : Chan := { s.chan c with tables := {}, thresh := s.rd R.CHN.CTRL.RH_THRESH c }

def State.newWindows (s : State) : State := (List.range 32).foldl (fun s c => s.setChan c (s.newWindow c)) s

theorem State.newWindows_chan (s : State) (c : Fin 32) : s.newWindows.chan c = s.newWindow c := by
  have h := foldl_each (fun s c => s.setChan c (s.newWindow c)) State.chan State.newWindow (List.range 32)
    (fun s k _ => s.setChan_same k _)
    (fun s k _ j hj => ⟨s.setChan_other k j _ hj, by
      rw [State.newWindow, State.setChan_rd, s.setChan_other k j _ hj, State.newWindow]⟩)
    List.nodup_range s c
  rwa [if_pos (List.mem_range.mpr c.isLt)] at h

theorem State.newWindows_frame (s : State) :
    s.newWindows.mem = s.mem ∧ s.newWindows.regs = s.regs ∧ s.newWindows.pmc = s.pmc ∧ s.newWindows.out = s.out := by
  have h := foldl_keeps (fun s c => s.setChan c (s.newWindow c)) (fun t => (t.mem, t.regs, t.pmc, t.out)) (List.range 32)
    (fun _ _ _ => rfl) s
  simpa only [Prod.mk.injEq, State.newWindows] using h

/-- The REF counts of a ply and its pointer: postponed, pulled in, and the row it has come to. -/
def Chan.refState (x : Chan) (n : Nat) : Nat × Nat × Nat := (x.postponed.get 0 n, x.pulled.get 0 n, x.pointer.get 0 n)

/-- REF commands walk the pointer of their ply on and show the rate in force; the counts of a ply are not theirs (R348). -/
theorem State.refresh_does (s : State) (c pc ply k : Nat) :
    ((s.refresh c pc ply k).chan c).refState (pc * 4 + ply) =
      (((s.chan c).postponed.get 0 (pc * 4 + ply), (s.chan c).pulled.get 0 (pc * 4 + ply),
        ((s.chan c).pointer.get 0 (pc * 4 + ply) + k) % 8208)) ∧
    (s.refresh c pc ply k).mem = s.mem ∧ (s.refresh c pc ply k).regs = (s.put R.CHN.STATUS.REF_FAST (s.chan c).fast c).regs := by
  have hchan (t : State) (x : Chan) (n : Nat) (b : Bool) :
      ((((t.setChan c x).countChan c 3 n).charge .refresh c ply n).put R.CHN.STATUS.REF_FAST b c).chan c = x := by
    have hcount : ((t.setChan c x).countChan c 3 n).chan c = x :=
      (State.chan_congr (State.count_chans _ _ _) c).trans (t.setChan_same c x)
    rw [State.put_chan]
    exact (State.chan_congr (s := (t.setChan c x).countChan c 3 n) rfl c).trans hcount
  have hregs (t : State) (x : Chan) (n : Nat) : (((t.setChan c x).countChan c 3 n).charge .refresh c ply n).regs = t.regs :=
    State.count_regs _ _ _
  refine ⟨?_, (s.refresh_frame c pc ply k).1, ?_⟩
  · rw [State.refresh, hchan, Chan.refState, SMap.get_set_same]
    rfl
  · rw [State.refresh, State.put, State.wr, hregs]
    rfl

/-- A held interval leaves every count and pointer, the registers and the memory. -/
theorem State.heldInterval_keeps (s : State) (c pc ply n : Nat) :
    ((s.heldInterval c pc ply).chan c).refState n = (s.chan c).refState n ∧ (s.heldInterval c pc ply).mem = s.mem ∧
    (s.heldInterval c pc ply).regs = s.regs := by
  have hchan (x : Chan) (k : Cal) : ({ s.setChan c x with cal := k } : State).chan c = x :=
    (State.chan_congr (t := { s.setChan c x with cal := k }) (s := s.setChan c x) rfl c).trans (s.setChan_same c x)
  obtain ⟨cs, k, h⟩ := s.heldInterval_frame c pc ply
  refine ⟨?_, by rw [h], by rw [h]⟩
  unfold State.heldInterval
  dsimp only
  split <;> split
  · rfl
  · rw [hchan]; rfl
  · rfl
  · rw [hchan]; rfl

section
variable (s : State) (c n k : Nat)

theorem State.setDebt_refState : ((s.setDebt c n k).chan c).refState n =
    (k, (s.chan c).pulled.get 0 n, (s.chan c).pointer.get 0 n) := by
  rw [State.setDebt, State.setChan_same, Chan.refState, SMap.get_set_same]

theorem State.setAhead_refState : ((s.setAhead c n k).chan c).refState n =
    ((s.chan c).postponed.get 0 n, k, (s.chan c).pointer.get 0 n) := by
  rw [State.setAhead, State.setChan_same, Chan.refState, SMap.get_set_same]

end

section
variable (s : State) (c pc ply : Nat) (b : Bool)

/-- tREFI of a ply means something: its refresh has not ended, and it does not refresh itself, stand in a window, lack a clock or wait
to be initialised (R350, R351). -/
def State.refHere : Prop :=
  ¬ (s.tornPc (2 * c + pc) = true ∧ ¬ s.caWhole c pc = true) ∧
  ¬ (s.asleep = true ∨ s.clocks.stopped = true ∨ s.on R.CHN.STATUS.IN_WINDOW c = true ∨
    (s.booting = true ∧ s.rd R.MOD.STATUS.BOOT_STEP < 5))

theorem State.refDue_elsewhere (h : ¬ s.refHere c pc) : s.refDue c pc ply b = s := by
  unfold State.refHere at h
  unfold State.refDue
  dsimp only
  split
  · rfl
  · next ht => exact if_pos (Classical.byContradiction fun hn => h ⟨ht, hn⟩)

variable (h : s.refHere c pc)
include h

/-- What tREFI does where it means something (R350). -/
theorem State.refDue_here : s.refDue c pc ply b =
    if b ∨ s.inReset c then
      if 8 ≤ (s.chan c).postponed.get 0 (pc * 4 + ply) then
        if s.tornPc (2 * c + pc) then s.endRefresh (2 * c + pc) else s.tear (2 * c + pc)
      else s.setDebt c (pc * 4 + ply) ((s.chan c).postponed.get 0 (pc * 4 + ply) + 1)
    else if (s.chan c).busyPly pc ply then
      if (s.chan c).pulled.get 0 (pc * 4 + ply) ≠ 0 then
        s.setAhead c (pc * 4 + ply) ((s.chan c).pulled.get 0 (pc * 4 + ply) - 1)
      else if (s.chan c).postponed.get 0 (pc * 4 + ply) < 8 then
        s.setDebt c (pc * 4 + ply) ((s.chan c).postponed.get 0 (pc * 4 + ply) + 1)
      else s.refresh c pc ply 1
    else if (s.chan c).pulled.get 0 (pc * 4 + ply) < 8 then
      (((s.refresh c pc ply ((s.chan c).postponed.get 0 (pc * 4 + ply) + 2)).heldInterval c pc ply).setDebt c
        (pc * 4 + ply) 0).setAhead c (pc * 4 + ply) ((s.chan c).pulled.get 0 (pc * 4 + ply) + 1)
    else ((s.refresh c pc ply ((s.chan c).postponed.get 0 (pc * 4 + ply) + 1)).heldInterval c pc ply).setDebt c
      (pc * 4 + ply) 0 := by
  obtain ⟨ht, hs⟩ := h
  unfold State.refDue
  dsimp only
  rw [if_neg ht, if_neg hs]

variable (hr : s.inReset c = false)
include hr

theorem State.refDue_busy (hb : (s.chan c).busyPly pc ply = true) : s.refDue c pc ply false =
    if (s.chan c).pulled.get 0 (pc * 4 + ply) ≠ 0 then
      s.setAhead c (pc * 4 + ply) ((s.chan c).pulled.get 0 (pc * 4 + ply) - 1)
    else if (s.chan c).postponed.get 0 (pc * 4 + ply) < 8 then
      s.setDebt c (pc * 4 + ply) ((s.chan c).postponed.get 0 (pc * 4 + ply) + 1)
    else s.refresh c pc ply 1 := by
  rw [s.refDue_here c pc ply false h, if_neg (by simp [hr]), if_pos hb]

theorem State.refDue_idle (hb : (s.chan c).busyPly pc ply = false) : s.refDue c pc ply false =
    if (s.chan c).pulled.get 0 (pc * 4 + ply) < 8 then
      (((s.refresh c pc ply ((s.chan c).postponed.get 0 (pc * 4 + ply) + 2)).heldInterval c pc ply).setDebt c
        (pc * 4 + ply) 0).setAhead c (pc * 4 + ply) ((s.chan c).pulled.get 0 (pc * 4 + ply) + 1)
    else ((s.refresh c pc ply ((s.chan c).postponed.get 0 (pc * 4 + ply) + 1)).heldInterval c pc ply).setDebt c
      (pc * 4 + ply) 0 := by
  rw [s.refDue_here c pc ply false h, if_neg (by simp [hr]), if_neg (by simp [hb])]

end

/-- The REF commands of an idle ply, which its sweep may make an interval of, and the count of those it owes cleared. -/
theorem State.refreshIdle_does (s : State) (c pc ply k : Nat) :
    let u := ((s.refresh c pc ply k).heldInterval c pc ply).setDebt c (pc * 4 + ply) 0
    (u.chan c).refState (pc * 4 + ply) =
      (0, (s.chan c).pulled.get 0 (pc * 4 + ply), ((s.chan c).pointer.get 0 (pc * 4 + ply) + k) % 8208) ∧
    u.mem = s.mem ∧ u.regs = (s.put R.CHN.STATUS.REF_FAST (s.chan c).fast c).regs := by
  obtain ⟨hst, hmem, hregs⟩ := s.refresh_does c pc ply k
  obtain ⟨hst', hmem', hregs'⟩ := (s.refresh c pc ply k).heldInterval_keeps c pc ply (pc * 4 + ply)
  rw [hst] at hst'
  simp only [Chan.refState, Prod.mk.injEq] at hst'
  obtain ⟨-, hpulled, hpointer⟩ := hst'
  exact ⟨by rw [State.setDebt_refState, hpulled, hpointer], hmem'.trans hmem, hregs'.trans hregs⟩

theorem effect_refDue {s : State} (ha : s.awake = true) (c : Fin 32) (pc : Fin 2) (ply : Fin 4) (b : Bool) :
    effect (.refDue c pc ply b) s (s.refDue c pc ply b) := effect_of_live ha rfl

theorem effect_rhWindowBoundary {s : State} (ha : s.awake = true) : effect .rhWindowBoundary s s.newWindows :=
  effect_of_live ha rfl

/-- Settles O38: a slot is admitted by `slotIssue`, and tREFI of a ply is `refDue`, branch by branch. -/
theorem channelCommands : Obligations.ChannelCommands := by
  intro s c ha
  refine ⟨fun h => effect_of_live_eq ha rfl (s.slotIssue_closed c h),
    fun h => effect_of_live_eq ha rfl (s.slotIssue_none c h), fun x hm hx => ?admitted,
    fun bank => effect_of_live ha rfl, fun pc ply n hn => ⟨fun b h => ?elsewhere, fun hsleep hclk hwin hboot htorn => ?here⟩,
    s.newWindows, effect_rhWindowBoundary ha, ?window⟩
  case admitted =>
    exact ⟨effect_of_live_eq ha rfl (s.slotIssue_some c hm hx), by rw [s.admitSlot_chan],
      by rw [s.admitSlot_chan], by rw [s.admitSlot_chan]⟩
  case window =>
    obtain ⟨hmem, hregs, hpmc, hout⟩ := s.newWindows_frame
    rw [s.newWindows_chan c]
    exact ⟨hmem, hregs, hpmc, hout, rfl, rfl, rfl, rfl, rfl⟩
  case elsewhere =>
    have hn : ¬ s.refHere c pc := by
      rintro ⟨htorn, hself⟩
      rcases h with h | h | h | h | ⟨ht, hca⟩
      · exact hself (.inl h)
      · exact hself (.inr (.inl h))
      · exact hself (.inr (.inr (.inl h)))
      · exact hself (.inr (.inr (.inr h)))
      · exact htorn ⟨ht, by simp [hca]⟩
    exact effect_of_live_eq ha rfl (s.refDue_elsewhere c pc ply b hn)
  case here =>
    subst hn
    have hh : s.refHere c pc := by
      refine ⟨fun ⟨ht, hca⟩ => ?_, ?_⟩
      · rcases htorn with h | h
        · simp [h] at ht
        · exact hca h
      · rintro (h | h | h | ⟨hb, hstep⟩)
        · simp [hsleep] at h
        · simp [hclk] at h
        · simp [hwin] at h
        · rcases hboot with h | h
          · simp [h] at hb
          · omega
    have hdue (b : Bool) := effect_refDue ha c pc ply b
    refine ⟨fun b hb => ?blocked, fun hr hbusy hp => ?pulled, fun hr hbusy hp hd => ?postponed, fun hr hbusy hp hd => ?issued,
      fun hr hidle hp => ?ahead, fun hr hidle hp => ?full⟩
    case blocked =>
      have he := hdue b
      rw [s.refDue_here c pc ply b hh, if_pos hb] at he
      refine ⟨fun hd => ?_, fun hd ht => ?_, fun hd ht => ?_⟩
      · rwa [if_neg (by omega)] at he
      · rwa [if_pos hd, if_neg (by simp [ht])] at he
      · rwa [if_pos hd, if_pos ht] at he
    case pulled => exact effect_of_live_eq ha rfl ((s.refDue_busy c pc ply hh hr hbusy).trans (if_pos hp))
    case postponed =>
      exact effect_of_live_eq ha rfl ((s.refDue_busy c pc ply hh hr hbusy).trans ((if_neg (by simp [hp])).trans (if_pos hd)))
    case issued =>
      exact effect_of_live_eq ha rfl ((s.refDue_busy c pc ply hh hr hbusy).trans ((if_neg (by simp [hp])).trans (if_neg (by omega))))
    case ahead =>
      have he := hdue false
      rw [s.refDue_idle c pc ply hh hr hidle, if_pos hp] at he
      obtain ⟨hst, hmem, hregs⟩ := s.refreshIdle_does c pc ply ((s.chan c).postponed.get 0 (pc.val * 4 + ply.val) + 2)
      have hahead := State.setAhead_refState
        (((s.refresh c pc ply ((s.chan c).postponed.get 0 (pc.val * 4 + ply.val) + 2)).heldInterval c pc ply).setDebt c
          (pc.val * 4 + ply.val) 0) c (pc.val * 4 + ply.val) ((s.chan c).pulled.get 0 (pc.val * 4 + ply.val) + 1)
      simp only [Chan.refState, Prod.mk.injEq] at hst hahead
      obtain ⟨hdebt, -, hptr⟩ := hst
      obtain ⟨hdebt', hpulled, hptr'⟩ := hahead
      exact ⟨_, he, hdebt'.trans hdebt, hpulled, by rw [hptr', hptr, ← Nat.add_assoc], hmem, hregs⟩
    case full =>
      have he := hdue false
      rw [s.refDue_idle c pc ply hh hr hidle, if_neg (by omega)] at he
      obtain ⟨hst, hmem, hregs⟩ := s.refreshIdle_does c pc ply ((s.chan c).postponed.get 0 (pc.val * 4 + ply.val) + 1)
      simp only [Chan.refState, Prod.mk.injEq] at hst
      obtain ⟨hdebt, hpulled, hptr⟩ := hst
      exact ⟨_, he, hdebt, hpulled, by rw [hptr, ← Nat.add_assoc], hmem, hregs⟩

end Sys2Proof.Machine
end

section
/-! Windows, aging, guarantees and credit periods (11 R285, R289, R290, R294, 17 R400-R406). -/

namespace Sys2Proof.Machine

theorem State.nextWindow_reg (s : State) : s.nextWindow.reg.served = {} ∧ s.nextWindow.reg.excluded = false := ⟨rfl, rfl⟩

/-- Slot n waiting at channel c is promoted to NORMAL and counted for its master (R289). -/
def State.promote (s : State) (c n m : Nat) : State :=
  ((s.setChan c { s.chan c with waiting := (s.chan c).waiting.modify n (fun k => { k with cls := 1 }) }).bump
    R.QOS.MASTER_CNT.AGED m).count 131

theorem exec_demotedSlotAged (c : Fin 32) (m : Fin 80) (s : State) : exec (.demotedSlotAged c m) s =
    live s (match (s.chan c).waiting.findIdx? (fun k => k.master == m.val && k.cls == 2) with
      | some n => if m.val = 65 then s else s.promote c n m
      | none => s) := rfl

section
variable {s : State} {m v : Nat} (hm : m < 71) (hb : part v R.QOS.MASTER.BUDGET ≠ 0) (hg : part v R.QOS.MASTER.GUAR ≤ 850)
include hm hb hg

/-- A write within the limits of a master that exists is refused for the sum of guarantees alone (R290). -/
theorem State.writeQosMaster_within : s.writeQosMaster m v =
    if s.rd R.QOS.MASTER.GUAR m < part v R.QOS.MASTER.GUAR ∧
        850 < s.guarSum - s.rd R.QOS.MASTER.GUAR m + part v R.QOS.MASTER.GUAR then (s, stAdmission)
    else (s.takes v m [R.QOS.MASTER.BUDGET, R.QOS.MASTER.GUAR], 0) := by
  unfold State.writeQosMaster
  dsimp only
  rw [if_neg (fun h => absurd h.2 (by omega)), if_neg (by rintro (⟨-, h⟩ | ⟨-, h⟩) <;> omega)]
  rfl

theorem State.writeQosMaster_overbooked (ho : s.rd R.QOS.MASTER.GUAR m < part v R.QOS.MASTER.GUAR)
    (hs : 850 < s.guarSum - s.rd R.QOS.MASTER.GUAR m + part v R.QOS.MASTER.GUAR) :
    s.writeQosMaster m v = (s, stAdmission) := by
  rw [State.writeQosMaster_within hm hb hg, if_pos ⟨ho, hs⟩]

theorem State.writeQosMaster_admitted (h : part v R.QOS.MASTER.GUAR ≤ s.rd R.QOS.MASTER.GUAR m ∨
    s.guarSum - s.rd R.QOS.MASTER.GUAR m + part v R.QOS.MASTER.GUAR ≤ 850) :
    s.writeQosMaster m v = (s.takes v m [R.QOS.MASTER.BUDGET, R.QOS.MASTER.GUAR], 0) := by
  rw [State.writeQosMaster_within hm hb hg, if_neg (by omega)]

end

theorem effect_guaranteeWrite {s t : State} {v : BitVec 64} {path : Path} {st : Nat} (ha : s.awake = true)
    (hp : s.pathOk path = true) (h : s.writeQosMaster (s.rd R.QOS.MASTER_SEL.INDEX) v.toNat = (t, st)) :
    effect (.guaranteeWrite v path) s (t.respond path 0xC108 st) := by
  have he := effect_setup (c := .guaranteeWrite v path) ha hp rfl
  rwa [h] at he

/-- What the cells hold together before the cap (R400). -/
def State.fullCredit (s : State) : Nat := (List.range 32).foldl (fun n c => n + s.cellCredit c) 0

theorem atLeastOne_eq_zero (x v : Nat) (h : x = 0 → v = 0) : (if x ≠ 0 ∧ v = 0 then 1 else v) = 0 ↔ x = 0 := by
  by_cases hx : x = 0
  · simp [hx, h hx]
  · by_cases hv : v = 0 <;> simp [hx, hv]

/-- A share of 0 gives a cell nothing, and any other at least one slot (R400, R402). -/
theorem State.cappedCredit_zero_iff (s : State) (cap : Option Nat) (sum c : Nat) :
    s.cappedCredit cap sum c = 0 ↔ s.share c = 0 := by
  have hbase (h : s.share c = 0) : s.cellCredit c = 0 := by simp [State.cellCredit, h]
  cases cap with
  | none => exact atLeastOne_eq_zero _ _ hbase
  | some k => exact atLeastOne_eq_zero _ _ fun h => by simp [hbase h]

/-- Every cell takes what a list of credits has for it. -/
def State.takeCredits (s : State) (vs : List Nat) : State :=
  (List.range 32).foldl (fun t c => t.setChan c { t.chan c with credit := vs.getD c 0 }) s

theorem State.takeCredits_credit (s : State) (vs : List Nat) (c : Fin 32) :
    ((s.takeCredits vs).chan c).credit = vs.getD c 0 := by
  have h := foldl_each (fun t c => t.setChan c { t.chan c with credit := vs.getD c 0 }) (fun t c => (t.chan c).credit)
    (fun _ c => vs.getD c 0) (List.range 32) (fun t k _ => by rw [State.setChan_same])
    (fun t k _ j hj => ⟨by rw [State.setChan_other _ _ _ _ hj], rfl⟩) List.nodup_range s c
  rwa [if_pos (List.mem_range.mpr c.isLt)] at h

theorem State.takeCredits_frame (s : State) (vs : List Nat) :
    (s.takeCredits vs).regs = s.regs ∧ (s.takeCredits vs).mem = s.mem := by
  have h := foldl_keeps (fun t c => t.setChan c { t.chan c with credit := vs.getD c 0 }) (fun t => (t.regs, t.mem))
    (List.range 32) (fun _ _ _ => rfl) s
  simpa only [Prod.mk.injEq, State.takeCredits] using h

/-- The credits of a period under a cap. -/
def State.credits (s : State) (cap : Option Nat) : List Nat := (List.range 32).map (s.cappedCredit cap s.fullCredit)

theorem State.credits_at (s : State) (cap : Option Nat) (c : Fin 32) :
    (s.credits cap).getD c 0 = s.cappedCredit cap s.fullCredit c := by
  rw [State.credits, List.getD_eq_getElem?_getD, List.getElem?_map, List.getElem?_range c.isLt, Option.map_some, Option.getD_some]

theorem State.freshCredit_form (s : State) (cap : Option Nat) : s.freshCredit cap =
    { s.takeCredits (s.credits cap) with
      hem := { (s.takeCredits (s.credits cap)).hem with issued := (s.credits cap).foldl (· + ·) 0 } } := by
  unfold State.freshCredit State.takeCredits State.credits State.fullCredit
  rfl

/-- Outside Hold a credit period gives every cell its credit under the cap (R400, R404). -/
theorem State.creditPeriod_running (s : State) (h : s.mode ≠ modeHold) :
    s.creditPeriod.hem.spent = 0 ∧ s.creditPeriod.regs = s.regs ∧ s.creditPeriod.mem = s.mem ∧
    ∀ c : Fin 32, (s.creditPeriod.chan c).credit = s.cappedCredit (s.periodCap s.periodPower) s.fullCredit c := by
  obtain ⟨hregs, hmem⟩ := s.takeCredits_frame (s.credits (s.periodCap s.periodPower))
  have hcredit (c : Fin 32) := (s.takeCredits_credit (s.credits (s.periodCap s.periodPower)) c).trans (s.credits_at _ c)
  rw [State.creditPeriod, if_neg h, s.freshCredit_form]
  generalize s.takeCredits (s.credits (s.periodCap s.periodPower)) = t at hregs hmem hcredit
  exact ⟨rfl, hregs, hmem, hcredit⟩

theorem State.creditPeriod_hold (s : State) (h : s.mode = modeHold) :
    s.creditPeriod = { s with hem := { s.hem with spent := 0 } } := by
  unfold State.creditPeriod
  rw [if_pos h]

section
variable (s : State) (n : Nat)

theorem State.periodCap_empty (h : s.on R.HEM.STATUS.BURST = false) :
    s.periodCap n = some (10 * s.rd R.HEM.STATUS.SUST_EFF) := by
  simp [State.periodCap, h]

theorem State.periodCap_lifted (h : s.on R.HEM.STATUS.BURST = true) (hn : n ≤ s.hem.burstW * 1000000) :
    s.periodCap n = none := by
  simp [State.periodCap, h, Nat.not_lt.mpr hn]

theorem State.periodCap_exceeded (h : s.on R.HEM.STATUS.BURST = true) (hn : s.hem.burstW * 1000000 < n) :
    s.periodCap n = some (s.hem.issued * (s.hem.burstW * 1000000) / n) := by
  simp [State.periodCap, h, hn]

end

/-- Settles O41, command by command. -/
theorem regulationCommands : Obligations.RegulationCommands := by
  intro s ha
  refine ⟨⟨s.windowBoundary, effect_of_live ha rfl, State.nextWindow_reg _⟩, fun m => rfl,
    fun c m => ⟨fun h => ?noSlot, fun h => ?scrubber, fun n h hm => ?aged⟩,
    fun v path m hm hp h71 hb hg => ⟨fun ho hs => ?overbooked, fun h => ?admitted⟩,
    fun h => effect_of_live_eq ha rfl (s.creditPeriod_hold h),
    fun h => ⟨s.creditPeriod, s.periodCap s.periodPower, effect_of_live ha rfl, ?credit⟩⟩
  case noSlot => exact effect_of_live ha ((exec_demotedSlotAged c m s).trans (by rw [h]))
  case scrubber =>
    refine effect_of_live ha ((exec_demotedSlotAged c m s).trans ?_)
    split
    · rw [if_pos h]
    · rfl
  case aged => exact effect_of_live ha ((exec_demotedSlotAged c m s).trans (by simp only [h, if_neg hm]; rfl))
  case overbooked =>
    subst hm
    exact effect_guaranteeWrite ha hp (State.writeQosMaster_overbooked h71 hb hg ho hs)
  case admitted =>
    subst hm
    have hn : ([R.QOS.MASTER.BUDGET, R.QOS.MASTER.GUAR].map Fld.id).Nodup := by decide
    obtain ⟨rs, hrs⟩ := s.takes_regsOnly v.toNat (s.rd R.QOS.MASTER_SEL.INDEX) [R.QOS.MASTER.BUDGET, R.QOS.MASTER.GUAR]
    refine ⟨_, effect_guaranteeWrite ha hp (State.writeQosMaster_admitted h71 hb hg h), s.rd_takes_mem _ _ (by simp) hn,
      s.rd_takes_mem _ _ (by simp) hn, ?_, fun j hj => s.rd_takes_entry _ _ _ _ _ hj⟩
    rw [hrs]
  case credit =>
    obtain ⟨hspent, hregs, hmem, hcredit⟩ := s.creditPeriod_running h
    refine ⟨hspent, hregs, hmem, s.periodCap_empty _, s.periodCap_lifted _, s.periodCap_exceeded _, fun c => ?_⟩
    rw [hcredit c]
    exact ⟨rfl, (s.cappedCredit_zero_iff _ _ c).mpr, fun hs => mt (s.cappedCredit_zero_iff _ _ c).mp hs⟩

end Sys2Proof.Machine
end

section
/-! BIST waves, its start and its result queue (20 R458-R460). -/

namespace Sys2Proof.Machine

/-- A wave that may end leaves the others, and after the last one the run is over (R458). -/
theorem State.bistWave_ends (s : State) (fails : List RowFail) {w : Nat} {rest : List Nat} (hw : s.bist.waves = w :: rest)
    (hready : s.waveReady w = true) (hread : s.on R.PRT.MRIGHTS.READ 70 = true) (hwrite : s.on R.PRT.MRIGHTS.WRITE 70 = true) :
    (rest = [] → (s.bistWave fails).rd R.BST.STATUS.STATE = 2) ∧ (s.bistWave fails).bist.waves = rest := by
  unfold State.bistWave
  simp only [hw, hready, hread, hwrite, not_true_eq_false, and_self, if_false]
  cases rest with
  | nil => exact ⟨fun _ => State.rd_wr_same _ _ _ _, rfl⟩
  | cons n ns => exact ⟨fun h => absurd h (List.cons_ne_nil n ns), rfl⟩

/-- The checks of a write all pass (R157). -/
theorem State.checked_passes {s t : State} {checks : List (Bool × Nat)} (h : ∀ x ∈ checks, x.1 = false) :
    s.checked checks t = (t, 0) := by
  unfold State.checked
  rw [List.find?_eq_none.mpr fun x hx => by simp [h x hx]]
  rfl

/-- The first check of a write fails (R157). -/
theorem State.checked_fails {s t : State} {checks : List (Bool × Nat)} {st : Nat} (h : checks.find? (·.1) = some (true, st)) :
    s.checked checks t = (s, st) := by
  unfold State.checked
  rw [h]

theorem State.bistBegin_shows (s : State) (boot : Bool) : (s.bistBegin boot).bist.waves = List.range 8 ∧
    (s.bistBegin boot).rd R.BST.STATUS.STATE = 1 ∧ (s.bistBegin boot).rd R.BST.STATUS.FAILED = 0 := by
  refine ⟨rfl, ?_, ?_⟩
  · show (((((s.wr R.BST.STATUS.STATE 1).wr R.BST.STATUS.WAVE 0).wr R.BST.STATUS.FAILED 0).wr R.BST.STATUS.REPAIRED 0).wr
      R.BST.STATUS.LOST 0).rd R.BST.STATUS.STATE = 1
    simp (disch := decide) only [State.rd_wr_field, State.rd_wr_same]
    rfl
  · show (((((s.wr R.BST.STATUS.STATE 1).wr R.BST.STATUS.WAVE 0).wr R.BST.STATUS.FAILED 0).wr R.BST.STATUS.REPAIRED 0).wr
      R.BST.STATUS.LOST 0).rd R.BST.STATUS.FAILED = 0
    simp (disch := decide) only [State.rd_wr_field, State.rd_wr_same]
    rfl

/-- What a write of BST.CTRL takes before it starts a run: REPAIR, and the pop (R459, R460). -/
def State.bstTaken (s : State) (v : Nat) : State :=
  if part v R.BST.CTRL.POP = 1 then
    { s.take R.BST.CTRL.REPAIR v with bist := { s.bist with fifo := s.bist.fifo.drop 1 } }
  else s.take R.BST.CTRL.REPAIR v

section
variable {s : State} {v : Nat}

theorem State.writeBstCtrl_starts (hm : s.mode = modeMaint) (hw : s.bist.waves = []) (hs : part v R.BST.CTRL.START = 1) :
    s.writeBstCtrl v = ((s.bstTaken v).bistBegin false, 0) := by
  unfold State.writeBstCtrl
  dsimp only
  rw [State.checked_passes (by simp [hm, hw]), if_pos (by simp [hs])]
  rfl

theorem State.writeBstCtrl_denied (hm : s.mode ≠ modeMaint) (hs : part v R.BST.CTRL.START = 1) :
    s.writeBstCtrl v = (s, stDenied) :=
  State.checked_fails (by simp [hm, hs])

theorem State.writeBstCtrl_plain (hs : part v R.BST.CTRL.START = 0) : s.writeBstCtrl v = (s.bstTaken v, 0) := by
  unfold State.writeBstCtrl
  dsimp only
  rw [State.checked_passes (by simp [hs]), if_neg (by simp [hs])]
  rfl

theorem State.bstTaken_pops (hp : part v R.BST.CTRL.POP = 1) : (s.bstTaken v).bist.fifo = s.bist.fifo.drop 1 := by
  rw [State.bstTaken, if_pos hp]

end

/-- A set-up write whose result is known (R157). -/
theorem effect_setup_to {c : Instr} {s t : State} {path : Path} {off st : Nat} {r : SetupResult} (ha : s.awake = true)
    (hp : s.pathOk path = true) (hc : exec c s = live s (s.setup path off r)) (h : r = (t, st)) :
    effect c s (t.respond path off st) := by
  subst h
  exact effect_setup ha hp hc

/-- Settles O14: a wave's end, and the two uses of BST.CTRL. -/
theorem bistCommands : Obligations.BistCommands := by
  intro s v path ha
  exact ⟨fun fails w rest hw hmode hready hread hwrite =>
      ⟨effect_of_guard ha rfl hmode, s.bistWave_ends fails hw hready hread hwrite⟩,
    fun hp hm hw hs =>
      ⟨_, effect_setup_to ha hp rfl (State.writeBstCtrl_starts hm hw hs), State.bistBegin_shows _ _⟩,
    fun hp hm hs => effect_setup_to ha hp rfl (State.writeBstCtrl_denied hm hs),
    fun hp hs hpop => ⟨_, effect_setup_to ha hp rfl (State.writeBstCtrl_plain hs), State.bstTaken_pops hpop⟩⟩

end Sys2Proof.Machine
end

section
/-! Firmware updates (20 R470). -/

namespace Sys2Proof.Machine

/-- A module in Maintenance that shows STATE 2 with a staged image whose SVN byte is 64. -/
def stagedSvn64 : State :=
  { (State.reset.wr R.MOD.STATUS.MODE modeMaint).wr R.MOD.FW_STATUS.STATE 2 with
    fw := { staged := List.replicate 12 0 ++ [64], length := 360 } }

/-- ACTIVATE with the shortest LENGTH. -/
def activateWord : BitVec 64 :=
  BitVec.ofNat 64 (3 * 2 ^ R.MOD.FW_CTRL.CMD.lo + 360 * 2 ^ R.MOD.FW_CTRL.LENGTH.lo)

theorem stagedSvn64_premises : (stagedSvn64.awake = true ∧ stagedSvn64.pathOk .smb = true) ∧
    part activateWord.toNat R.MOD.FW_CTRL.CMD = 3 ∧ part activateWord.toNat R.MOD.FW_CTRL.LENGTH = 360 ∧
    stagedSvn64.fwMode = true ∧ stagedSvn64.rd R.MOD.FW_STATUS.STATE = 2 ∧ stagedSvn64.on R.MOD.STATUS.BUSY = false ∧
    imageNat stagedSvn64.fw.staged 12 1 = 64 := by
  decide +kernel

/-- Refutes O56: an image's SVN is a byte, and RUN_SVN has six bits, so after ACTIVATE of an image with SVN 64 it cannot show that
SVN; nothing in VERIFY bounds it. -/
theorem not_firmwareCommands : ¬ Obligations.FirmwareCommands := by
  intro h
  obtain ⟨⟨ha, hp⟩, hcmd, hlen, hmode, hstate, hbusy, hsvn⟩ := stagedSvn64_premises
  obtain ⟨hcommands, -⟩ := h stagedSvn64 activateWord .smb ha hp
  obtain ⟨-, -, hinside⟩ := hcommands (.fwActivate activateWord .smb) 3 (.inr (.inr ⟨rfl, rfl⟩)) hcmd
  obtain ⟨-, -, -, hactivate, -⟩ := hinside hmode (by omega) (by omega)
  obtain ⟨u, -, -, hrun, -⟩ := hactivate rfl hstate hbusy
  have hlt : u.rd R.MOD.FW_STATUS.RUN_SVN < 2 ^ 6 := u.rd_lt _ _
  omega

end Sys2Proof.Machine
end

section
/-! OTP commands and the words they program (20 R467, R469). -/

namespace Sys2Proof.Machine

@[simp] theorem SMap.find_put_same {α : Type} (m : SMap α) (k : Nat) (v : α) : (m.put k v).find k = some v :=
  findKey_insertKey_same k v m.entries

theorem SMap.find_put_other {α : Type} (m : SMap α) (k j : Nat) (v : α) (h : j ≠ k) : (m.put k v).find j = m.find j :=
  findKey_insertKey_other k j v m.entries h

@[simp] theorem SMap.find_del_same {α : Type} (m : SMap α) (k : Nat) : (m.del k).find k = none :=
  findKey_eraseKey_same k m.entries

theorem SMap.find_del_other {α : Type} (m : SMap α) (k j : Nat) (h : j ≠ k) : (m.del k).find j = m.find j :=
  findKey_eraseKey_other k j m.entries h

/-- The write of a one-bit field is a write of a number. -/
theorem State.rd_put_field (s : State) (f g : Fld) (b : Bool) (e j : Nat) (h : g.id ≠ f.id) :
    (s.put f b e).rd g j = s.rd g j := s.rd_wr_field f g _ e j h

theorem State.on_put_field (s : State) (f g : Fld) (b : Bool) (e j : Nat) (h : g.id ≠ f.id) :
    (s.put f b e).on g j = s.on g j := by rw [State.on, State.on, s.rd_put_field f g b e j h]

section
variable (s : State) (ok : Bool) (code lock : Nat)

/-- A command's lifecycle condition does not depend on the supplies (R467). -/
theorem State.otpLife_supply : (s.put R.OTP.STATUS.SUPPLY_OK ok).otpLife code = s.otpLife code := by
  unfold State.otpLife
  simp (disch := decide) only [State.rd_put_field, State.on_put_field, State.put_per]

/-- Nor do the words it programs. -/
theorem State.otpWords_supply : (s.put R.OTP.STATUS.SUPPLY_OK ok).otpWords code lock = s.otpWords code lock := by
  have hblank (w : Nat) : (s.put R.OTP.STATUS.SUPPLY_OK ok).otpBlank w = s.otpBlank w := rfl
  have hbank : (s.put R.OTP.STATUS.SUPPLY_OK ok).freeBank = s.freeBank := rfl
  unfold State.otpWords
  simp (disch := decide) only [State.rd_put_field, hblank, hbank, State.put_per]

end

/-- What a wrapped or a cleared KEK leaves: the OTP, and for RETURN no secret (R467). -/
theorem State.exportKek_per (s : State) : s.exportKek.per = s.per := by
  unfold State.exportKek
  dsimp only
  exact foldl_keeps _ State.per _ (fun _ _ _ => State.wr_per _ _ _ _) s

theorem State.otpClear_per (s : State) : s.otpClear.per = { s.per with secret := none, kek := none } := by
  have hclear : s.clearKeys.per = s.per := congrArg Prod.fst s.clearKeys_still
  show { s.clearKeys.per with secret := none, kek := none } = _
  rw [hclear]

/-- The keys as an accepted command leaves them before its first word (R467). -/
def State.otpKeys (s : State) (code : Nat) : State :=
  if code = 3 then s.exportKek else if code = 5 then s.otpClear else s

theorem State.otpKeys_per (s : State) (code : Nat) : (s.otpKeys code).per.otp = s.per.otp ∧
    (code = 5 → (s.otpKeys code).per.kek = none ∧ (s.otpKeys code).per.secret = none) := by
  unfold State.otpKeys
  split
  · next h => exact ⟨by rw [s.exportKek_per], fun h5 => by omega⟩
  · split
    · exact ⟨by rw [s.otpClear_per], fun _ => by rw [s.otpClear_per]; exact ⟨rfl, rfl⟩⟩
    · next h5 => exact ⟨rfl, fun h => absurd h h5⟩

theorem State.otpGo_starts (s : State) (code : Nat) {ws : List (Nat × Nat)} (h : ws ≠ []) : s.otpGo code ws =
    ({ s.otpKeys code with per := { (s.otpKeys code).per with job := some ⟨code, ws⟩ } } : State).wr R.OTP.CMD.RESULT 1 :=
  if_neg (by simpa using h)

theorem State.otpEnd_shows (s : State) (n : Nat) (h : n < 8) : (s.otpEnd n).rd R.OTP.CMD.RESULT = n ∧
    (s.otpEnd n).per = { s.per with job := none, data := [0, 0, 0, 0] } :=
  ⟨(State.rd_wr_same _ _ _ _).trans (Nat.mod_eq_of_lt h), rfl⟩

section
variable {s : State} {v lock : Nat} {ok : Bool}

/-- The checks of OTP.CMD, in their order (R467). -/
theorem State.writeOtpCmd_busy (hc : part v R.OTP.CMD.CMD ≠ 0) (h : s.mode ≠ modeMaint ∨ s.rd R.OTP.CMD.RESULT = 1) :
    s.writeOtpCmd v ok = (s, stDenied) := by
  unfold State.writeOtpCmd
  dsimp only
  rw [if_neg hc, if_pos h]
  rfl

variable (hc : part v R.OTP.CMD.CMD ≠ 0) (hm : s.mode = modeMaint) (hr : s.rd R.OTP.CMD.RESULT ≠ 1)
  (hl : part v R.OTP.CMD.LOCK ≠ 3)
include hc hm hr hl

theorem State.writeOtpCmd_wrongLife (h : s.otpLife (part v R.OTP.CMD.CMD) = false) :
    s.writeOtpCmd v ok = (s.put R.OTP.STATUS.SUPPLY_OK ok, stUnsupported) := by
  unfold State.writeOtpCmd
  dsimp only
  rw [if_neg hc, if_neg (by simp [hm, hr]), if_neg hl, if_pos (by rw [State.otpLife_supply, h]; decide)]
  rfl

variable (h : s.otpLife (part v R.OTP.CMD.CMD) = true)
include h

theorem State.writeOtpCmd_noWord (hw : s.otpWords (part v R.OTP.CMD.CMD) (part v R.OTP.CMD.LOCK) = none) :
    s.writeOtpCmd v ok = (s.put R.OTP.STATUS.SUPPLY_OK ok, stDenied) := by
  unfold State.writeOtpCmd
  dsimp only
  rw [if_neg hc, if_neg (by simp [hm, hr]), if_neg hl, if_neg (by rw [State.otpLife_supply, h]; decide), State.otpWords_supply, hw]
  rfl

theorem State.writeOtpCmd_words {ws : List (Nat × Nat)}
    (hw : s.otpWords (part v R.OTP.CMD.CMD) (part v R.OTP.CMD.LOCK) = some ws) : s.writeOtpCmd v ok =
      if ok = true then ((s.put R.OTP.STATUS.SUPPLY_OK ok).otpGo (part v R.OTP.CMD.CMD) ws, 0)
      else ((((s.put R.OTP.STATUS.SUPPLY_OK ok).wr R.OTP.CMD.RESULT 2).raise Src.otpProgBlocked), stUnsupported) := by
  unfold State.writeOtpCmd
  dsimp only
  rw [if_neg hc, if_neg (by simp [hm, hr]), if_neg hl, if_neg (by rw [State.otpLife_supply, h]; decide), State.otpWords_supply, hw]
  cases ok <;> rfl

end

/-- The seven commands are one write of OTP.CMD (R467). -/
theorem exec_otpCommand {c : Instr} {ok : Bool} {v : BitVec 64} {path : Path} {code : Nat} (s : State)
    (h : c = .otpProg ok v path ∧ code = 1 ∨ c = .otpProvision ok v path ∧ code = 2 ∨ c = .otpExportKek ok v path ∧ code = 3 ∨
      c = .otpDeploy ok v path ∧ code = 4 ∨ c = .otpReturn ok v path ∧ code = 5 ∨ c = .otpLock ok v path ∧ code = 6 ∨
      c = .otpRaiseSvn ok v path ∧ code = 7) :
    exec c s = live s (s.setup path 0x28020 (s.writeOtpCmd v.toNat ok)) ∧ code ≠ 0 := by
  rcases h with ⟨rfl, rfl⟩ | ⟨rfl, rfl⟩ | ⟨rfl, rfl⟩ | ⟨rfl, rfl⟩ | ⟨rfl, rfl⟩ | ⟨rfl, rfl⟩ | ⟨rfl, rfl⟩ <;>
    exact ⟨rfl, by decide⟩

theorem State.otpStore_at (s : State) (w x : Nat) :
    (s.otpStore w x).per.otp.find w = if x = 0 then none else some ⟨some x, some x⟩ := by
  unfold State.otpStore
  split
  · exact SMap.find_del_same _ _
  · exact SMap.find_put_same _ _ _

theorem State.otpStore_other (s : State) (w x j : Nat) (h : j ≠ w) : (s.otpStore w x).per.otp.find j = s.per.otp.find j := by
  unfold State.otpStore
  split
  · exact SMap.find_del_other _ _ _ h
  · exact SMap.find_put_other _ _ _ _ h

section
variable {s : State} {k w x : Nat} {ws : List (Nat × Nat)} (b : Bool)

/-- The module shows a pending word (R467). -/
def State.pendingWord (s : State) : State := s.put R.OTP.STATUS.PENDING true

theorem State.wordProgrammed_last (h : s.per.job = some ⟨k, [(w, x)]⟩) :
    s.wordProgrammed true b = (s.pendingWord.otpStore w x).otpEnd 0 := by
  unfold State.wordProgrammed
  rw [h]
  rfl

theorem State.wordProgrammed_next (h : s.per.job = some ⟨k, (w, x) :: ws⟩) (hw : ws ≠ []) :
    s.wordProgrammed true true =
      { (s.pendingWord.otpStore w x).put R.OTP.STATUS.SUPPLY_OK true with
        per := { (s.pendingWord.otpStore w x).per with job := some ⟨k, ws⟩ } } := by
  unfold State.wordProgrammed
  rw [h]
  dsimp only
  rw [if_pos rfl, if_neg (by simpa using hw), if_pos rfl]
  rfl

/-- What a word reads that failed verification: a free value at the normal reference, uncorrectable at the tight one (R466). -/
def State.marginalWord (s : State) : OtpWord := ⟨(Config.marginalRead s.freeCtr).map BitVec.toNat, none⟩

theorem State.wordProgrammed_fails (h : s.per.job = some ⟨k, (w, x) :: ws⟩) : s.wordProgrammed false b =
    (({ s.pendingWord.drawn with
        per := { s.per with otp := s.per.otp.put w s.pendingWord.drawn.marginalWord } } : State).otpEnd 3).raise
      Src.otpMarginal := by
  unfold State.wordProgrammed
  rw [h]
  rfl

theorem State.wordProgrammed_idle (a : Bool) (h : s.per.job = none) : s.wordProgrammed a b = s := by
  unfold State.wordProgrammed
  rw [h]

end

theorem effect_otpWordProgrammed {s t : State} {a b : Bool} (ha : s.awake = true) (h : s.wordProgrammed a b = t) :
    effect (.otpWordProgrammed a b) s t := effect_of_live_eq ha rfl h

/-- Settles O55: the checks in their order, and the three ends of a word. -/
theorem otpCommands : Obligations.OtpCommands := by
  intro s ok v path code c ha hp hcode hc
  obtain ⟨hexec, hnz⟩ := exec_otpCommand s hc
  subst hcode
  refine ⟨fun h => effect_setup_to ha hp hexec (State.writeOtpCmd_busy hnz h),
    fun hm hr hl => ⟨fun h => effect_setup_to ha hp hexec (State.writeOtpCmd_wrongLife hnz hm hr hl h),
      fun h hw => effect_setup_to ha hp hexec (State.writeOtpCmd_noWord hnz hm hr hl h hw),
      fun ws h hw hok => ?blocked, fun ws h hw hok hne => ?starts, fun h hw hok => ?nothing⟩,
    fun a b h => effect_otpWordProgrammed ha (s.wordProgrammed_idle b a h),
    fun k w x ws b h => ⟨fun hws => ?last, fun hws => ?next, ?fails⟩⟩
  case blocked =>
    subst hok
    refine ⟨_, effect_setup_to ha hp hexec (State.writeOtpCmd_words hnz hm hr hl h hw), ?_, State.raise_sticky _ _ _ _, ?_⟩
    · rw [State.rd_raise _ _ _ _ _ _ (by decide), State.rd_wr_same]
      rfl
    · rw [State.raise_per]
      rfl
  case starts =>
    subst hok
    obtain ⟨hotp, hkeys⟩ := (s.put R.OTP.STATUS.SUPPLY_OK true).otpKeys_per (part v.toNat R.OTP.CMD.CMD)
    refine ⟨_, effect_setup_to ha hp hexec (State.writeOtpCmd_words hnz hm hr hl h hw), ?_⟩
    rw [State.otpGo_starts _ _ hne]
    exact ⟨State.rd_wr_same _ _ _ _, rfl, hotp, hkeys⟩
  case nothing =>
    subst hok
    obtain ⟨hotp, -⟩ := (s.put R.OTP.STATUS.SUPPLY_OK true).otpKeys_per (part v.toNat R.OTP.CMD.CMD)
    refine ⟨_, effect_setup_to ha hp hexec (State.writeOtpCmd_words hnz hm hr hl h hw), ?_⟩
    exact ⟨(State.otpEnd_shows _ 0 (by decide)).1, rfl, hotp, rfl⟩
  case last =>
    subst hws
    refine ⟨_, effect_otpWordProgrammed ha (s.wordProgrammed_last b h), State.otpStore_at _ _ _,
      (State.otpEnd_shows _ 0 (by decide)).1, rfl, ?_⟩
    exact (State.rd_wr_field _ _ _ _ _ _ (by decide)).trans (State.rd_wr_same _ _ _ _)
  case next =>
    exact ⟨_, effect_otpWordProgrammed ha (s.wordProgrammed_next h hws), State.otpStore_at _ _ _, rfl,
      fun j hj => State.otpStore_other _ _ _ _ hj⟩
  case fails =>
    refine ⟨_, effect_otpWordProgrammed ha (s.wordProgrammed_fails b h), ?_, ?_, State.raise_sticky _ _ _ _, fun j hj => ?_⟩
    · rw [State.rd_raise _ _ _ _ _ _ (by decide)]
      exact (State.otpEnd_shows _ 3 (by decide)).1
    · rw [State.raise_per]
      rfl
    · rw [State.raise_per]
      exact SMap.find_put_other _ _ _ _ hj

end Sys2Proof.Machine
end

section
/-! The steps of Boot (20 R457, R461, 03 R72). -/

namespace Sys2Proof.Machine

theorem State.nextStep_shows (s : State) (n : Nat) : (s.nextStep n).rd R.MOD.STATUS.BOOT_STEP = (n + 1) % 16 :=
  State.rd_wr_same _ _ _ _

/-- A failure of Boot is recorded, and step 8 follows (R457). -/
theorem State.bootFail_shows (s : State) {n : Nat} (h : n < 4) :
    (s.bootFail n).rd R.MOD.STATUS.BOOT_FAIL = n ∧ (s.bootFail n).rd R.MOD.STATUS.BOOT_STEP = 8 := by
  refine ⟨?_, State.rd_wr_same _ _ _ _⟩
  rw [State.bootFail, State.rd_wr_field _ _ _ _ _ _ (by decide), State.rd_wr_same]
  exact Nat.mod_eq_of_lt h

section
variable (s : State) (r : BootReport)

/-- Step 2 goes on once the reference is settled and every PLL is judged locked (R72, R73). -/
theorem State.bootStep_clocks : s.bootStep 2 r =
    if (s.on R.CLK.STATUS.REF_OK ∨ s.on R.CLK.STATUS.REF_SEL) ∧ s.rd R.CLK.STATUS.PLL_LOCK = 255 then s.nextStep 2 else s := rfl

theorem State.bootStep_rom :
    s.bootStep 3 r = if r.romOk then (s.applyPatches.deriveKek).nextStep 3 else s.bootFail 1 := rfl

theorem State.bootStep_rails :
    s.bootStep 4 r = if r.railsOk then ((List.range 32).foldl State.bootLanes s).nextStep 4 else s.bootFail 2 := rfl

theorem State.bootStep_bist : s.bootStep 6 r =
    if ¬ s.bist.waves.isEmpty then s else if s.allTorn then s.bootFail 3 else s.nextStep 6 := rfl

theorem State.bootStep_bistDone (h : s.bist.waves = []) :
    s.bootStep 6 r = if s.allTorn then s.bootFail 3 else s.nextStep 6 := by
  rw [State.bootStep_bist, if_neg (by simp [h])]

theorem State.bootStep_meta : s.bootStep 7 r = s.bootMeta.nextStep 7 := rfl

end

theorem State.bootMeta_sysBolt (s : State) : s.bootMeta.rd R.BLT.BOLT_ATTR.STATE 0 = 2 := State.rd_wr_same _ _ _ _

/-- REFCLK that is not judged good in time leaves the backup oscillator as reference (R72). -/
def State.onBackup (s : State) : State :=
  (((s.wr R.CLK.STATUS.REF_SEL 1).wr R.CLK.SWITCH_TICK.TICK s.tick).bump R.CLK.EVENTS.TO_BACKUP).raise Src.clkRefLost

theorem State.onBackup_shows (s : State) : s.onBackup.rd R.CLK.STATUS.REF_SEL = 1 ∧ s.onBackup.sticky Src.clkRefLost = true ∧
    s.onBackup.rd R.MOD.STATUS.BOOT_STEP = s.rd R.MOD.STATUS.BOOT_STEP := by
  unfold State.onBackup
  refine ⟨?_, State.raise_sticky _ _ _ _, ?_⟩
  · rw [State.rd_raise _ _ _ _ _ _ (by decide), State.rd_bump_field _ _ _ _ _ _ (by decide),
      State.rd_wr_field _ _ _ _ _ _ (by decide), State.rd_wr_same]
    rfl
  · rw [State.rd_raise _ _ _ _ _ _ (by decide), State.rd_bump_field _ _ _ _ _ _ (by decide),
      State.rd_wr_field _ _ _ _ _ _ (by decide), State.rd_wr_field _ _ _ _ _ _ (by decide)]

/-- Settles O13, step by step. -/
theorem bootCommands : Obligations.BootCommands := by
  intro s r ha
  refine ⟨fun hb hh => effect_of_guard ha rfl ⟨hb, by simp [hh]⟩, s.nextStep_shows 1, fun href hpll => ?locked,
    fun hok hsel => ?noReference, fun hpll => ?notLocked, fun h => ?rom, fun h => ?romFails, fun h => ?rails, fun h => ?railsFail,
    fun h => ?waves, fun hw ht => ?tested, fun hw ht => ?torn, ⟨State.nextStep_shows _ 7, rfl, rfl, ?sysBolt, rfl, rfl⟩,
    fun hb hok hsel => ⟨s.onBackup, effect_of_guard ha rfl ⟨hb, by simp [hok], by simp [hsel]⟩, s.onBackup_shows⟩⟩
  case locked =>
    rw [State.bootStep_clocks, if_pos ⟨href, hpll⟩]
    exact s.nextStep_shows 2
  case noReference => rw [State.bootStep_clocks, if_neg (by simp [hok, hsel])]
  case notLocked => rw [State.bootStep_clocks, if_neg (by simp [hpll])]
  case rom =>
    rw [State.bootStep_rom, if_pos h]
    exact State.nextStep_shows _ 3
  case romFails =>
    rw [State.bootStep_rom, if_neg (by simp [h])]
    exact s.bootFail_shows (by decide)
  case rails =>
    rw [State.bootStep_rails, if_pos h]
    exact State.nextStep_shows _ 4
  case railsFail =>
    rw [State.bootStep_rails, if_neg (by simp [h])]
    exact s.bootFail_shows (by decide)
  case waves => rw [State.bootStep_bist, if_pos (by simp [h])]
  case tested =>
    rw [State.bootStep_bistDone _ _ hw, if_neg (by simp [ht])]
    exact s.nextStep_shows 6
  case torn =>
    rw [State.bootStep_bistDone _ _ hw, if_pos ht]
    exact (s.bootFail_shows (by decide)).1
  case sysBolt =>
    rw [State.bootStep_meta, State.nextStep, State.rd_wr_field _ _ _ _ _ _ (by decide)]
    exact s.bootMeta_sysBolt

end Sys2Proof.Machine
end

section
/-! Strap samples, edges, chattering and the reset input (22 R483-R485, 20 R457). -/

namespace Sys2Proof.Machine

theorem State.otpBoot_rstN (s : State) : s.otpBoot.pins.rstN = s.pins.rstN := by
  unfold State.otpBoot
  dsimp only
  split <;> split <;> simp

/-- A reset keeps the time base, the stored bytes, the Pattern store and what is known of RST_N (R443, R457). -/
theorem State.reboot_parts (s : State) : s.reboot.tick = s.tick ∧ s.reboot.per.pat = s.per.pat ∧ s.reboot.pins.rstN = s.pins.rstN := by
  unfold State.reboot
  dsimp only
  rw [State.patBoot_form]
  exact ⟨(State.otpBoot_parts _).1, (State.otpBoot_parts _).2.2.2.2, State.otpBoot_rstN _⟩

/-- An OTP word that completes touches nothing but the OTP (R485). -/
theorem State.finishWord_parts (s : State) : s.finishWord.tick = s.tick ∧ s.finishWord.mem = s.mem ∧
    s.finishWord.per.pat = s.per.pat ∧ s.finishWord.pins = s.pins := by
  unfold State.finishWord
  split <;> exact ⟨rfl, rfl, rfl, rfl⟩

/-- RST_N low is a reset that holds (R485). -/
theorem State.resetLow_shows (s : State) : s.resetLow.boot.resetHeld = true ∧ s.resetLow.mode = modeBoot ∧
    s.resetLow.tick = s.tick ∧ s.resetLow.mem.cells = s.mem.cells ∧ s.resetLow.per.pat = s.per.pat ∧
    s.resetLow.pins.rstN = s.pins.rstN := by
  obtain ⟨htick, hmem, hpat, hpins⟩ := s.finishWord_parts
  obtain ⟨rtick, rpat, rpin⟩ := s.finishWord.reboot_parts
  refine ⟨rfl, ?_, rtick.trans htick, ?_, rpat.trans hpat, ?_⟩
  · exact (State.rd_congr _ s.finishWord.reboot rfl _ _).trans s.finishWord.reboot_frame.1
  · exact s.finishWord.reboot_cells.trans (by rw [hmem])
  · exact rpin.trans (by rw [hpins])

/-- RST_N as logic follows it. -/
def State.withRstN (s : State) (c : Chat) : State := { s with pins := { s.pins with rstN := c } }

theorem State.setRstN_form (s : State) (c : Chat) : s.setRstN c =
    if c.seen = s.pins.rstN.seen then s.withRstN c else if c.seen then (s.withRstN c).resetHigh else (s.withRstN c).resetLow := rfl

theorem State.setRstN_pin (s : State) (c : Chat) : (s.setRstN c).pins.rstN = c := by
  rw [State.setRstN_form]
  split
  · rfl
  · split
    · rfl
    · exact (s.withRstN c).resetLow_shows.2.2.2.2.2

theorem State.setPeer_pin (s : State) (c : Chat) : (s.setPeer c).pins.peerAlive = c := by
  unfold State.setPeer
  dsimp only
  split <;> rfl

/-- An edge of a calm input that does not declare it chattering is seen at once (R484). -/
theorem Chat.edge_calm {c : Chat} {t : Nat} (hc : c.chattering = false) (he : (c.edge t).2 = false) :
    (c.edge t).1.level = !c.level ∧ (c.edge t).1.seen = !c.level := by
  unfold Chat.edge at he ⊢
  dsimp only at he ⊢
  rw [if_neg (by simp [hc])] at he ⊢
  split at he
  · exact nomatch he
  · next h => rw [if_neg h]; exact ⟨rfl, rfl⟩

/-- What an edge does in every case (R484). -/
theorem Chat.edge_does (c : Chat) (t : Nat) : (c.edge t).1.level = !c.level ∧ (c.chattering = true → (c.edge t).1.seen = c.seen) ∧
    ((c.edge t).2 = true → 16 < (c.edge t).1.edges.length ∧ (c.edge t).1.seen = c.seen) := by
  unfold Chat.edge
  dsimp only
  split
  · exact ⟨rfl, fun _ => rfl, fun h => nomatch h⟩
  · next hc =>
    split
    · next h => exact ⟨rfl, fun _ => rfl, fun _ => ⟨h, rfl⟩⟩
    · exact ⟨rfl, fun h => absurd h hc, fun h => nomatch h⟩

theorem State.chatter_calm (s : State) : s.chatter false = s := rfl

/-- A quiet edge of RST_N that logic sees (R484, R485). -/
theorem State.rstEdge_calm (s : State) (hc : s.pins.rstN.chattering = false) (he : (s.pins.rstN.edge s.tick).2 = false)
    (hseen : s.pins.rstN.seen = s.pins.rstN.level) : s.rstEdge =
      if s.pins.rstN.level = true then (s.withRstN (s.pins.rstN.edge s.tick).1).resetLow
      else (s.withRstN (s.pins.rstN.edge s.tick).1).resetHigh := by
  have h := (Chat.edge_calm hc he).2
  have hform : s.rstEdge = (s.setRstN (s.pins.rstN.edge s.tick).1).chatter (s.pins.rstN.edge s.tick).2 := rfl
  rw [hform, he, State.chatter_calm, State.setRstN_form, if_neg (by simp [h, hseen]), h]
  cases s.pins.rstN.level <;> rfl

/-- Seven samples show the straps that most of them give (R483). -/
theorem State.fixStraps_shows (s : State) : s.fixStraps.rd R.MOD.STATUS.SLOT_ID = (strapsOf s.pins.samples).slotId.toNat ∧
    s.fixStraps.on R.MOD.STATUS.MAINT_STRAP = !(strapsOf s.pins.samples).maintN := by
  have hchatter (t : State) (b : Bool) (f : Fld) (hf : f.notFault = true) : (t.chatter b).rd f = t.rd f := by
    unfold State.chatter
    split
    · exact t.rd_raise _ _ _ _ _ hf
    · rfl
  unfold State.fixStraps State.on State.put
  dsimp only
  rw [hchatter _ _ _ (by decide), hchatter _ _ _ (by decide), State.rd_wr_same, State.rd_wr_field _ _ _ _ _ _ (by decide),
    State.rd_wr_same]
  refine ⟨Nat.mod_eq_of_lt (BitVec.isLt _), ?_⟩
  cases (strapsOf s.pins.samples).maintN <;> rfl

/-- A strap sample joins the ones before it. -/
def State.sampled (s : State) (x : Straps) : State := { s with pins := { s.pins with samples := s.pins.samples ++ [x] } }

theorem exec_strapSample (s : State) (x : Straps) (h : s.pins.samples.length < 7) :
    exec (.strapSample x) s = live s (if s.pins.samples.length = 6 then (s.sampled x).fixStraps else s.sampled x) := by
  rw [exec, execStrapSample, if_neg (by omega)]
  simp [State.sampled]

/-- Settles O12, pin by pin. -/
theorem pinCommands : Obligations.PinCommands := by
  intro s ha
  refine ⟨fun x h => ?sample, fun x h => ?seventh, fun h => ⟨_, effect_of_guard ha rfl h, ?rstN⟩,
    fun h => ⟨_, effect_of_guard ha rfl h, ?peerAlive⟩, fun h => effect_of_guard ha rfl h,
    fun hl hs he hc => ?low, fun hl hs he hc => ?release, effect_of_live ha rfl, effect_of_live ha rfl, Chat.edge_does⟩
  case sample => exact effect_of_live ha ((exec_strapSample s x (by omega)).trans (by rw [if_neg (by omega)]; rfl))
  case seventh =>
    exact ⟨_, effect_of_live ha ((exec_strapSample s x (by omega)).trans (by rw [if_pos h])), (s.sampled x).fixStraps_shows⟩
  case rstN => rw [State.setRstN_pin]; exact ⟨rfl, rfl⟩
  case peerAlive => rw [State.setPeer_pin]; exact ⟨rfl, rfl⟩
  case low =>
    have h := s.rstEdge_calm hc he (hs.trans hl.symm)
    rw [if_pos hl] at h
    obtain ⟨hheld, hmode, htick, hcells, hpat, -⟩ := (s.withRstN (s.pins.rstN.edge s.tick).1).resetLow_shows
    exact ⟨_, effect_of_live_eq ha rfl ((if_pos hl).trans h), hheld, hmode, htick, hcells, hpat⟩
  case release =>
    have h := s.rstEdge_calm hc he (hs.trans hl.symm)
    rw [if_neg (by simp [hl])] at h
    refine ⟨_, effect_of_live_eq ha rfl ((if_neg (by simp [hl])).trans h), rfl, ?_⟩
    exact (Chat.edge_calm hc he).2.trans (by simp [hl])

end Sys2Proof.Machine
end

section
/-! Mirrored writes of a module without a role, and fields that go back to their reset values (00 R18, 18 R431). -/

namespace Sys2Proof.Machine

/-- A field that is cleared reads its reset value. -/
theorem State.rd_clr_same (s : State) (f : Fld) (e : Nat) : (s.clr f e).rd f e = f.rst e % 2 ^ f.width := by
  simp [State.rd, State.clr, fget]

theorem State.rd_clr_field (s : State) (f g : Fld) (e j : Nat) (h : g.id ≠ f.id) : (s.clr f e).rd g j = s.rd g j := by
  have hk : g.key j ≠ f.key e := fun he => h (Fld.key_inj _ _ _ _ he).2
  simp [State.rd, State.clr, fget, SMap.get_del_other _ _ _ _ hk]

/-- Several fields of one entry back at their reset values. -/
def State.clrs (s : State) (fs : List Fld) (e : Nat) : State := fs.foldl (fun (s : State) f => s.clr f e) s

theorem State.rd_clrs_field (s : State) (fs : List Fld) (e j : Nat) {g : Fld} (h : g.id ∉ fs.map Fld.id) :
    (s.clrs fs e).rd g j = s.rd g j :=
  foldl_keeps _ (State.rd · g j) fs
    (fun t f hf => t.rd_clr_field f g e j fun he => h (he ▸ List.mem_map_of_mem hf)) s

theorem State.rd_clrs_mem (s : State) {fs : List Fld} (e : Nat) {f : Fld} (hf : f ∈ fs) (hn : (fs.map Fld.id).Nodup) :
    (s.clrs fs e).rd f e = f.rst e % 2 ^ f.width := by
  induction fs generalizing s with
  | nil => exact absurd hf List.not_mem_nil
  | cons x xs ih =>
    obtain ⟨hx, hxs⟩ := List.nodup_cons.mp hn
    rcases List.mem_cons.mp hf with rfl | hf
    · exact (State.rd_clrs_field _ xs e e hx).trans (s.rd_clr_same f e)
    · exact ih (s.clr x e) hf hxs

theorem State.clrs_frame (s : State) (fs : List Fld) (e : Nat) : (s.clrs fs e).guard = s.guard ∧ (s.clrs fs e).mem = s.mem ∧
    (s.clrs fs e).freeCtr = s.freeCtr := by
  have h := foldl_keeps (fun (t : State) f => t.clr f e) (fun t => (t.guard, t.mem, t.freeCtr)) fs (fun _ _ _ => rfl) s
  simpa only [Prod.mk.injEq, State.clrs] using h

/-- A module without a role mirrors nothing: a write of a mirrored table is answered as a plain one is (18 R431). -/
theorem State.mirrored_noRole (s : State) {path : Path} (off entry v : Nat) (r : SetupResult) (record : Option (List Byte))
    (data : List Byte) (hp : s.pathOk path = true) (hr : s.rd R.TCK.STATUS.ROLE = 0) :
    s.mirrored path off entry v r record data = r.1.respond path off r.2 := by
  have hmir : s.mirroring = false := by simp [State.mirroring, hr]
  have hrec : s.recording = false := by simp [State.recording, hr]
  by_cases h : r.2 = 0 <;> simp [State.mirrored, hp, hr, hmir, hrec, h]

end Sys2Proof.Machine
end

section
/-! Key slots are loaded and cleared (13 R312-R316). -/

namespace Sys2Proof.Machine

@[simp] theorem State.putKey_rd (s : State) (k : Nat) (x : Option KeySlot) (g : Fld) (j : Nat) :
    (s.putKey k x).rd g j = s.rd g j := rfl

theorem State.putKey_none (s : State) (k : Nat) :
    (s.putKey k none).guard.keys = s.guard.keys.del k ∧ (s.putKey k none).guard.keys2 = s.guard.keys2.del k := ⟨rfl, rfl⟩

theorem State.putKey_some (s : State) (k : Nat) (x : KeySlot) :
    (s.putKey k (some x)).guard.keys = s.guard.keys.put k x ∧ (s.putKey k (some x)).guard.keys2 = s.guard.keys2.put k x :=
  ⟨rfl, rfl⟩

theorem State.putKey_frame (s : State) (k : Nat) (x : Option KeySlot) :
    (s.putKey k x).mem = s.mem ∧ (s.putKey k x).freeCtr = s.freeCtr := ⟨rfl, rfl⟩

theorem State.emptySlot_form (s : State) (k : Nat) : s.emptySlot k = (s.clrs keyFields k).putKey k none := rfl

/-- An emptied slot shows EMPTY with nothing counted, and holds no key in either copy (R316). -/
theorem State.emptySlot_shows (s : State) (k : Nat) : (s.emptySlot k).rd R.PRT.KEY_CTRL.STATE k = 0 ∧
    (s.emptySlot k).rd R.PRT.KEY_CTRL.KCV k = 0 ∧ (s.emptySlot k).rd R.PRT.KEY_USE.COUNT k = 0 := by
  have hn : (keyFields.map Fld.id).Nodup := by decide
  rw [s.emptySlot_form, State.putKey_rd, State.putKey_rd, State.putKey_rd]
  exact ⟨s.rd_clrs_mem k (by simp [keyFields]) hn, s.rd_clrs_mem k (by simp [keyFields]) hn,
    s.rd_clrs_mem k (by simp [keyFields]) hn⟩

theorem State.emptySlot_parts (s : State) (k : Nat) : (s.emptySlot k).guard.keys = s.guard.keys.del k ∧
    (s.emptySlot k).guard.keys2 = s.guard.keys2.del k ∧ (s.emptySlot k).mem = s.mem ∧ (s.emptySlot k).freeCtr = s.freeCtr := by
  obtain ⟨hguard, hmem, hctr⟩ := s.clrs_frame keyFields k
  rw [s.emptySlot_form, (State.putKey_none _ _).1, (State.putKey_none _ _).2, (State.putKey_frame _ _ _).1,
    (State.putKey_frame _ _ _).2, hguard, hmem, hctr]
  exact ⟨rfl, rfl, rfl, rfl⟩

/-- The keys that a LOAD makes of the two in its blob, under the next free value as nonce (R315). -/
def State.freshKeys (s : State) (plain : List Byte) : KeySlot :=
  keySlotOf (plain.take 32) (plain.drop 32) (leBytes 16 (Config.draw s.freeCtr).toNat)

theorem State.loadSlot_form (s : State) (k : Nat) (plain : List Byte) : s.loadSlot k plain =
    (((s.emptySlot k).drawn.wr R.PRT.KEY_CTRL.STATE 1 k).wr R.PRT.KEY_CTRL.KCV (keyCheck (s.freshKeys plain).kEnc) k).putKey k
      (some (s.freshKeys plain)) := rfl

/-- A loaded slot shows LOADED with nothing counted, and both copies hold the working keys under a fresh nonce (R314, R315). -/
theorem State.loadSlot_shows (s : State) (k : Nat) (plain : List Byte) :
    (s.loadSlot k plain).rd R.PRT.KEY_CTRL.STATE k = 1 ∧ (s.loadSlot k plain).rd R.PRT.KEY_USE.COUNT k = 0 := by
  obtain ⟨-, -, hcount⟩ := s.emptySlot_shows k
  rw [s.loadSlot_form, State.putKey_rd, State.putKey_rd]
  constructor
  · rw [State.rd_wr_field _ _ _ _ _ _ (by decide), State.rd_wr_same]
    rfl
  · rw [State.rd_wr_field _ _ _ _ _ _ (by decide),
      State.rd_wr_field _ _ _ _ _ _ (by decide), State.drawn_rd, hcount]

theorem State.loadSlot_parts (s : State) (k : Nat) (plain : List Byte) :
    (s.loadSlot k plain).guard.keys.find k = some (keySlotOf (plain.take 32) (plain.drop 32)
      (leBytes 16 (Config.draw s.freeCtr).toNat)) ∧
    (s.loadSlot k plain).guard.keys2.find k = (s.loadSlot k plain).guard.keys.find k ∧
    (s.loadSlot k plain).freeCtr = s.freeCtr + 1 ∧ (s.loadSlot k plain).mem = s.mem := by
  obtain ⟨-, -, hmem, hctr⟩ := s.emptySlot_parts k
  rw [s.loadSlot_form, (State.putKey_some _ _ _).1, (State.putKey_some _ _ _).2, (State.putKey_frame _ _ _).1,
    (State.putKey_frame _ _ _).2, SMap.find_put_same, SMap.find_put_same, State.wr_freeCtr, State.wr_freeCtr, State.wr_mem,
    State.wr_mem, State.drawn_mem, State.drawn, hctr, hmem]
  exact ⟨rfl, rfl, rfl, rfl⟩

section
variable {s : State} {k : Nat} {blob : List Byte}

theorem State.keyLoad_noLoad (h : s.noLoad = true) : s.keyLoad k blob = (s, stUnsupported) := if_pos h

variable (hn : s.noLoad = false)
include hn

theorem State.keyLoad_keyless (hk : keyless k = true) : s.keyLoad k blob = (s, stMalformed) := by
  rw [State.keyLoad, if_neg (by simp [hn]), if_pos hk]
  rfl

variable (hk : keyless k = false)
include hk

theorem State.keyLoad_inUse (hu : s.on R.PRT.KEY_CTRL.STATE k = true) : s.keyLoad k blob = (s, stDenied) := by
  rw [State.keyLoad, if_neg (by simp [hn]), if_neg (by simp [hk]), if_pos hu]
  rfl

variable (hu : s.on R.PRT.KEY_CTRL.STATE k = false)
include hu

theorem State.keyLoad_badBlob (hb : keyUnwrap (s.per.kek.getD []) blob = none) :
    s.keyLoad k blob = (s.bump R.PRT.TREE_STAT.UNWRAP_FAILS, stMalformed) := by
  rw [State.keyLoad, if_neg (by simp [hn]), if_neg (by simp [hk]), if_neg (by simp [hu]), hb]

theorem State.keyLoad_loads {plain : List Byte} (hb : keyUnwrap (s.per.kek.getD []) blob = some plain) :
    s.keyLoad k blob = (s.loadSlot k plain, 0) := by
  rw [State.keyLoad, if_neg (by simp [hn]), if_neg (by simp [hk]), if_neg (by simp [hu]), hb]
  rfl

end

section
variable {s : State} {k : Nat}

theorem State.keyClear_keyless (hk : keyless k = true) : s.keyClear k = (s, stMalformed) :=
  State.checked_fails (by simp [hk])

theorem State.keyClear_inUse (hk : keyless k = false) (h : s.keyBolts k ≠ [] ∨ s.rd R.PRT.KEY_CTRL.STATE k = 2) :
    s.keyClear k = (s, stDenied) := by
  refine State.checked_fails ?_
  by_cases hb : s.keyBolts k = []
  · simp [hk, hb, h.resolve_left (not_not_intro hb)]
  · simp [hk, hb]

theorem State.keyClear_clears (hk : keyless k = false) (hb : s.keyBolts k = []) (hs : s.rd R.PRT.KEY_CTRL.STATE k ≠ 2) :
    s.keyClear k = (s.emptySlot k, 0) := State.checked_passes (by simp [hk, hb, hs])

end

section
variable {s t : State} {v : BitVec 64} {path : Path} {k st : Nat} (ha : s.awake = true) (hp : s.pathOk path = true)
  (hr : s.rd R.TCK.STATUS.ROLE = 0) (hk : k = s.rd R.PRT.KEY_SEL.SLOT)
include ha hp hr hk

theorem effect_keyLoad (hc : part v.toNat R.PRT.KEY_CTRL.CMD = 1) (h : s.keyLoad k s.keyBlob = (t, st)) :
    effect (.keyLoad v path) s ((t.respond path 0xD060 st).clearWrap) := by
  subst hk
  have hw : s.writeKeyCtrl (s.rd R.PRT.KEY_SEL.SLOT) v.toNat s.keyBlob = (t, st) := by
    rw [State.writeKeyCtrl, hc]
    exact h
  refine effect_of_live_eq ha rfl ?_
  rw [State.setKeyCtrl]
  dsimp only
  rw [if_pos (.inl hc), if_pos ⟨hc, hp⟩, s.mirrored_noRole _ _ _ _ _ _ hp hr, hw]

theorem effect_keyClear (hc : part v.toNat R.PRT.KEY_CTRL.CMD = 2) (h : s.keyClear k = (t, st)) :
    effect (.keyClear v path) s (t.respond path 0xD060 st) := by
  subst hk
  have hw : s.writeKeyCtrl (s.rd R.PRT.KEY_SEL.SLOT) v.toNat s.keyBlob = (t, st) := by
    rw [State.writeKeyCtrl, hc]
    exact h
  refine effect_of_live_eq ha rfl ?_
  rw [State.setKeyCtrl]
  dsimp only
  rw [if_pos (.inr hc), if_neg (by simp [hc]), s.mirrored_noRole _ _ _ _ _ _ hp hr, hw]

end

/-- Settles O43: the checks of LOAD and of CLEAR in their order, and what each does. -/
theorem keySlotCommands : Obligations.KeySlotCommands := by
  intro s v path k ha hp hr hk
  refine ⟨fun hc => ⟨fun hn => effect_keyLoad ha hp hr hk hc (State.keyLoad_noLoad hn),
      fun hn hkl => effect_keyLoad ha hp hr hk hc (State.keyLoad_keyless hn hkl),
      fun hn hkl hu => effect_keyLoad ha hp hr hk hc (State.keyLoad_inUse hn hkl hu),
      fun hn hkl hu hb => effect_keyLoad ha hp hr hk hc (State.keyLoad_badBlob hn hkl hu hb),
      fun plain hn hkl hu hb => ⟨_, effect_keyLoad ha hp hr hk hc (State.keyLoad_loads hn hkl hu hb), ?loaded⟩⟩,
    fun hc => ⟨fun hkl => effect_keyClear ha hp hr hk hc (State.keyClear_keyless hkl),
      fun hkl h => effect_keyClear ha hp hr hk hc (State.keyClear_inUse hkl h),
      fun hkl hb hs => ⟨_, effect_keyClear ha hp hr hk hc (State.keyClear_clears hkl hb hs), ?cleared⟩⟩⟩
  case loaded =>
    obtain ⟨hstate, hcount⟩ := s.loadSlot_shows k plain
    exact ⟨hstate, hcount, s.loadSlot_parts k plain⟩
  case cleared =>
    obtain ⟨hstate, hkcv, -⟩ := s.emptySlot_shows k
    obtain ⟨hkeys, hkeys2, hmem, -⟩ := s.emptySlot_parts k
    rw [hkeys, hkeys2]
    exact ⟨SMap.find_del_same _ _, SMap.find_del_same _ _, hstate, hkcv, hmem, fun j hj => SMap.find_del_other _ _ _ hj⟩

end Sys2Proof.Machine
end

section
/-! The entries of a field that are listed, and what a write of another field leaves of them (00 R18). -/

namespace Sys2Proof.Machine

section
variable {α β : Type} {p : Nat × α → Option β} {k : Nat} (h : ∀ v, p (k, v) = none)
include h

theorem filterMap_insertKey (v : α) (m : List (Nat × α)) : (insertKey k v m).filterMap p = m.filterMap p := by
  induction m with
  | nil => simp [insertKey, h]
  | cons e m ih =>
    obtain ⟨j, w⟩ := e
    unfold insertKey
    split
    · simp [List.filterMap_cons, ih]
    · split
      · next hj => simp [h, hj]
      · simp [List.filterMap_cons, h]

theorem filterMap_eraseKey (m : List (Nat × α)) : (eraseKey k m).filterMap p = m.filterMap p := by
  induction m with
  | nil => rfl
  | cons e m ih =>
    obtain ⟨j, w⟩ := e
    have hcons : eraseKey k ((j, w) :: m) = if j = k then eraseKey k m else (j, w) :: eraseKey k m := by
      by_cases hj : j = k <;> simp [eraseKey, hj]
    rw [hcons]
    split
    · next hj => rw [ih, List.filterMap_cons_none (hj ▸ h w)]
    · rw [List.filterMap_cons, ih, List.filterMap_cons]

end

/-- The key of a field's entry ends in the field's number. -/
theorem Fld.key_mod (f : Fld) (e : Nat) : f.key e % 2 ^ 26 = f.id := by
  have := f.id_lt
  unfold Fld.key
  omega

theorem State.stored_wr (s : State) (f g : Fld) (v e : Nat) (h : g.id ≠ f.id) : (s.wr f v e).stored g = s.stored g := by
  have hk (w : Nat) : (if (f.key e, w).1 % 2 ^ 26 = g.id then some ((f.key e, w).1 / 2 ^ 26) else none) = none :=
    if_neg (by rw [f.key_mod]; exact Ne.symm h)
  unfold State.stored State.wr fset SMap.set
  split
  · exact filterMap_eraseKey hk _
  · exact filterMap_insertKey hk _ _

/-- A write of another register leaves the bolts and what key they name (06 R136). -/
theorem State.keyBolts_wr (s : State) (f : Fld) (v e k : Nat) (hs : R.BLT.BOLT_ATTR.STATE.id ≠ f.id)
    (hk : R.BLT.BOLT_ATTR.KEY_ID.id ≠ f.id) : (s.wr f v e).keyBolts k = s.keyBolts k := by
  unfold State.keyBolts State.bolts State.on
  simp only [State.stored_wr _ _ _ _ _ hs, State.rd_wr_field _ _ _ _ _ _ hs, State.rd_wr_field _ _ _ _ _ _ hk]

end Sys2Proof.Machine
end

section
/-! Rekeys start and end (13 R331, R332). -/

namespace Sys2Proof.Machine

/-- The coded bolts that hold a key. -/
def State.codedBolts (s : State) (k : Nat) : List Nat := (s.keyBolts k).filter (fun b => s.boltMode b != 0)

theorem State.mem_codedBolts {s : State} {k b : Nat} (hb : b ∈ s.keyBolts k) (hm : s.boltMode b ≠ 0) : b ∈ s.codedBolts k :=
  List.mem_filter.mpr ⟨hb, by simpa using hm⟩

/-- Bolts enter REKEYING (R332). -/
def State.enterRekeying (s : State) (bs : List Nat) : State := bs.foldl (fun s b => s.wr R.BLT.BOLT_ATTR.STATE 4 b) s

theorem State.enterRekeying_state (s : State) {bs : List Nat} {b : Nat} (hb : b ∈ bs) :
    (s.enterRekeying bs).rd R.BLT.BOLT_ATTR.STATE b = 4 :=
  foldl_sets (fun s b => s.wr R.BLT.BOLT_ATTR.STATE 4 b) (fun s b => s.rd R.BLT.BOLT_ATTR.STATE b) 4
    (fun _ _ => State.rd_wr_same _ _ _ _) (fun _ _ _ hj => State.rd_wr_entry _ _ _ _ _ _ hj) hb s

theorem State.enterRekeying_rd (s : State) (bs : List Nat) (g : Fld) (j : Nat) (h : g.id ≠ R.BLT.BOLT_ATTR.STATE.id) :
    (s.enterRekeying bs).rd g j = s.rd g j :=
  foldl_keeps _ (State.rd · g j) bs (fun _ _ _ => State.rd_wr_field _ _ _ _ _ _ h) s

theorem State.enterRekeying_mem (s : State) (bs : List Nat) : (s.enterRekeying bs).mem = s.mem :=
  foldl_keeps _ State.mem bs (fun _ _ _ => State.wr_mem _ _ _ _) s

section
variable (s : State) (k k' : Nat)

/-- The registers of a rekey as it starts (R332). -/
def State.rekeyShown (s : State) (k k' : Nat) : State :=
  let t := ((s.wr R.PRT.KEY_CTRL.STATE 2 k').wr R.PRT.REKEY.STATE 1).enterRekeying (s.codedBolts k)
  ((t.wr R.PRT.REKEY_PROG.DONE 0).wr R.PRT.REKEY_PROG.TOTAL
      ((s.codedBolts k).foldl (fun n b => n + t.boltGroups b) 0)).wr
    R.PRT.REKEY.BOLT ((s.codedBolts k).foldl min ((s.codedBolts k).headD 0))

theorem State.rekeyStart_form : s.rekeyStart k k' =
    { s.rekeyShown k k' with guard := { (s.rekeyShown k k').guard with converted := {} } } := rfl

/-- A rekey that starts: STATE 1, the staging slot STAGED, no progress, and the coded bolts in REKEYING (R332). -/
theorem State.rekeyShown_shows : (s.rekeyShown k k').rd R.PRT.REKEY.STATE = 1 ∧
    (s.rekeyShown k k').rd R.PRT.KEY_CTRL.STATE k' = 2 ∧ (s.rekeyShown k k').rd R.PRT.REKEY_PROG.DONE = 0 ∧
    (s.rekeyShown k k').mem = s.mem ∧
    ∀ b ∈ s.codedBolts k, (s.rekeyShown k k').rd R.BLT.BOLT_ATTR.STATE b = 4 := by
  unfold State.rekeyShown
  dsimp only
  simp (disch := decide) only [State.rd_wr_field, State.enterRekeying_rd, State.rd_wr_same, State.wr_mem,
    State.enterRekeying_mem]
  exact ⟨rfl, rfl, rfl, trivial, fun b hb => State.enterRekeying_state _ hb⟩

theorem State.rekeyStart_shows : (s.rekeyStart k k').rd R.PRT.REKEY.STATE = 1 ∧
    (s.rekeyStart k k').rd R.PRT.KEY_CTRL.STATE k' = 2 ∧ (s.rekeyStart k k').rd R.PRT.REKEY_PROG.DONE = 0 ∧
    (s.rekeyStart k k').mem = s.mem ∧
    ∀ b ∈ s.codedBolts k, (s.rekeyStart k k').rd R.BLT.BOLT_ATTR.STATE b = 4 := by
  have h := s.rekeyShown_shows k k'
  rw [s.rekeyStart_form]
  generalize s.rekeyShown k k' = t at h
  exact h

end

theorem State.rekeyEnd_state (s : State) : s.rekeyEnd.rd R.PRT.REKEY.STATE = 2 := State.rd_wr_same _ _ _ _

/-- The two slots that a write of PRT.REKEY names. -/
abbrev rekeyFields : List Fld := [R.PRT.REKEY.TARGET, R.PRT.REKEY.STAGING]

theorem State.codedBolts_takes (s : State) (v k : Nat) : (s.takes v 0 rekeyFields).codedBolts k = s.codedBolts k := by
  have hmode (b : Nat) : (s.takes v 0 rekeyFields).boltMode b = s.boltMode b := s.rd_takes_field _ _ _ _ _ (by decide)
  unfold State.codedBolts
  simp only [hmode]
  show (((s.wr R.PRT.REKEY.TARGET _).wr R.PRT.REKEY.STAGING _).keyBolts k).filter _ = _
  rw [State.keyBolts_wr _ _ _ _ _ (by decide) (by decide), State.keyBolts_wr _ _ _ _ _ (by decide) (by decide)]

theorem State.writeRekey_running {s : State} {v : Nat} (ho : s.rekeyOn = true) (hc : s.chgAny v 0 rekeyFields = true) :
    s.writeRekey v = (s, stDenied) := State.checked_fails (by simp [ho, hc])

section
variable {s : State} {v k k' : Nat} (hgo : part v R.PRT.REKEY.GO = 1) (hk : k = part v R.PRT.REKEY.TARGET)
  (hk' : k' = part v R.PRT.REKEY.STAGING)
include hgo hk hk'

variable (ho : s.rekeyOn = false)
include ho

theorem State.writeRekey_malformed
    (h : keyless k = true ∨ keyless k' = true ∨ k = k' ∨ s.rd R.PRT.KEY_CTRL.STATE k' ≠ 1) :
    s.writeRekey v = (s, stMalformed) := by
  subst hk hk'
  unfold State.writeRekey State.checked
  dsimp only
  rw [List.find?_cons_of_neg (by simp [ho]), List.find?_cons_of_pos (by simpa [hgo, or_assoc] using h)]

theorem State.writeRekey_starts (hz : keyless k = false) (hz' : keyless k' = false) (hne : k ≠ k')
    (hst : s.rd R.PRT.KEY_CTRL.STATE k' = 1) (hnone : s.keyBolts k' = [])
    (hcoded : (s.keyBolts k).any (fun b => s.boltMode b != 0) = true)
    (hfree : (s.keyBolts k).any (fun b => s.rd R.BLT.BOLT_ATTR.STATE b == 1 || s.rd R.BLT.BOLT_ATTR.STATE b == 5) = false) :
    s.writeRekey v = ((s.takes v 0 rekeyFields).rekeyStart k k', 0) := by
  subst hk hk'
  unfold State.writeRekey
  dsimp only
  rw [State.checked_passes ?_, if_pos (by simp [hgo])]
  have hcoded' : ((s.keyBolts (part v R.PRT.REKEY.TARGET)).filter (fun b => s.boltMode b != 0)).isEmpty = false := by
    obtain ⟨b, hb, hm⟩ := List.any_eq_true.mp hcoded
    exact List.isEmpty_eq_false_iff_exists_mem.mpr ⟨b, List.mem_filter.mpr ⟨hb, hm⟩⟩
  simp only [List.mem_cons, List.not_mem_nil, or_false, forall_eq_or_imp, forall_eq]
  simp only [ho, hz, hz', hst, hnone, hcoded', hfree, Bool.and_false, Bool.or_false, bne_self_eq_false,
    beq_eq_false_iff_ne.mpr hne, List.isEmpty_nil, Bool.not_true, and_self]

end

theorem effect_rekeyGo {s t : State} {v : BitVec 64} {path : Path} {st : Nat} (ha : s.awake = true) (hp : s.pathOk path = true)
    (hr : s.rd R.TCK.STATUS.ROLE = 0) (hgo : part v.toNat R.PRT.REKEY.GO = 1) (h : s.writeRekey v.toNat = (t, st)) :
    effect (.rekeyGo v path) s (t.respond path 0xD078 st) := by
  refine effect_of_live_eq ha rfl ?_
  rw [State.setRekey, if_pos hgo, s.mirrored_noRole _ _ _ _ _ _ hp hr, h]

/-- The bolts of the target that are in REKEYING. -/
def State.rekeyBolts (s : State) : List Nat :=
  (s.keyBolts (s.rd R.PRT.REKEY.TARGET)).filter (fun b => s.rd R.BLT.BOLT_ATTR.STATE b == 4)

theorem exec_rekeyConversionDone (s : State) : exec .rekeyConversionDone s =
    live s (if s.rekeyOn ∧ s.running ∧ ¬ s.guard.rekeyPaused then
      if ¬ s.rekeyBolts.all (s.masterOwns 69) then s.countMaster
      else ((s.rekeyBolts.foldl State.convertBolt s).chargeGroups 69).rekeyEnd else s) := rfl

/-- Settles O44: the checks of GO in their order, and the guards of the conversion. -/
theorem rekeyCommands : Obligations.RekeyCommands := by
  intro s ha
  refine ⟨fun v path k k' hp hr hgo hk hk' =>
      ⟨fun ho hc => effect_rekeyGo ha hp hr hgo (State.writeRekey_running ho hc),
        fun ho h => effect_rekeyGo ha hp hr hgo (State.writeRekey_malformed hgo hk hk' ho h),
        fun ho hz hz' hne hst hnone hcoded hfree =>
          ⟨_, effect_rekeyGo ha hp hr hgo (State.writeRekey_starts hgo hk hk' ho hz hz' hne hst hnone hcoded hfree), ?starts⟩⟩,
    fun h => ?waits,
    fun ho hrun hpause => ⟨fun hall => ⟨((s.rekeyBolts.foldl State.convertBolt s).chargeGroups 69).rekeyEnd, ?ends,
      State.rekeyEnd_state _⟩, fun hall => ?denied⟩⟩
  case starts =>
    obtain ⟨hstate, hslot, hdone, hmem, hbolts⟩ := (s.takes v.toNat 0 rekeyFields).rekeyStart_shows k k'
    obtain ⟨rs, hrs⟩ := s.takes_regsOnly v.toNat 0 rekeyFields
    have htakes : (s.takes v.toNat 0 rekeyFields).mem = s.mem := by rw [hrs]
    rw [State.codedBolts_takes] at hbolts
    exact ⟨hstate, hslot, hdone, hmem.trans htakes, fun b hb hm => hbolts b (State.mem_codedBolts hb hm)⟩
  case waits =>
    refine effect_of_live_eq ha (exec_rekeyConversionDone s) (if_neg ?_)
    rintro ⟨ho, hrun, hpause⟩
    simp_all
  case ends =>
    have hall' : s.rekeyBolts.all (s.masterOwns 69) = true := hall
    exact effect_of_live ha (by rw [exec_rekeyConversionDone, if_pos ⟨ho, hrun, by simp [hpause]⟩, if_neg (by simp [hall'])])
  case denied =>
    have hall' : s.rekeyBolts.all (s.masterOwns 69) = false := hall
    exact effect_of_live ha (by rw [exec_rekeyConversionDone, if_pos ⟨ho, hrun, by simp [hpause]⟩, if_pos (by simp [hall'])])

end Sys2Proof.Machine
end

section
/-! What goes over the pair link (18 R415, R441, 12 R306). -/

namespace Sys2Proof.Machine

/-- A module whose Tack link sends coded stitches and is not in step yet. -/
def codedLink : State := { State.reset with tack := { coded := true } }

/-- An IDENT of a module without a pair. -/
def plainIdent : Ident := { kcv := 0, nonce := 0, epoch := 0, role := 0, pair := 0, fullDue := false }

/-- The effect that O49 gives IDENT before the lanes are in step. -/
def identNoted : State := { codedLink.gotStitch with tack := { codedLink.gotStitch.tack with peer := some plainIdent } }

theorem codedLink_premises : codedLink.awake = true ∧ codedLink.tack.coded = true ∧ codedLink.tack.deskewed = false := by
  decide +kernel

/-- IDENT is a stitch that was counted ahead, and it forgets that it was. -/
theorem after_stitchIdent_codedLink : (codedLink.after (.stitchIdent plainIdent)).tack.rxLead = 0 := by decide +kernel

theorem identNoted_ends : (identNoted.ends codedLink).tack.rxLead = 1 := by decide +kernel

/-- Refutes O49: the statement keeps the stitch counted ahead that IDENT is, and the model's IDENT takes the link's state from before
it was counted. -/
theorem not_tackTrafficCommands : ¬ Obligations.TackTrafficCommands := by
  intro h
  obtain ⟨ha, hcoded, hdeskewed⟩ := codedLink_premises
  obtain ⟨-, -, -, -, hident, -⟩ := h codedLink ha
  have hnoted : effect (.stitchIdent plainIdent) codedLink identNoted := (hident plainIdent).2.1 hcoded hdeskewed
  have hlead := congrArg (fun s => s.tack.rxLead) (after_of_effect hnoted)
  exact absurd (after_stitchIdent_codedLink.symm.trans (hlead.trans identNoted_ends)) (by decide)

end Sys2Proof.Machine
end

section
/-! The pair link comes up step by step and goes down with its fault (18 R416-R419). -/

namespace Sys2Proof.Machine

/-- Something that leaves on the link is the last thing put out, and touches the link's counts alone. -/
theorem State.sendStitch_out (s : State) (t : TackOut) (n : Nat) : (s.sendStitch t n).out = s.out ++ [.tack t] := by
  unfold State.sendStitch
  rw [State.count_out]
  rfl

theorem State.sendStitch_frame (s : State) (t : TackOut) (n : Nat) : (s.sendStitch t n).regs = s.regs ∧
    (s.sendStitch t n).mem = s.mem ∧ (s.sendStitch t n).tack = { s.tack with txLead := s.tack.txLead + n } := by
  unfold State.sendStitch
  rw [State.count_regs, State.count_mem, State.count_tack]
  exact ⟨rfl, rfl, rfl⟩

/-- No lane is aligned: TRAIN says so. -/
theorem State.tackAligned_none (s : State) (h : s.tack.aligned = []) : s.tackAligned = false := by
  unfold State.tackAligned
  cases s.tackLanes <;> simp [h]

/-- An attempt as it starts (R416). -/
def State.attemptStarts (s : State) : State :=
  { s.freshAttempt with tack := { s.freshAttempt.tack with attempt := true, waiting := false } }

theorem State.attemptStarts_sends (s : State) : s.attemptStarts.sendTrain.tack.attempt = true ∧
    s.attemptStarts.sendTrain.tack.waiting = false ∧ s.attemptStarts.sendTrain.tack.aligned = [] ∧
    s.attemptStarts.sendTrain.tack.peerTrain = none ∧ s.attemptStarts.sendTrain.regs = s.regs ∧
    s.attemptStarts.sendTrain.mem = s.mem ∧
    s.attemptStarts.sendTrain.out = s.out ++ [.tack (.train false (s.on R.TCK.CFG.HALF_EN) s.tackFailed)] := by
  have halign : s.attemptStarts.tackAligned = false := State.tackAligned_none _ rfl
  unfold State.sendTrain
  obtain ⟨hregs, hmem, htack⟩ := s.attemptStarts.sendStitch_frame
    (.train s.attemptStarts.tackAligned (s.attemptStarts.on R.TCK.CFG.HALF_EN) s.attemptStarts.tackFailed)
    s.attemptStarts.tackLanes.length
  rw [hregs, hmem, htack, State.sendStitch_out, halign]
  exact ⟨rfl, rfl, rfl, rfl, rfl, rfl, rfl⟩

/-- An attempt that ends without a link raises TACK_LINK_DOWN and waits (R416). -/
theorem State.endAttempt_shows (s : State) : s.endAttempt.tack.attempt = false ∧ s.endAttempt.tack.waiting = true ∧
    s.endAttempt.sticky Src.tackLinkDown = true ∧ s.endAttempt.mem = s.mem := by
  unfold State.endAttempt
  dsimp only
  rw [State.raise_tack, State.raise_mem]
  exact ⟨rfl, rfl, State.raise_sticky _ _ _ _, rfl⟩

/-- A write of TCK.ALIGN with START = 0 takes the lane; with START = 1 the lane counts, and its try is counted (R417). -/
theorem State.writeAlign_lane (s : State) (v : Nat) (h : part v R.TCK.ALIGN.START = 0) :
    (s.writeAlign v).1 = s.take R.TCK.ALIGN.LANE v := by
  unfold State.writeAlign
  dsimp only
  rw [if_pos h]
  rfl

/-- Lane n starts to count. -/
def State.startCount (s : State) (n : Nat) : State :=
  { (s.wr R.TCK.ALIGN.MATCH 0).wr R.TCK.ALIGN.DONE 0 with
    tack := { s.tack with counting := some n, tries := s.tack.tries.set 0 n (s.tack.tries.get 0 n + 1) } }

theorem State.writeAlign_starts (s : State) (v : Nat) (h : part v R.TCK.ALIGN.START = 1) :
    (s.writeAlign v).1 = (s.take R.TCK.ALIGN.LANE v).startCount (part v R.TCK.ALIGN.LANE) := by
  unfold State.writeAlign
  dsimp only
  rw [if_neg (by simp [h]), State.rd_take_same]
  rfl

theorem State.startCount_shows (s : State) (n : Nat) : (s.startCount n).tack.counting = some n ∧
    (s.startCount n).rd R.TCK.ALIGN.DONE = 0 ∧ (s.startCount n).rd R.TCK.ALIGN.MATCH = 0 ∧
    (s.startCount n).tack.tries.get 0 n = s.tack.tries.get 0 n + 1 := by
  have hrd (g : Fld) : (s.startCount n).rd g = ((s.wr R.TCK.ALIGN.MATCH 0).wr R.TCK.ALIGN.DONE 0).rd g := rfl
  rw [hrd, hrd, State.rd_wr_same, State.rd_wr_field _ _ _ _ _ _ (by decide), State.rd_wr_same]
  exact ⟨rfl, rfl, rfl, SMap.get_set_same _ _ _ _⟩

/-- A count below 1000 with tries left is shown, and aligns nothing (R417). -/
theorem State.alignCounted_short (s : State) (n : Fin 8) {m : Nat} (ha : s.tack.attempt = true) (hm : m < 1000)
    (ht : s.tack.tries.get 0 n < 64) : (s.alignCounted n m).rd R.TCK.ALIGN.MATCH = min m 1024 ∧
    (s.alignCounted n m).rd R.TCK.ALIGN.DONE = 1 ∧ (s.alignCounted n m).tack.aligned = s.tack.aligned ∧
    (s.alignCounted n m).out = s.out := by
  have hform : s.alignCounted n m =
      { (s.wr R.TCK.ALIGN.MATCH (min m 1024)).wr R.TCK.ALIGN.DONE 1 with tack := { s.tack with counting := none } } := by
    unfold State.alignCounted
    dsimp only
    rw [if_neg (by simp [ha]), if_neg (by omega), if_neg (by rw [State.wr_tack, State.wr_tack]; omega)]
    rfl
  have hrd (g : Fld) : (s.alignCounted n m).rd g = ((s.wr R.TCK.ALIGN.MATCH (min m 1024)).wr R.TCK.ALIGN.DONE 1).rd g := by
    rw [hform]
    rfl
  rw [hrd, hrd, State.rd_wr_same, State.rd_wr_field _ _ _ _ _ _ (by decide), State.rd_wr_same, hform]
  refine ⟨Nat.mod_eq_of_lt ?_, rfl, rfl, rfl⟩
  show min m 1024 < 2 ^ 11
  omega

/-- The link is up with the width of its lanes, in roles that were settled before (R419). -/
theorem State.tackUp_settled (s : State) (h : s.tack.settled = none) : s.tackUp.rd R.TCK.STATUS.LINK = 1 ∧
    s.tackUp.rd R.TCK.STATUS.WIDTH = widthOf s.tack.lanes ∧ s.tackUp.tack.attempt = false ∧ s.tackUp.tack.downTick = none ∧
    s.tackUp.mem = s.mem ∧ s.tackUp.out = s.out := by
  have hform : s.tackUp = { (s.wr R.TCK.STATUS.LINK 1).wr R.TCK.STATUS.WIDTH (widthOf s.tack.lanes) with
      tack := { s.tack with attempt := false, waiting := false, downTick := none, pairedAtLoss := false, decided := false } } := by
    unfold State.tackUp State.startPair
    dsimp only
    rw [State.wr_tack, State.wr_tack, h]
  have hrd (g : Fld) :
      s.tackUp.rd g = ((s.wr R.TCK.STATUS.LINK 1).wr R.TCK.STATUS.WIDTH (widthOf s.tack.lanes)).rd g := by
    rw [hform]
    rfl
  have hwidth : widthOf s.tack.lanes < 4 := by
    unfold widthOf
    split
    · decide
    · split <;> decide
  rw [hrd, hrd, State.rd_wr_same, State.rd_wr_field _ _ _ _ _ _ (by decide), State.rd_wr_same, hform]
  exact ⟨rfl, Nat.mod_eq_of_lt hwidth, rfl, rfl, rfl, rfl⟩

/-- The link that goes down shows nothing, carries nothing, and its tick is noted (R419). -/
theorem State.tackLinkDown_up (s : State) (h : s.on R.TCK.STATUS.LINK = true) :
    s.tackLinkDown = s.tackDrop.raise Src.tackLinkDown := if_pos h

theorem State.dropHandover_frame (s : State) : s.dropHandover.mem = s.mem ∧ s.dropHandover.tick = s.tick ∧
    s.dropHandover.rd R.TCK.STATUS.LINK = s.rd R.TCK.STATUS.LINK ∧
    s.dropHandover.rd R.TCK.STATUS.WIDTH = s.rd R.TCK.STATUS.WIDTH := by
  unfold State.dropHandover
  split
  · exact ⟨rfl, rfl, State.rd_wr_field _ _ _ _ _ _ (by decide), State.rd_wr_field _ _ _ _ _ _ (by decide)⟩
  · exact ⟨rfl, rfl, rfl, rfl⟩

/-- The link's registers as it goes down. -/
def State.linkDark (s : State) : State := (s.wr R.TCK.STATUS.LINK 0).wr R.TCK.STATUS.WIDTH 0

theorem State.tackDrop_form (s : State) : s.tackDrop = { s.linkDark.dropHandover with
    tack := s.linkDark.dropHandover.tack.down s.linkDark.dropHandover.tick (s.rd R.TCK.STATUS.PAIR = 2) } := rfl

theorem State.tackDrop_shows (s : State) : s.tackDrop.rd R.TCK.STATUS.LINK = 0 ∧ s.tackDrop.rd R.TCK.STATUS.WIDTH = 0 ∧
    s.tackDrop.tack.carries = false ∧ s.tackDrop.tack.downTick = some s.tick ∧ s.tackDrop.mem = s.mem := by
  obtain ⟨hmem, htick, hlink, hwidth⟩ := s.linkDark.dropHandover_frame
  have hdark : s.linkDark.rd R.TCK.STATUS.LINK = 0 ∧ s.linkDark.rd R.TCK.STATUS.WIDTH = 0 :=
    ⟨(State.rd_wr_field _ _ _ _ _ _ (by decide)).trans (State.rd_wr_same _ _ _ _), State.rd_wr_same _ _ _ _⟩
  rw [s.tackDrop_form]
  generalize s.linkDark.dropHandover = t at hmem htick hlink hwidth
  exact ⟨hlink.trans hdark.1, hwidth.trans hdark.2, rfl, congrArg some htick, hmem⟩

theorem State.tackLinkDown_shows (s : State) (h : s.on R.TCK.STATUS.LINK = true) :
    s.tackLinkDown.rd R.TCK.STATUS.LINK = 0 ∧ s.tackLinkDown.rd R.TCK.STATUS.WIDTH = 0 ∧
    s.tackLinkDown.tack.carries = false ∧ s.tackLinkDown.tack.downTick = some s.tick ∧
    s.tackLinkDown.sticky Src.tackLinkDown = true ∧ s.tackLinkDown.mem = s.mem := by
  obtain ⟨hlink, hwidth, hcarries, htick, hmem⟩ := s.tackDrop_shows
  rw [s.tackLinkDown_up h, State.rd_raise _ _ _ _ _ _ (by decide), State.rd_raise _ _ _ _ _ _ (by decide), State.raise_tack,
    State.raise_mem]
  exact ⟨hlink, hwidth, hcarries, htick, State.raise_sticky _ _ _ _, hmem⟩

/-- Settles O48, command by command. -/
theorem tackLinkCommands : Obligations.TackLinkCommands := by
  intro s ha
  refine ⟨fun h => effect_of_no_guard ha rfl (by rintro ⟨h1, h2, h3⟩; simp_all),
    fun hr hl hx => ⟨s.attemptStarts.sendTrain, effect_of_guard ha rfl ⟨hr, by simp [hl], by simp [hx]⟩, s.attemptStarts_sends⟩,
    fun h => effect_of_no_guard ha rfl (by simp [h]),
    fun h => ⟨s.endAttempt, effect_of_guard ha rfl h, s.endAttempt_shows⟩,
    fun v => ⟨fun h => effect_of_live_eq ha rfl (s.writeAlign_lane _ h),
      fun h => ⟨_, effect_of_live_eq ha rfl (s.writeAlign_starts _ h), State.startCount_shows _ _⟩⟩,
    fun n m => ⟨fun h => effect_of_no_guard ha rfl h, fun h => effect_of_guard ha rfl h,
      fun hx hm ht => s.alignCounted_short n hx hm ht⟩,
    fun t => ⟨fun h => effect_of_no_guard ha rfl (by simp [h]), fun h => effect_of_guard ha rfl h⟩,
    fun h => effect_of_no_guard ha rfl (by rintro ⟨h1, h2, h3, h4⟩; simp_all),
    fun d hx hd hp hr hs => ⟨s.tackUp, effect_of_guard ha rfl ⟨hx, hd, by simp [hp], hr⟩, s.tackUp_settled hs⟩,
    fun d x hx hd hp hr hs => effect_of_guard ha rfl ⟨hx, hd, by simp [hp], hr⟩,
    fun h => effect_of_no_guard ha rfl (by simp [h]),
    fun h => ⟨effect_of_guard ha rfl h, s.tackLinkDown_shows h⟩⟩

end Sys2Proof.Machine
end

section
/-! What a change of mode, the frames of a restitch and the addresses that a primary announces leave of the pair: its own state, and the
registers beside those of windows and placement (14 R354, 09 R236, R256, 20 R27, 18 R436). -/

namespace Sys2Proof.Machine

/-- The numbers of the fields that a change of mode, a requested point and the end of a restitch write. -/
def changeIds : List Nat :=
  upkeepIds ++ [R.CHN.STATUS.IN_WINDOW, R.MOD.STATUS.POINT, R.MOD.STATUS.BUSY, R.PLC.S32_GEN.VALID, R.PLC.S32_GEN.MASK,
    R.PLC.STATUS.SEAM_LOW, R.PLC.RESTITCH_STATUS.STATE, R.PLC.RESTITCH_STATUS.STATUS].map Fld.id

/-- The pair: its state, and every register beside those of `changeIds` and of the fault collector. -/
def State.pairView (s : State) : Tack × ({ f : Fld // f.id ∉ changeIds ∧ f.notFault = true } → Nat → Nat) :=
  (s.tack, fun f e => s.rd f e)

theorem State.tack_of_pairView {s t : State} (h : t.pairView = s.pairView) : t.tack = s.tack := congrArg Prod.fst h

theorem State.rd_of_pairView {s t : State} (h : t.pairView = s.pairView) (f : Fld) (e : Nat) (hf : f.id ∉ changeIds)
    (hn : f.notFault = true) : t.rd f e = s.rd f e := congrFun (congrFun (congrArg Prod.snd h) ⟨f, hf, hn⟩) e

theorem State.pairView_congr {s t : State} (hr : t.regs = s.regs) (ht : t.tack = s.tack) : t.pairView = s.pairView := by
  unfold State.pairView
  rw [ht]
  exact congrArg (Prod.mk s.tack) (funext fun f => funext fun e => State.rd_congr t s hr f e)

theorem State.wr_pairView (s : State) (f : Fld) (v e : Nat) (h : f.id ∈ changeIds) : (s.wr f v e).pairView = s.pairView :=
  congrArg (Prod.mk s.tack) <| funext fun g => funext fun j => s.rd_wr_field f g v e j fun he => g.2.1 (he ▸ h)

@[simp] theorem State.raise_pairView (s : State) (i : Nat) (u : Block) (b : Bool) : (s.raise i u b).pairView = s.pairView := by
  unfold State.pairView
  rw [State.raise_tack]
  exact congrArg (Prod.mk s.tack) (funext fun g => funext fun j => State.rd_raise s i u b g j g.2.2)

theorem State.pairView_of_upkept {s t : State} (h : t.upkept = s.upkept) : t.pairView = s.pairView := by
  have ht : t.tack = s.tack := (congrArg (fun x => State.tack (Prod.fst x)) h :)
  unfold State.pairView
  rw [ht]
  exact congrArg (Prod.mk s.tack) (funext fun f => funext fun e => State.rd_of_upkept h f e fun hm => f.2.1 (List.mem_append_left _ hm))

@[simp] theorem State.setMember_pairView (s : State) (k : Nat × Nat × Nat) (i : Nat) (m : Member) :
    (s.setMember k i m).pairView = s.pairView := by
  unfold State.setMember
  dsimp only
  split
  · rw [State.wr_pairView _ _ _ _ (by decide), State.wr_pairView _ _ _ _ (by decide)]
    exact State.pairView_congr rfl rfl
  · exact State.pairView_congr rfl rfl

@[simp] theorem State.seamCheck_pairView (s : State) : s.seamCheck.pairView = s.pairView := by
  unfold State.seamCheck State.put
  dsimp only
  split
  · rw [State.raise_pairView]
    exact s.wr_pairView R.PLC.STATUS.SEAM_LOW _ 0 (by decide)
  · exact s.wr_pairView R.PLC.STATUS.SEAM_LOW _ 0 (by decide)

@[simp] theorem State.dropPartner_pairView (s : State) : s.dropPartner.pairView = s.pairView := by
  unfold State.dropPartner
  split
  · unfold State.freeFrame
    rw [State.seamCheck_pairView, State.setMember_pairView]
    exact State.pairView_congr rfl rfl
  · rfl

@[simp] theorem State.restitchStop_pairView (s : State) (x y : Nat) : (s.restitchStop x y).pairView = s.pairView := by
  unfold State.restitchStop
  rw [State.wr_pairView _ _ _ _ (by decide), State.wr_pairView _ _ _ _ (by decide)]
  exact State.pairView_congr rfl rfl

/-- A restitch from the partner ends without touching the pair (R440). -/
@[simp] theorem State.endPartner_pairView (s : State) : s.endPartner.pairView = s.pairView := by
  unfold State.endPartner State.stopPartner
  split
  · rw [State.restitchStop_pairView, State.dropPartner_pairView]
  · rfl

@[simp] theorem State.setNarrow_pairView (s : State) (c : Nat) (x : Narrow) : (s.setNarrow c x).pairView = s.pairView :=
  State.pairView_congr rfl rfl

theorem State.setCalReg_pairView (s : State) (x : Cal) (y : Reg) : ({ s with reg := y, cal := x } : State).pairView = s.pairView :=
  State.pairView_congr rfl rfl

@[simp] theorem State.openWindow_pairView (s : State) (c : Nat) : (s.openWindow c).pairView = s.pairView := by
  unfold State.openWindow
  rw [State.wr_pairView _ _ _ _ (by decide), State.setCalReg_pairView]
  exact State.pairView_of_upkept (by rw [State.refreshAll_upkept, State.abandonSweep_upkept])

@[simp] theorem State.oweNarrow_pairView (s : State) (c : Nat) : (s.oweNarrow c).pairView = s.pairView := by
  unfold State.oweNarrow
  dsimp only
  split <;> simp

@[simp] theorem State.requestPoint_pairView (s : State) (p : Nat) : (s.requestPoint p).pairView = s.pairView := by
  refine (foldl_keeps _ State.pairView _ (fun t c _ => ?_) _).trans ?_
  · split
    · exact t.oweNarrow_pairView c
    · rfl
  · exact (State.pairView_congr rfl rfl).trans (s.wr_pairView R.MOD.STATUS.POINT p 0 (by decide))

@[simp] theorem State.setTarget_pairView (s : State) (t p : Nat) : (s.setTarget t p).pairView = s.pairView := by
  unfold State.setTarget
  rw [State.wr_pairView _ _ _ _ (by decide)]
  exact State.pairView_congr rfl rfl

@[simp] theorem State.wakeStack_pairView (s : State) : s.wakeStack.pairView = s.pairView :=
  State.pairView_of_upkept (foldl_keeps _ State.upkept _ (fun t c _ => t.refreshAll_upkept c) s)

/-- A change to Shadow leaves the pair as it was (R27, R442). -/
theorem State.startChange_shadow_pairView (s : State) (p : Nat) : (s.startChange 5 p).pairView = s.pairView := by
  unfold State.startChange
  dsimp only
  rw [if_pos (by decide)]
  split
  · exact (State.pairView_congr rfl rfl).trans (s.setTarget_pairView _ _)
  · split
    · rw [State.wakeStack_pairView, State.setTarget_pairView]
    · exact s.setTarget_pairView _ _

@[simp] theorem State.leaveShadow_pairView (s : State) (asked : Bool) : (s.leaveShadow asked).pairView = s.pairView := by
  unfold State.leaveShadow
  split
  · split
    · exact s.setTarget_pairView _ _
    · split
      · exact s.setTarget_pairView _ _
      · rw [State.requestPoint_pairView, State.setTarget_pairView]
  · rfl

@[simp] theorem State.sendFrame_pairView (s : State) (p : Nat) (f : TxFrame) (n : Nat) :
    (s.sendFrame p f n).pairView = s.pairView := by
  unfold State.sendFrame State.putFrame
  split
  · exact State.pairView_congr rfl rfl
  · split
    · unfold State.frameSent State.countPort
      exact State.pairView_congr (by rw [State.count_regs, State.count_regs]; rfl) (by rw [State.count_tack, State.count_tack]; rfl)
    · rfl

/-- Addresses that are announced leave the pair as it was (R436). -/
@[simp] theorem State.claimPorts_pairView (s : State) : s.claimPorts.pairView = s.pairView := by
  have hport (t : State) (p : Nat) : (t.claimPort p).pairView = t.pairView := by
    unfold State.claimPort
    dsimp only
    split
    · rfl
    · split <;> split <;> simp
  rw [State.claimPorts, hport, hport]

end Sys2Proof.Machine
end

section
/-! What happens to a pair as time passes (18 R422, R434-R438). -/

namespace Sys2Proof.Machine

/-- What the pair is broken to (R434, R435). -/
theorem State.breakPair_pair (s : State) : s.breakPair.rd R.TCK.STATUS.PAIR = 3 := by
  unfold State.breakPair
  split
  · next h => exact h
  · rw [State.rd_bump_field _ _ _ _ _ _ (by decide), State.rd_wr_same]
    rfl

theorem State.breakPair_tack (s : State) : s.breakPair.tack = s.tack := by
  unfold State.breakPair
  split <;> rfl

/-- The secondary has decided, and knows whether its copy was whole (R435). -/
def State.decides (s : State) : State :=
  { s with tack := { s.tack with decided := true, unsynced := s.rd R.TCK.STATUS.PAIR = 1 } }

theorem State.endDecision_form (s : State) : s.endDecision =
    if s.rd R.TCK.STATUS.PAIR = 1 then s.decides.endPartner.breakPair.raise Src.pairLostUnsynced
    else s.decides.endPartner.breakPair := rfl

theorem State.endDecision_shows (s : State) : s.endDecision.rd R.TCK.STATUS.PAIR = 3 ∧ s.endDecision.tack.decided = true ∧
    s.endDecision.tack.unsynced = (s.rd R.TCK.STATUS.PAIR == 1) ∧
    (s.rd R.TCK.STATUS.PAIR = 1 → s.endDecision.sticky Src.pairLostUnsynced = true) := by
  have hpair := s.decides.endPartner.breakPair_pair
  have htack : s.decides.endPartner.breakPair.tack = s.decides.tack :=
    (State.breakPair_tack _).trans (State.tack_of_pairView s.decides.endPartner_pairView)
  rw [s.endDecision_form]
  split
  · next h =>
    rw [State.rd_raise _ _ _ _ _ _ (by decide), State.raise_tack, htack]
    exact ⟨hpair, rfl, rfl, fun _ => State.raise_sticky _ _ _ _⟩
  · next h =>
    rw [htack]
    exact ⟨hpair, rfl, rfl, fun h1 => absurd h1 h⟩

/-- A primary that has lost its place (R438). -/
theorem State.fenced_shows (s : State) : ((s.wr R.TCK.STATUS.FENCED 1).raise Src.pairFenced).rd R.TCK.STATUS.FENCED = 1 ∧
    ((s.wr R.TCK.STATUS.FENCED 1).raise Src.pairFenced).sticky Src.pairFenced = true ∧
    ((s.wr R.TCK.STATUS.FENCED 1).raise Src.pairFenced).mem = s.mem ∧
    ((s.wr R.TCK.STATUS.FENCED 1).raise Src.pairFenced).limited = true := by
  have hf : ((s.wr R.TCK.STATUS.FENCED 1).raise Src.pairFenced).rd R.TCK.STATUS.FENCED = 1 := by
    rw [State.rd_raise _ _ _ _ _ _ (by decide), State.rd_wr_same]
    rfl
  exact ⟨hf, State.raise_sticky _ _ _ _, State.raise_mem _ _ _ _, by simp [State.limited, State.on, hf]⟩

theorem State.mayTakeOver_needs (s : State) (h : s.rd R.TCK.STATUS.ROLE ≠ 2 ∨ s.rd R.TCK.STATUS.PAIR ≠ 2 ∨
    s.on R.TCK.CFG.TAKEOVER_EN = false ∨ s.on R.TCK.STATUS.LINK = true ∨ s.losAll = false ∨ s.peerSilent = false ∨
    s.on R.TCK.STATUS.HB_LOST = false) : s.mayTakeOver = false := by
  unfold State.mayTakeOver
  rcases h with h | h | h | h | h | h | h <;> simp [h]

/-- Settles O51, event by event. -/
theorem pairEvents : Obligations.PairEvents := by
  intro s ha
  refine ⟨fun h => effect_of_no_guard ha rfl ?sync, fun hr hp hl hc => effect_of_guard ha rfl ⟨hr, hp, hl, hc⟩,
    fun h => effect_of_no_guard ha rfl ?brk, fun hm hl => effect_of_guard ha rfl ⟨hm, by simp [hl]⟩,
    fun h => effect_of_no_guard ha rfl ?decide,
    fun hr hp hl hd => ⟨s.endDecision, effect_of_guard ha rfl ⟨hr, hp, by simp [hl], by simp [hd]⟩, s.endDecision_shows⟩,
    ⟨effect_of_live ha rfl, effect_of_live ha rfl⟩, fun h => if_neg (by simp [h]), s.mayTakeOver_needs,
    fun h => effect_of_live_eq ha rfl (if_pos h), fun h => effect_of_live_eq ha rfl (if_neg h),
    fun h => effect_of_no_guard ha rfl ?fence,
    fun hr hf ht => ⟨_, effect_of_guard ha rfl ⟨hr, by simp [hf], by simp [ht]⟩, s.fenced_shows⟩⟩
  case sync =>
    rintro ⟨hr, hp, hl, hc⟩
    simp_all
  case brk =>
    rintro ⟨hm, hl⟩
    simp_all
  case decide =>
    rintro ⟨hr, -, hl, hd⟩
    simp_all
  case fence =>
    rintro ⟨hr, hf, ht⟩
    simp_all

end Sys2Proof.Machine
end

section
/-! PAIR, JOIN, UNPAIR, HANDOVER, TAKEOVER, CLAIM and PKEY_LOAD (18 R416, R420, R422, R435, R438, R442). -/

namespace Sys2Proof.Machine

/-- EN = 1 is taken; EN = 0 takes the link down with it (R416). -/
theorem State.takeTckEn_on (s : State) (v : Nat) (h : part v R.TCK.CTRL.EN = 1) :
    s.takeTckEn v = s.take R.TCK.CTRL.EN v := by
  unfold State.takeTckEn
  dsimp only
  rw [if_pos (by rw [State.on, State.rd_take_same, h]; rfl)]

theorem State.takeTckEn_off (s : State) (v : Nat) (h : part v R.TCK.CTRL.EN = 0) :
    s.takeTckEn v = (s.take R.TCK.CTRL.EN v).tackLinkDown := by
  unfold State.takeTckEn
  dsimp only
  rw [if_neg (by rw [State.on, State.rd_take_same, h]; decide)]

section
variable {s t : State} {path : Path} {v cmd : Nat} (hp : s.pathOk path = true) (hc : part v R.TCK.CTRL.CMD = cmd)
  (hu : cmd = 3 → s.unpair path v = none)
include hp hc hu

/-- A command that goes to no partner is checked and answered here. -/
theorem State.setTckCtrl_here : s.setTckCtrl path v =
    if (s.tckCommand cmd).2 = 0 then ((s.tckCommand cmd).1.takeTckEn v).respond path 0x24000 0
    else (s.tckCommand cmd).1.respond path 0x24000 (s.tckCommand cmd).2 := by
  subst hc
  have hnone : (if part v R.TCK.CTRL.CMD = 3 then s.unpair path v else none) = none := by
    split
    · next h => exact hu h
    · rfl
  unfold State.setTckCtrl
  dsimp only
  rw [if_neg (not_not_intro hp), hnone]

theorem State.setTckCtrl_accepts (h : s.tckCommand cmd = (t, 0)) :
    s.setTckCtrl path v = (t.takeTckEn v).respond path 0x24000 0 := by
  rw [State.setTckCtrl_here hp hc hu, h, if_pos rfl]

theorem State.setTckCtrl_refuses {st : Nat} (h : s.tckCommand cmd = (t, st)) (hst : st ≠ 0) :
    s.setTckCtrl path v = t.respond path 0x24000 st := by
  rw [State.setTckCtrl_here hp hc hu, h, if_neg hst]

end

/-- The seven rows are one write of TCK.CTRL. -/
theorem effect_tckCtrl {c : Instr} {s t : State} {path : Path} {v : BitVec 64} (ha : s.awake = true)
    (he : exec c s = live s (s.setTckCtrl path v.toNat)) (h : s.setTckCtrl path v.toNat = t) : effect c s t :=
  effect_of_live_eq ha he h

/-! The checks of the commands. -/

section
variable {s : State}

theorem State.tckCommand_pair_denied (h : s.on R.TCK.STATUS.PAIR = true ∨ s.on R.TCK.STATUS.ROLE = true) :
    s.tckCommand 1 = (s, stDenied) := State.checked_fails (by rcases h with h | h <;> simp [h])

theorem State.tckCommand_join_denied
    (h : s.on R.TCK.STATUS.PAIR = true ∨ s.on R.TCK.STATUS.ROLE = true ∨ s.joinBusy = true) :
    s.tckCommand 2 = (s, stDenied) := State.checked_fails (by rcases h with h | h | h <;> simp [h])

section
variable (hp : s.on R.TCK.STATUS.PAIR = false) (hr : s.on R.TCK.STATUS.ROLE = false)
include hp hr

theorem State.tckCommand_pair_unready (h : s.pairUnready = true) : s.tckCommand 1 = (s, stMalformed) :=
  State.checked_fails (by simp [hp, hr, h])

theorem State.tckCommand_pair_asks (h : s.pairUnready = false) : s.tckCommand 1 = (s.askPair true, 0) :=
  State.checked_passes (by simp [hp, hr, h])

theorem State.tckCommand_join_unready (hb : s.joinBusy = false) (h : s.pairUnready = true) : s.tckCommand 2 = (s, stMalformed) :=
  State.checked_fails (by simp [hp, hr, hb, h])

theorem State.tckCommand_join_asks (hb : s.joinBusy = false) (h : s.pairUnready = false) :
    s.tckCommand 2 = (s.askPair false, 0) := State.checked_passes (by simp [hp, hr, hb, h])

end

/-- Without a link the request waits for the next IDENT (R422). -/
theorem State.askPair_waits (s : State) (primary : Bool) (h : s.on R.TCK.STATUS.LINK = false) :
    s.askPair primary = { s with tack := { s.tack with pairing := primary, joining := !primary } } :=
  if_neg (ne_true_of_eq_false h)

theorem State.tckCommand_unpair_denied (hp : s.rd R.TCK.STATUS.PAIR ≠ 3) (hf : s.on R.TCK.STATUS.FENCED = false)
    (h : s.rd R.TCK.STATUS.ROLE ≠ 1 ∨ s.on R.TCK.STATUS.LINK = false) : s.tckCommand 3 = (s, stDenied) :=
  State.checked_fails (by rcases h with h | h <;> simp [hp, hf, h])

theorem State.tckCommand_unpair_local (h : s.rd R.TCK.STATUS.PAIR = 3 ∨ s.on R.TCK.STATUS.FENCED = true ∨
    (s.rd R.TCK.STATUS.ROLE = 1 ∧ s.on R.TCK.STATUS.LINK = true)) : s.tckCommand 3 = (s.unpairLocal, 0) :=
  State.checked_passes (by rcases h with h | h | ⟨h, h'⟩ <;> simp [*])

/-- Records go to a partner only from a primary with its link up. -/
theorem State.unpair_none (path : Path) (v : Nat)
    (h : s.mirroring = false ∨ s.on R.TCK.STATUS.LINK = false ∨ s.tack.carries = false) : s.unpair path v = none :=
  if_neg (by rcases h with h | h | h <;> simp [h])

theorem State.unpair_some (path : Path) (v : Nat) (hm : s.mirroring = true) (hl : s.on R.TCK.STATUS.LINK = true)
    (hc : s.tack.carries = true) : ∃ t, s.unpair path v = some t := ⟨_, if_pos ⟨hm, hl, hc⟩⟩

theorem State.mirroring_false_of_role (h : s.rd R.TCK.STATUS.ROLE ≠ 1) : s.mirroring = false := by
  simp [State.mirroring, h]

theorem State.tckCommand_handover_denied (h : s.rd R.TCK.STATUS.ROLE ≠ 1 ∨ s.rd R.TCK.STATUS.PAIR ≠ 2 ∨
    s.on R.TCK.STATUS.LINK = false) : s.tckCommand 4 = (s, stDenied) :=
  State.checked_fails (by rcases h with h | h | h <;> simp [h])

/-- A primary that hands over (R442). -/
def State.handsOver (s : State) : State := { s with tack := { s.tack with handover := true } }

theorem State.tckCommand_handover (hr : s.rd R.TCK.STATUS.ROLE = 1) (hp : s.rd R.TCK.STATUS.PAIR = 2)
    (hl : s.on R.TCK.STATUS.LINK = true) : s.tckCommand 4 = (s.handsOver.startChange 5 0, 0) :=
  State.checked_passes (by simp [hr, hp, hl])

theorem State.tckCommand_takeover_denied (h : s.rd R.TCK.STATUS.ROLE ≠ 2 ∨ s.rd R.TCK.STATUS.PAIR ≠ 3 ∨
    s.tack.unsynced = true ∨ s.on R.TCK.STATUS.HB_LOST = false) : s.tckCommand 5 = (s, stDenied) :=
  State.checked_fails (by rcases h with h | h | h | h <;> simp [h])

theorem State.tckCommand_takeover (hr : s.rd R.TCK.STATUS.ROLE = 2) (hp : s.rd R.TCK.STATUS.PAIR = 3)
    (hu : s.tack.unsynced = false) (hb : s.on R.TCK.STATUS.HB_LOST = true) : s.tckCommand 5 = (s.takeOver true, 0) :=
  State.checked_passes (by simp [hr, hp, hu, hb])

theorem State.tckCommand_claim_denied (h : s.on R.TCK.STATUS.FENCED = false ∨ s.on R.TCK.STATUS.HB_LOST = false) :
    s.tckCommand 6 = (s, stDenied) := State.checked_fails (by rcases h with h | h <;> simp [h])

theorem State.tckCommand_claim (hf : s.on R.TCK.STATUS.FENCED = true) (hb : s.on R.TCK.STATUS.HB_LOST = true) :
    s.tckCommand 6 = (s.wr R.TCK.STATUS.FENCED 0, 0) := State.checked_passes (by simp [hf, hb])

/-- The pair key is held. -/
def State.holdKey (s : State) (key : List Byte) : State := { s with tack := { s.tack with key := some key } }

theorem State.holdKey_rd (s : State) (key : List Byte) (g : Fld) (j : Nat) : (s.holdKey key).rd g j = s.rd g j := rfl

theorem State.holdKey_parts (s : State) (key : List Byte) :
    (s.holdKey key).tack.key = some key ∧ (s.holdKey key).mem = s.mem := ⟨rfl, rfl⟩

theorem State.pkeyLoad_noLoad (h : s.noLoad = true) : s.pkeyLoad = (s.clearPkey, stUnsupported) := if_pos h

variable (hn : s.noLoad = false)
include hn

theorem State.pkeyLoad_paired (h : s.on R.TCK.STATUS.PAIR = true) : s.pkeyLoad = (s.clearPkey, stDenied) :=
  (if_neg (ne_true_of_eq_false hn)).trans (if_pos h)

theorem State.pkeyLoad_badBlob (h : s.on R.TCK.STATUS.PAIR = false) (hb : keyUnwrap (s.per.kek.getD []) s.pkeyBlob = none) :
    s.pkeyLoad = (s.clearPkey.bump R.PRT.TREE_STAT.UNWRAP_FAILS, stMalformed) := by
  refine (if_neg (ne_true_of_eq_false hn)).trans ((if_neg (ne_true_of_eq_false h)).trans ?_)
  rw [hb]
  rfl

/-- The pair key as loaded (R420). -/
def State.withPairKey (s : State) (key : List Byte) : State :=
  ((s.clearPkey.wr R.TCK.PKEY.KCV (keyCheck key)).wr R.TCK.PKEY.LOADED 1).holdKey key

theorem State.pkeyLoad_loads {key : List Byte} (h : s.on R.TCK.STATUS.PAIR = false)
    (hb : keyUnwrap (s.per.kek.getD []) s.pkeyBlob = some key) : s.pkeyLoad = (s.withPairKey key, 0) := by
  refine (if_neg (ne_true_of_eq_false hn)).trans ((if_neg (ne_true_of_eq_false h)).trans ?_)
  rw [hb]
  rfl

end

theorem State.withPairKey_shows (s : State) (key : List Byte) : (s.withPairKey key).tack.key = some key ∧
    (s.withPairKey key).rd R.TCK.PKEY.LOADED = 1 ∧
    (s.withPairKey key).rd R.TCK.PKEY.KCV = keyCheck key % 2 ^ R.TCK.PKEY.KCV.width ∧ (s.withPairKey key).mem = s.mem := by
  have hmem : s.clearPkey.mem = s.mem := foldl_keeps _ State.mem _ (fun _ _ _ => State.clr_mem _ _ _) s
  rw [State.withPairKey, (State.holdKey_parts _ _).1, (State.holdKey_parts _ _).2, State.holdKey_rd, State.holdKey_rd,
    State.rd_wr_same, State.rd_wr_field _ _ _ _ _ _ (by decide), State.rd_wr_same, State.wr_mem, State.wr_mem]
  exact ⟨rfl, rfl, rfl, hmem⟩

/-! UNPAIR, HANDOVER and TAKEOVER as they take effect (R436, R442). -/

/-- The virtual addresses go back to none. -/
def State.noVirtual (s : State) : State :=
  [0, 1].foldl (fun (s : State) n => ((s.clr R.TCK.VMAC.ADDR n).clr R.TCK.VIP6_HI.ADDR_HI n).clr R.TCK.VIP6_LO.ADDR_LO n)
    ((s.clr R.TCK.VIP4.PORT0).clr R.TCK.VIP4.PORT1)

theorem State.noVirtual_rd (s : State) {g : Fld} (h : g.id ∉ [R.TCK.VMAC.ADDR, R.TCK.VIP6_HI.ADDR_HI, R.TCK.VIP6_LO.ADDR_LO,
    R.TCK.VIP4.PORT0, R.TCK.VIP4.PORT1].map Fld.id) (j : Nat) : s.noVirtual.rd g j = s.rd g j := by
  simp only [List.map_cons, List.map_nil, List.mem_cons, List.not_mem_nil, or_false, not_or] at h
  obtain ⟨hmac, hhi, hlo, h0, h1⟩ := h
  refine (foldl_keeps _ (State.rd · g j) _ (fun t n _ => ?_) _).trans ?_
  · rw [State.rd_clr_field _ _ _ _ _ hlo, State.rd_clr_field _ _ _ _ _ hhi, State.rd_clr_field _ _ _ _ _ hmac]
  · rw [State.rd_clr_field _ _ _ _ _ h1, State.rd_clr_field _ _ _ _ _ h0]

/-- The registers of a module whose pair ends. -/
def State.unpairShown (s : State) : State :=
  (((((s.endPartner.wr R.TCK.STATUS.PAIR 0).wr R.TCK.STATUS.ROLE 0).wr R.TCK.STATUS.FENCED 0).wr
    R.TCK.STATUS.FULL_RESYNC_DUE 0).noVirtual.wr R.TCK.RESYNC.TOTAL 0).wr R.TCK.RESYNC.DONE 0

theorem State.setTack_rd (s : State) (x : Tack) (g : Fld) (j : Nat) : ({ s with tack := x } : State).rd g j = s.rd g j := rfl

theorem State.unpairHere_rd (s : State) (g : Fld) (j : Nat) : s.unpairHere.rd g j = s.unpairShown.rd g j :=
  State.setTack_rd s.unpairShown _ g j

theorem State.unpairHere_shows (s : State) : s.unpairHere.rd R.TCK.STATUS.PAIR = 0 ∧ s.unpairHere.rd R.TCK.STATUS.ROLE = 0 ∧
    s.unpairHere.rd R.TCK.STATUS.FENCED = 0 ∧ s.unpairHere.tack.carries = false ∧ s.unpairHere.tack.resync = {} := by
  simp only [State.unpairHere_rd, State.unpairShown]
  simp (disch := decide) only [State.rd_wr_field, State.noVirtual_rd, State.rd_wr_same]
  exact ⟨rfl, rfl, rfl, rfl, rfl⟩

theorem State.handsOver_starts (s : State) : (s.handsOver.startChange 5 0).tack.handover = true ∧
    (s.handsOver.startChange 5 0).boot.target = 5 ∧ (s.handsOver.startChange 5 0).rd R.MOD.STATUS.BUSY = 1 ∧
    (s.handsOver.startChange 5 0).mem = s.mem := by
  obtain ⟨htarget, hbusy, hmem, -⟩ := s.handsOver.startChange_sets 5 0
  exact ⟨congrArg Tack.handover (State.tack_of_pairView (s.handsOver.startChange_shadow_pairView 0)), htarget, hbusy, hmem⟩

/-- A module that becomes primary changes its role and notes when; of the rest of the pair's registers nothing (R436). -/
theorem State.becomePrimary_rd (s : State) (asked : Bool) (g : Fld) (j : Nat) (hg : g.id ∉ changeIds) (hn : g.notFault = true) :
    (s.becomePrimary asked).rd g j = ((s.wr R.TCK.STATUS.ROLE 1).wr R.TCK.TAKEOVER_TICK.TICK s.tick).rd g j := by
  unfold State.becomePrimary
  dsimp only
  rw [State.rd_of_pairView (State.claimPorts_pairView _) g j hg hn]
  exact State.rd_of_pairView (State.leaveShadow_pairView _ _) g j hg hn

theorem State.breakPair_rd (s : State) (g : Fld) (j : Nat) (hp : g.id ≠ R.TCK.STATUS.PAIR.id)
    (hb : g.id ≠ R.TCK.STAT.BREAKS.id) : s.breakPair.rd g j = s.rd g j := by
  unfold State.breakPair
  split
  · rfl
  · rw [State.rd_bump_field _ _ _ _ _ _ hb, State.rd_wr_field _ _ _ _ _ _ hp]

/-- The pair that a takeover breaks, in the next epoch (R436). -/
def State.leftPair (s : State) : State := ((s.wr R.TCK.STATUS.EPOCH (s.rd R.TCK.STATUS.EPOCH + 1)).endPartner).breakPair

theorem State.leftPair_shows (s : State) : s.leftPair.rd R.TCK.STATUS.PAIR = 3 ∧
    s.leftPair.rd R.TCK.STATUS.EPOCH = (s.rd R.TCK.STATUS.EPOCH + 1) % 2 ^ 32 := by
  refine ⟨State.breakPair_pair _, ?_⟩
  rw [State.leftPair, State.breakPair_rd _ _ _ (by decide) (by decide),
    State.rd_of_pairView (State.endPartner_pairView _) _ _ (by decide) (by decide), State.rd_wr_same]
  rfl

/-- What the pair had still to send is gone. -/
def State.unsent (s : State) : State := { s with tack := { s.tack with unacked := [], openRecs := [] } }

theorem State.takeOver_form (s : State) (asked : Bool) : s.takeOver asked =
    (((s.leftPair.unsent.wr R.TCK.STATUS.FULL_RESYNC_DUE 1).becomePrimary asked).bump R.TCK.STAT.TAKEOVERS).raise
      Src.pairTakeover := rfl

theorem State.takeOver_shows (s : State) (asked : Bool) : (s.takeOver asked).rd R.TCK.STATUS.ROLE = 1 ∧
    (s.takeOver asked).rd R.TCK.STATUS.PAIR = 3 ∧
    (s.takeOver asked).rd R.TCK.STATUS.EPOCH = (s.rd R.TCK.STATUS.EPOCH + 1) % 2 ^ 32 ∧
    (s.takeOver asked).rd R.TCK.STATUS.FULL_RESYNC_DUE = 1 ∧ (s.takeOver asked).sticky Src.pairTakeover = true := by
  obtain ⟨hpair, hepoch⟩ := s.leftPair_shows
  have hunsent (g : Fld) (j : Nat) : s.leftPair.unsent.rd g j = s.leftPair.rd g j := rfl
  rw [s.takeOver_form]
  simp (disch := decide) only [State.rd_raise, State.rd_bump_field, State.becomePrimary_rd, State.rd_wr_field, State.rd_wr_same,
    hunsent]
  exact ⟨rfl, hpair, hepoch, rfl, State.raise_sticky _ _ _ _⟩

/-- Settles O50, command by command. -/
theorem pairCommands : Obligations.PairCommands := by
  intro s v path ha hp
  refine ⟨fun t => ⟨t.takeTckEn_on _, t.takeTckEn_off _, State.rd_take_same _ _ _ _⟩,
    fun hc => ?pair, fun hc => ?join, fun hc => ⟨?unpairDenied, ?unpairPartner, ?unpairLocal, s.unpairHere_shows⟩,
    fun hc => ?handover, fun hc => ?takeover, fun hc => ?claim, fun hc => ?pkey⟩
  case pair =>
    have hu : (1 : Nat) = 3 → s.unpair path v.toNat = none := fun h => absurd h (by decide)
    refine ⟨fun h => effect_tckCtrl ha rfl (State.setTckCtrl_refuses hp hc hu (State.tckCommand_pair_denied h) (by decide)),
      fun h1 h2 => ⟨fun h => effect_tckCtrl ha rfl
        (State.setTckCtrl_refuses hp hc hu (State.tckCommand_pair_unready h1 h2 h) (by decide)),
        fun h => ⟨effect_tckCtrl ha rfl (State.setTckCtrl_accepts hp hc hu (State.tckCommand_pair_asks h1 h2 h)), fun hl => ?_⟩⟩⟩
    rw [s.askPair_waits true hl]
  case join =>
    have hu : (2 : Nat) = 3 → s.unpair path v.toNat = none := fun h => absurd h (by decide)
    refine ⟨fun h => effect_tckCtrl ha rfl (State.setTckCtrl_refuses hp hc hu (State.tckCommand_join_denied h) (by decide)),
      fun h1 h2 hb => ⟨fun h => effect_tckCtrl ha rfl
        (State.setTckCtrl_refuses hp hc hu (State.tckCommand_join_unready h1 h2 hb h) (by decide)),
        fun h => ⟨effect_tckCtrl ha rfl (State.setTckCtrl_accepts hp hc hu (State.tckCommand_join_asks h1 h2 hb h)),
          fun hl => ?_⟩⟩⟩
    rw [s.askPair_waits false hl]
    rfl
  case unpairDenied =>
    intro hpair hf h
    have hu : s.mirroring = false ∨ s.on R.TCK.STATUS.LINK = false ∨ s.tack.carries = false :=
      h.elim (fun hr => .inl (State.mirroring_false_of_role hr)) (fun hl => .inr (.inl hl))
    exact effect_tckCtrl ha rfl (State.setTckCtrl_refuses hp hc (fun _ => State.unpair_none _ _ hu)
      (State.tckCommand_unpair_denied hpair hf h) (by decide))
  case unpairPartner =>
    intro hm hl hcar
    obtain ⟨t, ht⟩ := State.unpair_some (s := s) path v.toNat hm hl hcar
    refine ⟨t, ht, effect_tckCtrl ha rfl ?_⟩
    unfold State.setTckCtrl
    dsimp only
    rw [if_neg (not_not_intro hp), if_pos hc, ht]
  case unpairLocal =>
    intro h hlocal
    exact effect_tckCtrl ha rfl (State.setTckCtrl_accepts hp hc (fun _ => State.unpair_none _ _ h)
      (State.tckCommand_unpair_local hlocal))
  case handover =>
    have hu : (4 : Nat) = 3 → s.unpair path v.toNat = none := fun h => absurd h (by decide)
    exact ⟨fun h => effect_tckCtrl ha rfl (State.setTckCtrl_refuses hp hc hu (State.tckCommand_handover_denied h) (by decide)),
      fun hr hpair hl => ⟨_, effect_tckCtrl ha rfl (State.setTckCtrl_accepts hp hc hu (State.tckCommand_handover hr hpair hl)),
        s.handsOver_starts⟩⟩
  case takeover =>
    have hu : (5 : Nat) = 3 → s.unpair path v.toNat = none := fun h => absurd h (by decide)
    exact ⟨fun h => effect_tckCtrl ha rfl (State.setTckCtrl_refuses hp hc hu (State.tckCommand_takeover_denied h) (by decide)),
      fun hr hpair hs hb =>
        effect_tckCtrl ha rfl (State.setTckCtrl_accepts hp hc hu (State.tckCommand_takeover hr hpair hs hb)),
      s.takeOver_shows true⟩
  case claim =>
    have hu : (6 : Nat) = 3 → s.unpair path v.toNat = none := fun h => absurd h (by decide)
    exact ⟨fun h => effect_tckCtrl ha rfl (State.setTckCtrl_refuses hp hc hu (State.tckCommand_claim_denied h) (by decide)),
      fun hf hb => effect_tckCtrl ha rfl (State.setTckCtrl_accepts hp hc hu (State.tckCommand_claim hf hb))⟩
  case pkey =>
    have hu : (7 : Nat) = 3 → s.unpair path v.toNat = none := fun h => absurd h (by decide)
    exact ⟨fun h => effect_tckCtrl ha rfl (State.setTckCtrl_refuses hp hc hu (State.pkeyLoad_noLoad h) (by decide)),
      fun hn h => effect_tckCtrl ha rfl (State.setTckCtrl_refuses hp hc hu (State.pkeyLoad_paired hn h) (by decide)),
      fun hn h hb => effect_tckCtrl ha rfl (State.setTckCtrl_refuses hp hc hu (State.pkeyLoad_badBlob hn h hb) (by decide)),
      fun key hn h hb =>
        ⟨_, effect_tckCtrl ha rfl (State.setTckCtrl_accepts hp hc hu (State.pkeyLoad_loads hn h hb)), s.withPairKey_shows key⟩⟩

end Sys2Proof.Machine
end

section
/-! Fault injection, the watchdog, ALIVE and the entropy source (13 R315, 19 R446, R450-R453, R456). -/

namespace Sys2Proof.Machine

/-! Fault injection (R456). -/

theorem injectUnit_reserved {n : Nat} (u : Nat) (h : faultReserved n = true) : injectUnit n u = none := by
  unfold injectUnit
  rw [Option.isNone_iff_eq_none.mp h]

section
variable {s : State} {v : Nat} (hgo : part v R.FLT.INJECT.GO = 1)
include hgo

theorem State.writeInject_go : s.writeInject v =
    if s.mode ≠ modeMaint then (s, stDenied)
    else match injectUnit (part v R.FLT.INJECT.SOURCE) (part v R.FLT.INJECT.UNIT) with
      | none => (s, stMalformed)
      | some u => (s.raise (part v R.FLT.INJECT.SOURCE) u true, stOk) := by
  unfold State.writeInject
  rw [hgo, if_neg Nat.one_ne_zero]
  rfl

theorem State.writeInject_denied (hm : s.mode ≠ modeMaint) : s.writeInject v = (s, stDenied) := by
  rw [s.writeInject_go hgo, if_pos hm]

theorem State.writeInject_malformed (hm : s.mode = modeMaint)
    (hu : injectUnit (part v R.FLT.INJECT.SOURCE) (part v R.FLT.INJECT.UNIT) = none) :
    s.writeInject v = (s, stMalformed) := by
  rw [s.writeInject_go hgo, if_neg (not_not_intro hm), hu]

theorem State.writeInject_raises {b : Block} (hm : s.mode = modeMaint)
    (hu : injectUnit (part v R.FLT.INJECT.SOURCE) (part v R.FLT.INJECT.UNIT) = some b) :
    s.writeInject v = (s.raise (part v R.FLT.INJECT.SOURCE) b true, stOk) := by
  rw [s.writeInject_go hgo, if_neg (not_not_intro hm), hu]

end

/-! The watchdog (R450, R451). -/

section
variable {s : State} {v : Nat}

/-- A period out of range that is not the one in force. -/
def State.refusesPeriod (s : State) (v : Nat) : Prop :=
  part v R.FLT.WDT.PERIOD_MS ≠ s.rd R.FLT.WDT.PERIOD_MS ∧
    (part v R.FLT.WDT.PERIOD_MS < 10 ∨ 10000 < part v R.FLT.WDT.PERIOD_MS)

theorem State.kick_refused (h : s.refusesPeriod v) : s.kick v = s := by
  unfold State.kick
  exact if_pos h

theorem State.kick_arms (h : ¬ s.refusesPeriod v) (hk : part v R.FLT.WDT.KICK = 1) : s.kick v =
    ((s.wr R.FLT.WDT.PERIOD_MS (part v R.FLT.WDT.PERIOD_MS)).wr R.FLT.WDT.ARMED 1).wdtFree := by
  unfold State.kick
  exact (if_neg h).trans (if_pos hk)

theorem State.refusesPeriod_of_range (h : 10 ≤ part v R.FLT.WDT.PERIOD_MS) (h' : part v R.FLT.WDT.PERIOD_MS ≤ 10000) :
    ¬ s.refusesPeriod v := by
  rintro ⟨-, hr⟩
  omega

theorem execKick_form (s : State) (v : BitVec 64) : exec (.kick v) s =
    live s (if s.thimble.resetting = true ∨ ¬ s.sysLocked = true then s else s.kick v.toNat) := rfl

theorem effect_kick_rests (v : BitVec 64) (ha : s.awake = true) (h : s.thimble.resetting = true ∨ s.sysLocked = false) :
    effect (.kick v) s s :=
  effect_of_live_eq ha (execKick_form s v) (if_pos (h.imp_right (by simp)))

theorem effect_kick (v : BitVec 64) (ha : s.awake = true) (hr : s.thimble.resetting = false) (hl : s.sysLocked = true) :
    effect (.kick v) s (s.kick v.toNat) :=
  effect_of_live_eq ha (execKick_form s v) (if_neg (by simp [hr, hl]))

end

/-- A field outside FLT.ALIVE reads as before when the watchdog's hold ends. -/
theorem State.rd_wdtFree (s : State) (g : Fld) (j : Nat) (h : g.id ∉ aliveIds) (hw : g.id ≠ R.FLT.ALIVE.WDT_HELD.id) :
    s.wdtFree.rd g j = s.rd g j := by
  rw [State.wdtFree, State.rd_aliveFollow_other _ _ _ h, State.rd_wr_field _ _ _ _ _ _ hw]

theorem State.rd_wdtFree_held (s : State) : s.wdtFree.rd R.FLT.ALIVE.WDT_HELD = 0 := by
  rw [State.wdtFree, State.rd_aliveFollow_other _ _ _ (by decide), State.rd_wr_same]
  rfl

@[simp] theorem State.wdtFree_mem (s : State) : s.wdtFree.mem = s.mem := by simp [State.wdtFree]
@[simp] theorem State.wdtFree_thimble (s : State) : s.wdtFree.thimble = s.thimble := by simp [State.wdtFree]
@[simp] theorem State.wdtFree_guard (s : State) : s.wdtFree.guard = s.guard := by simp [State.wdtFree]

/-- A KICK arms the watchdog with its period and ends the hold on ALIVE, in registers alone. -/
theorem State.kick_armed {s : State} {v : Nat} (h : ¬ s.refusesPeriod v) (hk : part v R.FLT.WDT.KICK = 1) :
    (s.kick v).rd R.FLT.WDT.ARMED = 1 ∧ (s.kick v).rd R.FLT.WDT.PERIOD_MS = part v R.FLT.WDT.PERIOD_MS ∧
    (s.kick v).rd R.FLT.ALIVE.WDT_HELD = 0 ∧ (s.kick v).mem = s.mem := by
  have hp : part v R.FLT.WDT.PERIOD_MS % 2 ^ R.FLT.WDT.PERIOD_MS.width = part v R.FLT.WDT.PERIOD_MS := Nat.mod_mod _ _
  rw [State.kick_arms h hk]
  refine ⟨?armed, ?period, State.rd_wdtFree_held _, by simp⟩
  case armed =>
    rw [State.rd_wdtFree _ _ _ (by decide) (by decide), State.rd_wr_same]
    rfl
  case period =>
    rw [State.rd_wdtFree _ _ _ (by decide) (by decide), State.rd_wr_field _ _ _ _ _ _ (by decide), State.rd_wr_same, hp]

/-- The numbers of the fields that the record of a fault writes. -/
def faultRecordIds : List Nat := aliveIds ++ lastIds ++
  [R.FLT.PIN_HOLD0.HOLD, R.FLT.PIN_HOLD1.HOLD, R.FLT.STICKY0.STICKY, R.FLT.STICKY1.STICKY, R.FLT.SRC.COUNT].map Fld.id

/-- A raise leaves every field as it was that is no part of a fault's record. -/
theorem State.rd_raise_unrecorded (s : State) (i : Nat) (u : Block) (b : Bool) (g : Fld) (j : Nat)
    (h : g.id ∉ faultRecordIds) : (s.raise i u b).rd g j = s.rd g j := by
  simp only [faultRecordIds, List.mem_append, List.map_cons, List.map_nil, List.mem_cons, List.not_mem_nil, or_false,
    not_or] at h
  obtain ⟨⟨halive, hlast⟩, h0, h1, hs0, hs1, hcount⟩ := h
  have hsticky : g.id ≠ (stickyField i).id := by unfold stickyField; split <;> assumption
  calc (s.raise i u b).rd g j = (s.markFault i b).rd g j := State.rd_congr _ _ (s.raise_regs i u b) g j
    _ = ((s.counted i).recordLast i b).rd g j := s.rd_markFault_recorded i b g j halive h0 h1
    _ = (s.counted i).rd g j := State.rd_recordLast_other _ _ _ _ _ hlast
    _ = s.rd g j := by
      rw [s.rd_counted, State.rd_bump_field _ _ _ _ _ _ hcount, State.wrBit, State.rd_wr_field _ _ _ _ _ _ hsticky]

/-- What an expiry shows: its count, and the hold on ALIVE (R450, R451). -/
def State.showExpiry (s : State) : State := ((s.bump R.FLT.WDT.EXPIRIES).wr R.FLT.ALIVE.WDT_HELD 1).aliveFollow

/-- The Thimble remembers an expiry, and whether its reset will follow (R450, R451). -/
def State.rememberExpiry (s : State) : State :=
  { s with thimble := { s.thimble with lastExpiry := some s.tick,
                                       expiryReset := s.rd R.FLT.SRC.REACTION Src.thimbleWdt == 3 } }

theorem State.rd_rememberExpiry (s : State) (g : Fld) (j : Nat) : s.rememberExpiry.rd g j = s.rd g j := rfl

/-- An expiry up to its raises. -/
def State.noteExpiry (s : State) : State := s.showExpiry.rememberExpiry

/-- The last expiry lies no more than a second back. -/
def State.expiredLately (s : State) : Bool :=
  match s.thimble.lastExpiry with | some t => decide (s.tick - t ≤ 1000000000) | none => false

theorem State.wdtExpire_form (s : State) : s.wdtExpire =
    if s.expiredLately then (s.noteExpiry.raise Src.thimbleWdt).raise Src.thimbleLockup
    else s.noteExpiry.raise Src.thimbleWdt := by
  unfold State.wdtExpire State.noteExpiry State.rememberExpiry State.showExpiry State.expiredLately
  rfl

theorem State.rd_noteExpiry (s : State) :
    s.noteExpiry.rd R.FLT.WDT.EXPIRIES = min (s.rd R.FLT.WDT.EXPIRIES + 1) R.FLT.WDT.EXPIRIES.max := by
  rw [State.noteExpiry, State.rd_rememberExpiry, State.showExpiry,
    State.rd_aliveFollow_other _ _ _ (by decide), State.rd_wr_field _ _ _ _ _ _ (by decide), State.rd_bump_same]

theorem State.noteExpiry_frame (s : State) :
    s.noteExpiry.thimble.lastExpiry = some s.tick ∧ s.noteExpiry.mem = s.mem := by
  simp [State.noteExpiry, State.rememberExpiry, State.showExpiry]

/-- An expiry is counted, noted with its tick, and raised; memory stays. -/
theorem State.wdtExpire_shows (s : State) : s.wdtExpire.sticky Src.thimbleWdt = true ∧
    s.wdtExpire.rd R.FLT.WDT.EXPIRIES = min (s.rd R.FLT.WDT.EXPIRIES + 1) R.FLT.WDT.EXPIRIES.max ∧
    s.wdtExpire.thimble.lastExpiry = some s.tick ∧ s.wdtExpire.mem = s.mem := by
  obtain ⟨hlast, hmem⟩ := s.noteExpiry_frame
  have hwdt := s.noteExpiry.raise_sticky Src.thimbleWdt .other false
  rw [s.wdtExpire_form]
  split
  · refine ⟨State.stickyWithin_raise _ _ _ _ _ hwdt, ?_, by simp [hlast], by simp [hmem]⟩
    rw [State.rd_raise_unrecorded _ _ _ _ _ _ (by decide), State.rd_raise_unrecorded _ _ _ _ _ _ (by decide), s.rd_noteExpiry]
  · refine ⟨hwdt, ?_, by simp [hlast], by simp [hmem]⟩
    rw [State.rd_raise_unrecorded _ _ _ _ _ _ (by decide), s.rd_noteExpiry]

/-- A second expiry within a second raises THIMBLE_LOCKUP. -/
theorem State.wdtExpire_lockup {s : State} {t : Nat} (h : s.thimble.lastExpiry = some t) (ht : s.tick - t ≤ 1000000000) :
    s.wdtExpire.sticky Src.thimbleLockup = true := by
  have hlate : s.expiredLately = true := by rw [State.expiredLately, h]; exact decide_eq_true ht
  rw [s.wdtExpire_form, if_pos hlate]
  exact State.raise_sticky _ _ _ _

theorem effect_watchdogExpiry {s : State} (ha : s.awake = true) (h : s.on R.FLT.WDT.ARMED = true) :
    effect .watchdogExpiry s s.wdtExpire := effect_of_guard ha rfl h

/-! The end of the Thimble's reset (R446, R451, R334). -/

/-- The Thimble runs again, and a rekey goes on. -/
def State.thimbleRuns (s : State) : State :=
  { s with thimble := { s.thimble with resetting := false, expiryReset := false },
           guard := { s.guard with rekeyPaused := false } }

theorem execThimbleResetDone_form (s : State) : exec .thimbleResetDone s =
    live s (if s.thimble.resetting = true ∧ s.sysLocked = true then
      (if s.thimble.expiryReset then s.thimbleRuns.wdtFree else s.thimbleRuns) else s) := rfl

/-- The end of the Thimble's reset, with the watchdog's hold that waited for it. -/
theorem effect_thimbleResetDone {s : State} (ha : s.awake = true) (hr : s.thimble.resetting = true) (hl : s.sysLocked = true) :
    effect .thimbleResetDone s (if s.thimble.expiryReset then s.thimbleRuns.wdtFree else s.thimbleRuns) :=
  effect_of_guard ha (execThimbleResetDone_form s) ⟨hr, hl⟩

theorem State.thimbleRuns_shows (s : State) (b : Bool) :
    (if b then s.thimbleRuns.wdtFree else s.thimbleRuns).thimble.resetting = false ∧
    (if b then s.thimbleRuns.wdtFree else s.thimbleRuns).guard.rekeyPaused = false ∧
    (if b then s.thimbleRuns.wdtFree else s.thimbleRuns).mem = s.mem := by
  cases b <;> simp [State.thimbleRuns]

/-! The ALIVE output (R453). -/

/-- ALIVE at its other level. -/
def State.aliveFlip (s : State) : State :=
  let t := s.put R.FLT.ALIVE.LEVEL (!s.on R.FLT.ALIVE.LEVEL)
  { t with pins := { t.pins with aliveEdge := t.tick } }

theorem State.aliveFlip_shows (s : State) :
    s.aliveFlip.rd R.FLT.ALIVE.LEVEL = (if s.rd R.FLT.ALIVE.LEVEL = 0 then 1 else 0) ∧
    s.aliveFlip.pins.aliveEdge = s.tick ∧ s.aliveFlip.mem = s.mem := by
  refine ⟨?_, by simp [State.aliveFlip, State.put], by simp [State.aliveFlip, State.put]⟩
  refine (State.rd_congr _ (s.wr R.FLT.ALIVE.LEVEL (!s.on R.FLT.ALIVE.LEVEL).toNat) rfl _ _).trans ?_
  rw [State.rd_wr_same, State.on]
  by_cases h : s.rd R.FLT.ALIVE.LEVEL = 0
  · rw [h, if_pos rfl]; rfl
  · rw [if_neg h, bne_iff_ne.mpr h]; rfl

/-- What holds ALIVE is read as before once PIN_HELD is shown. -/
theorem State.aliveHeld_put (s : State) (b : Bool) :
    (s.put R.FLT.ALIVE.PIN_HELD b).aliveHeld = s.aliveHeld := by
  simp only [State.aliveHeld, State.on, State.put]
  rw [State.rd_wr_field _ _ _ _ _ _ (by decide), State.rd_wr_field _ _ _ _ _ _ (by decide),
    State.rd_wr_field _ _ _ _ _ _ (by decide), State.rd_wr_field _ _ _ _ _ _ (by decide)]

/-- The level and the toggling of ALIVE. -/
def State.setAlive (s : State) (v : Nat) : State := (s.wr R.FLT.ALIVE.LEVEL v).wr R.FLT.ALIVE.TOGGLING v

theorem State.setAlive_shows (s : State) (v : Nat) :
    (s.setAlive v).rd R.FLT.ALIVE.LEVEL = v % 2 ∧ (s.setAlive v).rd R.FLT.ALIVE.TOGGLING = v % 2 := by
  rw [State.setAlive, State.rd_wr_same, State.rd_wr_field _ _ _ _ _ _ (by decide), State.rd_wr_same]
  exact ⟨rfl, rfl⟩

theorem State.aliveFollow_held {s : State} (h : s.aliveHeld = true) :
    s.aliveFollow = (s.put R.FLT.ALIVE.PIN_HELD (s.on R.FLT.PIN_HOLD0.HOLD || s.on R.FLT.PIN_HOLD1.HOLD)).setAlive 0 := by
  unfold State.aliveFollow
  exact if_pos ((s.aliveHeld_put _).trans h)

theorem State.aliveFollow_rises {s : State} (h : s.aliveHeld = false) (ht : s.on R.FLT.ALIVE.TOGGLING = false)
    (hc : s.clocks.stopped = false) : s.aliveFollow.regs =
    ((s.put R.FLT.ALIVE.PIN_HELD (s.on R.FLT.PIN_HOLD0.HOLD || s.on R.FLT.PIN_HOLD1.HOLD)).setAlive 1).regs := by
  unfold State.aliveFollow
  dsimp only
  rw [if_neg (by rw [State.aliveHeld_put, h]; exact Bool.false_ne_true), if_neg ?quiet]
  · rfl
  case quiet =>
    rw [State.on, State.put, State.rd_wr_field _ _ _ _ _ _ (by decide), State.wr_clocks, hc]
    simpa [State.on] using ht

/-! The entropy source (R452). -/

/-- The source has failed a health test. -/
def State.entropyFails (s : State) : State := { s with guard := { s.guard with entropyBad := true, entropyPasses := 0 } }

theorem State.entropyTest_fails (s : State) :
    (s.entropyTest false).guard.entropyBad = true ∧ (s.entropyTest false).guard.entropyPasses = 0 ∧
    (s.entropyTest false).sticky Src.entropyFail = true ∧ (s.entropyTest false).noLoad = true := by
  have hform : s.entropyTest false = s.entropyFails.raise Src.entropyFail := rfl
  have hbad : (s.entropyTest false).guard.entropyBad = true := by rw [hform, State.raise_guard]; rfl
  refine ⟨hbad, by rw [hform, State.raise_guard]; rfl, hform ▸ State.raise_sticky _ _ _ _, ?_⟩
  rw [State.noLoad, hbad]
  simp

section
variable {s : State}

theorem State.entropyTest_good (h : s.guard.entropyBad = false) : s.entropyTest true = s := by
  simp [State.entropyTest, h]

theorem State.entropyTest_recovers (h : s.guard.entropyBad = true) (hn : 1023 ≤ s.guard.entropyPasses) :
    s.entropyTest true = { s with guard := { s.guard with entropyBad := false, entropyPasses := 0 } } := by
  have h' : 1024 ≤ s.guard.entropyPasses + 1 := by omega
  simp [State.entropyTest, h, h']

theorem State.entropyTest_counts (h : s.guard.entropyBad = true) (hn : s.guard.entropyPasses < 1023) :
    s.entropyTest true = { s with guard := { s.guard with entropyPasses := s.guard.entropyPasses + 1 } } := by
  have h' : ¬ 1024 ≤ s.guard.entropyPasses + 1 := by omega
  simp [State.entropyTest, h, h']

end

theorem execWatchdogHoldTimeout_form (s : State) : exec .watchdogHoldTimeout s =
    live s (if s.on R.FLT.ALIVE.WDT_HELD = true ∧ ¬ s.thimble.expiryReset = true then s.wdtFree else s) := rfl

/-- Settles O52: injection, the watchdog, ALIVE and the entropy source, each by the lemmas above. -/
theorem faultCommands : Obligations.FaultCommands := by
  intro s ha
  refine ⟨fun v path hp hgo => ⟨fun hm => ?denied, fun hm hu => ?malformed, fun b hm hu => ?raised⟩,
    fun n u h => injectUnit_reserved u h, fun v => ⟨fun h => effect_kick_rests v ha h, fun hr hl hne hrange => ?refused,
      fun hr hl hlo hhi hk => ⟨_, effect_kick v ha hr hl, State.kick_armed (State.refusesPeriod_of_range hlo hhi) hk⟩⟩,
    fun h => effect_of_no_guard ha rfl (by simp [h]), fun h => ?expiry, fun h => ?still, fun hr hl => ?done,
    fun h => effect_of_no_guard ha rfl (by simp [h]), fun h => ⟨s.aliveFlip, effect_of_guard ha rfl h, s.aliveFlip_shows⟩,
    fun h => ?stays, fun h hx => effect_of_guard ha (execWatchdogHoldTimeout_form s) ⟨h, by simp [hx]⟩, fun h => ?low,
    fun h ht hc => ?high, ⟨_, effect_of_live ha rfl, s.entropyTest_fails⟩,
    fun h => effect_of_live_eq ha rfl (State.entropyTest_good h),
    fun h hn => effect_of_live_eq ha rfl (State.entropyTest_recovers h hn),
    fun h hn => effect_of_live_eq ha rfl (State.entropyTest_counts h hn)⟩
  case denied => exact effect_setup_to ha hp rfl (State.writeInject_denied hgo hm)
  case malformed => exact effect_setup_to ha hp rfl (State.writeInject_malformed hgo hm hu)
  case raised => exact effect_setup_to ha hp rfl (State.writeInject_raises hgo hm hu)
  case refused =>
    have he := effect_kick v ha hr hl
    rwa [State.kick_refused ⟨hne, hrange⟩] at he
  case expiry =>
    obtain ⟨hsticky, hcount, hlast, hmem⟩ := s.wdtExpire_shows
    exact ⟨_, effect_watchdogExpiry ha h, hsticky, hcount, hlast, hmem, fun t hlt ht => State.wdtExpire_lockup hlt ht⟩
  case still => exact effect_of_no_guard ha (execThimbleResetDone_form s) (by rcases h with h | h <;> simp [h])
  case done =>
    obtain ⟨hreset, hpaused, hmem⟩ := s.thimbleRuns_shows s.thimble.expiryReset
    exact ⟨_, effect_thimbleResetDone ha hr hl, hreset, hpaused, hmem, fun hx => by rw [hx]; rfl⟩
  case stays => exact effect_of_no_guard ha (execWatchdogHoldTimeout_form s) (by rcases h with h | h <;> simp [h])
  case low => exact State.aliveFollow_held h ▸ State.setAlive_shows _ 0
  case high =>
    have hregs := State.aliveFollow_rises h ht hc
    exact ⟨(State.rd_congr _ _ hregs _ _).trans (State.setAlive_shows _ 1).1,
      (State.rd_congr _ _ hregs _ _).trans (State.setAlive_shows _ 1).2⟩

end Sys2Proof.Machine
end

section
/-! The commands that store nothing leave every stored byte of the stack as it was (13 R318). -/

namespace Sys2Proof.Machine

/-- A guarded effect keeps the stored bytes where both branches do. -/
theorem ite_cells {p : Prop} [Decidable p] {s t u : State} (ht : t.mem.cells = s.mem.cells)
    (hu : u.mem.cells = s.mem.cells := by rfl) : (if p then t else u).mem.cells = s.mem.cells := by
  split
  · exact ht
  · exact hu

/-! What the ports send. -/

@[simp] theorem State.countTx_cells (s : State) (q n k : Nat) : (s.countTx q n k).mem.cells = s.mem.cells := by
  unfold State.countTx
  exact ite_cells (by simp)

@[simp] theorem State.transmit_cells (s : State) (q : Nat) (r : Req) : (s.transmit q r).mem.cells = s.mem.cells :=
  foldl_cells _ (fun s p => s.sendPacket_cells q p) _ s

@[simp] theorem State.retransmit_cells (s : State) (q : Nat) : (s.retransmit q).mem.cells = s.mem.cells :=
  foldl_cells _ (fun s r => by simp) _ s

@[simp] theorem State.sendAck_cells (s : State) (q psn : Nat) : (s.sendAck q psn).mem.cells = s.mem.cells := by
  unfold State.sendAck
  simp

@[simp] theorem State.putFrame_cells (s : State) (p : Nat) (f : TxFrame) (n : Nat) :
    (s.putFrame p f n).mem.cells = s.mem.cells := by
  unfold State.putFrame
  exact ite_cells (by simp)

@[simp] theorem State.sendFrame_cells (s : State) (p : Nat) (f : TxFrame) (n : Nat) :
    (s.sendFrame p f n).mem.cells = s.mem.cells := by
  unfold State.sendFrame
  split
  · rfl
  · exact s.putFrame_cells p f n

@[simp] theorem State.sendPfc_cells (s : State) (p k q : Nat) : (s.sendPfc p k q).mem.cells = s.mem.cells := by
  simp [State.sendPfc]

theorem State.serveReady_cells (k : Nat) (s : State) (last : Nat) (xs : List (Nat × TxPacket)) :
    (State.serveReady k s last xs).1.mem.cells = s.mem.cells := by
  induction k generalizing s last xs with
  | zero => rfl
  | succ k ih =>
    unfold State.serveReady
    split
    · rfl
    · rw [ih, State.putPacket_cells]

@[simp] theorem State.resumePort_cells (s : State) (p : Nat) : (s.resumePort p).mem.cells = s.mem.cells := by
  unfold State.resumePort
  split
  · rfl
  · have hframes (t : State) (l : List (TxFrame × Nat)) :
        (l.foldl (fun (s : State) e => s.putFrame p e.1 e.2) t).mem.cells = t.mem.cells :=
      foldl_cells (fun (s : State) (e : TxFrame × Nat) => s.putFrame p e.1 e.2)
        (fun (s : State) (e : TxFrame × Nat) => s.putFrame_cells p e.1 e.2) l t
    exact (State.serveReady_cells _ _ _ _).trans (hframes _ _)

@[simp] theorem State.pauseEnds_cells (s : State) (p k : Nat) : (s.pauseEnds p k).mem.cells = s.mem.cells := by
  simp [State.pauseEnds]

@[simp] theorem State.claimPort_cells (s : State) (p : Nat) : (s.claimPort p).mem.cells = s.mem.cells := by
  unfold State.claimPort
  dsimp only
  split
  · rfl
  · split <;> split <;> simp

@[simp] theorem State.rnrOver_cells (s : State) (q : Nat) : (s.rnrOver q).mem.cells = s.mem.cells := by
  unfold State.rnrOver State.drainQp
  exact ite_cells (by simp)

/-! What the links and the lanes report. -/

@[simp] theorem State.linkFault_cells (s : State) (p : Nat) (c : LinkCause) : (s.linkFault p c).mem.cells = s.mem.cells := by
  cases c <;> rfl

theorem State.abandonAttempt_cells (s : State) (p : Nat) (lanes : BitVec 4) :
    (s.abandonAttempt p lanes).mem.cells = s.mem.cells := by
  unfold State.abandonAttempt
  dsimp only
  exact ite_cells rfl (ite_cells (by simp) (by simp))

theorem State.assertLane_cells (s : State) (l : Nat) (now sticky : Fld) (src : Nat) :
    (s.assertLane l now sticky src).mem.cells = s.mem.cells := by
  unfold State.assertLane
  exact ite_cells rfl (by simp)

/-! What goes over the pair link. -/

@[simp] theorem State.sendStitch_cells (s : State) (t : TackOut) (n : Nat) : (s.sendStitch t n).mem.cells = s.mem.cells := by
  rw [(s.sendStitch_frame t n).2.1]

@[simp] theorem State.gotStitch_cells (s : State) (n : Nat) : (s.gotStitch n).mem.cells = s.mem.cells := by
  simp [State.gotStitch]

@[simp] theorem State.endAttempt_cells (s : State) : s.endAttempt.mem.cells = s.mem.cells := by
  unfold State.endAttempt State.freshAttempt
  simp

@[simp] theorem State.sendMarker_cells (s : State) : s.sendMarker.mem.cells = s.mem.cells := by
  simp [State.sendMarker]

@[simp] theorem State.retrain_cells (s old : State) : (s.retrain old).mem.cells = s.mem.cells := by
  unfold State.retrain State.sendTrain
  exact ite_cells (by simp)

@[simp] theorem State.decideLanes_cells (s : State) : s.decideLanes.mem.cells = s.mem.cells := by
  unfold State.decideLanes
  split
  · exact ite_cells rfl (ite_cells (by simp) (ite_cells (by simp)))
  · rfl

theorem State.writeAlign_cells (s : State) (v : Nat) : (s.writeAlign v).1.mem.cells = s.mem.cells := by
  unfold State.writeAlign State.accept
  dsimp only
  split <;> rfl

theorem State.heartbeat_cells (s : State) (h : Heartbeat) : (s.heartbeat h).mem.cells = s.mem.cells := by
  unfold State.heartbeat
  dsimp only
  split <;> simp

/-! Clocks, pins, the watchdog and the OTP. -/

@[simp] theorem State.setClocks_cells (s : State) (f : Clocks → Clocks) : (s.setClocks f).mem.cells = s.mem.cells := rfl

@[simp] theorem State.stopClocks_cells (s : State) : s.stopClocks.mem.cells = s.mem.cells := rfl

theorem State.holdover_cells (s : State) (k : Nat) : (s.holdover k).mem.cells = s.mem.cells := by
  unfold State.holdover
  dsimp only
  exact ite_cells rfl (by simp)

theorem State.backupLost_cells (s : State) : s.backupLost.mem.cells = s.mem.cells := by
  unfold State.backupLost State.startSwitch
  dsimp only
  exact ite_cells (by simp) (ite_cells (by simp) (by simp))

@[simp] theorem State.chatter_cells (s : State) (b : Bool) : (s.chatter b).mem.cells = s.mem.cells := by
  unfold State.chatter
  exact ite_cells (by simp)

@[simp] theorem State.fixStraps_cells (s : State) : s.fixStraps.mem.cells = s.mem.cells := by
  simp [State.fixStraps]

theorem State.leak_cells (s : State) (c : Nat) : (s.leak c).mem.cells = s.mem.cells := by
  unfold State.leak
  exact ite_cells (by simp) (by simp)

theorem State.kick_cells (s : State) (v : Nat) : (s.kick v).mem.cells = s.mem.cells := by
  unfold State.kick
  exact ite_cells rfl (ite_cells (by simp) (by simp))

theorem State.entropyTest_cells (s : State) (b : Bool) : (s.entropyTest b).mem.cells = s.mem.cells := by
  unfold State.entropyTest
  exact ite_cells (ite_cells (ite_cells rfl)) (by simp)

@[simp] theorem State.otpEnd_cells (s : State) (r : Nat) : (s.otpEnd r).mem.cells = s.mem.cells := rfl

@[simp] theorem State.otpStore_cells (s : State) (w v : Nat) : (s.otpStore w v).mem.cells = s.mem.cells := rfl

theorem State.wordProgrammed_cells (s : State) (verified supplyOk : Bool) :
    (s.wordProgrammed verified supplyOk).mem.cells = s.mem.cells := by
  unfold State.wordProgrammed
  dsimp only
  split
  · exact ite_cells (ite_cells (by simp) (ite_cells (by simp) (by simp))) (by simp)
  · rfl

/-- Every command that stores nothing has an effect, and it keeps the stored bytes. -/
theorem exec_storesNothing {c : Instr} (s : State) (h : storesNothing c = true) :
    ∃ u : State, exec c s = live s u ∧ u.mem.cells = s.mem.cells := by
  cases c with
  | strapSample x => exact ⟨_, rfl, ite_cells rfl (ite_cells (by simp))⟩
  | bootRefclkTimeout => exact ⟨_, rfl, ite_cells (by simp)⟩
  | pllHoldover k => exact ⟨_, rfl, s.holdover_cells k⟩
  | clkBackupLost => exact ⟨_, rfl, ite_cells s.backupLost_cells⟩
  | bringupAbandon p => exact ⟨_, rfl, s.abandonAttempt_cells _ _⟩
  | linkDown p cause => exact ⟨_, rfl, ite_cells (by simp)⟩
  | losDeassert l => exact ⟨_, rfl, rfl⟩
  | lolAssert l => exact ⟨_, rfl, s.assertLane_cells _ _ _ _⟩
  | lolDeassert l => exact ⟨_, rfl, rfl⟩
  | pauseExpiry p k => exact ⟨_, rfl, s.pauseEnds_cells p k⟩
  | pfcXoff p k => exact ⟨_, rfl, ite_cells (by simp)⟩
  | pfcRepeat p k => exact ⟨_, rfl, ite_cells (by simp)⟩
  | pfcXon p k => exact ⟨_, rfl, ite_cells (by simp)⟩
  | prbsCheckerLock l => exact ⟨_, rfl, ite_cells rfl⟩
  | ackDelayExpiry q => exact ⟨_, rfl, by split <;> simp⟩
  | rnrWaitExpiry q => exact ⟨_, rfl, s.rnrOver_cells q⟩
  | rateStep q => exact ⟨_, rfl, ite_cells rfl⟩
  | boltCreateDone b => exact ⟨_, rfl, ite_cells rfl⟩
  | smbTimeout => exact ⟨_, rfl, rfl⟩
  | smbAlertResponse => exact ⟨_, rfl, ite_cells rfl⟩
  | bucketLeak => exact ⟨_, rfl, foldl_cells _ State.leak_cells _ s⟩
  | scrubLapWarn => exact ⟨_, rfl, ite_cells (by simp)⟩
  | sramWalk r =>
    obtain ⟨n, bad⟩ := r
    cases bad with
    | nil => exact ⟨_, rfl, rfl⟩
    | cons w ws => nomatch h
  | thimbleFetchUc k => exact ⟨_, rfl, by simp⟩
  | tackBringupTimeout => exact ⟨_, rfl, ite_cells (by simp)⟩
  | alignStart v => exact ⟨_, rfl, s.writeAlign_cells _⟩
  | stitchHeartbeat b => exact ⟨_, rfl, ite_cells (s.heartbeat_cells b)⟩
  | markerSend => exact ⟨_, rfl, ite_cells s.sendMarker_cells⟩
  | heartbeatSend => exact ⟨_, rfl, ite_cells (s.sendStitch_cells _ _)⟩
  | syncComplete => exact ⟨_, rfl, ite_cells rfl⟩
  | addressClaimRepeat => exact ⟨_, rfl, ite_cells rfl (by simp [State.claimPorts])⟩
  | pairFenced => exact ⟨_, rfl, ite_cells (by simp)⟩
  | kick v => exact ⟨_, rfl, ite_cells rfl (s.kick_cells _)⟩
  | watchdogExpiry => exact ⟨_, rfl, ite_cells (by rw [s.wdtExpire_shows.2.2.2])⟩
  | thimbleResetDone => exact ⟨_, rfl, ite_cells (ite_cells (by simp))⟩
  | aliveToggle => exact ⟨_, rfl, ite_cells (by simp)⟩
  | watchdogHoldTimeout => exact ⟨_, rfl, ite_cells (by simp)⟩
  | otpWordProgrammed b b' => exact ⟨_, rfl, s.wordProgrammed_cells b b'⟩
  | entropyHealthTest b => exact ⟨_, rfl, s.entropyTest_cells b⟩
  | trainStitchReceived t => exact ⟨_, rfl, ite_cells (by simp)⟩
  | trstNEdge => exact ⟨_, rfl, State.chatter_cells _ _⟩
  | _ => nomatch h

/-- Settles O60: the effect keeps the stored bytes, and so does the end of the command. -/
theorem stackUnchanged : Obligations.StackUnchanged := by
  intro c s hc
  obtain ⟨u, hexec, hcells⟩ := exec_storesNothing s hc
  suffices h : ∃ t, live s u = .next t ∧ t.mem.cells = s.mem.cells by
    obtain ⟨t, ht, hm⟩ := h
    exact ⟨t, hexec.trans ht, hm, fun k => by rw [hm]⟩
  cases ha : s.awake with
  | true => exact ⟨_, live_awake s u ha, (u.ends_cells s).trans hcells⟩
  | false => exact ⟨_, live_asleep s u ha, rfl⟩

end Sys2Proof.Machine
end

section
/-! Rounds, sweeps from start to commit, and the repairs of a rotation point (02 R50, 16 R375-R384, 17 R394). -/

namespace Sys2Proof.Machine

/-! The thresholds (R394). -/

section
variable {s : State} {set clear : Nat}

theorem State.threshold_set (was : Bool) (h : 4 * (set : Int) ≤ hottest s.hem.gov) : s.threshold was set clear = true := by
  unfold State.threshold
  exact if_pos h

theorem State.threshold_clear (was : Bool) (hsc : clear < set) (h : hottest s.hem.gov ≤ 4 * (clear : Int)) :
    s.threshold was set clear = false := by
  unfold State.threshold
  dsimp only
  rw [if_neg (by omega), if_pos h]

theorem State.threshold_kept (was : Bool) (h : 4 * (clear : Int) < hottest s.hem.gov) (h' : hottest s.hem.gov < 4 * (set : Int)) :
    s.threshold was set clear = was := by
  unfold State.threshold
  dsimp only
  rw [if_neg (by omega), if_neg (by omega)]

end

/-! The start of a sweep (R378, R384). -/

section
variable {s : State} {c : Nat}

theorem State.sweepStart_rests (h : s.maySweep c = false ∨ s.rd R.CAL.STATUS.STATE c ≠ 0 ∧ s.rd R.CAL.STATUS.STATE c ≠ 2) :
    s.sweepStart c = s := by
  unfold State.sweepStart
  exact if_pos (h.imp_left (by simp))

theorem State.sweepStart_urgent {i : SweepItem} (hm : s.maySweep c = true)
    (hs : s.rd R.CAL.STATUS.STATE c = 0 ∨ s.rd R.CAL.STATUS.STATE c = 2)
    (hi : (s.cal.urgent.get [] c).find? (s.itemLive c) = some i) : s.sweepStart c = s.startItem c true i := by
  have hgo : ¬ (¬ s.maySweep c = true ∨ s.rd R.CAL.STATUS.STATE c ≠ 0 ∧ s.rd R.CAL.STATUS.STATE c ≠ 2) := by
    rintro (h | ⟨h0, h2⟩)
    · exact h hm
    · exact hs.elim h0 h2
  have hnext : s.nextSweep c = (s, some (true, i)) := by rw [State.nextSweep, hi]
  unfold State.sweepStart
  rw [if_neg hgo, hnext]
  exact if_pos (.inl rfl)

end

/-- The registers of a sweep that runs: its state, its lane and its pseudo-channel. -/
def State.showSweep (s : State) (c : Nat) (i : SweepItem) : State :=
  ((s.wr R.CAL.STATUS.STATE 1 c).wr R.CAL.STATUS.LANE i.lane c).wr R.CAL.STATUS.PC i.pc c

theorem State.showSweep_running (s : State) (c : Nat) (i : SweepItem) : (s.showSweep c i).rd R.CAL.STATUS.STATE c = 1 := by
  rw [State.showSweep, State.rd_wr_field _ _ _ _ _ _ (by decide), State.rd_wr_field _ _ _ _ _ _ (by decide), State.rd_wr_same]
  rfl

/-- The channel runs an item; a lane in service waits for the highest free selvedge lane (R379). -/
def State.runItem (s : State) (c : Nat) (urgent : Bool) (i : SweepItem) : State :=
  let taking := match (if i.kind = 2 then (s.freeSv c).getLast? else none) with
    | some k => s.cal.taking.put c k
    | none => s.cal.taking.del c
  { s with cal := { s.cal with now := s.cal.now.put c (urgent, i), taking := taking } }

theorem State.startItem_form (s : State) (c : Nat) (urgent : Bool) (i : SweepItem) :
    s.startItem c urgent i = ((s.clearSweep c).showSweep c i).runItem c urgent i := by
  unfold State.startItem State.runItem State.showSweep
  rfl

theorem State.runItem_shows (s : State) (c : Nat) (urgent : Bool) (i : SweepItem) :
    (s.runItem c urgent i).regs = s.regs ∧ (s.runItem c urgent i).mem = s.mem ∧ (s.runItem c urgent i).per = s.per ∧
    (s.runItem c urgent i).cal.now.find c = some (urgent, i) := ⟨rfl, rfl, rfl, SMap.find_put_same _ _ _⟩

/-- A sweep that starts runs its item, in registers and calibration alone. -/
theorem State.startItem_shows (s : State) (c : Nat) (urgent : Bool) (i : SweepItem) :
    (s.startItem c urgent i).rd R.CAL.STATUS.STATE c = 1 ∧ (s.startItem c urgent i).cal.now.find c = some (urgent, i) ∧
    (s.startItem c urgent i).mem = s.mem ∧ (s.startItem c urgent i).per = s.per := by
  obtain ⟨hregs, hmem, hper, hnow⟩ := ((s.clearSweep c).showSweep c i).runItem_shows c urgent i
  rw [s.startItem_form]
  refine ⟨(State.rd_congr _ _ hregs _ _).trans ((s.clearSweep c).showSweep_running c i), hnow, hmem.trans ?_, hper.trans ?_⟩
  · simp [State.showSweep, State.clearSweep]
  · simp [State.showSweep, State.clearSweep]

/-! The end of a sweep (R379-R384). -/

/-- Nothing a sweep could end on: it does not run, has been swept, or still waits. -/
theorem State.sweepComplete_rests {s : State} {c : Nat} {r : SweepReport} (h : s.cal.now.find c = none ∨
    s.rd R.CAL.STATUS.STATE c ≠ 1 ∨ (s.cal.swept.find c).isSome ∨ s.sweepReady c = false) : s.sweepComplete c r = s := by
  unfold State.sweepComplete
  split
  · rfl
  · next hx =>
    refine if_pos ?_
    rcases h with h | h | h | h
    · rw [h] at hx; nomatch hx
    · exact .inl h
    · exact .inr (.inl h)
    · exact .inr (.inr (by simp [h]))

section
variable {s : State} {c : Nat} {r : SweepReport} {b : Bool} {n : SweepItem}
  (hx : s.cal.now.find c = some (b, n)) (hrun : s.rd R.CAL.STATUS.STATE c = 1) (hs : s.cal.swept.find c = none)
  (hready : s.sweepReady c = true)
include hx hrun hs hready

/-- What a sweep that can end comes to. -/
theorem State.sweepComplete_form : s.sweepComplete c r =
    if n.kind = 1 then (s.fillBursts c r.acts).endPly c n.pc n.ply r
    else if ¬ s.runsOk c n.lane r = true then (s.fillBursts c r.acts).sweepFail c n r.fill
    else if s.on R.CAL.STATUS.ROTATING c = true then
      { s.fillBursts c r.acts with
        cal := { (s.fillBursts c r.acts).cal with swept := (s.fillBursts c r.acts).cal.swept.put c r } }
    else ((s.fillBursts c r.acts).commitLane c n.pc n.lane r).endSweep c r.fill := by
  unfold State.sweepComplete
  rw [hx]
  exact if_neg (by simp [hrun, hs, hready])

theorem State.sweepComplete_ply (hk : n.kind = 1) :
    s.sweepComplete c r = (s.fillBursts c r.acts).endPly c n.pc n.ply r := by
  rw [State.sweepComplete_form hx hrun hs hready, if_pos hk]

theorem State.sweepComplete_fails (hk : n.kind ≠ 1) (hr : s.runsOk c n.lane r = false) :
    s.sweepComplete c r = (s.fillBursts c r.acts).sweepFail c n r.fill := by
  rw [State.sweepComplete_form hx hrun hs hready, if_neg hk, if_pos (by simp [hr])]

theorem State.sweepComplete_waits (hk : n.kind ≠ 1) (hr : s.runsOk c n.lane r = true) (ho : s.on R.CAL.STATUS.ROTATING c = true) :
    s.sweepComplete c r = { s.fillBursts c r.acts with
      cal := { (s.fillBursts c r.acts).cal with swept := (s.fillBursts c r.acts).cal.swept.put c r } } := by
  rw [State.sweepComplete_form hx hrun hs hready, if_neg hk, if_neg (not_not_intro hr), if_pos ho]

theorem State.sweepComplete_commits (hk : n.kind ≠ 1) (hr : s.runsOk c n.lane r = true)
    (ho : s.on R.CAL.STATUS.ROTATING c = false) :
    s.sweepComplete c r = ((s.fillBursts c r.acts).commitLane c n.pc n.lane r).endSweep c r.fill := by
  rw [State.sweepComplete_form hx hrun hs hready, if_neg hk, if_neg (not_not_intro hr), if_neg (by simp [ho])]

end

/-! When a sweep can end (R375, R381, R382). -/

section
variable {s : State} {c : Nat}

theorem State.sweepReady_taking {k : Nat} (h : s.cal.taking.find c = some k) : s.sweepReady c = false := by
  simp [State.sweepReady, h]

theorem State.sweepReady_unheld {b : Bool} {n : SweepItem} (hx : s.cal.now.find c = some (b, n)) (hk : n.kind ≠ 0)
    (ho : s.on R.CAL.STATUS.ROTATING c = false) (hh : s.cal.held.get 0 c = 0) : s.sweepReady c = false := by
  simp [State.sweepReady, hx, hk, ho, hh]

theorem State.sweepReady_held (ht : s.cal.taking.find c = none) (hh : s.cal.held.get 0 c ≠ 0) : s.sweepReady c = true := by
  simp [State.sweepReady, ht, hh]

/-- A held interval that its sweep wants is counted for it. -/
theorem State.heldInterval_counts {pc ply : Nat} (hw : s.wantsInterval c pc ply = true)
    (hl : s.cal.lastHeld.find (2 * c + pc) = none) :
    (s.heldInterval c pc ply).cal.held.get 0 c = s.cal.held.get 0 c + 1 ∧
    (s.heldInterval c pc ply).cal.taking = s.cal.taking := by
  unfold State.heldInterval
  dsimp only
  rw [hl, hw, if_neg (by simp)]
  exact ⟨SMap.get_put_same _ _ _ _, rfl⟩

theorem State.taking_of_wants {pc ply : Nat} (hw : s.wantsInterval c pc ply = true) : s.cal.taking.find c = none := by
  simp only [State.wantsInterval, Bool.and_eq_true, Option.isNone_iff_eq_none] at hw
  exact hw.1.2

end

/-! The activates of the fill (R352, R383). -/

/-- A trace leaves its table with the bank, whatever is counted and charged beside it. -/
theorem State.takeTrace_table (s : State) (c n : Nat) (t : RowTrace) :
    ((s.takeTrace c n t).chan c).tables.get [] n = t.table := by
  have hchan : (s.takeTrace c n t).chan c = { s.chan c with tables := (s.chan c).tables.set [] n t.table } := by
    unfold State.takeTrace State.countChan
    dsimp only
    refine (State.chan_congr (State.charge_chans _ _ _ _ _) c).trans ?_
    simp only [State.wr_chan, State.bump_chan, State.count_chan, State.setChan_same]
  rw [hchan]
  exact SMap.get_set_same _ _ _ _

theorem rowTrace_nothing (rs : List Nat) (thresh : Nat) (t : List RowCount) : (rowTrace rs thresh t []).table = t := rfl

/-- What the fill of a sweep makes of the calibration row's bank. -/
theorem State.fillRow_table (s : State) (a : FillActs) (h : s.tornPc (2 * a.channel.val + a.bank.val / 64) = false) :
    ((s.fillRow a).chan a.channel).tables.get [] a.bank =
      (rowTrace (s.repairsOf a.channel (a.bank.val / 64) (a.bank.val / 16 % 4) (a.bank.val % 16)) (s.chan a.channel).thresh
        ((s.chan a.channel).tables.get [] a.bank)
        (List.replicate a.count (s.physRow a.channel (a.bank.val / 64) (a.bank.val / 16 % 4) (a.bank.val % 16) 32767))).table := by
  unfold State.fillRow
  dsimp only
  split
  · next hq =>
    obtain ⟨hcount, -⟩ := hq.resolve_left (by simp [h])
    rw [hcount]
    exact (rowTrace_nothing _ _ _).symm
  · have hclose (t : State) (m : Nat) (x : SMap Bool) :
        (({ t.setChan m { t.chan m with openRow := (t.chan m).openRow.del a.bank } with
          cal := { t.cal with filled := x } } : State).chan m).tables = (t.chan m).tables := by
      refine (congrArg Chan.tables (State.chan_congr (s := t.setChan m { t.chan m with openRow := (t.chan m).openRow.del a.bank })
        rfl m)).trans ?_
      rw [State.setChan_same]
    refine (congrArg (SMap.get · [] a.bank) (hclose _ _ _)).trans ?_
    refine (congrArg (fun x : Chan => x.tables.get [] a.bank) (State.chan_congr (State.charge_chans _ _ _ _ _) _)).trans ?_
    exact State.takeTrace_table _ _ _ _

theorem State.fillBursts_one (s : State) (c : Nat) (a : FillActs) (ht : a.channel.val / 8 = c / 8) (hc : a.channel.val ≠ c) :
    s.fillBursts c [a] = s.fillRow a := if_neg (by omega)

end Sys2Proof.Machine
end

section
/-! The repairs of a rotation point, and what rounds and sweeps come to (02 R50, 16 R375-R384, 17 R388, R394). -/

namespace Sys2Proof.Machine

/-! A selvedge lane is given a lane (R50). -/

/-- A word put together from n bytes, the first lowest. -/
def wordOf (b : Nat → Nat) (n : Nat) : Nat := (List.range n).foldl (fun m j => m + b j * 2 ^ (8 * j)) 0

theorem wordOf_succ (b : Nat → Nat) (n : Nat) : wordOf b (n + 1) = wordOf b n + b n * 2 ^ (8 * n) := by
  rw [wordOf, List.range_succ, List.foldl_append]
  rfl

theorem wordOf_lt (b : Nat → Nat) (hb : ∀ j, b j < 256) (n : Nat) : wordOf b n < 2 ^ (8 * n) := by
  induction n with
  | zero => exact Nat.one_pos
  | succ n ih =>
    have hpow : 2 ^ (8 * (n + 1)) = 256 * 2 ^ (8 * n) := by rw [Nat.mul_succ, Nat.pow_add, Nat.mul_comm]
    have hlast : b n * 2 ^ (8 * n) ≤ 255 * 2 ^ (8 * n) := Nat.mul_le_mul_right _ (Nat.le_of_lt_succ (hb n))
    rw [wordOf_succ, hpow]
    omega

/-- A byte of a word put together from bytes is that byte. -/
theorem bits_wordOf (b : Nat → Nat) (hb : ∀ j, b j < 256) (n k : Nat) (hk : k < n) :
    bits (wordOf b n) (8 * k) 8 = b k := by
  induction n with
  | zero => nomatch hk
  | succ n ih =>
    rw [wordOf_succ, bits]
    rcases Nat.lt_succ_iff_lt_or_eq.mp hk with h | rfl
    · have hhigh : b n * 2 ^ (8 * n) = b n * 2 ^ (8 * (n - k - 1)) * 2 ^ 8 * 2 ^ (8 * k) := by
        rw [Nat.mul_assoc, Nat.mul_assoc, ← Nat.pow_add, ← Nat.pow_add]
        congr 2
        omega
      rw [hhigh, Nat.add_mul_div_right _ _ (Nat.two_pow_pos _), Nat.add_mul_mod_self_right]
      exact ih h
    · rw [Nat.add_mul_div_right _ _ (Nat.two_pow_pos _), Nat.div_eq_of_lt (wordOf_lt b hb k), Nat.zero_add]
      exact Nat.mod_eq_of_lt (hb k)

/-- The byte that an assignment gives a selvedge lane, and the present one where it says nothing (14 LANEMAP). -/
def State.svAssigned (s : State) (c : Nat) (xs : List (Nat × Option (Nat × Nat))) (k : Nat) : Nat :=
  match xs.find? (fun x => x.1 == k) with
  | some (_, some (pc, n)) => n + 64 * pc + 128
  | some (_, none) => 0
  | none => s.svByte c k

theorem State.setSvs_form (s : State) (c : Nat) (xs : List (Nat × Option (Nat × Nat))) : s.setSvs c xs =
    s.patRecord (3 * c) (wordOf (s.svAssigned c xs) 8) := rfl

theorem State.svAssigned_lt (s : State) (c k : Nat) (xs : List (Nat × Option (Nat × Nat)))
    (h : ∀ j pc n, (j, some (pc, n)) ∈ xs → pc < 2 ∧ n < 64) : s.svAssigned c xs k < 256 := by
  unfold State.svAssigned
  split
  · next j pc n hx =>
    have hin := h j pc n (List.mem_of_find?_eq_some hx)
    omega
  · decide
  · exact Nat.mod_lt _ (by decide)

/-- A word reads as it was recorded, unless a frozen value hides it (R472). -/
theorem State.patRecord_pat (s : State) (w v : Nat) (h : s.patFrozen w = true ∨ s.per.patShadow.find w = none) :
    (s.patRecord w v).pat w = v := by
  unfold State.patRecord
  split
  · assumption
  · split
    · rw [State.pat, State.raise_per]
      simp only [SMap.find_put_same]
    · next hf =>
      have hnone := h.resolve_left hf
      rw [State.pat]
      simp only [State.patCommit, hnone, SMap.get_set_same]

theorem State.patRecord_cal (s : State) (w v : Nat) : (s.patRecord w v).cal = s.cal := by
  unfold State.patRecord
  split
  · rfl
  · split
    · exact State.raise_cal _ _ _ _
    · rfl

/-- A selvedge lane that is given a lane carries it. -/
theorem State.svLane_setSvs (s : State) (c k pc n : Nat) (xs : List (Nat × Option (Nat × Nat))) (hk : k < 8) (hpc : pc < 2)
    (hn : n < 64) (hxs : ∀ x ∈ xs, x.2 = none)
    (hf : s.patFrozen (3 * c) = true ∨ s.per.patShadow.find (3 * c) = none) :
    (s.setSvs c ((k, some (pc, n)) :: xs)).svLane c k = some (pc, n) := by
  have hlt (j : Nat) : s.svAssigned c ((k, some (pc, n)) :: xs) j < 256 := by
    refine s.svAssigned_lt c j _ fun i p m hm => ?_
    rcases List.mem_cons.mp hm with h | h
    · injection h with _ h
      injection h with h
      injection h with hp hm'
      exact ⟨hp ▸ hpc, hm' ▸ hn⟩
    · exact nomatch hxs _ h
  have hbyte : (s.setSvs c ((k, some (pc, n)) :: xs)).svByte c k = n + 64 * pc + 128 := by
    rw [s.setSvs_form, State.svByte, State.patRecord_pat _ _ _ hf, bits_wordOf _ hlt 8 k hk, State.svAssigned]
    simp
  rw [State.svLane, hbyte]
  have hbit : bit (n + 64 * pc + 128) 7 = true := by
    simp only [bit, beq_iff_eq]
    omega
  have hhigh : bits (n + 64 * pc + 128) 6 1 = pc := by
    simp only [bits]
    omega
  have hlow : bits (n + 64 * pc + 128) 0 6 = n := by
    simp only [bits]
    omega
  simp only [hbit, hhigh, hlow, if_true]

theorem State.staleSv_none (s : State) (c : Nat) (p : Nat → Nat → Bool) : ∀ x ∈ s.staleSv c p, x.2 = none := by
  intro x hx
  obtain ⟨k, -, rfl⟩ := List.mem_map.mp hx
  rfl

theorem State.fillBursts_repairs (s : State) (c : Nat) (acts : List FillActs) :
    (s.fillBursts c acts).cal.repairs = s.cal.repairs := by
  refine foldl_keeps _ (fun s => s.cal.repairs) _ (fun s a _ => ?_) s
  unfold State.fillBurst State.fillRow State.takeTrace State.countChan
  dsimp only
  split
  · rfl
  · split
    · rfl
    · simp

/-- The end of a rotation keeps the stored words and what waits for a rotation point. -/
theorem State.takeRotation_keeps (s : State) (c k : Nat) :
    (s.takeRotation c k).per = s.per ∧ (s.takeRotation c k).cal.repairs = s.cal.repairs := by
  have hper : (s.stopSweep c).per = s.per :=
    (congrArg (fun x : State × _ => x.1.per) (s.abandonSweep_upkept c : (s.stopSweep c).upkept = s.upkept) :)
  have hrep : (s.stopSweep c).cal.repairs = s.cal.repairs := by
    unfold State.stopSweep
    split
    · exact State.fillBursts_repairs (s.clearSweep c) c _
    · split <;> rfl
  unfold State.takeRotation
  split
  · exact ⟨hper, hrep⟩
  · exact ⟨rfl, rfl⟩

/-- A repair that is carried out gives its selvedge lane the lane, is raised, and leaves what else waits. -/
theorem State.assignSv_shows (s : State) (c k pc n : Nat) (hk : k < 8) (hpc : pc < 2) (hn : n < 64)
    (hf : s.patFrozen (3 * c) = true ∨ s.per.patShadow.find (3 * c) = none) :
    (s.assignSv c k pc n).cal.repairs = s.cal.repairs ∧ (s.assignSv c k pc n).svLane c k = some (pc, n) ∧
    (s.assignSv c k pc n).sticky Src.laneRepaired = true := by
  obtain ⟨hper, hrep⟩ := s.takeRotation_keeps c k
  have hf' : (s.takeRotation c k).patFrozen (3 * c) = true ∨ (s.takeRotation c k).per.patShadow.find (3 * c) = none := by
    rw [State.patFrozen, State.patCount, hper]
    exact hf
  have hlane := State.svLane_setSvs _ c k pc n _ hk hpc hn
    ((s.takeRotation c k).staleSv_none c fun p m => p == pc && m == n) hf'
  have hraise (t : State) : (t.raise Src.laneRepaired).svLane c k = t.svLane c k := by
    rw [State.svLane, State.svByte, State.pat, State.raise_per]
    rfl
  refine ⟨?_, (hraise _).trans hlane, State.raise_sticky _ _ _ _⟩
  rw [State.assignSv, State.raise_cal, State.setSvs_form, State.patRecord_cal, hrep]

/-! The repairs of a rotation point (R50, R374). -/

/-- A repair of a pseudo-channel. -/
def repairAt (c pc : Nat) (r : Repair) : Bool := r.channel == c && r.pc == pc

theorem State.takeRepairs_form (s : State) (c pc : Nat) : s.takeRepairs c pc =
    (s.cal.repairs.filter (repairAt c pc)).foldl (fun (s : State) r => s.assignSv c r.sv pc r.lane)
      (s.keepRepairs (fun r => !repairAt c pc r)) := rfl

/-- Where no repair waits for the pseudo-channel, none takes effect. -/
theorem State.takeRepairs_none (s : State) (c pc : Nat) (h : ∀ k ∈ s.cal.repairs, k.channel = c → k.pc ≠ pc) :
    s.takeRepairs c pc = s := by
  have hnot (k : Repair) (hk : k ∈ s.cal.repairs) : repairAt c pc k = false := by
    simp only [repairAt, Bool.and_eq_false_imp, beq_iff_eq, beq_eq_false_iff_ne]
    exact h k hk
  have hnone : s.cal.repairs.filter (repairAt c pc) = [] := by
    simp only [List.filter_eq_nil_iff]
    intro k hk
    simp [hnot k hk]
  have hall : s.cal.repairs.filter (fun r => !repairAt c pc r) = s.cal.repairs := by
    simp only [List.filter_eq_self]
    intro k hk
    simp [hnot k hk]
  rw [s.takeRepairs_form, hnone, State.keepRepairs, hall]
  rfl

/-- The one repair that waits takes effect. -/
theorem State.takeRepairs_one (s : State) (c pc k n : Nat) (h : s.cal.repairs = [⟨c, k, pc, n⟩]) :
    s.takeRepairs c pc = ({ s with cal := { s.cal with repairs := [] } } : State).assignSv c k pc n := by
  rw [s.takeRepairs_form, State.keepRepairs, h]
  simp [repairAt]

/-! A rotation point (R375, R379). -/

section
variable {s t : State} {c pc : Nat}

/-- What a rotation point does after the repairs. -/
theorem State.rotationPoint_rests (ht : t = s.takeRepairs c pc)
    (h : t.cal.now.find c = none ∨ (t.cal.swept.find c = none ∧ t.cal.taking.find c = none)) : s.rotationPoint c pc = t := by
  unfold State.rotationPoint
  rw [← ht]
  dsimp only
  rcases h with h | ⟨h, h'⟩
  · rw [h]
  · split
    · rfl
    · rw [h, h']
      exact ite_self _

theorem State.rotationPoint_other {b : Bool} {n : SweepItem} (ht : t = s.takeRepairs c pc)
    (hx : t.cal.now.find c = some (b, n)) (hpc : n.pc ≠ pc) : s.rotationPoint c pc = t := by
  unfold State.rotationPoint
  rw [← ht]
  dsimp only
  rw [hx]
  exact if_pos hpc

/-- The selvedge lane of a rotation that waited begins to carry its lane. -/
theorem State.rotationPoint_takes {b : Bool} {n : SweepItem} {k : Nat} (ht : t = s.takeRepairs c pc)
    (hx : t.cal.now.find c = some (b, n)) (hpc : n.pc = pc) (hk : t.cal.taking.find c = some k) : s.rotationPoint c pc =
    (({ t with cal := { t.cal with taking := t.cal.taking.del c } } : State).wr R.CAL.STATUS.ROTATING 1 c).wr
      R.CAL.STATUS.SV k c := by
  unfold State.rotationPoint
  rw [← ht]
  dsimp only
  rw [hx]
  dsimp only
  rw [if_neg (not_not_intro hpc), hk]

theorem State.rotationPoint_commits {b : Bool} {n : SweepItem} {r : SweepReport} (ht : t = s.takeRepairs c pc)
    (hx : t.cal.now.find c = some (b, n)) (hpc : n.pc = pc) (hk : t.cal.taking.find c = none)
    (hr : t.cal.swept.find c = some r) : s.rotationPoint c pc =
    (((t.commitLane c pc n.lane r).countChan c 10).bump R.CAL.STAT.ROTATIONS).endSweep c r.fill := by
  unfold State.rotationPoint
  rw [← ht]
  dsimp only
  rw [hx]
  dsimp only
  rw [if_neg (not_not_intro hpc), hk, hr]

end

theorem State.rotating_shows (s : State) (c k : Nat) :
    ((s.wr R.CAL.STATUS.ROTATING 1 c).wr R.CAL.STATUS.SV k c).rd R.CAL.STATUS.ROTATING c = 1 ∧
    ((s.wr R.CAL.STATUS.ROTATING 1 c).wr R.CAL.STATUS.SV k c).rd R.CAL.STATUS.SV c = k % 8 := by
  rw [State.rd_wr_field _ _ _ _ _ _ (by decide), State.rd_wr_same, State.rd_wr_same]
  exact ⟨rfl, rfl⟩

end Sys2Proof.Machine
end

section
/-! What a round and the commands of a sweep come to (16 R375-R384, 17 R388, R394). -/

namespace Sys2Proof.Machine

section
variable {s : State} {c : Fin 32}

theorem effect_sweepStart {u : State} (ha : s.awake = true) (h : s.sweepStart c = u) : effect (.sweepStart c) s u :=
  effect_of_live_eq ha rfl h

theorem effect_sweepComplete {r : SweepReport} {u : State} (ha : s.awake = true) (h : s.sweepComplete c r = u) :
    effect (.sweepComplete c r) s u := effect_of_live_eq ha rfl h

theorem effect_rotationPoint {pc : Fin 2} {u : State} (ha : s.awake = true) (h : s.rotationPoint c pc = u) :
    effect (.laneRotationPoint c pc) s u := effect_of_live_eq ha rfl h

/-- The wait for the fill credit ends: it is counted and raised, and the sweep starts (R384). -/
theorem effect_calDeferTimeout (ha : s.awake = true) (h : s.rd R.CAL.STATUS.STATE c = 2) :
    effect (.calDeferTimeout c) s (((({ s with cal := { s.cal with forced := s.cal.forced ++ [c.val] } } : State).bump
      R.CAL.STAT.DEFERRALS).raise Src.calDeferred).sweepStart c) := effect_of_guard ha rfl h

/-- The selvedge lane of a rotation begins to carry its lane at the rotation point (R379). -/
theorem effect_rotation_takes {pc : Fin 2} {t : State} {b : Bool} {n : SweepItem} {k : Nat} (ha : s.awake = true)
    (ht : t = s.takeRepairs c pc) (hx : t.cal.now.find c = some (b, n)) (hpc : n.pc = pc.val)
    (hk : t.cal.taking.find c = some k) :
    ∃ u : State, effect (.laneRotationPoint c pc) s u ∧ u.rd R.CAL.STATUS.ROTATING c = 1 ∧ u.rd R.CAL.STATUS.SV c = k % 8 ∧
      u.cal.taking.find c = none ∧ u.cal.trims = t.cal.trims ∧ u.per = t.per := by
  obtain ⟨hrot, hsv⟩ := ({ t with cal := { t.cal with taking := t.cal.taking.del c } } : State).rotating_shows c k
  exact ⟨_, effect_rotationPoint ha (State.rotationPoint_takes ht hx hpc hk), hrot, hsv, SMap.find_del_same _ _, rfl, rfl⟩

/-- A held interval that a sweep wants makes it ready, and the REF itself counts nothing for it (R375, R381). -/
theorem State.heldInterval_readies {pc : Fin 2} {ply : Fin 4} (hw : s.wantsInterval c pc ply = true)
    (hl : s.cal.lastHeld.find (2 * c.val + pc.val) = none) :
    (s.heldInterval c pc ply).cal.held.get 0 c = s.cal.held.get 0 c + 1 ∧ (s.heldInterval c pc ply).sweepReady c = true ∧
    (s.refresh c pc ply 1).cal = s.cal := by
  obtain ⟨hheld, htaking⟩ := State.heldInterval_counts hw hl
  refine ⟨hheld, State.sweepReady_held ?_ ?_, (s.refresh_frame c pc ply 1).2.1⟩
  · rw [htaking, State.taking_of_wants hw]
  · rw [hheld]
    exact Nat.succ_ne_zero _

/-- The one repair that waits takes its lane first (R50). -/
theorem State.takeRepairs_shows {pc : Fin 2} {k n : Nat} (h : s.cal.repairs = [⟨c, k, pc, n⟩]) (hk : k < 8) (hn : n < 64)
    (hf : s.patFrozen (3 * c) = true ∨ s.per.patShadow.find (3 * c) = none) :
    (s.takeRepairs c pc).cal.repairs = [] ∧ (s.takeRepairs c pc).svLane c k = some (pc.val, n) ∧
    (s.takeRepairs c pc).sticky Src.laneRepaired = true := by
  rw [s.takeRepairs_one c pc k n h]
  exact ({ s with cal := { s.cal with repairs := [] } } : State).assignSv_shows c k pc n hk pc.isLt hn hf

end

/-- Settles O47: the commands of rounds and sweeps, each by the lemma about its case. -/
theorem roundAndSweepCommands : Obligations.RoundAndSweepCommands := by
  intro s ha
  refine ⟨fun r => effect_of_live ha rfl,
    fun was set clear hsc => ⟨State.threshold_set was, State.threshold_clear was hsc, State.threshold_kept was⟩,
    fun c => ⟨fun h => effect_sweepStart ha (State.sweepStart_rests (.inl h)),
      fun h0 h2 => effect_sweepStart ha (State.sweepStart_rests (.inr ⟨h0, h2⟩)), fun i hm hs hi => ?starts,
      fun h => effect_of_no_guard ha rfl h, effect_calDeferTimeout ha, fun r h => ?none, fun r x _ h => ?stopped,
      fun r b n hx hrun hs hready hk hr => ⟨fun ho => ?waits, fun ho => ?commits⟩,
      fun r b n hx hrun hs hready hk => ?ply, fun r h => ?unready, fun k h => State.sweepReady_taking h,
      fun b n hx hk ho hh => State.sweepReady_unheld hx hk ho hh, fun pc ply hw hl => State.heldInterval_readies hw hl,
      fun a hcell hc ht => ?fill, fun r b n hx hrun hs hready hk hr => ?fails, fun pc h => ?noRepair,
      fun pc k n h hk hn hf => State.takeRepairs_shows h hk hn hf,
      fun pc t ht => ⟨fun h => effect_rotationPoint ha (State.rotationPoint_rests ht h),
        fun b n k hx hpc hk => effect_rotation_takes ha ht hx hpc hk,
        fun b n r hx hr hk => ⟨fun hpc => ?other, fun hpc => ?commit⟩⟩⟩⟩
  case starts =>
    exact ⟨_, effect_sweepStart ha (State.sweepStart_urgent hm hs hi), s.startItem_shows c true i⟩
  case none => exact effect_sweepComplete ha (State.sweepComplete_rests (.inl h))
  case stopped => exact effect_sweepComplete ha (State.sweepComplete_rests (.inr (.inl h)))
  case unready => exact effect_sweepComplete ha (State.sweepComplete_rests (.inr (.inr (.inr h))))
  case waits => exact effect_sweepComplete ha (State.sweepComplete_waits hx hrun hs hready hk hr ho)
  case commits => exact effect_sweepComplete ha (State.sweepComplete_commits hx hrun hs hready hk hr ho)
  case ply => exact effect_sweepComplete ha (State.sweepComplete_ply hx hrun hs hready hk)
  case fails => exact effect_sweepComplete ha (State.sweepComplete_fails hx hrun hs hready hk hr)
  case fill => exact s.fillBursts_one c a hcell hc ▸ s.fillRow_table a ht
  case noRepair => rw [s.takeRepairs_none c pc h]; exact ⟨rfl, rfl, rfl⟩
  case other => exact effect_rotationPoint ha (State.rotationPoint_other ht hx hpc)
  case commit => exact effect_rotationPoint ha (State.rotationPoint_commits ht hx hpc hk hr)

end Sys2Proof.Machine
end

section
/-! Reading and writing the stack leaves the counter dumper as it is: pool, tree, keys and stored sectors
(09 R230-R251, 13 R318-R337, 15 R357-R367). The dumper's own writes go this way (12 R310). -/

namespace Sys2Proof.Machine

/-- What leaves the dumper alone at each element leaves it alone over a list. -/
theorem foldl_dump {α : Type} (f : State → α → State) (h : ∀ s x, (f s x).dump = s.dump) (l : List α) (s : State) :
    (l.foldl f s).dump = s.dump := foldl_keeps f State.dump l (fun s x _ => h s x) s

/-- The same for a loop that also gathers results. -/
theorem foldl_pair_dump {α β : Type} (f : State × β → α → State × β) (h : ∀ p x, (f p x).1.dump = p.1.dump) (l : List α)
    (p : State × β) : (l.foldl f p).1.dump = p.1.dump := by
  induction l generalizing p with
  | nil => rfl
  | cons x l ih => rw [List.foldl_cons, ih, h]

/-- A result's state is where the result came from. -/
theorem dump_of_pair {α : Type} {p : State × α} {s t : State} {x : α} (hp : p.1.dump = s.dump) (h : p = (t, x)) :
    t.dump = s.dump := by
  rw [h] at hp
  exact hp

/-! The frame pool and the map. -/

@[simp] theorem State.countMaster_dump (s : State) : s.countMaster.dump = s.dump := by simp [State.countMaster]

@[simp] theorem State.setMember_dump (s : State) (k : Nat × Nat × Nat) (i : Nat) (m : Member) :
    (s.setMember k i m).dump = s.dump := by
  unfold State.setMember
  dsimp only
  split <;> rfl

@[simp] theorem State.seamCheck_dump (s : State) : s.seamCheck.dump = s.dump := by
  unfold State.seamCheck
  dsimp only
  split <;> simp

@[simp] theorem State.freeFrame_dump (s : State) (cls frame : Nat) : (s.freeFrame cls frame).dump = s.dump := by
  simp [State.freeFrame]

@[simp] theorem State.setMap_dump (s : State) (sw e : Nat) : (s.setMap sw e).dump = s.dump := rfl

@[simp] theorem State.setMoves_dump (s : State) (ms : List Move) : (s.setMoves ms).dump = s.dump := rfl

@[simp] theorem State.cancelMove_dump (s : State) (sw : Nat) : (s.cancelMove sw).dump = s.dump := by
  unfold State.cancelMove
  split
  · rfl
  · dsimp only
    rw [State.count_dump, State.bump_dump, State.freeFrame_dump]
    split <;> rfl

@[simp] theorem State.dropLines_dump (s : State) (p : Nat → Bool) : (s.dropLines p).dump = s.dump := rfl

@[simp] theorem State.tearSwatch_dump (s : State) (sw : Nat) : (s.tearSwatch sw).dump = s.dump := by
  unfold State.tearSwatch
  dsimp only
  split <;> simp

@[simp] theorem State.tearSwatches_dump (s : State) (sws : List Nat) : (s.tearSwatches sws).dump = s.dump :=
  foldl_dump _ State.tearSwatch_dump sws s

/-! The tree, the tags and the keys. -/

@[simp] theorem State.loseNode_dump (s : State) (level idx : Nat) : (s.loseNode level idx).dump = s.dump := by
  unfold State.loseNode State.recordTorn
  dsimp only
  simp

@[simp] theorem State.voidTag_dump (s : State) (n : Nat) : (s.voidTag n).dump = s.dump := by
  unfold State.voidTag
  split
  · split <;> rfl
  · rfl

@[simp] theorem State.setNode_dump (s : State) (level idx : Nat) (x : Node) : (s.setNode level idx x).dump = s.dump := rfl

@[simp] theorem State.putNodeTag_dump (s : State) (level idx : Nat) : (s.putNodeTag level idx).dump = s.dump := rfl

@[simp] theorem State.exhaustBolt_dump (s : State) (b : Nat) : (s.exhaustBolt b).dump = s.dump := by
  unfold State.exhaustBolt
  split <;> rfl

@[simp] theorem State.encrypted_dump (s : State) (k n : Nat) : (s.encrypted k n).dump = s.dump := by
  have hlimit (t : State) (k : Nat) : (t.keyLimit k).dump = t.dump := by
    unfold State.keyLimit
    dsimp only
    split
    · rw [State.raise_dump, State.wr_dump, foldl_dump _ State.exhaustBolt_dump]
    · rfl
  rw [State.encrypted, hlimit, State.wr_dump]

@[simp] theorem State.issueMajor_dump (s : State) (k m : Nat) : (s.issueMajor k m).dump = s.dump := rfl

@[simp] theorem State.majorCheck_dump (s : State) (level idx : Nat) : (s.majorCheck level idx).dump = s.dump := by
  unfold State.majorCheck
  dsimp only
  split
  · rw [State.raise_dump]
    exact foldl_dump (fun s b => (s.exhaustBolt b).wr R.PRT.KEY_CTRL.EXHAUSTED 1 (s.rd R.BLT.BOLT_ATTR.KEY_ID b))
      (fun s b => s.exhaustBolt_dump b) _ s
  · rfl

@[simp] theorem State.noteTags_dump (s : State) (level idx : Nat) : (s.noteTags level idx).dump = s.dump := by
  unfold State.noteTags
  split <;> rfl

@[simp] theorem State.bumpNode_dump (s : State) (level idx child : Nat) : (s.bumpNode level idx child).dump = s.dump := by
  unfold State.bumpNode
  dsimp only
  split
  · simp only [apply_ite State.dump, ite_self, State.setNode_dump]
  · split
    · simp only [apply_ite State.dump, ite_self, State.setNode_dump, State.count_dump, State.majorCheck_dump]
    · refine (foldl_dump _ (fun t i => ?_) _ _).trans ?_
      · split <;> rfl
      · simp only [apply_ite State.dump, ite_self, State.noteTags_dump, State.setNode_dump, State.count_dump,
          State.majorCheck_dump]

@[simp] theorem State.evictNode_dump (s : State) (key : Nat) : (s.evictNode key).dump = s.dump := by
  unfold State.evictNode State.bumpPath
  dsimp only
  split
  · rw [State.putNodeTag_dump]
    split <;> simp
  · rfl

@[simp] theorem State.cacheNode_dump (s : State) (key : Nat) : (s.cacheNode key).dump = s.dump := by
  unfold State.cacheNode
  dsimp only
  split
  · rfl
  · split
    · simp
    · rfl

theorem State.fetchStep_dump (s : State) (level idx : Nat) (parent : State → State × Bool)
    (h : ∀ t, (parent t).1.dump = t.dump) : (s.fetchStep level idx parent).1.dump = s.dump := by
  unfold State.fetchStep
  dsimp only
  split
  · simp
  · have hp := h (s.count 198)
    rw [State.count_dump] at hp
    split
    · exact hp
    · simp only [apply_ite Prod.fst, apply_ite State.dump, State.cacheNode_dump, State.loseNode_dump, ite_self, hp]

@[simp] theorem State.fetchLeaf_dump (s : State) (leaf : Nat) : (s.fetchLeaf leaf).1.dump = s.dump :=
  s.fetchStep_dump _ _ _ fun t => t.fetchStep_dump _ _ _ fun t => t.fetchStep_dump _ _ _ fun _ => rfl

@[simp] theorem State.freshLeaf_dump (s : State) (leaf k : Nat) : (s.freshLeaf leaf k).dump = s.dump := by
  unfold State.freshLeaf
  dsimp only
  simp

/-! What reading the stack reports. -/

@[simp] theorem State.corrected_dump (s : State) (q : Nat) (l : List Nat) : (s.corrected q l).dump = s.dump := by
  unfold State.corrected State.countChan
  dsimp only
  split
  · simp
  · split <;> simp

@[simp] theorem State.dataError_dump (s : State) (k : Nat) (syn : List Nat) (located : Option Nat) :
    (s.dataError k syn located).dump = s.dump := by
  unfold State.dataError State.logError State.countChan
  dsimp only
  split <;> simp

@[simp] theorem State.tagFail_dump (s : State) : s.tagFail.dump = s.dump := by simp [State.tagFail]

@[simp] theorem State.outer_dump (s : State) (b n k : Nat) (flips : List (Nat × Byte)) :
    (s.outer b n k flips).1.dump = s.dump := by
  unfold State.outer
  dsimp only
  split
  · simp
  · simp only [apply_ite Prod.fst, apply_ite State.dump, State.count_dump, State.bump_dump, State.dataError_dump,
      State.corrected_dump, ite_self]

@[simp] theorem State.bareRead_dump (s : State) (x : BareLine) (k : Nat) (flips : List (Nat × Byte)) :
    (s.bareRead x k flips).1.dump = s.dump := by
  have hpoison (t : State) (p : Prop) [Decidable p] :
      (if p then (t.bump R.ECC.UNCORR.POISON_READS).count 195 else t).dump = t.dump := by
    split <;> simp
  unfold State.bareRead
  dsimp only
  split
  · split <;> simp [hpoison]
  · split
    · simp
    · split
      · split
        · rw [hpoison]
          split <;> simp
        · split <;> simp
      · simp only [apply_ite State.dump, State.bump_dump, State.dataError_dump, State.corrected_dump, ite_self]

@[simp] theorem State.unseal_dump (s : State) (b n k : Nat) (w : List Byte) : (s.unseal b n k w).1.dump = s.dump := by
  unfold State.unseal
  dsimp only
  split
  · simp only [apply_ite Prod.fst, apply_ite State.dump, State.tagFail_dump, ite_self]
  · simp only [apply_ite Prod.fst, apply_ite State.dump, State.tagFail_dump, ite_self]
  · rfl

@[simp] theorem State.readStored_dump (s : State) (b n k : Nat) (flips : List (Nat × Byte)) :
    (s.readStored b n k flips).1.dump = s.dump := by
  unfold State.readStored
  split
  · rfl
  · split
    · rfl
    · split
      · next t h => exact dump_of_pair (s.outer_dump b n k flips) h
      · next t w h =>
        have ht : t.dump = s.dump := dump_of_pair (s.outer_dump b n k flips) h
        split
        · split
          · next h => exact (dump_of_pair (t.fetchLeaf_dump _) h).trans ht
          · next v h =>
            have hv : v.dump = s.dump := (dump_of_pair (t.fetchLeaf_dump _) h).trans ht
            split
            · split
              · split
                · exact v.tagFail_dump.trans hv
                · exact hv
              · exact hv
            · exact (v.unseal_dump b n k w).trans hv
        · exact (t.unseal_dump b n k w).trans ht

/-! What writing the stack changes. -/

@[simp] theorem State.store_dump (s : State) (n : Nat) (w : List Byte) : (s.store n w).dump = s.dump :=
  foldl_dump (fun s k => s.storeAt w k) (fun _ _ => rfl) _ s

@[simp] theorem State.seal_dump (s : State) (b n : Nat) (data : List Byte) : (s.seal b n data).dump = s.dump := by
  unfold State.seal
  dsimp only
  split <;> simp

@[simp] theorem State.readGroup_dump (s : State) (b n : Nat) : (s.readGroup b n).1.dump = s.dump := by
  refine (foldl_pair_dump _ (fun p i => ?_) _ _).trans rfl
  obtain ⟨t, out⟩ := p
  dsimp only
  split
  · rfl
  · split
    · rfl
    · exact t.readStored_dump _ _ _ _

@[simp] theorem State.writeGroup_dump (s : State) (b n : Nat) (gs : List (Option Got)) (skip : Option Nat) :
    (s.writeGroup b n gs skip).dump = s.dump := by
  refine foldl_dump _ (fun t i => ?_) _ s
  split
  · rfl
  · split
    · rfl
    · split
      · simp
      · split <;> simp [State.poison]

@[simp] theorem State.noteGroup_dump (s : State) (n : Nat) : (s.noteGroup n).dump = s.dump := by
  unfold State.noteGroup
  split <;> rfl

@[simp] theorem State.convertGroup_dump (s : State) (b n : Nat) : (s.convertGroup b n).dump = s.dump := by
  unfold State.convertGroup
  rcases h : s.readGroup b n with ⟨t, gs⟩
  simp only [State.bump_dump, State.noteGroup_dump, apply_ite State.dump, State.encrypted_dump, State.writeGroup_dump,
    State.freshLeaf_dump, ite_self]
  exact dump_of_pair (s.readGroup_dump b n) h

@[simp] theorem State.advance_dump (s : State) (b n : Nat) : (s.advance b n).dump = s.dump := by
  unfold State.advance
  dsimp only
  rcases h : s.fetchLeaf (s.leafOf b n) with ⟨t, ok⟩
  have ht : t.dump = s.dump := dump_of_pair (s.fetchLeaf_dump _) h
  dsimp only
  split
  · exact (t.bumpNode_dump _ _ _).trans ht
  · rcases h' : t.readGroup b n with ⟨v, gs⟩
    have hv : v.dump = s.dump := (dump_of_pair (t.readGroup_dump b n) h').trans ht
    simp [hv]

@[simp] theorem State.writeSector_dump (s : State) (b n : Nat) (data : List Byte) : (s.writeSector b n data).dump = s.dump := by
  unfold State.writeSector
  split
  · rfl
  · simp only [apply_ite State.dump, ite_self, State.seal_dump, State.advance_dump, State.convertGroup_dump]

end Sys2Proof.Machine
end

section
/-! Slots, lines and write-backs of the Lining leave the counter dumper as it is, and so does a write to the system bolt
(10 R260-R275, 11 R283-R297, 12 R310). -/

namespace Sys2Proof.Machine

/-! Slots (R283, R286, R297). -/

@[simp] theorem State.failSlot_dump (s : State) (k : Slot) (st : Nat) : (s.failSlot k st).dump = s.dump := by
  unfold State.failSlot
  split <;> rfl

@[simp] theorem State.joinSlot_dump (s : State) (c : Nat) (k : Slot) : (s.joinSlot c k).dump = s.dump := by
  unfold State.joinSlot State.countClass
  dsimp only
  simp only [State.setChan_dump, apply_ite State.dump, State.bump_dump, State.count_dump, ite_self]

@[simp] theorem State.bufferFreed_dump (s : State) : s.bufferFreed.dump = s.dump := by
  unfold State.bufferFreed
  split
  · rfl
  · split
    · rfl
    · exact State.joinSlot_dump _ _ _

@[simp] theorem State.owe_dump (s : State) (x : Nat × Slot) : (s.owe x).dump = s.dump := by
  unfold State.owe State.issueSlot
  split
  · rfl
  · simp only [apply_ite State.dump, State.failSlot_dump, State.joinSlot_dump, State.bufferFreed_dump, ite_self]

@[simp] theorem State.oweRead_dump (s : State) (m l : Nat) (use : SlotUse) : (s.oweRead m l use).dump = s.dump :=
  s.owe_dump _

@[simp] theorem State.oweWrite_dump (s : State) (m l : Nat) (use : SlotUse) : (s.oweWrite m l use).dump = s.dump := by
  unfold State.oweWrite
  split
  · rfl
  · rw [foldl_dump _ fun s p => s.owe_dump _, State.owe_dump]

@[simp] theorem State.chargeGroups_dump (s : State) (m : Nat) : (s.chargeGroups m).dump = s.dump := by
  unfold State.chargeGroups
  dsimp only
  refine (foldl_dump _ (fun t g => foldl_dump _ (fun u i => ?_) _ t) _ _).trans ((foldl_dump _ (fun t p => ?_) _ _).trans rfl)
  · rw [State.oweWrite_dump, State.oweRead_dump]
  · rw [State.owe_dump, State.owe_dump]

@[simp] theorem State.oweAside_dump (s : State) (m l : Nat) (use : SlotUse) : (s.oweAside m l use).dump = s.dump := by
  unfold State.oweAside
  exact State.oweWrite_dump _ _ _ _

/-! Lines and ways (R260, R266-R273). -/

@[simp] theorem State.putLine_dump (s : State) (x : Line) : (s.putLine x).dump = s.dump := by
  unfold State.putLine
  split <;> rfl

@[simp] theorem State.forget_dump (s : State) (l : Nat) : (s.forget l).dump = s.dump := by
  unfold State.forget
  split <;> rfl

@[simp] theorem State.settleWays_dump (s : State) : s.settleWays.dump = s.dump := rfl

@[simp] theorem State.touchWay_dump (s : State) (set w : Nat) : (s.touchWay set w).dump = s.dump := rfl

@[simp] theorem State.settleCap_dump (s : State) : s.settleCap.dump = s.dump := rfl

@[simp] theorem State.setAround_dump (s : State) (hs : List Around) : (s.setAround hs).dump = s.dump := rfl

@[simp] theorem State.storeSector_dump (s : State) (m b l k : Nat) (data : List Byte) :
    (s.storeSector m b l k data).dump = s.dump := by
  unfold State.storeSector
  split
  · rfl
  · rw [State.chargeGroups_dump, State.writeSector_dump]

@[simp] theorem State.cleanSector_dump (s : State) (m : Nat) (x : Line) (k : Nat) : (s.cleanSector m x k).dump = s.dump := by
  unfold State.cleanSector
  dsimp only
  split <;> simp

@[simp] theorem State.startWbs_dump (s : State) (m : Nat) (x : Line) : (s.startWbs m x).dump = s.dump := by
  unfold State.startWbs
  dsimp only
  split
  · rfl
  · split
    · exact foldl_dump _ (fun t k => t.cleanSector_dump m x k) _ s
    · split
      · exact State.oweAside_dump _ _ _ _
      · rfl

@[simp] theorem State.yieldWay_dump (s : State) (m set w : Nat) : (s.yieldWay m set w).dump = s.dump := by
  unfold State.yieldWay
  split
  · rfl
  · split <;> simp

@[simp] theorem State.allocate_dump (s : State) (m b l : Nat) : (s.allocate m b l).1.dump = s.dump := by
  unfold State.allocate
  dsimp only
  split
  · rfl
  · simp only [State.touchWay_dump, apply_ite State.dump, State.count_dump, State.yieldWay_dump, ite_self, State.settleCap_dump]

@[simp] theorem State.enterWay_dump (s : State) (m w : Nat) (x : Line) : (s.enterWay m w x).dump = s.dump := by
  unfold State.enterWay
  dsimp only
  split <;> rfl

@[simp] theorem State.decideMark_dump (s : State) (b l : Nat) : (s.decideMark b l).dump = s.dump := by
  unfold State.decideMark
  split
  · rfl
  · dsimp only
    split
    · rfl
    · split
      · rfl
      · exact State.putLine_dump _ _

@[simp] theorem State.touchLine_dump (s : State) (b l : Nat) : (s.touchLine b l).dump = s.dump := by
  unfold State.touchLine
  split
  · rfl
  · exact State.decideMark_dump _ _ _

@[simp] theorem State.writeAround_dump (s : State) (m b l : Nat) (secs : List (Nat × List Byte)) (paid : Bool) :
    (s.writeAround m b l secs paid).dump = s.dump := by
  unfold State.writeAround
  split
  · exact foldl_dump (fun (t : State) (d : Nat × List Byte) => t.storeSector m b l d.1 d.2)
      (fun (t : State) (d : Nat × List Byte) => t.storeSector_dump m b l d.1 d.2) _ s
  · exact State.oweAside_dump _ _ _ _

@[simp] theorem State.admitLine_dump (s : State) (m : Nat) (x : Line) : (s.admitLine m x).dump = s.dump := by
  unfold State.admitLine
  split
  · next h => exact (State.enterWay_dump _ _ _ _).trans (dump_of_pair (s.allocate_dump _ _ _) h)
  · next t h =>
    have ht : t.dump = s.dump := dump_of_pair (s.allocate_dump _ _ _) h
    split
    · exact (State.writeAround_dump _ _ _ _ _ _).trans ht
    · exact ht

@[simp] theorem State.install_dump (s : State) (m b l : Nat) (secs : List (Nat × List Byte)) (dirty : Bool) :
    (s.install m b l secs dirty).dump = s.dump := by
  unfold State.install
  split
  · rfl
  · dsimp only
    split
    · exact State.putLine_dump _ _
    · exact State.admitLine_dump _ _ _

/-! A write to the system bolt (R143, R265). -/

@[simp] theorem State.installFill_dump (s : State) (m b l : Nat) (gs : List SecGot) : (s.installFill m b l gs).dump = s.dump := by
  unfold State.installFill State.countFill
  dsimp only
  split <;> simp

@[simp] theorem State.countWrite_dump (s : State) (b : Nat) (hit : Bool) : (s.countWrite b hit).dump = s.dump := by
  unfold State.countWrite
  simp only [apply_ite State.dump, State.bump_dump, State.count_dump, ite_self]

theorem State.readGranule_sys_dump (s : State) (l : Nat) (need : Nat → Bool) (noise : ReadNoise) :
    (s.readGranule 0 l need noise).1.dump = s.dump := by
  unfold State.readGranule
  refine (foldl_pair_dump _ (fun p k => ?_) _ _).trans rfl
  obtain ⟨t, out⟩ := p
  dsimp only
  split
  · next h => exact dump_of_pair (t.bareRead_dump _ _ _) h
  · next h => exact dump_of_pair (t.bareRead_dump _ _ _) h

theorem State.fillNow_sys_dump (s : State) (m l : Nat) (need : Nat → Bool) : (s.fillNow m 0 l need).1.dump = s.dump := by
  unfold State.fillNow
  dsimp only
  rw [State.chargeGroups_dump, State.readGranule_sys_dump]
  simp only [apply_ite State.dump, State.count_dump, State.oweRead_dump, ite_self]

theorem State.acceptWrite_sys_dump (s : State) (m l : Nat) (secs : List (Nat × List Byte)) (paid : Bool) :
    (s.acceptWrite m 0 l secs paid).dump = s.dump := by
  unfold State.acceptWrite State.mirror State.renewGot State.overHeld
  dsimp only
  split
  · rfl
  · simp only [if_true, apply_ite State.dump, State.writeAround_dump, State.touchLine_dump, State.install_dump,
      State.setAround_dump, ite_self]

/-- The system bolt is never in the zero state and has no lookup: what a line lacks is filled, and the new sectors are accepted. -/
theorem State.writeLine_sys_dump (s : State) (m l o : Nat) (d : List Byte) : (s.writeLine m 0 l o d).1.dump = s.dump := by
  have hready : s.readyToWrite 0 l = (s, 0) := rfl
  unfold State.writeLine
  split
  · rfl
  · rw [hready]
    dsimp only
    rw [if_neg (not_not_intro rfl)]
    have hfetched (t v : State) (gs gs' : List SecGot) (p q : Prop) [Decidable p] [Decidable q] (u : State × List SecGot)
        (ht : t.dump = s.dump) (hv : v.dump = s.dump) (hq : ¬ q) :
        (if p then (t, gs) else if q then u else (v, gs')).1.dump = s.dump := by
      rw [if_neg hq]
      split <;> assumption
    have hcounted (p : Bool) (hit : Bool) (t : State) :
        (if (p || decide ((0 : Nat) = 0)) = true then s.countWrite 0 hit else t).dump = s.dump := by
      rw [if_pos (by simp), State.countWrite_dump]
    have hfilled (t : State) (need : Nat → Bool) (ht : t.dump = s.dump) :
        ((t.fillNow m 0 l need).1.installFill m 0 l (t.fillNow m 0 l need).2).dump = s.dump := by
      rw [State.installFill_dump, State.fillNow_sys_dump, ht]
    split <;>
      exact (State.acceptWrite_sys_dump _ _ _ _ _).trans
        (hfetched _ _ _ _ _ _ _ (hcounted _ _ _) (hfilled _ _ (hcounted _ _ _)) (by simp))

theorem State.writeRuns_sys_dump (s : State) (m : Nat) (runs : List (Nat × Nat × Nat)) (d : List Byte) (done : Nat) :
    (s.writeRuns m 0 runs d done).1.dump = s.dump := by
  induction runs generalizing s d done with
  | nil => rfl
  | cons r runs ih =>
    obtain ⟨l, o, n⟩ := r
    unfold State.writeRuns
    split
    next t st k h =>
    have ht : t.dump = s.dump := dump_of_pair (s.writeLine_sys_dump m l o _) h
    split
    · exact (ih t _ _).trans ht
    · exact ht

/-- A write of a master to the system bolt leaves the dumper as it was, whatever else it moves. -/
theorem State.writeRange_sys_dump (s : State) (m off : Nat) (d : List Byte) : (s.writeRange m 0 off d).1.dump = s.dump := by
  unfold State.writeRange
  split
  · exact s.countMaster_dump
  · exact s.writeRuns_sys_dump _ _ _ _

end Sys2Proof.Machine
end

section
/-! The counter dumper: its latches, its records and its ring (12 R307-R311). -/

namespace Sys2Proof.Machine

/-! A latch (R307). -/

section
variable {s : State}

theorem State.dumpLatch_off (h : s.on R.PMC.CTRL.DUMP_EN = false) : s.dumpLatch = s := by
  unfold State.dumpLatch
  exact if_pos (by simp [h])

theorem State.dumpLatch_skips (h : s.on R.PMC.CTRL.DUMP_EN = true) (hs : s.running = false ∨ s.dump.busy = true) :
    s.dumpLatch = s.dumpSkip := by
  unfold State.dumpLatch
  exact (if_neg (not_not_intro h)).trans (if_pos (hs.imp_left (by simp)))

theorem State.dumpLatch_takes (h : s.on R.PMC.CTRL.DUMP_EN = true) (hr : s.running = true) (hb : s.dump.busy = false) :
    s.dumpLatch = s.dumpTake := by
  unfold State.dumpLatch
  exact (if_neg (not_not_intro h)).trans (if_neg (by simp [hr, hb]))

/-- A skipped latch is counted, for the next record and in SKIPPED. -/
theorem State.dumpSkip_counts (s : State) : s.dumpSkip.dump.skips = s.dump.skips + 1 ∧ s.dumpSkip.mem = s.mem ∧
    s.dumpSkip.dump.cnt = s.dump.cnt ∧
    s.dumpSkip.rd R.PMC.DUMP.SKIPPED = min (s.rd R.PMC.DUMP.SKIPPED + 1) R.PMC.DUMP.SKIPPED.max := by
  refine ⟨by simp [State.dumpSkip], by simp [State.dumpSkip], by simp [State.dumpSkip], ?_⟩
  rw [State.dumpSkip, State.rd_bump_same, State.count_rd]
  rfl

end

/-! A record (R308-R310). -/

theorem State.dumpWrite_dump (s : State) (off : Nat) (d : List Byte) : (s.dumpWrite off d).dump = s.dump :=
  s.writeRange_sys_dump _ _ _

/-- The first write of a record keeps its sequence number. -/
theorem State.dumpOpen_seq (s : State) : s.dumpOpen.dump.seq = s.dump.seq := by
  unfold State.dumpOpen
  split
  · rfl
  · rw [State.dumpWrite_dump]

/-- The record is complete: its sequence number is shown, and the dumper is free. -/
def State.closeRecord (s : State) (q : Nat) : State :=
  let t := ((s.wr R.PMC.DUMP.SEQ q).wr R.PMC.DUMP.SLOT (slotOfSeq (q + 1))).wr R.PMC.DUMP.BUSY 0
  let t : State := { t with dump := { t.dump with busy := false, seq := q } }
  (t.wr R.PMC.DUMP_TICK.TICK t.dump.tick).count 4

/-- The record's bytes go out, SEQ and SEQ_END last. -/
def State.sendRecord (s : State) : State :=
  let base := dumpSlot (slotOfSeq s.dumpSeq)
  ((s.dumpWrite (base + 8) s.dump.body).dumpWrite base (leBytes 8 s.dumpSeq)).dumpWrite (base + 8184) (leBytes 8 s.dumpSeq)

theorem State.dumpFinish_form (s : State) : s.dumpFinish =
    (if s.dump.opened then s else s.dumpOpen).sendRecord.closeRecord (if s.dump.opened then s else s.dumpOpen).dumpSeq := by
  unfold State.dumpFinish State.closeRecord State.sendRecord
  rfl

theorem State.closeRecord_shows (s : State) (q : Nat) : (s.closeRecord q).dump.busy = false ∧
    (s.closeRecord q).rd R.PMC.DUMP.BUSY = 0 ∧ (s.closeRecord q).dump.seq = q ∧
    (s.closeRecord q).rd R.PMC.DUMP.SEQ = q % 2 ^ 32 := by
  have hset (t : State) (d : Dump) (g : Fld) (j : Nat) : ({ t with dump := d } : State).rd g j = t.rd g j := rfl
  refine ⟨by simp [State.closeRecord], ?_, by simp [State.closeRecord], ?_⟩
  · rw [State.closeRecord, State.count_rd, State.rd_wr_field _ _ _ _ _ _ (by decide), hset, State.rd_wr_same]
    rfl
  · rw [State.closeRecord, State.count_rd, State.rd_wr_field _ _ _ _ _ _ (by decide), hset,
      State.rd_wr_field _ _ _ _ _ _ (by decide), State.rd_wr_field _ _ _ _ _ _ (by decide), State.rd_wr_same]
    rfl

theorem State.dumpFinish_shows (s : State) : s.dumpFinish.dump.busy = false ∧ s.dumpFinish.rd R.PMC.DUMP.BUSY = 0 ∧
    s.dumpFinish.dump.seq = s.dump.seq + 1 ∧ s.dumpFinish.rd R.PMC.DUMP.SEQ = (s.dump.seq + 1) % 2 ^ 32 := by
  have hseq : (if s.dump.opened then s else s.dumpOpen).dumpSeq = s.dump.seq + 1 := by
    split
    · rfl
    · exact congrArg (· + 1) s.dumpOpen_seq
  rw [s.dumpFinish_form, hseq]
  exact State.closeRecord_shows _ _

theorem execDumpRecordDone_form (s : State) : exec .dumpRecordDone s =
    live s (if s.dump.busy = true ∧ s.mode ≠ modeHold ∧ ¬ s.dumpWaits true = true then s.dumpFinish else s) := rfl

theorem leBytes_length (n v : Nat) : (leBytes n v).length = n := by
  induction n generalizing v with
  | zero => rfl
  | succ n ih => rw [leBytes, List.length_cons, ih]

/-- Words of four bytes each, one after another. -/
theorem flatMap_words_length (w : Nat → Nat) (l : List Nat) : (l.flatMap fun n => leBytes 4 (w n)).length = l.length * 4 := by
  induction l with
  | nil => rfl
  | cons n l ih => rw [List.flatMap_cons, List.length_append, leBytes_length, ih, List.length_cons, Nat.succ_mul, Nat.add_comm]

/-- A record's body is the slot but for SEQ and SEQ_END (R309). -/
theorem Dump.body_length (d : Dump) : d.body.length = 8176 := by
  unfold Dump.body
  simp only [List.length_append, List.length_map, List.length_range, List.length_replicate, leBytes_length,
    flatMap_words_length]

/-- The ring is the last 16 MiB of the system bolt (R308). -/
theorem dumpSlot_inside (q : Nat) :
    0xFFFF000000 ≤ dumpSlot (slotOfSeq q) ∧ dumpSlot (slotOfSeq q) + 8192 ≤ 2 ^ 40 := by
  have hslot : slotOfSeq q < 2048 := Nat.mod_lt _ (by decide)
  unfold dumpSlot
  omega

/-- Settles O42: the latch by its three cases, and the record by the sequence number that its writes keep. -/
theorem dumpCommands : Obligations.DumpCommands := by
  intro s ha
  refine ⟨fun h => effect_of_live_eq ha rfl (State.dumpLatch_off h),
    fun h hs => ⟨_, effect_of_live_eq ha rfl (State.dumpLatch_skips h hs), s.dumpSkip_counts⟩,
    fun h hr hb => effect_of_live_eq ha rfl (State.dumpLatch_takes h hr hb), fun h => ?rests,
    fun hb hm hw => ⟨_, effect_of_guard ha (execDumpRecordDone_form s) ⟨hb, hm, by simp [hw]⟩, s.dumpFinish_shows⟩,
    Dump.body_length, dumpSlot_inside⟩
  refine effect_of_no_guard ha (execDumpRecordDone_form s) fun ⟨hb, hm, hw⟩ => ?_
  rcases h with h | h | h
  · exact Bool.false_ne_true (h.symm.trans hb)
  · exact hm h
  · exact hw h

end Sys2Proof.Machine
end
